-- ==== Sys2Proof/Word.lean ====
section
/-! DEFINITION. The word types of the part's frames, masks and records (spec/11, R195). -/

namespace Sys2Proof

/-- One byte of a request frame, an answer frame or a tag record. -/
abbrev Byte := BitVec 8

/-- A two-byte number of a frame. -/
abbrev Half := BitVec 16

/-- A four-byte number of a frame. -/
abbrev Quad := BitVec 32

/-- The eight bytes of a cartridge tag record (R158): byte `i` is bits `8 i + 7 .. 8 i`. -/
abbrev TagRecord := BitVec 64

/-- One bit for each of the 64 station inputs (R172): bit `n` is input `n`. -/
abbrev Inputs := BitVec 64

end Sys2Proof
end

