-- ==== Sys2Proof/Config.lean ====
section
/-! DEFINITION. What the manual fixes as limits, and the values it leaves open. -/

namespace Sys2Proof.Config

/-- The greatest film coordinate (00, Film coordinate; R1). -/
def maxCoord : Nat := 16777215

/-- The capacity of the index table (R9). -/
def maxFrames : Nat := 16384

/-- The capacity of the focus zone table (R100). -/
def maxZones : Nat := 32

/-- The capacity of the checkpoint list (R165). -/
def maxCheckpoints : Nat := 96

/-- The number of retrieval slots (R117). -/
def slotCount : Nat := 16

/-- The most slots one link may hold (R119). -/
def linkSlots : Nat := 12

/-- The greatest focus step (00, Conventions; R96). -/
def maxStep : Nat := 4095

/-- The homing step limit (R97). -/
def homingLimit : Nat := 4200

/-- The tension timer, in milliseconds (R77, R91). -/
def tensionTime : Nat := 500

/-- How many internal consequences of one command are worked through before it ends (log 4). -/
def cascadeFuel : Nat := 200000

/-- FREE VALUE (log 3): how long a hold timer has run, which no command of the table carries.
Applied to the model's counter of free values; `QUERY` reports the time left (R134). -/
opaque holdElapsed : Nat → Nat

/-- The fields whose absence R195 gives no code for, and the value bytes that a target leaves unused (log 21). -/
inductive AbsentField where
  | passMode | passOutcome | passClass | yieldCount | segmentCount | flagReason
  | slotResult | holdRemaining | sweepResult | quality | storeOutcome | position (byte : Fin 3)
  | markLength (byte : Fin 2) | targetValue (byte : Fin 4)
  deriving DecidableEq, Repr

/-- FREE VALUE (log 21): the byte written for an absent field where R195 states none. -/
opaque absentCode : AbsentField → Byte

end Sys2Proof.Config
end

