-- ==== Sys2Proof/Syntax.lean ====
section
/-! DEFINITION. The commands of the FT-340: one constructor for each row of spec/opcode_table.json.
A request carries the link it came on and the raw parameters of its frame (11, Request codes);
an event carries what the line or the bus showed. -/

namespace Sys2Proof

/-- The two request links (10). -/
inductive Link where
  | a | b
  deriving DecidableEq, Repr

/-- The two directions of film motion (00, Film coordinate). -/
inductive Direction where
  | forward | reverse
  deriving DecidableEq, Repr

/-- The two readings of LEADER_IN (03, Homing). -/
inductive LeaderLevel where
  | leader | film
  deriving DecidableEq, Repr

/-- A target as its seven bytes give it (11): the kind byte and three two-byte numbers. -/
structure RawTarget where
  kind : Byte
  v0 : Half
  v1 : Half
  v2 : Half
  deriving DecidableEq, Repr

/-- An import description as its seven bytes give it (11). -/
structure ImportDesc where
  position : BitVec 24
  cls : Byte
  lengthPresent : Byte
  length : Half
  deriving DecidableEq, Repr

/-- The commands. -/
inductive Instr where
  /-- RESET_IN, with the levels of LEADER_IN and FOC_HOME at that moment (R193). -/
  | deviceReset (leaderIn : LeaderLevel) (focHome : Bool)
  /-- A transfer whose frame is not whole (R183). -/
  | malformedFrame (link : Link)
  /-- A whole frame whose code names no request (R184). -/
  | unknownRequestCode (link : Link) (code : Byte)
  | nop (link : Link)
  | status (link : Link)
  | setParameter (link : Link) (code : Byte) (value : Half)
  | setProfileField (link : Link) (field : Byte) (value : Quad)
  | setDefaultProfileField (link : Link) (field : Byte) (value : Quad)
  | load (link : Link)
  | unload (link : Link)
  | standby (link : Link) (count : Half)
  | wake (link : Link)
  | clearFault (link : Link)
  | readSensors (link : Link)
  | linkReset (link : Link)
  | indexWindow (link : Link) (first last : Half) (order : Byte)
  | indexRead (link : Link) (count : Byte)
  | indexWrite (link : Link) (count : Byte) (d1 d2 d3 d4 : ImportDesc)
  | indexClear (link : Link)
  | resolve (link : Link) (target : RawTarget)
  | retrieve (link : Link) (tag : Byte) (target : RawTarget) (action priority hold : Byte)
  | release (link : Link) (tag : Byte)
  | cancel (link : Link) (tag : Byte)
  | query (link : Link) (tag : Byte)
  | collect (link : Link) (selector tag : Byte)
  | passSegment (link : Link) (place : Byte) (first last : Half) (action policy : Byte)
      (interval : Half) (halfWidth stepSize stopMask : Byte)
  | passStart (link : Link) (count mode yieldInterval : Byte)
  | passSuspend (link : Link)
  | passResume (link : Link)
  | passAbort (link : Link)
  | captured (link : Link) (frame : Half) (result : Byte)
  | passReport (link : Link) (segment : Byte)
  | focusSweep (link : Link) (frame : Half) (centreKind : Byte) (centre : Half)
      (halfWidth stepSize store : Byte)
  | score (link : Link) (sweepId point : Byte) (score : Half)
  | zoneSet (link : Link) (start step : Half)
  | zoneRemove (link : Link) (start : Half)
  | zoneRead (link : Link) (ordinal : Byte)
  | readFlags (link : Link)
  | clearFlags (link : Link) (flags : Half)
  /-- SET MASK naming the flag mask (name 00h), or a name that names nothing (R187, log 24). -/
  | setFlagMask (link : Link) (name : Byte) (bits : Half)
  /-- SET MASK naming the input mask (R177). -/
  | setInputMask (link : Link) (byte : Byte) (bits : Byte)
  | setClearMode (link : Link) (mode : Byte)
  | suppress (link : Link)
  | encoderCount (direction : Direction)
  | markLeadingEdge
  | markTrailingEdge
  | spliceIn
  /-- LEADER_IN takes this level (R66, R67, R85). -/
  | leaderInChange (level : LeaderLevel)
  | trailerIn
  | filmAtRest
  | stallTimerExpiry
  | backOffComplete
  | leaderLostCount
  | settleExpiry
  | gatePulseEnd
  | threadTimerExpiry
  | warmTimerExpiry
  | idleTimerExpiry
  | wakeCountTick
  | wakeCountExpiry
  | tensionTimerExpiry
  | holdTimerExpiry
  | captureTimerExpiry
  | scoreTimerExpiry
  /-- One stepper step, with the level of FOC_HOME after it (R97, R98). -/
  | focusStep (focHome : Bool)
  | homingStepLimit
  /-- The end of a poll byte read: whether the expander acknowledged, and the byte (R174). -/
  | pollByteRead (acknowledged : Bool) (value : Byte)
  /-- The end of a tag record read: whether the tag acknowledged, and the record (R161, R162). -/
  | tagRecordRead (acknowledged : Bool) (record : TagRecord)
  /-- The end of a tag record write: whether the tag acknowledged (R170, R171). -/
  | tagRecordWrite (acknowledged : Bool)
  | busTimerExpiry
  /-- The end of one recovery attempt, with the data line found high or low (R181). -/
  | recoveryAttemptEnd (high : Bool)
  deriving DecidableEq, Repr

end Sys2Proof
end

