-- ==== Sys2Proof/Machine/Codes.lean ====
section
/-! DEFINITION. The request code table of 11 (Request codes): each code and its parameter length. -/

namespace Sys2Proof.Machine

/-- The request codes and parameter lengths `n` (11, Request codes). -/
def requestTable : List (Byte × Nat) :=
  [(0x00#8, 0), (0x01#8, 0), (0x02#8, 3), (0x03#8, 5), (0x04#8, 5), (0x05#8, 0), (0x06#8, 0),
   (0x07#8, 2), (0x08#8, 0), (0x09#8, 0), (0x0A#8, 0), (0x0B#8, 0)] ++
  [(0x10#8, 5), (0x11#8, 1), (0x12#8, 29), (0x13#8, 0), (0x14#8, 7)] ++
  [(0x20#8, 11), (0x21#8, 1), (0x22#8, 1), (0x23#8, 1), (0x24#8, 2)] ++
  [(0x30#8, 12), (0x31#8, 3), (0x32#8, 0), (0x33#8, 0), (0x34#8, 0), (0x35#8, 3), (0x36#8, 1)] ++
  [(0x40#8, 8), (0x41#8, 4), (0x42#8, 4), (0x43#8, 2), (0x44#8, 1)] ++
  [(0x50#8, 0), (0x51#8, 2), (0x52#8, 3), (0x53#8, 1), (0x54#8, 0)]

/-- The parameter length the table gives for a code; none where the code names no request (R184). -/
def requestLength (code : Byte) : Option Nat :=
  (requestTable.find? (fun row => row.1 == code)).map (·.2)

end Sys2Proof.Machine
end

