-- ==== Sys2Proof/WellFormed.lean ====
section
/-! DEFINITION. Which commands can stand on the wire as they are written: every operand already has the
width its frame gives it, so two checks are left. -/

namespace Sys2Proof

/-- A command is well formed when it is what its bytes would be read as: an unknown code names no
request (R184), and a SET MASK that names the input mask is the input mask's command (R187, R177). -/
def WellFormed : Instr → Bool
  | .unknownRequestCode _ code => (Machine.requestLength code).isNone
  | .setFlagMask _ name _ => name != 0x01#8
  | _ => true

end Sys2Proof
end

