-- ==== Sys2Proof/Decode.lean ====
section
/-! DEFINITION. The command a word of the table spells (no row gives bits), and the request a frame on a link is taken as
(R183, R184, R194, R195), with the frame a request is sent as. -/

namespace Sys2Proof

/-- No row of the opcode table gives bits, so no word spells a command (log 35). -/
def decodeTableWord (_nbits _w : Nat) : Option Instr := none

/-! ### Request frames -/

/-- Byte `i` of a frame's parameters. -/
def paramByte (ps : List Byte) (i : Nat) : Byte := ps.getD i 0#8

/-- Two bytes from place `i` on, least significant first (R195). -/
def paramHalf (ps : List Byte) (i : Nat) : Half := paramByte ps (i + 1) ++ paramByte ps i

/-- Three bytes from place `i` on. -/
def paramTriple (ps : List Byte) (i : Nat) : BitVec 24 :=
  paramByte ps (i + 2) ++ paramByte ps (i + 1) ++ paramByte ps i

/-- Four bytes from place `i` on. -/
def paramQuad (ps : List Byte) (i : Nat) : Quad :=
  paramByte ps (i + 3) ++ paramByte ps (i + 2) ++ paramByte ps (i + 1) ++ paramByte ps i

/-- The seven bytes of a target from place `i` on (11, Request codes). -/
def paramTarget (ps : List Byte) (i : Nat) : RawTarget :=
  { kind := paramByte ps i, v0 := paramHalf ps (i + 1), v1 := paramHalf ps (i + 3),
    v2 := paramHalf ps (i + 5) }

/-- The seven bytes of an import description from place `i` on (11, Request codes). -/
def paramImport (ps : List Byte) (i : Nat) : ImportDesc :=
  { position := paramTriple ps i, cls := paramByte ps (i + 3), lengthPresent := paramByte ps (i + 4),
    length := paramHalf ps (i + 5) }

/-- The request of a code and its parameters (11, Request codes); an unknown code names no request (R184). -/
def requestOf (l : Link) (code : Byte) (ps : List Byte) : Instr :=
  let b := paramByte ps
  let h := paramHalf ps
  if code = 0x00#8 then .nop l
  else if code = 0x01#8 then .status l
  else if code = 0x02#8 then .setParameter l (b 0) (h 1)
  else if code = 0x03#8 then .setProfileField l (b 0) (paramQuad ps 1)
  else if code = 0x04#8 then .setDefaultProfileField l (b 0) (paramQuad ps 1)
  else if code = 0x05#8 then .load l
  else if code = 0x06#8 then .unload l
  else if code = 0x07#8 then .standby l (h 0)
  else if code = 0x08#8 then .wake l
  else if code = 0x09#8 then .clearFault l
  else if code = 0x0A#8 then .readSensors l
  else if code = 0x0B#8 then .linkReset l
  else if code = 0x10#8 then .indexWindow l (h 0) (h 2) (b 4)
  else if code = 0x11#8 then .indexRead l (b 0)
  else if code = 0x12#8 then
    .indexWrite l (b 0) (paramImport ps 1) (paramImport ps 8) (paramImport ps 15) (paramImport ps 22)
  else if code = 0x13#8 then .indexClear l
  else if code = 0x14#8 then .resolve l (paramTarget ps 0)
  else if code = 0x20#8 then .retrieve l (b 0) (paramTarget ps 1) (b 8) (b 9) (b 10)
  else if code = 0x21#8 then .release l (b 0)
  else if code = 0x22#8 then .cancel l (b 0)
  else if code = 0x23#8 then .query l (b 0)
  else if code = 0x24#8 then .collect l (b 0) (b 1)
  else if code = 0x30#8 then
    .passSegment l (b 0) (h 1) (h 3) (b 5) (b 6) (h 7) (b 9) (b 10) (b 11)
  else if code = 0x31#8 then .passStart l (b 0) (b 1) (b 2)
  else if code = 0x32#8 then .passSuspend l
  else if code = 0x33#8 then .passResume l
  else if code = 0x34#8 then .passAbort l
  else if code = 0x35#8 then .captured l (h 0) (b 2)
  else if code = 0x36#8 then .passReport l (b 0)
  else if code = 0x40#8 then .focusSweep l (h 0) (b 2) (h 3) (b 5) (b 6) (b 7)
  else if code = 0x41#8 then .score l (b 0) (b 1) (h 2)
  else if code = 0x42#8 then .zoneSet l (h 0) (h 2)
  else if code = 0x43#8 then .zoneRemove l (h 0)
  else if code = 0x44#8 then .zoneRead l (b 0)
  else if code = 0x50#8 then .readFlags l
  else if code = 0x51#8 then .clearFlags l (h 0)
  else if code = 0x52#8 then
    (if b 0 = 0x01#8 then .setInputMask l (b 1) (b 2) else .setFlagMask l (b 0) (h 1))
  else if code = 0x53#8 then .setClearMode l (b 0)
  else if code = 0x54#8 then .suppress l
  else .unknownRequestCode l code

/-- The sum of bytes modulo 256. -/
def sumBytes : List Byte → Byte
  | [] => 0#8
  | b :: bs => b + sumBytes bs

/-- The check byte that makes a frame's byte sum zero (Request and answer frames). -/
def frameCheck (bytes : List Byte) : Byte := 0#8 - sumBytes bytes

/-- The command a transfer on a link ends with, from the bytes shifted in (R183, R184, R194): bytes after the
check byte that the parameter length places are fill. -/
def decodeFrame (l : Link) (bytes : List Byte) : Instr :=
  match bytes with
  | code :: n :: rest =>
    let frame := (code :: n :: rest).take (n.toNat + 3)
    if (code :: n :: rest).length < n.toNat + 3 ∨ sumBytes frame ≠ 0#8 then .malformedFrame l
    else match Machine.requestLength code with
      | some m => if n.toNat = m then requestOf l code (rest.take n.toNat) else .malformedFrame l
      | none => .unknownRequestCode l code
  | _ => .malformedFrame l

/-! ### The frame of a request -/

/-- Two bytes, least significant first. -/
def halfBytes (x : Half) : List Byte := [x.extractLsb' 0 8, x.extractLsb' 8 8]

/-- Three bytes, least significant first. -/
def tripleBytes (x : BitVec 24) : List Byte :=
  [x.extractLsb' 0 8, x.extractLsb' 8 8, x.extractLsb' 16 8]

/-- Four bytes, least significant first. -/
def quadBytes (x : Quad) : List Byte :=
  [x.extractLsb' 0 8, x.extractLsb' 8 8, x.extractLsb' 16 8, x.extractLsb' 24 8]

/-- The seven bytes of a target. -/
def targetBytes (t : RawTarget) : List Byte :=
  [t.kind] ++ halfBytes t.v0 ++ halfBytes t.v1 ++ halfBytes t.v2

/-- The seven bytes of an import description. -/
def importBytes (d : ImportDesc) : List Byte :=
  tripleBytes d.position ++ [d.cls, d.lengthPresent] ++ halfBytes d.length

/-- The link, code and parameters of a request; none for a command that is no whole request frame. -/
def requestParts : Instr → Option (Link × Byte × List Byte)
  | .unknownRequestCode l c => some (l, c, [])
  | .nop l => some (l, 0x00#8, [])
  | .status l => some (l, 0x01#8, [])
  | .setParameter l c v => some (l, 0x02#8, [c] ++ halfBytes v)
  | .setProfileField l c v => some (l, 0x03#8, [c] ++ quadBytes v)
  | .setDefaultProfileField l c v => some (l, 0x04#8, [c] ++ quadBytes v)
  | .load l => some (l, 0x05#8, [])
  | .unload l => some (l, 0x06#8, [])
  | .standby l n => some (l, 0x07#8, halfBytes n)
  | .wake l => some (l, 0x08#8, [])
  | .clearFault l => some (l, 0x09#8, [])
  | .readSensors l => some (l, 0x0A#8, [])
  | .linkReset l => some (l, 0x0B#8, [])
  | .indexWindow l a b o => some (l, 0x10#8, halfBytes a ++ halfBytes b ++ [o])
  | .indexRead l n => some (l, 0x11#8, [n])
  | .indexWrite l n d1 d2 d3 d4 =>
    some (l, 0x12#8, [n] ++ importBytes d1 ++ importBytes d2 ++ importBytes d3 ++ importBytes d4)
  | .indexClear l => some (l, 0x13#8, [])
  | .resolve l t => some (l, 0x14#8, targetBytes t)
  | .retrieve l g t a p h => some (l, 0x20#8, [g] ++ targetBytes t ++ [a, p, h])
  | .release l g => some (l, 0x21#8, [g])
  | .cancel l g => some (l, 0x22#8, [g])
  | .query l g => some (l, 0x23#8, [g])
  | .collect l x g => some (l, 0x24#8, [x, g])
  | .passSegment l q a b x p n h z m =>
    some (l, 0x30#8, [q] ++ halfBytes a ++ halfBytes b ++ [x, p] ++ halfBytes n ++ [h, z, m])
  | .passStart l n m y => some (l, 0x31#8, [n, m, y])
  | .passSuspend l => some (l, 0x32#8, [])
  | .passResume l => some (l, 0x33#8, [])
  | .passAbort l => some (l, 0x34#8, [])
  | .captured l k r => some (l, 0x35#8, halfBytes k ++ [r])
  | .passReport l n => some (l, 0x36#8, [n])
  | .focusSweep l k c x h z t =>
    some (l, 0x40#8, halfBytes k ++ [c] ++ halfBytes x ++ [h, z, t])
  | .score l n p v => some (l, 0x41#8, [n, p] ++ halfBytes v)
  | .zoneSet l a b => some (l, 0x42#8, halfBytes a ++ halfBytes b)
  | .zoneRemove l a => some (l, 0x43#8, halfBytes a)
  | .zoneRead l n => some (l, 0x44#8, [n])
  | .readFlags l => some (l, 0x50#8, [])
  | .clearFlags l x => some (l, 0x51#8, halfBytes x)
  | .setFlagMask l n x => some (l, 0x52#8, [n] ++ halfBytes x)
  | .setInputMask l n x => some (l, 0x52#8, [0x01#8, n, x])
  | .setClearMode l m => some (l, 0x53#8, [m])
  | .suppress l => some (l, 0x54#8, [])
  | _ => none

/-- A frame of a code and its parameters (Request and answer frames). -/
def frameOf (code : Byte) (ps : List Byte) : List Byte :=
  let body := code :: BitVec.ofNat 8 ps.length :: ps
  body ++ [frameCheck body]

/-- The frame a request is sent as, and the link it is sent on; none for a command that is no request. -/
def encodeFrame (i : Instr) : Option (Link × List Byte) :=
  match requestParts i with
  | some (l, c, ps) => some (l, frameOf c ps)
  | none => none

end Sys2Proof
end

