-- ==== Sys2Proof/Machine/Records.lean ====
section
/-! DEFINITION. The records the spec gives each block of the part, as plain data. -/

namespace Sys2Proof.Machine

open Sys2Proof

/-! ### Position Tracker (01) -/

/-- The confidence levels (R4). -/
inductive Level where
  | locked | drifting | lost
  deriving DecidableEq, Repr

/-- The position register, the direction of the last motion and the confidence (R1, R4). `inMotion` notes that a count has
been taken since the film last came to rest (R51): marks, splices and the trailer are read in motion alone (R11, R25, R30,
R68, log 49). -/
structure Tracker where
  register : Nat
  direction : Direction
  inMotion : Bool
  level : Level
  good : Nat
  miss : Nat
  deriving DecidableEq, Repr

/-! ### Mark Reader (02) -/

/-- The mark in progress and the last splice coordinate (R25, R30). -/
structure Marks where
  inProgress : Option Nat
  lastSplice : Option Nat
  deriving DecidableEq, Repr

/-! ### Frame Index (01, 02, 08) -/

/-- The classes of a mark and of an entry (R27). -/
inductive MarkClass where
  | image | document | batch
  deriving DecidableEq, Repr

/-- The sources of an entry (R7). -/
inductive Source where
  | observed | filled | imported
  deriving DecidableEq, Repr

/-- The capture states of an entry (R7, R145, R150). -/
inductive Capture where
  | none | triggered | captured | failed
  deriving DecidableEq, Repr

/-- The five flags of an entry (01, The index entry). -/
structure EntryFlags where
  splice : Bool
  gap : Bool
  strayNear : Bool
  classDoubt : Bool
  verified : Bool
  deriving DecidableEq, Repr

/-- Batch, document and page (R13). -/
structure Triple where
  batch : Nat
  document : Nat
  page : Nat
  deriving DecidableEq, Repr

/-- An index entry (01, The index entry). -/
structure Entry where
  position : Nat
  source : Source
  cls : MarkClass
  length : Option Nat
  triple : Triple
  flags : EntryFlags
  capture : Capture
  captureCount : Nat
  focusStep : Option Nat
  deriving DecidableEq, Repr

/-- The reasons of a closed index (R10). -/
inductive Closure where
  | trailer | capacity
  deriving DecidableEq, Repr

/-- The states of a checkpoint (R165). -/
inductive CheckState where
  | unverified | verified | diverged
  deriving DecidableEq, Repr

/-- A checkpoint (R165). -/
structure Checkpoint where
  frame : Nat
  position : Nat
  cls : MarkClass
  state : CheckState
  deriving DecidableEq, Repr

/-- The Frame Index (01, The index table; R30's widening). Entry of frame `k` is `entries[k - 1]`, the
extent E is the list's length, and `closure = none` is OPEN. -/
structure FrameIndex where
  entries : List Entry
  closure : Option Closure
  counters : Triple
  pitchQ : Nat
  checkpoints : List Checkpoint
  trailer : Option Nat
  widening : Bool
  deriving DecidableEq, Repr

/-! ### Transport Controller (03) -/

/-- The transport states (03, Transport states), in the order of that table. -/
inductive TState where
  | empty | threading | parked | standby | waking | moving | settling | settled | recovering
  | rewinding | faulted
  deriving DecidableEq, Repr

/-- The fault kinds (R49). -/
inductive FaultKind where
  | none | jam | door | tension | threadFail | leaderLost | cartridge | overrun
  deriving DecidableEq, Repr

/-- The speed classes (00, Speed classes). -/
inductive SpeedClass where
  | shuttle | index | creep
  deriving DecidableEq, Repr

/-- The purposes of a move (R50). -/
inductive Purpose where
  | frame | discover | home | flyRun | rewind
  deriving DecidableEq, Repr

/-- The ends of a leg (R50, R51): a coordinate, the move's target with its arrival test (R54), a travel,
a reading of LEADER_IN (R66), or no end (R61, R62). -/
inductive LegEnd where
  | coord (c : Nat)
  | target
  | travel (d : Nat)
  | leaderReads (level : LeaderLevel)
  | unbounded
  deriving DecidableEq, Repr

/-- A leg (R50). -/
structure Leg where
  direction : Direction
  cls : SpeedClass
  stop : LegEnd
  deriving DecidableEq, Repr

/-- The outcomes of a move (R50). -/
inductive MoveOutcome where
  | arrived | stopped | endOfFilm | lost
  deriving DecidableEq, Repr

/-- What the Transport Controller does when the film has come to rest (R51, R54, R59, R64, R67, R68). -/
inductive RestAction where
  | nextLeg
  | replan
  | backOff
  | retry
  | finish (outcome : MoveOutcome)
  deriving DecidableEq, Repr

/-- The phases of a move (R50). -/
inductive Phase where
  | running | stopping
  deriving DecidableEq, Repr

/-- The move record (R50). `leg` is the running leg, and while the film comes to rest the leg that ran
last (R51, R59); `plan` holds the legs still to run; `aside` those kept aside by a back-off (R64). -/
structure Move where
  purpose : Purpose
  frame : Option Nat
  target : Option Nat
  clamped : Bool
  leg : Leg
  plan : List Leg
  aside : List Leg
  finalApproach : Bool
  phase : Phase
  attempts : Nat
  travel : Nat
  runUp : Nat
  runEnd : Option Nat
  atRest : Option RestAction
  settleTaken : Bool
  focusTaken : Bool
  deriving DecidableEq, Repr

/-- The gate holder record's holder fields (R49). -/
inductive Holder where
  | retrieval (link : Link) (tag : Byte)
  | pass (link : Link)
  | sweep (link : Link) (id : Nat)
  deriving DecidableEq, Repr

/-- What the reel drives do (R84, R89, R91, R93, R94). -/
inductive Reels where
  | off | tension | relaxed | winding
  deriving DecidableEq, Repr

/-- The Transport Controller's records (R49), its timers, its drives, the GATE pulse and LEADER_IN.
A timer is `none` when stopped and holds the time it was started with when running. -/
structure Transport where
  state : TState
  fault : FaultKind
  faultInThreading : Bool
  move : Option Move
  holder : Option Holder
  gateFrame : Option Nat
  stallTimer : Option Nat
  settleTimer : Option Nat
  gateReady : Bool
  capstan : Option Direction
  reels : Reels
  pulse : Option Nat
  leaderIn : LeaderLevel
  deriving DecidableEq, Repr

/-! ### Lamp Control (04) -/

/-- The lamp states (R87). -/
inductive LampState where
  | off | warming | on | failed
  deriving DecidableEq, Repr

/-- Lamp Control (R87). -/
structure Lamp where
  state : LampState
  warmTimer : Option Nat
  deriving DecidableEq, Repr

/-! ### Load logic (04) -/

/-- The roll profile (R80). -/
structure Profile where
  rollId : Quad
  gauge : Nat
  leader : Nat
  pitch : Nat
  gateOffset : Nat
  minMark : Nat
  tDoc : Nat
  tBatch : Nat
  defaultStep : Nat
  deriving DecidableEq, Repr

/-- The tag load field (R77). -/
inductive TagLoad where
  | none | running | complete
  deriving DecidableEq, Repr

/-- The roll record (R77). -/
structure Roll where
  cartridge : Bool
  tagLoad : TagLoad
  threadTaken : Bool
  rewindTaken : Bool
  writeBackTaken : Bool
  active : Profile
  default : Profile
  modified : Bool
  idleTimer : Option Nat
  wakeCount : Option Nat
  threadTimer : Option Nat
  tensionTimer : Option Nat
  deriving DecidableEq, Repr

/-! ### Focus Controller (05) -/

/-- The focus status (R96). -/
inductive FocusStatus where
  | homing | ready | fault
  deriving DecidableEq, Repr

/-- The move phase of the lens (R96). -/
inductive LensPhase where
  | idle | down | up
  deriving DecidableEq, Repr

/-- The requester of a focus target (R96). -/
inductive Requester where
  | approach (frame : Nat)
  | fly
  | sweep (id point : Nat)
  | back
  deriving DecidableEq, Repr

/-- The actuator record (R96), with the homing step count (R97) and the end of the DOWN leg as planned (R98). -/
structure Focus where
  status : FocusStatus
  position : Nat
  target : Option Nat
  phase : LensPhase
  requester : Option Requester
  homingSteps : Nat
  downEnd : Nat
  deriving DecidableEq, Repr

/-- The sources of a zone (R100). -/
inductive ZoneSource where
  | tag | sweep | set
  deriving DecidableEq, Repr

/-- The quality of a zone (R100). -/
inductive Quality where
  | good | edge
  deriving DecidableEq, Repr

/-- A focus zone (R100). -/
structure Zone where
  start : Nat
  step : Nat
  source : ZoneSource
  quality : Quality
  deriving DecidableEq, Repr

/-- The states of an active sweep (R105); IDLE is the absence of a record. -/
inductive SweepState where
  | queued | travelling | movingLens | awaitingScore
  deriving DecidableEq, Repr

/-- The origins of a sweep (R105). -/
inductive SweepOrigin where
  | standAlone | pass
  deriving DecidableEq, Repr

/-- The sweep record (R105). `centre = none` is AUTO; `points` and `current` are empty and 0 until placed. -/
structure SweepRecord where
  state : SweepState
  origin : SweepOrigin
  id : Nat
  link : Link
  frame : Nat
  centre : Option Nat
  halfWidth : Nat
  stepSize : Nat
  store : Bool
  points : List Nat
  scores : List Nat
  current : Nat
  deriving DecidableEq, Repr

/-- The results of a sweep (R105). -/
inductive SweepResult where
  | fitted | atLimit | lowContrast | timeout | cancelled | focusFail | dark | endOfFilm | noFrame
  deriving DecidableEq, Repr

/-- The store outcomes (R105). -/
inductive StoreOutcome where
  | stored | notStored | notAsked
  deriving DecidableEq, Repr

/-- The last sweep result record (R105). -/
structure SweepReport where
  id : Nat
  frame : Nat
  link : Link
  result : SweepResult
  step : Option Nat
  quality : Option Quality
  store : StoreOutcome
  scores : List Nat
  timedOutPoint : Option Nat
  deriving DecidableEq, Repr

/-- The sweep side of the Focus Controller (R105). -/
structure Sweep where
  active : Option SweepRecord
  last : Option SweepReport
  counter : Nat
  scoreTimer : Option Nat
  deriving DecidableEq, Repr

/-! ### Retrieval Table and Transport Scheduler (06) -/

/-- The slot states (R117). -/
inductive SlotState where
  | free | pending | resolving | travelling | presenting | done
  deriving DecidableEq, Repr

/-- A target whose kind is known (01, Targets); `relative` holds n. -/
inductive Target where
  | frame (k : Nat)
  | address (batch document page : Nat)
  | relative (n : Int)
  deriving DecidableEq, Repr

/-- A slot's target (R117): a RELATIVE one is held as the frame it was turned into (R120). -/
inductive SlotTarget where
  | frame (k : Nat)
  | address (batch document page : Nat)
  | relativeFrame (k : Nat)
  deriving DecidableEq, Repr

/-- The outcomes of a resolution (R15). -/
inductive Resolution where
  | found (k : Nat)
  | beyond
  | absent
  deriving DecidableEq, Repr

/-- The actions of a retrieval (R117). -/
inductive SlotAction where
  | present | snap
  deriving DecidableEq, Repr

/-- The priorities of a retrieval (R117). -/
inductive Priority where
  | normal | urgent
  deriving DecidableEq, Repr

/-- The result codes of a DONE slot (06). -/
inductive ResultCode where
  | released | holdExpired | snapped | dark | notFound | cancelled | fault | unloaded
  deriving DecidableEq, Repr

/-- The result of a DONE slot (R117). -/
structure SlotResult where
  code : ResultCode
  frame : Option Nat
  position : Option Nat
  focusStep : Option Nat
  deriving DecidableEq, Repr

/-- A retrieval slot (R117). `reached` holds the entry position and lens position taken at the
gate-ready event (06, R129). The fields of a FREE slot are those of `Slot.empty`. -/
structure Slot where
  state : SlotState
  owner : Link
  tag : Byte
  target : SlotTarget
  frame : Option Nat
  action : SlotAction
  priority : Priority
  hold : Nat
  sequence : BitVec 32
  skip : Nat
  holdTimer : Option Nat
  reached : Option (Nat × Nat)
  result : Option SlotResult
  deriving DecidableEq, Repr

/-- A FREE slot; its other fields are meaningless (R117). -/
def Slot.empty : Slot :=
  { state := .free, owner := .a, tag := 0#8, target := .frame 0, frame := none, action := .present,
    priority := .normal, hold := 0, sequence := 0#32, skip := 0, holdTimer := none, reached := none,
    result := none }

/-- The grants (R118). -/
inductive Grant where
  | none | home | discover | slot (i : Nat) | sweep | pass
  deriving DecidableEq, Repr

/-- The scheduler record (R118). -/
structure Sched where
  direction : Direction
  grant : Grant
  yieldOwed : Bool
  counter : BitVec 32
  deriving DecidableEq, Repr

/-! ### Pass Sequencer (07) -/

/-- The actions of a segment (R137). -/
inductive SegAction where
  | all | docStarts | missing | indexOnly
  deriving DecidableEq, Repr

/-- The focus policy of a segment (R137). -/
inductive FocusPolicy where
  | table
  | sweep (interval halfWidth stepSize : Nat)
  deriving DecidableEq, Repr

/-- The fault classes of a pass, in stop-mask order (R137, R152, R195). -/
inductive FaultClass where
  | captureFail | captureTimeout | missedMark | gap | focusFail | splice
  deriving DecidableEq, Repr

/-- A segment (R137). `last = none` is END_OF_ROLL; `stopMask` has one bit per fault class (R195). -/
structure Segment where
  first : Nat
  last : Option Nat
  action : SegAction
  policy : FocusPolicy
  stopMask : BitVec 6
  deriving DecidableEq, Repr

/-- The pass states (R139). -/
inductive PassState where
  | idle | running | yielding | suspended
  deriving DecidableEq, Repr

/-- The pass modes (R139). -/
inductive PassMode where
  | step | fly
  deriving DecidableEq, Repr

/-- The pass work (R139). -/
inductive Work where
  | none | seeking | sweeping | approaching | awaitingCapture | runningFly | stopping
  deriving DecidableEq, Repr

/-- The pending request of a pass (R139). -/
inductive PendingRequest where
  | none | suspend | abort
  deriving DecidableEq, Repr

/-- The ways a pass gives the transport back at a boundary (R142, R153, R154). -/
inductive GiveUp where
  | suspend | urgentYield | periodicYield
  deriving DecidableEq, Repr

/-- What the pass does at the STOPPED outcome of the stop it asked for (R142, R143, R147, R148, R150). -/
inductive AfterStop where
  | nothing
  | giveUp (kind : GiveUp)
  | lookAgain
  | sweepAt (k : Nat)
  | goOn
  | awaitLamp
  deriving DecidableEq, Repr

/-- The states of a segment outcome record (R156). -/
inductive SegState where
  | notRun | running | done | stopped | aborted
  deriving DecidableEq, Repr

/-- The fault counts, one per class (R152). -/
structure FaultCounts where
  captureFail : Nat
  captureTimeout : Nat
  missedMark : Nat
  gap : Nat
  focusFail : Nat
  splice : Nat
  deriving DecidableEq, Repr

/-- A segment outcome record (R156). -/
structure SegOutcome where
  state : SegState
  visited : Nat
  captured : Nat
  faults : FaultCounts
  firstFault : Option Nat
  deriving DecidableEq, Repr

/-- The record of a segment that has not run (R140). -/
def SegOutcome.fresh : SegOutcome :=
  { state := .notRun, visited := 0, captured := 0,
    faults := { captureFail := 0, captureTimeout := 0, missedMark := 0, gap := 0, focusFail := 0,
                splice := 0 },
    firstFault := none }

/-- The outcomes of a pass (R156). -/
inductive PassOutcome where
  | completed
  | stopped (cls : FaultClass) (frame : Nat)
  | aborted
  | fault
  | lamp
  deriving DecidableEq, Repr

/-- The last-pass outcome (R156). -/
structure LastPass where
  outcome : PassOutcome
  owner : Link
  mode : PassMode
  yieldCount : Nat
  lastTriggered : Option Nat
  timedOut : Option Nat
  deriving DecidableEq, Repr

/-- The pass record (R139), the pass's segments, the outcome records and the last-pass outcome (R156), and
what the sequencer remembers between events: a yield asked for (R128) and one asked for in a sweep (R147), what follows a stop
(R142), the last frame judged and the frames judged selected and not yet taken (R141), the frames counted in the current segment
(R143, R148) and those whose sweep is due and not yet made (R147), and whether the frame in hand has been judged and visited
(R144). -/
structure Pass where
  state : PassState
  owner : Option Link
  modeRequested : Option PassMode
  mode : Option PassMode
  yieldInterval : Nat
  segmentCount : Option Nat
  current : Option Nat
  resume : Option Nat
  frameInHand : Option Nat
  work : Work
  pending : PendingRequest
  framesSinceYield : Nat
  yieldCount : Nat
  captureTimer : Option Nat
  timedOut : Option Nat
  lastTriggered : Option Nat
  armed : Option (Nat × Nat)
  ordinals : List Nat
  program : List Segment
  outcomes : List SegOutcome
  last : Option LastPass
  yieldAsked : Bool
  yieldLater : Bool
  after : AfterStop
  judgedUpTo : Nat
  chosen : List Nat
  counted : List Nat
  sweepOwed : List Nat
  visitedInHand : Bool
  deriving DecidableEq, Repr

/-! ### Tag Controller (08) -/

/-- The tag status (R159). -/
inductive TagStatus where
  | none | reading | valid | degraded | absent | failed
  deriving DecidableEq, Repr

/-- The stages of a tag load (R161). -/
inductive TagStage where
  | rollA | rollB | rollC | zones | checks
  deriving DecidableEq, Repr

/-- The load record (R159): `profile` gathers the ROLL records taken so far. -/
structure LoadRecord where
  next : Nat
  stage : TagStage
  profile : Profile
  zones : List Zone
  checks : List Checkpoint
  deriving DecidableEq, Repr

/-- How a tag load ended (R163). -/
inductive LoadEnd where
  | busFailed | notAcknowledged | atEnd | early
  deriving DecidableEq, Repr

/-- The write-back states (R159). -/
inductive WriteState where
  | idle | waiting | writing
  deriving DecidableEq, Repr

/-- The Tag Controller (R159). -/
structure Tag where
  status : TagStatus
  rollValid : Bool
  load : Option LoadRecord
  dirty : Bool
  writeState : WriteState
  writePlan : List (Nat × TagRecord)
  loadAfterWrite : Bool
  deriving DecidableEq, Repr

/-! ### Sensor Poller and Auxiliary Bus Controller (09) -/

/-- The Sensor Poller (R172); a set bit of `stale` is quality STALE. -/
structure Poller where
  values : Inputs
  stale : Byte
  firstRoundDone : Bool
  faults : Nat
  deriving DecidableEq, Repr

/-- The bus states (R173). -/
inductive BusState where
  | running | recovering | failed
  deriving DecidableEq, Repr

/-- The record transfers (R173). -/
inductive RecordTransfer where
  | read | write
  deriving DecidableEq, Repr

/-- The transfers on the bus (R173). -/
inductive Transfer where
  | poll
  | record (kind : RecordTransfer)
  deriving DecidableEq, Repr

/-- The Auxiliary Bus Controller (R173, R180). -/
structure Bus where
  state : BusState
  nextByte : Nat
  transfer : Option Transfer
  waiting : Option RecordTransfer
  attempts : Nat
  timer : Option Nat
  deriving DecidableEq, Repr

/-! ### Station parameters (10) -/

/-- The station parameters (R191), in the order of its table. -/
structure Params where
  stallTime : Nat
  settleTime : Nat
  arriveTol : Nat
  approachDist : Nat
  recoverDist : Nat
  recoverTries : Nat
  threadTime : Nat
  lampWarm : Nat
  standbyIdle : Nat
  captureTimeout : Nat
  scoreTimeout : Nat
  minContrast : Nat
  backlash : Nat
  agingLimit : Nat
  maxFill : Nat
  checkInterval : Nat
  auxTimeout : Nat
  gatePulse : Nat
  gatePreview : Bool
  stationGauge : Nat
  deriving DecidableEq, Repr

/-! ### Request Links (10) -/

/-- The answer codes (R184), in the order of their codes (11, Answer codes). -/
inductive AnswerCode where
  | ok | accepted | busy | full | range | state | owner | noTag | dupTag | tooLate | stale
  | mismatch | malformed | noRoll
  deriving DecidableEq, Repr

/-- The reasons of TRANSPORT (R185). -/
inductive TransportReason where
  | drift | fault | aux
  deriving DecidableEq, Repr

/-- The reasons of INDEX (R185). -/
inductive IndexReason where
  | closed | renumbered | cleared | diverge
  deriving DecidableEq, Repr

/-- The reasons of TAG (R185). -/
inductive TagReason where
  | loaded | writeFailed
  deriving DecidableEq, Repr

/-- The latched flags of one link (R185); a flag with a reason is set when it has one. -/
structure Flags where
  passEnd : Bool
  transport : Option TransportReason
  index : Option IndexReason
  tag : Option TagReason
  focus : Bool
  roll : Bool
  lamp : Bool
  deriving DecidableEq, Repr

/-- No latched flag set. -/
def Flags.clear : Flags :=
  { passEnd := false, transport := none, index := none, tag := none, focus := false, roll := false,
    lamp := false }

/-- The flag clear modes (R188). -/
inductive ClearMode where
  | clearOnRead | writeOne
  deriving DecidableEq, Repr

/-- The orders of an index stream (R21). -/
inductive StreamOrder where
  | ascending | descending
  deriving DecidableEq, Repr

/-- An open index stream (R21). -/
structure Stream where
  order : StreamOrder
  first : Nat
  last : Nat
  pointer : Nat
  deriving DecidableEq, Repr

/-- The states of a suppression (R179). -/
inductive Suppress where
  | none | waiting | inRound
  deriving DecidableEq, Repr

/-- The STATUS record (R190). -/
structure StatusReport where
  transport : TState
  fault : FaultKind
  holder : Option Holder
  gateFrame : Option Nat
  register : Nat
  direction : Direction
  level : Level
  discovery : Bool
  closure : Option Closure
  extent : Nat
  pitchQ : Nat
  lamp : LampState
  pass : PassState
  passOwner : Option Link
  sweep : Option SweepState
  sweepId : Option Nat
  sweepPoint : Option Nat
  tag : TagStatus
  rollId : Quad
  focusPosition : Nat
  focusStatus : FocusStatus
  deriving DecidableEq, Repr

/-- What QUERY answers (R134). -/
structure SlotReport where
  state : SlotState
  target : SlotTarget
  frame : Option Nat
  action : SlotAction
  priority : Priority
  hold : Nat
  holdRemaining : Option Nat
  sequence : BitVec 32
  skip : Nat
  result : Option SlotResult
  deriving DecidableEq, Repr

/-- What PASS REPORT answers (R157). -/
structure PassReport where
  state : PassState
  owner : Option Link
  modeRequested : Option PassMode
  mode : Option PassMode
  segmentCount : Option Nat
  current : Option Nat
  resume : Option Nat
  frameInHand : Option Nat
  work : Work
  pending : PendingRequest
  yieldCount : Nat
  framesSinceYield : Nat
  last : Option LastPass
  segment : Option SegOutcome
  deriving DecidableEq, Repr

/-- What READ SENSORS answers (R178). -/
structure SensorReport where
  values : Inputs
  stale : Byte
  latches : Inputs
  bus : BusState
  faults : Nat
  deriving DecidableEq, Repr

/-- What READ FLAGS answers (R188). -/
structure FlagReport where
  flags : Flags
  result : Bool
  frameReady : Bool
  scoreWanted : Bool
  sensor : Bool
  mask : BitVec 11
  mode : ClearMode
  suppressed : Bool
  notice : Bool
  deriving DecidableEq, Repr

/-- The contents of an answer, as data; their bytes are in Machine/Answers.lean. -/
inductive Contents where
  | empty
  | number (bytes value : Nat)
  | status (report : StatusReport)
  | entries (atEnd : Bool) (rows : List (Nat × Entry))
  | resolution (outcome : Resolution)
  | resolved (k position gate : Nat) (cls : MarkClass) (triple : Triple)
  | slot (report : SlotReport)
  | result (tag : Byte) (result : SlotResult)
  | pass (report : PassReport)
  | zones (count : Nat) (rows : List Zone) (last : Option SweepReport)
  | sensors (report : SensorReport)
  | flags (report : FlagReport)
  | flagSet (flags : Flags)
  deriving DecidableEq, Repr

/-- An answer (R183, R194): its code, the code of the request it answers, its contents. -/
structure Answer where
  code : AnswerCode
  request : Byte
  contents : Contents
  deriving DecidableEq, Repr

/-- The answer to a NOP (R183). -/
def Answer.toNop : Answer := { code := .ok, request := 0x00#8, contents := .empty }

/-- The state one link holds (10, introduction). -/
structure LinkState where
  answer : Answer
  flags : Flags
  flagMask : BitVec 11
  clearMode : ClearMode
  stream : Option Stream
  buffer : List (Option Segment)
  latches : Inputs
  inputMask : Inputs
  suppress : Suppress
  deriving DecidableEq, Repr

/-- A link as device reset and LINK RESET leave it, but for the pending answer (R192, R193). -/
def LinkState.cleared (answer : Answer) : LinkState :=
  { answer := answer, flags := Flags.clear, flagMask := 0#11, clearMode := .clearOnRead, stream := none,
    buffer := [none, none, none, none, none, none, none, none], latches := 0#64, inputMask := 0#64,
    suppress := .none }

/-! ### Consequences inside one command (log 4) -/

/-- Work set off inside the part by the present command and carried out before it ends (log 4). -/
inductive Signal where
  /-- The scheduler looks for the next holder (R122). -/
  | choose
  /-- A granted piece of work begins from PARKED (R50, R125). -/
  | beginGrant
  /-- A move has ended with this outcome, handed to its holder (R50). -/
  | moveDone (outcome : MoveOutcome)
  /-- A slip correction has been applied to the register (R2, R51, R54, R74). -/
  | corrected
  /-- The lens has reached the target of this requester (R99). -/
  | focusArrived (requester : Requester)
  /-- The ready gate is offered to the holder (R57). -/
  | offerGate
  /-- The lamp state has changed (R88). -/
  | lampChanged
  /-- The pass looks for its next frame or starts its run (R142, R143, R148). -/
  | passGo
  /-- The pass arms its next trigger (R148). -/
  | passArm
  /-- The pass looks at the register during a run: trigger, fill (R149, R150). -/
  | passTick
  /-- The pass looks whether its run has visited a frame or ended its segment (R148, R151). -/
  | passCheck
  /-- Entries from this frame on have been added to the index (R143, R148). -/
  | indexGrew
  /-- The index has closed (R143). -/
  | indexClosed
  /-- The scheduler asks the pass to yield (R128). -/
  | askYield
  /-- A sweep of the pass has ended with this result (R147). -/
  | passSweepDone (result : SweepResult)
  /-- The current segment has no further frame (R156). -/
  | segmentEnd
  /-- A frame boundary of the pass, with no film moving (R142). -/
  | passBoundary
  deriving DecidableEq, Repr

end Sys2Proof.Machine
end

