-- ==== Sys2Proof/Machine/State.lean ====
section
/-! DEFINITION. The state of the FT-340, its reasons to stop, and the state after device reset. -/

namespace Sys2Proof.Machine

open Sys2Proof

/-- The part's state: one record per block of 00's table, the station parameters, the two links, and three
fields of the model's own (`freeCount`, log 3; `todo`, log 4; `pending`, the queue of waiting commands). -/
structure State where
  tracker : Tracker
  marks : Marks
  index : FrameIndex
  transport : Transport
  lamp : Lamp
  roll : Roll
  focus : Focus
  zones : List Zone
  sweep : Sweep
  slots : List Slot
  sched : Sched
  pass : Pass
  tag : Tag
  poller : Poller
  bus : Bus
  params : Params
  linkA : LinkState
  linkB : LinkState
  freeCount : Nat
  todo : List Signal
  pending : List Instr
  deriving DecidableEq, Repr

/-- No command stops the part: every refusal of the spec is an answer and every fault of the spec is a
state (INVENTORY, Faults). There is no reason to stop with a fault. -/
inductive Fault where
  deriving DecidableEq, Repr

/-- The reasons to refuse a command. -/
inductive Refusal where
  /-- Raised by a dispatch arm whose command has no meaning yet. Safe: the model stops. No arm raises it. -/
  | notModelled (mnemonic : String)
  deriving DecidableEq, Repr

/-- The built-in default profile (R80). -/
def builtInProfile : Profile :=
  { rollId := 0#32, gauge := 16, leader := 250000, pitch := 3000, gateOffset := 9000, minMark := 50,
    tDoc := 400, tBatch := 800, defaultStep := 2048 }

/-- The default parameters (R191). -/
def defaultParams : Params :=
  { stallTime := 150, settleTime := 40, arriveTol := 8, approachDist := 6000, recoverDist := 2000,
    recoverTries := 3, threadTime := 20, lampWarm := 3, standbyIdle := 600, captureTimeout := 500,
    scoreTimeout := 300, minContrast := 64, backlash := 12, agingLimit := 4, maxFill := 3,
    checkInterval := 128, auxTimeout := 25, gatePulse := 100, gatePreview := false,
    stationGauge := 16 }

/-- The pass record after device reset (R139). -/
def idlePass : Pass :=
  { state := .idle, owner := none, modeRequested := none, mode := none, yieldInterval := 0,
    segmentCount := none, current := none, resume := none, frameInHand := none, work := .none,
    pending := .none, framesSinceYield := 0, yieldCount := 0, captureTimer := none, timedOut := none,
    lastTriggered := none, armed := none, ordinals := [0, 0, 0, 0, 0, 0, 0, 0], program := [],
    outcomes := [], last := none, yieldAsked := false, yieldLater := false, after := .nothing,
    judgedUpTo := 0, chosen := [], counted := [], sweepOwed := [], visitedInHand := false }

/-- The state after device reset with these levels of LEADER_IN and FOC_HOME (R193 and the reset column
of every block's table; homing ends at once where FOC_HOME is asserted, R97). -/
def State.resetWith (leaderIn : LeaderLevel) (focHome : Bool) : State :=
  { tracker := { register := 0, direction := .forward, inMotion := false, level := .drifting, good := 0, miss := 0 }
    marks := { inProgress := none, lastSplice := none }
    index := { entries := [], closure := none, counters := { batch := 0, document := 0, page := 0 },
               pitchQ := 48000, checkpoints := [], trailer := none, widening := false }
    transport := { state := .empty, fault := .none, faultInThreading := false, move := none, holder := none,
                   gateFrame := none, stallTimer := none, settleTimer := none, gateReady := false,
                   capstan := none, reels := .off, pulse := none, leaderIn := leaderIn }
    lamp := { state := .off, warmTimer := none }
    roll := { cartridge := false, tagLoad := .none, threadTaken := false, rewindTaken := false,
              writeBackTaken := false, active := builtInProfile, default := builtInProfile,
              modified := false, idleTimer := none, wakeCount := none, threadTimer := none,
              tensionTimer := none }
    focus := { status := if focHome then .ready else .homing, position := 0, target := none,
               phase := if focHome then .idle else .down, requester := none, homingSteps := 0,
               downEnd := 0 }
    zones := []
    sweep := { active := none, last := none, counter := 0, scoreTimer := none }
    slots := List.replicate Config.slotCount Slot.empty
    sched := { direction := .forward, grant := .none, yieldOwed := false, counter := 0#32 }
    pass := idlePass
    tag := { status := .none, rollValid := false, load := none, dirty := false, writeState := .idle,
             writePlan := [], loadAfterWrite := false }
    poller := { values := 0#64, stale := 0xFF#8, firstRoundDone := false, faults := 0 }
    bus := { state := .running, nextByte := 0, transfer := some .poll, waiting := none, attempts := 0,
             timer := some defaultParams.auxTimeout }
    params := defaultParams
    linkA := LinkState.cleared Answer.toNop
    linkB := LinkState.cleared Answer.toNop
    freeCount := 0
    todo := []
    pending := [] }

/-- The part right after device reset: LEADER_IN reads LEADER and FOC_HOME is not asserted (log 5). -/
def State.reset : State := State.resetWith .leader false

end Sys2Proof.Machine
end

