-- ==== Sys2Proof/Machine/Ops.lean ====
section
/-! DEFINITION. The shared operations over the state: links and answers, the film coordinate, the index
table, the held inputs and the profile. -/

namespace Sys2Proof.Machine

open Sys2Proof

/-! ### Consequences -/

/-- Sets off one more consequence inside the present command (log 4). -/
def emit (sig : Signal) (s : State) : State :=
  { s with todo := s.todo ++ [sig] }

/-! ### Links -/

/-- The record of one link (10). -/
def State.link (s : State) : Link → LinkState
  | .a => s.linkA
  | .b => s.linkB

/-- Changes one link's record. -/
def onLink (l : Link) (f : LinkState → LinkState) (s : State) : State :=
  match l with
  | .a => { s with linkA := f s.linkA }
  | .b => { s with linkB := f s.linkB }

/-- Changes both links' records. -/
def onLinks (f : LinkState → LinkState) (s : State) : State :=
  { s with linkA := f s.linkA, linkB := f s.linkB }

/-- The pending answer of a link is replaced (R183). -/
def setAnswer (l : Link) (a : Answer) (s : State) : State :=
  onLink l (fun k => { k with answer := a }) s

/-- The link closes its own index stream (R184, item 1). -/
def closeStream (l : Link) (s : State) : State :=
  onLink l (fun k => { k with stream := none }) s

/-- Both links' index streams are closed (R23, R24). -/
def closeStreams (s : State) : State :=
  onLinks (fun k => { k with stream := none }) s

/-- What a request's owner answers: the code and the contents (R184). -/
structure Reply where
  code : AnswerCode
  contents : Contents
  deriving DecidableEq, Repr

/-- A refusal has no contents (R194). -/
def refuse (code : AnswerCode) : Reply := { code := code, contents := .empty }

/-- OK with no contents. -/
def okReply : Reply := { code := .ok, contents := .empty }

/-! ### Film coordinates -/

/-- An integer clamped to the range of the register (R2). -/
def clampCoord (n : Int) : Nat := min n.toNat Config.maxCoord

/-- The other direction. -/
def flipDirection : Direction → Direction
  | .forward => .reverse
  | .reverse => .forward

/-- The distance between two coordinates. -/
def distance (a b : Nat) : Nat := (a - b) + (b - a)

/-! ### The index table (01) -/

/-- The extent E (R9). -/
def State.extent (s : State) : Nat := s.index.entries.length

/-- The entry of frame `k`, for `k` in 1..E. -/
def State.entry (s : State) (k : Nat) : Option Entry :=
  if k = 0 then none else s.index.entries[k - 1]?

/-- Changes the entry of frame `k`, where it exists. -/
def onEntry (k : Nat) (f : Entry → Entry) (s : State) : State :=
  if k = 0 then s
  else { s with index := { s.index with entries := s.index.entries.modify (k - 1) f } }

/-- The index is OPEN (R10). -/
def State.indexOpen (s : State) : Bool := s.index.closure.isNone

/-- pos(k): the position of the entry of frame `k`; 0 where there is none. -/
def State.pos (s : State) (k : Nat) : Nat :=
  match s.entry k with
  | some e => e.position
  | none => 0

/-- The acceptance window w (R33). -/
def window (pitchQ : Nat) : Nat := max 40 (pitchQ / 64)

/-- The acceptance window w of the current pitch_q (R33). -/
def State.w (s : State) : Nat := window s.index.pitchQ

/-- pred(k) from anchor entry `a` at `position`, for `k > a` (R32). -/
def predict (pitchQ position a k : Nat) : Nat :=
  position + ((k - a) * pitchQ + 8) / 16

/-- pred(k) from anchor entry E (R32). -/
def State.predFromE (s : State) (k : Nat) : Nat :=
  predict s.index.pitchQ (s.pos s.extent) s.extent k

/-- The discovery frontier F (R12). -/
def State.frontier (s : State) : Nat :=
  if s.extent = 0 then s.roll.active.leader else s.pos s.extent + s.w

/-- The gate coordinate of frame `k` (00, Gate offset and gate coordinate). -/
def State.gateCoord (s : State) (k : Nat) : Nat := s.pos k + s.roll.active.gateOffset

/-- The limits of pitch_q for a nominal pitch (R31). -/
def pitchLow (nominal : Nat) : Nat := 16 * nominal - 16 * nominal / 8

/-- The limits of pitch_q for a nominal pitch (R31). -/
def pitchHigh (nominal : Nat) : Nat := 16 * nominal + 16 * nominal / 8

/-- pitch_q is set from a nominal pitch (R31). -/
def setPitch (nominal : Nat) (s : State) : State :=
  { s with index := { s.index with pitchQ := 16 * nominal } }

/-! ### The held inputs (09) -/

/-- The held value of one input (R172). -/
def State.input (s : State) (n : Nat) : Bool := s.poller.values.getLsbD n

/-- The tension is out of band (03, Door, tension and cartridge; 09, The inputs). -/
def tensionOut (v : Inputs) : Bool :=
  v.getLsbD 4 || v.getLsbD 5 || v.getLsbD 6 || v.getLsbD 7

/-- The door reads closed (input 1). -/
def State.doorClosed (s : State) : Bool := s.input 1

/-- Film is in the gate (input 2). -/
def State.filmInGate (s : State) : Bool := s.input 2

/-- Lamp-OK reads true (input 8). -/
def State.lampOk (s : State) : Bool := s.input 8

/-! ### Focus zones (05) -/

/-- The zone that covers frame `k`: the one with the greatest start not above `k` (R101). -/
def coveringZone (k : Nat) (zones : List Zone) : Option Zone :=
  (zones.filter (fun z => z.start ≤ k)).getLast?

/-- The focus step of frame `k` (R101). -/
def State.zoneStep (s : State) (k : Nat) : Nat :=
  match coveringZone k s.zones with
  | some z => z.step
  | none => s.roll.active.defaultStep

/-- A zone replaces the one with its start, or is inserted in start order (R102, R114). -/
def putZone (z : Zone) : List Zone → List Zone
  | [] => [z]
  | y :: ys =>
    if z.start < y.start then z :: y :: ys
    else if z.start = y.start then z :: ys
    else y :: putZone z ys

/-- The tag dirty flag is set (R166). -/
def setDirty (s : State) : State := { s with tag := { s.tag with dirty := true } }

/-! ### The retrieval table (06) -/

/-- The slot of number `i`. -/
def State.slot (s : State) (i : Nat) : Slot := s.slots.getD i Slot.empty

/-- Changes the slot of number `i`. -/
def onSlot (i : Nat) (f : Slot → Slot) (s : State) : State :=
  { s with slots := s.slots.modify i f }

/-- A slot ends: it becomes DONE with this result, and its hold timer stops (R117, R131). -/
def Slot.ended (r : SlotResult) (x : Slot) : Slot :=
  { x with state := .done, holdTimer := none, result := some r }

/-- A slot ends with the values its state gives the result: the resolved frame if any, and the position and
lens step of its gate-ready event if that has been taken (06, result table). -/
def Slot.endedReached (code : ResultCode) (x : Slot) : Slot :=
  x.ended { code := code, frame := x.frame, position := x.reached.map (·.1),
            focusStep := x.reached.map (·.2) }

/-- A slot ends with the resolved frame, if any, and no position. -/
def Slot.endedBare (code : ResultCode) (x : Slot) : Slot :=
  x.ended { code := code, frame := x.frame, position := none, focusStep := none }

/-- The number of the link's non-FREE slot with this tag (R117). -/
def State.slotOf (s : State) (l : Link) (tag : Byte) : Option Nat :=
  s.slots.findIdx? (fun x => x.state != .free && x.owner == l && x.tag == tag)

/-- One arrival sequence is older than another (R118). -/
def olderSeq (a b : BitVec 32) : Bool := (b - a).toNat < 2147483648

/-- Some slot is RESOLVING. -/
def State.anyResolving (s : State) : Bool := s.slots.any (fun x => x.state == .resolving)

/-- A NORMAL slot is PENDING (R153). -/
def State.normalPending (s : State) : Bool :=
  s.slots.any (fun x => x.state == .pending && x.priority == .normal)

/-- The pass is active: RUNNING or YIELDING (R123). -/
def State.passActive (s : State) : Bool :=
  s.pass.state == .running || s.pass.state == .yielding

/-! ### The motion in flight (03) -/

/-- The running leg, or while the film comes to rest the leg that ran last, of a move in MOVING or
RECOVERING (R51, R59; log 7). A move in SETTLING has no leg any more, so a mark begins in none of its coast (R25, log 50). -/
def State.motionLeg (s : State) : Option Leg :=
  match s.transport.state, s.transport.move with
  | .moving, some m => some m.leg
  | .recovering, some m => some m.leg
  | _, _ => none

/-- The leg that carries the film along: none while the film is at rest, before the leg's first count and where a stalled leg has come
to rest (R51, log 49). -/
def State.carryingLeg (s : State) : Option Leg := if s.tracker.inMotion then s.motionLeg else none

/-- A leg reads marks: forward, at INDEX or CREEP (R25). -/
def Leg.readsMarks (g : Leg) : Bool := g.direction == .forward && g.cls != .shuttle

/-- Discovery is active (R12), judged by the leg of the move in flight, whether or not its film stands at the moment (log 75). -/
def State.discoveryActive (s : State) : Bool :=
  match s.motionLeg with
  | some g => g.readsMarks && decide (s.frontier < s.tracker.register)
  | none => false

/-- The leg that is running in the phase RUNNING, with no rest awaited. -/
def State.runningLeg (s : State) : Option Leg :=
  match s.transport.move with
  | some m => if m.phase = .running ∧ m.atRest = none then s.motionLeg else none
  | none => none

/-- Changes the move record, where there is one. -/
def onMove (f : Move → Move) (s : State) : State :=
  { s with transport := { s.transport with move := s.transport.move.map f } }

/-- The mark in progress is discarded (R28). -/
def discardMark (s : State) : State := { s with marks := { s.marks with inProgress := none } }

end Sys2Proof.Machine
end

