-- ==== Sys2Proof/Machine/Flags.lean ====
section
/-! DEFINITION. Attention flags (R185, R186), the NOTICE, GATE and LAMP_EN lines. -/

namespace Sys2Proof.Machine

open Sys2Proof

/-! ### Latched flags (R185) -/

/-- Changes the latched flags of both links. -/
def flagBoth (f : Flags → Flags) (s : State) : State :=
  onLinks (fun k => { k with flags := f k.flags }) s

/-- Changes the latched flags of one link. -/
def flagOne (l : Link) (f : Flags → Flags) (s : State) : State :=
  onLink l (fun k => { k with flags := f k.flags }) s

/-- TRANSPORT is flagged on both links (R185). -/
def flagTransport (r : TransportReason) : State → State :=
  flagBoth (fun f => { f with transport := some r })

/-- INDEX is flagged on both links (R185). -/
def flagIndex (r : IndexReason) : State → State :=
  flagBoth (fun f => { f with index := some r })

/-- TAG is flagged on both links (R185). -/
def flagTag (r : TagReason) : State → State :=
  flagBoth (fun f => { f with tag := some r })

/-- ROLL is flagged on both links (R185). -/
def flagRoll : State → State := flagBoth (fun f => { f with roll := true })

/-- LAMP is flagged on both links (R185). -/
def flagLamp : State → State := flagBoth (fun f => { f with lamp := true })

/-- PASS_END is flagged on the owner link (R185). -/
def flagPassEnd (l : Link) : State → State := flagOne l (fun f => { f with passEnd := true })

/-- FOCUS is flagged on the score link (R185). -/
def flagFocus (l : Link) : State → State := flagOne l (fun f => { f with focus := true })

/-! ### Derived flags (R186) -/

/-- RESULT: the link has at least one DONE slot (R135). -/
def State.resultFlag (s : State) (l : Link) : Bool :=
  s.slots.any (fun x => x.state == .done && x.owner == l)

/-- FRAME_READY: the link owns the pass, which is AWAITING_CAPTURE (R144). -/
def State.frameReady (s : State) (l : Link) : Bool :=
  s.pass.owner == some l && s.pass.work == .awaitingCapture

/-- SCORE_WANTED: the link is the score link of a sweep AWAITING_SCORE (R110). -/
def State.scoreWanted (s : State) (l : Link) : Bool :=
  match s.sweep.active with
  | some x => x.link == l && x.state == .awaitingScore
  | none => false

/-- SENSOR: a latch copy of the link is set for an UNMASKED input (R177). -/
def State.sensorFlag (s : State) (l : Link) : Bool :=
  ((s.link l).latches &&& ~~~(s.link l).inputMask) != 0#64

/-- The latched flags as a flag set: bits 0 to 6 (11, Request codes). -/
def Flags.bits (f : Flags) : BitVec 11 :=
  (if f.passEnd then 0x001#11 else 0#11) ||| (if f.transport.isSome then 0x002#11 else 0#11) |||
  (if f.index.isSome then 0x004#11 else 0#11) ||| (if f.tag.isSome then 0x008#11 else 0#11) |||
  (if f.focus then 0x010#11 else 0#11) ||| (if f.roll then 0x020#11 else 0#11) |||
  (if f.lamp then 0x040#11 else 0#11)

/-- The derived flags as a flag set: bits 7 to 10 (11, Request codes). -/
def derivedBits (result frameReady scoreWanted sensor : Bool) : BitVec 11 :=
  (if result then 0x080#11 else 0#11) ||| (if frameReady then 0x100#11 else 0#11) |||
  (if scoreWanted then 0x200#11 else 0#11) ||| (if sensor then 0x400#11 else 0#11)

/-- Clears the latched flags a flag set names (R189). -/
def Flags.without (named : BitVec 11) (f : Flags) : Flags :=
  { passEnd := f.passEnd && !named.getLsbD 0
    transport := if named.getLsbD 1 then none else f.transport
    index := if named.getLsbD 2 then none else f.index
    tag := if named.getLsbD 3 then none else f.tag
    focus := f.focus && !named.getLsbD 4
    roll := f.roll && !named.getLsbD 5
    lamp := f.lamp && !named.getLsbD 6 }

/-! ### The output lines -/

/-- The level of the link's NOTICE line (R187): an UNMASKED latched flag set, an UNMASKED derived flag true,
SENSOR only while no suppression is active (R179). -/
def State.notice (s : State) (l : Link) : Bool :=
  ((((s.link l).flags.bits) |||
      derivedBits (s.resultFlag l) (s.frameReady l) (s.scoreWanted l)
        (s.sensorFlag l && (s.link l).suppress == .none)) &&&
    ~~~(s.link l).flagMask) != 0#11

/-- The GATE level (R73): SETTLED, lamp ON, and for a SWEEP holder a score awaited. -/
def State.gateLevel (s : State) : Bool :=
  s.transport.state == .settled && s.lamp.state == .on &&
    match s.transport.holder with
    | some (.sweep _ _) =>
      match s.sweep.active with
      | some x => x.state == .awaitingScore
      | none => false
    | _ => true

/-- The GATE line: the level, or a running pulse; asserted only while the lamp is ON (R73, R74). -/
def State.gateLine (s : State) : Bool :=
  s.gateLevel || (s.transport.pulse.isSome && s.lamp.state == .on)

/-- LAMP_EN (R87). -/
def State.lampEn (s : State) : Bool := s.lamp.state != .off

end Sys2Proof.Machine
end

