-- ==== Sys2Proof/Machine/Drive.lean ====
section
/-! DEFINITION. The lamp, the passages between transport states, the GATE pulse, the gate holder and the
scheduler's grant (R50, R58, R74, R87, R89, R91, R126). -/

namespace Sys2Proof.Machine

open Sys2Proof

/-! ### Lamp Control (R87) -/

/-- The lamp takes a state: its warm timer stops, a running GATE pulse ends when the lamp leaves ON (R74),
and its neighbours read the change (R88). -/
def setLamp (x : LampState) (s : State) : State :=
  emit .lampChanged
    { s with lamp := { state := x, warmTimer := none }
             transport := { s.transport with pulse := if x = .on then s.transport.pulse else none } }

/-- The warm timer's expiry (R87): ON or FAILED as lamp-OK reads. -/
def warmExpired (s : State) : State :=
  if s.lampOk then setLamp .on s else flagLamp (setLamp .failed s)

/-- The lamp enters WARMING and its timer starts; with LAMP_WARM 0 the expiry is taken at once (R87). -/
def enterWarming (s : State) : State :=
  let s1 := setLamp .warming s
  if s.params.lampWarm = 0 then warmExpired s1
  else { s1 with lamp := { state := .warming, warmTimer := some s.params.lampWarm } }

/-- What entering a transport state does to the lamp (R87). -/
def lampOnEntering (t : TState) (s : State) : State :=
  match t with
  | .parked => if s.lamp.state = .off then enterWarming s else s
  | .waking => if s.lamp.state = .off then enterWarming s else s
  | .standby => if s.lamp.state = .off then s else setLamp .off s
  | .empty => if s.lamp.state = .off then s else setLamp .off s
  | _ => s

/-! ### Transport states -/

/-- The idle timer as it stands on entering PARKED, or on the grant becoming NONE there (R89). -/
def idleStart (s : State) : Option Nat :=
  if s.sched.grant = .none ∧ s.params.standbyIdle ≠ 0 then some s.params.standbyIdle else none

/-- The transport enters a state: the idle timer starts in PARKED and stops elsewhere (R89), the lamp
follows (R87), and in PARKED the scheduler looks for work (R122). -/
def enterState (t : TState) (s : State) : State :=
  let s1 := { s with transport := { s.transport with state := t }
                     roll := { s.roll with idleTimer := if t = .parked then idleStart s else none } }
  let s2 := lampOnEntering t s1
  if t = .parked then emit .choose s2 else s2

/-- The reel drives hold tension (R91; 03, Transport states). -/
def holdTension (s : State) : State := { s with transport := { s.transport with reels := .tension } }

/-- Entering WAKING (R91). -/
def enterWaking (s : State) : State :=
  enterState .waking
    { s with roll := { s.roll with wakeCount := none, tensionTimer := some Config.tensionTime }
             transport := { s.transport with reels := .tension } }

/-- Entering STANDBY with a wake count or none (R89, R90). -/
def enterStandby (count : Option Nat) (s : State) : State :=
  enterState .standby
    { s with roll := { s.roll with wakeCount := count }
             transport := { s.transport with reels := .relaxed } }

/-- A GATE pulse is given: it begins, or a running one goes on (R74, log 27). -/
def givePulse (s : State) : State :=
  { s with transport := { s.transport with
      pulse := match s.transport.pulse with
        | some d => some d
        | none => some s.params.gatePulse } }

/-- The holder frees the gate: the holder fields are emptied in the event that leaves SETTLED for PARKED,
and the gate frame is kept (R58). -/
def freeGate (s : State) : State :=
  enterState .parked { s with transport := { s.transport with holder := none } }

/-- The holder takes the ready gate: the holder fields are filled in the event that enters SETTLED (R57, R58). -/
def holdGate (h : Holder) (s : State) : State :=
  enterState .settled
    { s with transport := { s.transport with holder := some h, gateReady := false } }

/-- The holder declines the ready gate, or has had its pulse: PARKED with no holder (R57). -/
def leaveGate (s : State) : State :=
  enterState .parked { s with transport := { s.transport with gateReady := false } }

/-- The grant ends (R126): it becomes NONE, the idle timer starts in PARKED (R89), and the scheduler
chooses again where it may (R122). -/
def endGrant (s : State) : State :=
  let s1 := { s with sched := { s.sched with grant := .none } }
  emit .choose
    { s1 with roll := { s1.roll with
        idleTimer := if s1.transport.state = .parked then idleStart s1 else s1.roll.idleTimer } }

end Sys2Proof.Machine
end

