-- ==== Sys2Proof/Machine/Lens.lean ====
section
/-! DEFINITION. The focus actuator (R96 to R99). -/

namespace Sys2Proof.Machine

open Sys2Proof

/-- The focus arrival is taken: the lens rests, and the requester is told (R99). -/
def lensArrived (s : State) : State :=
  let s1 := { s with focus := { s.focus with phase := .idle, requester := none } }
  match s.focus.requester with
  | some r => emit (.focusArrived r) s1
  | none => s1

/-- The legs of the move to the target, planned from the position and BACKLASH as they stand (R98). -/
def planLens (s : State) : State :=
  match s.focus.target with
  | none => { s with focus := { s.focus with phase := .idle } }
  | some t =>
    if t < s.focus.position then
      { s with focus := { s.focus with phase := .down, downEnd := t - s.params.backlash } }
    else if t = s.focus.position then lensArrived s
    else { s with focus := { s.focus with phase := .up } }

/-- A target is taken from its requester (R97, R98, R99). -/
def setFocusTarget (t : Nat) (r : Requester) (s : State) : State :=
  let s1 := { s with focus := { s.focus with target := some (min t Config.maxStep), requester := some r } }
  match s.focus.status with
  | .homing => s1
  | .ready => planLens s1
  | .fault => lensArrived s1

/-- Homing ends with the home switch found (R97). -/
def homeFound (s : State) : State :=
  planLens { s with focus := { s.focus with status := .ready, position := 0, phase := .idle } }

/-- Homing ends without the home switch (R97): a target taken meanwhile is reported at once (R99). -/
def homeNotFound (s : State) : State :=
  lensArrived { s with focus := { s.focus with status := .fault, position := 0, phase := .idle } }

/-- One stepper step, with FOC_HOME's level after it (R97, R98). -/
def stepLens (focHome : Bool) (s : State) : State :=
  match s.focus.status, s.focus.phase with
  | .homing, .down =>
    if s.focus.homingSteps < Config.homingLimit then
      let s1 := { s with focus := { s.focus with homingSteps := s.focus.homingSteps + 1 } }
      if focHome then homeFound s1 else s1
    else s
  | .ready, .down =>
    let p := s.focus.position - 1
    let s1 := { s with focus := { s.focus with position := p } }
    if p ≤ s.focus.downEnd then
      if s.focus.target = some p then lensArrived s1
      else { s1 with focus := { s1.focus with phase := .up } }
    else s1
  | .ready, .up =>
    let p := s.focus.position + 1
    let s1 := { s with focus := { s.focus with position := p } }
    if s.focus.target = some p then lensArrived s1 else s1
  | _, _ => s

end Sys2Proof.Machine
end

