-- ==== Sys2Proof/Machine/Endings.lean ====
section
/-! DEFINITION. The ends of a slot, a sweep and a pass as records, the counting of pass faults, and entering FAULTED
(R71, R115, R152, R156). -/

namespace Sys2Proof.Machine

open Sys2Proof

/-! ### Sweep -/

/-- The store outcome of a result that is not stored: NOT_STORED where storing was asked, else NOT_ASKED (R113, log 14). -/
def unstored (store : Bool) : StoreOutcome := if store then .notStored else .notAsked

/-- The results after which the fit has already given the lens its target (R115, item 3). -/
def SweepResult.fitGaveTarget : SweepResult → Bool
  | .fitted => true
  | .atLimit => true
  | .lowContrast => true
  | _ => false

/-- A sweep ends as a record (R115, items 1, 2, 3, 5 and the flag of 6): the result record is written, the
score timer stops, the lens returns where the points had been placed, the state becomes IDLE and FOCUS is flagged. -/
def finishSweep (result : SweepResult) (step : Option Nat) (quality : Option Quality)
    (store : StoreOutcome) (s : State) : State :=
  match s.sweep.active with
  | none => s
  | some x =>
    let report : SweepReport :=
      { id := x.id, frame := x.frame, link := x.link, result := result, step := step, quality := quality,
        store := store, scores := x.scores,
        timedOutPoint := if result = .timeout then some x.current else none }
    let s1 := { s with sweep := { s.sweep with active := none, last := some report, scoreTimer := none } }
    let s2 := if x.points ≠ [] ∧ result.fitGaveTarget = false
      then setFocusTarget (s1.zoneStep x.frame) .back s1 else s1
    flagFocus x.link s2

/-- A sweep ends without a fitted result, as a record. -/
def finishSweepBare (result : SweepResult) (s : State) : State :=
  match s.sweep.active with
  | none => s
  | some x => finishSweep result none none (unstored x.store) s

/-! ### Pass -/

/-- A count of 0..255 rises by one, saturating (R139, R152). -/
def satInc (n : Nat) : Nat := min 255 (n + 1)

/-- One fault of a class is counted (R152). -/
def FaultCounts.inc (c : FaultClass) (f : FaultCounts) : FaultCounts :=
  match c with
  | .captureFail => { f with captureFail := satInc f.captureFail }
  | .captureTimeout => { f with captureTimeout := satInc f.captureTimeout }
  | .missedMark => { f with missedMark := satInc f.missedMark }
  | .gap => { f with gap := satInc f.gap }
  | .focusFail => { f with focusFail := satInc f.focusFail }
  | .splice => { f with splice := satInc f.splice }

/-- The bit of a class in a stop mask (R195). -/
def FaultClass.bit : FaultClass → Nat
  | .captureFail => 0
  | .captureTimeout => 1
  | .missedMark => 2
  | .gap => 3
  | .focusFail => 4
  | .splice => 5

/-- A frame lies in the span of a segment (R141). -/
def Segment.holds (g : Segment) (k : Nat) : Bool :=
  decide (g.first ≤ k) && (match g.last with
    | some n => decide (k ≤ n)
    | none => true)

/-- The place, from 0, of the pass's segment that holds a frame (R145, R152). -/
def State.segmentHolding (s : State) (k : Nat) : Option Nat :=
  s.pass.program.findIdx? (fun g => g.holds k)

/-- Changes one segment outcome record, by its place from 0. -/
def onOutcome (i : Nat) (f : SegOutcome → SegOutcome) (s : State) : State :=
  { s with pass := { s.pass with outcomes := s.pass.outcomes.modify i f } }

/-- A fault taken for a frame is counted in the record of the segment in place `i` (R152). -/
def countFault (i : Nat) (c : FaultClass) (k : Nat) (s : State) : State :=
  onOutcome i (fun o => { o with faults := o.faults.inc c
                                 firstFault := match o.firstFault with
                                   | some f => some f
                                   | none => some k }) s

/-- A class is in the stop mask of the segment in place `i` (R152). -/
def State.masked (s : State) (i : Nat) (c : FaultClass) : Bool :=
  match s.pass.program[i]? with
  | some g => g.stopMask.getLsbD c.bit
  | none => false

/-- The state an outcome leaves the current segment's record in (R156). -/
def PassOutcome.segState : PassOutcome → SegState
  | .completed => .done
  | .stopped _ _ => .stopped
  | .aborted => .aborted
  | .fault => .stopped
  | .lamp => .stopped

/-- A masked fault also stops the record of the segment that holds its frame (R152, log 18). -/
def stopHolding (o : PassOutcome) (s : State) : State :=
  match o with
  | .stopped _ k =>
    match s.segmentHolding k with
    | some i => onOutcome i (fun r => { r with state := .stopped }) s
    | none => s
  | _ => s

/-- The pass ends as a record (R156, items 1, 4 and 5): the current segment's record, the pass record, the
last-pass outcome and PASS_END on the owner link. R156 leaves open what else the pass record holds then: no frame is in hand, and
the other fields keep their values (log 33). -/
def finishPass (o : PassOutcome) (s : State) : State :=
  match s.pass.owner with
  | none => s
  | some l =>
    let s1 := stopHolding o (onOutcome (s.pass.current.getD 1 - 1) (fun r => { r with state := o.segState }) s)
    let report : LastPass :=
      { outcome := o, owner := l, mode := s.pass.mode.getD .step, yieldCount := s.pass.yieldCount,
        lastTriggered := s.pass.lastTriggered, timedOut := s.pass.timedOut }
    flagPassEnd l
      { s1 with pass := { s1.pass with
          state := .idle, owner := none, work := .none, pending := .none, captureTimer := none,
          armed := none, frameInHand := none, yieldAsked := false, yieldLater := false, after := .nothing,
          visitedInHand := false, last := some report } }

/-! ### Entering FAULTED (R71) -/

/-- What a transport fault makes of a slot (R71, item 5; 06, result table). -/
def Slot.onFault (x : Slot) : Slot :=
  match x.state with
  | .travelling => x.endedBare .fault
  | .presenting => x.endedReached .fault
  | _ => x

/-- The transport enters FAULTED with a kind, from any state other than EMPTY and FAULTED (R71). -/
def enterFaulted (kind : FaultKind) (s : State) : State :=
  if s.transport.state = .empty ∨ s.transport.state = .faulted then s
  else
    let s1 := { s with
      transport := { s.transport with
        fault := kind, faultInThreading := decide (s.transport.state = .threading), capstan := none,
        pulse := none, stallTimer := none, settleTimer := none, gateReady := false, move := none,
        holder := none }
      slots := s.slots.map Slot.onFault
      sched := { s.sched with grant := .none }
      roll := { s.roll with threadTaken := false, rewindTaken := false, writeBackTaken := false,
                            threadTimer := none, tensionTimer := none, wakeCount := none } }
    let s2 := finishPass .fault s1
    let s3 := finishSweepBare .focusFail s2
    flagTransport .fault (enterState .faulted s3)

end Sys2Proof.Machine
end

