-- ==== Sys2Proof/Machine/Operands.lean ====
section
/-! DEFINITION. The operand forms of a request: enumeration codes (R195), targets (R15) and the fields of a
profile and a parameter, from the raw bytes of its frame. -/

namespace Sys2Proof.Machine

open Sys2Proof

/-! ### Enumerations (R195): none is a code beyond the list -/

/-- The class codes (R195). -/
def decodeClass (b : Byte) : Option MarkClass :=
  if b = 0x00#8 then some .image else if b = 0x01#8 then some .document
  else if b = 0x02#8 then some .batch else none

/-- Yes or no (R195). -/
def decodeYesNo (b : Byte) : Option Bool :=
  if b = 0x00#8 then some false else if b = 0x01#8 then some true else none

/-- The order of an index stream (R21). -/
def decodeOrder (b : Byte) : Option StreamOrder :=
  if b = 0x00#8 then some .ascending else if b = 0x01#8 then some .descending else none

/-- The action of a retrieval (R117). -/
def decodeAction (b : Byte) : Option SlotAction :=
  if b = 0x00#8 then some .present else if b = 0x01#8 then some .snap else none

/-- The priority of a retrieval (R117). -/
def decodePriority (b : Byte) : Option Priority :=
  if b = 0x00#8 then some .normal else if b = 0x01#8 then some .urgent else none

/-- The action of a segment (R137). -/
def decodeSegAction (b : Byte) : Option SegAction :=
  if b = 0x00#8 then some .all else if b = 0x01#8 then some .docStarts
  else if b = 0x02#8 then some .missing else if b = 0x03#8 then some .indexOnly else none

/-- The mode of a pass (R139). -/
def decodeMode (b : Byte) : Option PassMode :=
  if b = 0x00#8 then some .step else if b = 0x01#8 then some .fly else none

/-- The flag clear mode (11, Request codes). -/
def decodeClearMode (b : Byte) : Option ClearMode :=
  if b = 0x00#8 then some .clearOnRead else if b = 0x01#8 then some .writeOne else none

/-- The zone sources (R195). -/
def decodeZoneSource (b : Byte) : Option ZoneSource :=
  if b = 0x00#8 then some .tag else if b = 0x01#8 then some .sweep
  else if b = 0x02#8 then some .set else none

/-- The zone qualities (R195). -/
def decodeQuality (b : Byte) : Option Quality :=
  if b = 0x00#8 then some .good else if b = 0x01#8 then some .edge else none

/-! ### Targets (01) -/

/-- A target by its kind byte (11, Request codes); bytes the kind does not use are not read (R195). -/
def decodeTarget (t : RawTarget) : Option Target :=
  if t.kind = 0x00#8 then some (.frame t.v0.toNat)
  else if t.kind = 0x01#8 then some (.address t.v0.toNat t.v1.toNat t.v2.toNat)
  else if t.kind = 0x02#8 then some (.relative t.v0.toInt)
  else none

/-- The frame a RELATIVE target counts from: the gate frame, or frame 1 where there is none (R15). -/
def State.relativeBase (s : State) : Nat := s.transport.gateFrame.getD 1

/-- The range checks of a target (R15). -/
def targetInRange (s : State) : Target → Bool
  | .frame k => decide (1 ≤ k) && decide (k ≤ Config.maxFrames)
  | .address _ _ _ => true
  | .relative n =>
    decide (-16383 ≤ n) && decide (n ≤ 16383) &&
      decide ((s.relativeBase : Int) + n ≤ (Config.maxFrames : Int))

/-- A RELATIVE target is turned into a frame, clamped at 1 (R15, R120). -/
def slotTarget (s : State) : Target → SlotTarget
  | .frame k => .frame k
  | .address b d p => .address b d p
  | .relative n => .relativeFrame (max 1 ((s.relativeBase : Int) + n).toNat)

/-- An entry matches an ADDRESS target (R17). -/
def addressMatches (b d p : Nat) (e : Entry) : Bool :=
  e.triple.batch == b && (d == 0 || (e.triple.document == d && (p == 0 || e.triple.page == p)))

/-- The key of an ADDRESS target is greater than the same key of a triple (R17). -/
def addressBeyond (b d p : Nat) (t : Triple) : Bool :=
  decide (t.batch < b) ||
    (d != 0 && t.batch == b &&
      (decide (t.document < d) || (p != 0 && t.document == d && decide (t.page < p))))

/-- A target that is not found: beyond while the index is OPEN, absent otherwise. -/
def notYet (s : State) : Resolution := if s.indexOpen then .beyond else .absent

/-- The resolution of a FRAME target (R16). -/
def resolveFrame (s : State) (k : Nat) : Resolution :=
  if k ≤ s.extent then .found k else notYet s

/-- The resolution of an ADDRESS target (R17). -/
def resolveAddress (s : State) (b d p : Nat) : Resolution :=
  match s.index.entries.findIdx? (addressMatches b d p) with
  | some i => .found (i + 1)
  | none =>
    match s.index.entries.getLast? with
    | none => notYet s
    | some e => if addressBeyond b d p e.triple then notYet s else .absent

/-- The resolution of a slot's target (R16, R17, R120). -/
def resolveTarget (s : State) : SlotTarget → Resolution
  | .frame k => resolveFrame s k
  | .relativeFrame k => resolveFrame s k
  | .address b d p => resolveAddress s b d p

/-! ### Station parameters (R191) -/

/-- A value clamped to the nearest limit of its range (00, Conventions). -/
def clampTo (lo hi v : Nat) : Nat := max lo (min hi v)

/-- The parameters after SET PARAMETER and the value stored; none for an unknown code (R191, R195). -/
def storeParameter (code : Byte) (v : Nat) (p : Params) : Option (Params × Nat) :=
  if code = 0x00#8 then let x := clampTo 10 2550 v; some ({ p with stallTime := x }, x)
  else if code = 0x01#8 then let x := clampTo 5 255 v; some ({ p with settleTime := x }, x)
  else if code = 0x02#8 then let x := clampTo 1 255 v; some ({ p with arriveTol := x }, x)
  else if code = 0x03#8 then let x := clampTo 500 65535 v; some ({ p with approachDist := x }, x)
  else if code = 0x04#8 then let x := clampTo 100 65535 v; some ({ p with recoverDist := x }, x)
  else if code = 0x05#8 then let x := clampTo 0 7 v; some ({ p with recoverTries := x }, x)
  else if code = 0x06#8 then let x := clampTo 1 60 v; some ({ p with threadTime := x }, x)
  else if code = 0x07#8 then let x := clampTo 0 10 v; some ({ p with lampWarm := x }, x)
  else if code = 0x08#8 then let x := clampTo 0 3600 v; some ({ p with standbyIdle := x }, x)
  else if code = 0x09#8 then let x := clampTo 10 2550 v; some ({ p with captureTimeout := x }, x)
  else if code = 0x0A#8 then let x := clampTo 10 2550 v; some ({ p with scoreTimeout := x }, x)
  else if code = 0x0B#8 then let x := clampTo 0 65535 v; some ({ p with minContrast := x }, x)
  else if code = 0x0C#8 then let x := clampTo 0 63 v; some ({ p with backlash := x }, x)
  else if code = 0x0D#8 then let x := clampTo 1 15 v; some ({ p with agingLimit := x }, x)
  else if code = 0x0E#8 then let x := clampTo 1 8 v; some ({ p with maxFill := x }, x)
  else if code = 0x0F#8 then let x := clampTo 16 1024 v; some ({ p with checkInterval := x }, x)
  else if code = 0x10#8 then let x := clampTo 1 255 v; some ({ p with auxTimeout := x }, x)
  else if code = 0x11#8 then let x := clampTo 10 1000 v; some ({ p with gatePulse := x }, x)
  else if code = 0x12#8 then
    if v = 0 then some ({ p with gatePreview := false }, 0) else some ({ p with gatePreview := true }, 1)
  else if code = 0x13#8 then
    let x := if v ≤ 25 then 16 else 35
    some ({ p with stationGauge := x }, x)
  else none

/-! ### Profile fields (R80, R82, R83) -/

/-- The fields of a profile (R195). -/
inductive ProfileField where
  | rollId | gauge | leader | pitch | gateOffset | minMark | tDoc | tBatch | defaultStep
  deriving DecidableEq, Repr

/-- The profile field codes (R195). -/
def decodeField (b : Byte) : Option ProfileField :=
  if b = 0x00#8 then some .rollId else if b = 0x01#8 then some .gauge
  else if b = 0x02#8 then some .leader else if b = 0x03#8 then some .pitch
  else if b = 0x04#8 then some .gateOffset else if b = 0x05#8 then some .minMark
  else if b = 0x06#8 then some .tDoc else if b = 0x07#8 then some .tBatch
  else if b = 0x08#8 then some .defaultStep else none

/-- A value lies in the field's range, T_doc and T_batch judged against each other (R80, R82). -/
def fieldInRange (p : Profile) (v : Nat) : ProfileField → Bool
  | .rollId => true
  | .gauge => v == 16 || v == 35
  | .leader => decide (v ≤ 4194240)
  | .pitch => decide (500 ≤ v) && decide (v ≤ 16000)
  | .gateOffset => decide (v ≤ 262140)
  | .minMark => decide (4 ≤ v) && decide (v ≤ 1020)
  | .tDoc => decide (1 ≤ v) && decide (v ≤ 65535) && decide (v < p.tBatch)
  | .tBatch => decide (p.tDoc < v) && decide (v ≤ 65535)
  | .defaultStep => decide (v ≤ Config.maxStep)

/-- A profile with one field stored. -/
def storeField (p : Profile) (v : Quad) : ProfileField → Profile
  | .rollId => { p with rollId := v }
  | .gauge => { p with gauge := v.toNat }
  | .leader => { p with leader := v.toNat }
  | .pitch => { p with pitch := v.toNat }
  | .gateOffset => { p with gateOffset := v.toNat }
  | .minMark => { p with minMark := v.toNat }
  | .tDoc => { p with tDoc := v.toNat }
  | .tBatch => { p with tBatch := v.toNat }
  | .defaultStep => { p with defaultStep := v.toNat }

end Sys2Proof.Machine
end

