-- ==== Sys2Proof/Machine/TagRecords.lean ====
section
/-! DEFINITION. Bytes, and the cartridge tag records: their reading, their writing and the list a write-back
writes (R158, R161, R168 to R170, R195, R196). -/

namespace Sys2Proof.Machine

open Sys2Proof

/-! ### Bytes, least significant first (R195) -/

/-- A number in one byte. -/
def le1 (n : Nat) : List Byte := [BitVec.ofNat 8 n]

/-- A number in two bytes. -/
def le2 (n : Nat) : List Byte := [BitVec.ofNat 8 n, BitVec.ofNat 8 (n / 256)]

/-- A number in three bytes. -/
def le3 (n : Nat) : List Byte := le2 n ++ [BitVec.ofNat 8 (n / 65536)]

/-- A number in four bytes. -/
def le4 (n : Nat) : List Byte := le3 n ++ [BitVec.ofNat 8 (n / 16777216)]

/-- The number that bytes give. -/
def fromLE : List Byte → Nat
  | [] => 0
  | b :: bs => b.toNat + 256 * fromLE bs

/-- The sum of bytes modulo 256. -/
def byteSum : List Byte → Byte
  | [] => 0#8
  | b :: bs => b + byteSum bs

/-- The check byte after these bytes: it makes the byte sum zero (R194, R196). -/
def checkByte (bytes : List Byte) : Byte := 0#8 - byteSum bytes

/-- Bytes followed by their check byte. -/
def withCheck (bytes : List Byte) : List Byte := bytes ++ [checkByte bytes]

/-! ### Records (R158, R196) -/

/-- Byte `i` of a record. -/
def recordByte (r : TagRecord) (i : Nat) : Byte := r.extractLsb' (8 * i) 8

/-- The eight bytes of a record. -/
def recordBytes (r : TagRecord) : List Byte := (List.range 8).map (recordByte r)

/-- The record of eight bytes. -/
def recordOf (bytes : List Byte) : TagRecord := BitVec.ofNat 64 (fromLE bytes)

/-- The contents of a valid record (R158). -/
inductive TagItem where
  | rollA (rollId : Quad) (leader : Nat)
  | rollB (pitch gateOffset minMark gauge : Nat)
  | rollC (tDoc tBatch step : Nat)
  | zone (start step : Nat) (source : ZoneSource) (quality : Quality)
  | check (frame position : Nat) (cls : MarkClass)
  | endMark
  deriving DecidableEq, Repr

/-- A ROLL-B record's fields, in their ranges (R158). -/
def readRollB (pitch gUnits minUnits gauge : Nat) : Option TagItem :=
  if 500 ≤ pitch ∧ pitch ≤ 16000 ∧ 1 ≤ minUnits ∧ (gauge = 16 ∨ gauge = 35) then
    some (.rollB pitch (4 * gUnits) (4 * minUnits) gauge)
  else none

/-- A ROLL-C record's fields, in their ranges (R158). -/
def readRollC (tDoc tBatch step : Nat) : Option TagItem :=
  if 1 ≤ tDoc ∧ tDoc < tBatch ∧ step ≤ Config.maxStep then some (.rollC tDoc tBatch step) else none

/-- A ZONE record's fields, in their ranges (R158). -/
def readZone (start step : Nat) (source quality : Byte) : Option TagItem :=
  match decodeZoneSource source, decodeQuality quality with
  | some a, some q =>
    if 1 ≤ start ∧ start ≤ Config.maxFrames ∧ step ≤ Config.maxStep then some (.zone start step a q)
    else none
  | _, _ => none

/-- A CHECK record's fields, in their ranges (R158). -/
def readCheck (frame position : Nat) (cls : Byte) : Option TagItem :=
  match decodeClass cls with
  | some c => if 1 ≤ frame ∧ frame ≤ Config.maxFrames then some (.check frame position c) else none
  | none => none

/-- The contents of a record; none where it is invalid (R158, R196). -/
def readRecord (r : TagRecord) : Option TagItem :=
  let b := recordByte r
  let n2 (i : Nat) : Nat := fromLE [b i, b (i + 1)]
  if b 0 = 0xFF#8 then some .endMark
  else if byteSum (recordBytes r) ≠ 0#8 then none
  else if b 0 = 0x01#8 then some (.rollA (r.extractLsb' 8 32) (64 * n2 5))
  else if b 0 = 0x02#8 then readRollB (n2 1) (n2 3) (b 5).toNat (b 6).toNat
  else if b 0 = 0x03#8 then readRollC (n2 1) (n2 3) (n2 5)
  else if b 0 = 0x10#8 then readZone (n2 1) (n2 3) (b 5) (b 6)
  else if b 0 = 0x20#8 then readCheck (n2 1) (fromLE [b 3, b 4, b 5]) (b 6)
  else none

/-- The END record: eight bytes of FFh (R196). -/
def endRecord : TagRecord := 0xFFFFFFFFFFFFFFFF#64

/-- The code of a class (R195). -/
def classCode : MarkClass → Byte
  | .image => 0x00#8
  | .document => 0x01#8
  | .batch => 0x02#8

/-- The code of a zone source (R195). -/
def zoneSourceCode : ZoneSource → Byte
  | .tag => 0x00#8
  | .sweep => 0x01#8
  | .set => 0x02#8

/-- The code of a quality (R195). -/
def qualityCode : Quality → Byte
  | .good => 0x00#8
  | .edge => 0x01#8

/-- The ROLL-A record of a profile (R170, R196). -/
def rollARecord (p : Profile) : TagRecord :=
  recordOf (withCheck ([0x01#8] ++ le4 p.rollId.toNat ++ le2 (p.leader / 64)))

/-- The ROLL-B record of a profile (R170, R196). -/
def rollBRecord (p : Profile) : TagRecord :=
  recordOf (withCheck ([0x02#8] ++ le2 p.pitch ++ le2 (p.gateOffset / 4) ++ le1 (p.minMark / 4) ++ le1 p.gauge))

/-- The ROLL-C record of a profile (R170, R196). -/
def rollCRecord (p : Profile) : TagRecord :=
  recordOf (withCheck ([0x03#8] ++ le2 p.tDoc ++ le2 p.tBatch ++ le2 p.defaultStep))

/-- The ZONE record of a zone (R168, R196). -/
def zoneRecord (z : Zone) : TagRecord :=
  recordOf (withCheck ([0x10#8] ++ le2 z.start ++ le2 z.step ++ [zoneSourceCode z.source, qualityCode z.quality]))

/-- A CHECK record (R168, R196). -/
def checkRecord (frame position : Nat) (cls : MarkClass) : TagRecord :=
  recordOf (withCheck ([0x20#8] ++ le2 frame ++ le3 position ++ [classCode cls]))

/-! ### The list of a write-back (R168 to R170) -/

/-- The index candidates among entries, numbered from frame `k` on: OBSERVED ones whose frame is a multiple of
`interval` (R168). -/
def indexCandidates (interval : Nat) : Nat → List Entry → List (Nat × TagRecord)
  | _, [] => []
  | k, e :: es =>
    if e.source = .observed ∧ k % interval = 0 then
      (k, checkRecord k e.position e.cls) :: indexCandidates interval (k + 1) es
    else indexCandidates interval (k + 1) es

/-- The kept candidates: the checkpoints beyond the index that are not DIVERGED (R168). -/
def keptCandidates (extent : Nat) (cs : List Checkpoint) : List TagRecord :=
  (cs.filter (fun c => decide (extent < c.frame) && c.state != .diverged)).map
    (fun c => checkRecord c.frame c.position c.cls)

/-- The index candidates thinned by doubling the multiple until they fit beside `kept` others (R169). The
multiple passes E within `fuel` doublings. -/
def thin : Nat → Nat → Nat → List (Nat × TagRecord) → List (Nat × TagRecord)
  | 0, _, _, l => l
  | fuel + 1, interval, kept, l =>
    if l.length + kept ≤ Config.maxCheckpoints then l
    else thin fuel (2 * interval) kept (l.filter (fun x => x.1 % (2 * interval) == 0))

/-- The zone and check records of a write-back, in order (R168, R169). -/
def State.writeList (s : State) : List TagRecord :=
  let kept := keptCandidates s.extent s.index.checkpoints
  let found := indexCandidates s.params.checkInterval 1 s.index.entries
  s.zones.map zoneRecord ++ (thin 16 s.params.checkInterval kept.length found).map (·.2) ++ kept

/-- Records numbered from `n` on. -/
def numbered : Nat → List TagRecord → List (Nat × TagRecord)
  | _, [] => []
  | n, r :: rs => (n, r) :: numbered (n + 1) rs

/-- The writes of the zone and check records, in order (R170, steps 1 to 3). -/
def listWrites : List TagRecord → List (Nat × TagRecord)
  | [] => [(3, endRecord)]
  | r :: rs => [(3, endRecord)] ++ numbered 4 (rs ++ [endRecord]) ++ [(3, r)]

/-- The writes of a write-back, in order (R170). They are fixed when the writes begin, step 4's condition and the profile it writes
among them (log 67). -/
def State.writes (s : State) : List (Nat × TagRecord) :=
  listWrites s.writeList ++
    (if s.roll.modified = true ∨ s.tag.rollValid = false then
      [(0, rollARecord s.roll.active), (1, rollBRecord s.roll.active), (2, rollCRecord s.roll.active)]
    else [])

end Sys2Proof.Machine
end

