-- ==== Sys2Proof/Machine/Answers.lean ====
section
/-! DEFINITION. The bytes of an answer frame (R194, R195, The STATUS record, The index entry record, The segment outcome
record). Where the manual gives no layout or no code for an absent field, log 21 says what is written. -/

namespace Sys2Proof.Machine

open Sys2Proof

/-! ### Codes of enumerations (R195) -/

/-- Yes or no. -/
def yesNo (b : Bool) : Byte := if b then 0x01#8 else 0x00#8

/-- A link, or FFh where it is absent. -/
def linkCode : Option Link → Byte
  | some .a => 0x00#8
  | some .b => 0x01#8
  | none => 0xFF#8

/-- A direction. -/
def directionCode : Direction → Byte
  | .forward => 0x00#8
  | .reverse => 0x01#8

/-- The confidence level. -/
def levelCode : Level → Byte
  | .locked => 0x00#8
  | .drifting => 0x01#8
  | .lost => 0x02#8

/-- A source. -/
def sourceCode : Source → Byte
  | .observed => 0x00#8
  | .filled => 0x01#8
  | .imported => 0x02#8

/-- A capture state. -/
def captureCode : Capture → Byte
  | .none => 0x00#8
  | .triggered => 0x01#8
  | .captured => 0x02#8
  | .failed => 0x03#8

/-- The closure reason, or FFh while OPEN. -/
def closureCode : Option Closure → Byte
  | some .trailer => 0x00#8
  | some .capacity => 0x01#8
  | none => 0xFF#8

/-- A transport state. -/
def transportCode : TState → Byte
  | .empty => 0x00#8
  | .threading => 0x01#8
  | .parked => 0x02#8
  | .standby => 0x03#8
  | .waking => 0x04#8
  | .moving => 0x05#8
  | .settling => 0x06#8
  | .settled => 0x07#8
  | .recovering => 0x08#8
  | .rewinding => 0x09#8
  | .faulted => 0x0A#8

/-- A fault kind. -/
def faultCode : FaultKind → Byte
  | .none => 0x00#8
  | .jam => 0x01#8
  | .door => 0x02#8
  | .tension => 0x03#8
  | .threadFail => 0x04#8
  | .leaderLost => 0x05#8
  | .cartridge => 0x06#8
  | .overrun => 0x07#8

/-- A lamp state. -/
def lampCode : LampState → Byte
  | .off => 0x00#8
  | .warming => 0x01#8
  | .on => 0x02#8
  | .failed => 0x03#8

/-- A focus status. -/
def focusCode : FocusStatus → Byte
  | .homing => 0x00#8
  | .ready => 0x01#8
  | .fault => 0x02#8

/-- A sweep state; IDLE where there is no active sweep. -/
def sweepCode : Option SweepState → Byte
  | none => 0x00#8
  | some .queued => 0x01#8
  | some .travelling => 0x02#8
  | some .movingLens => 0x03#8
  | some .awaitingScore => 0x04#8

/-- A sweep result. -/
def sweepResultCode : SweepResult → Byte
  | .fitted => 0x00#8
  | .atLimit => 0x01#8
  | .lowContrast => 0x02#8
  | .timeout => 0x03#8
  | .cancelled => 0x04#8
  | .focusFail => 0x05#8
  | .dark => 0x06#8
  | .endOfFilm => 0x07#8
  | .noFrame => 0x08#8

/-- A store outcome. -/
def storeCode : StoreOutcome → Byte
  | .stored => 0x00#8
  | .notStored => 0x01#8
  | .notAsked => 0x02#8

/-- A slot state. -/
def slotCode : SlotState → Byte
  | .free => 0x00#8
  | .pending => 0x01#8
  | .resolving => 0x02#8
  | .travelling => 0x03#8
  | .presenting => 0x04#8
  | .done => 0x05#8

/-- A result code. -/
def resultCode : ResultCode → Byte
  | .released => 0x00#8
  | .holdExpired => 0x01#8
  | .snapped => 0x02#8
  | .dark => 0x03#8
  | .notFound => 0x04#8
  | .cancelled => 0x05#8
  | .fault => 0x06#8
  | .unloaded => 0x07#8

/-- The action of a retrieval. -/
def actionCode : SlotAction → Byte
  | .present => 0x00#8
  | .snap => 0x01#8

/-- A priority. -/
def priorityCode : Priority → Byte
  | .normal => 0x00#8
  | .urgent => 0x01#8

/-- A pass state. -/
def passCode : PassState → Byte
  | .idle => 0x00#8
  | .running => 0x01#8
  | .yielding => 0x02#8
  | .suspended => 0x03#8

/-- A pass mode, or a free byte where it is absent (log 21). -/
def modeCode : Option PassMode → Byte
  | some .step => 0x00#8
  | some .fly => 0x01#8
  | none => Config.absentCode .passMode

/-- The work of a pass. -/
def workCode : Work → Byte
  | .none => 0x00#8
  | .seeking => 0x01#8
  | .sweeping => 0x02#8
  | .approaching => 0x03#8
  | .awaitingCapture => 0x04#8
  | .runningFly => 0x05#8
  | .stopping => 0x06#8

/-- A pending request. -/
def pendingCode : PendingRequest → Byte
  | .none => 0x00#8
  | .suspend => 0x01#8
  | .abort => 0x02#8

/-- The outcome of a pass, or a free byte where there is none (log 21). -/
def outcomeCode : Option PassOutcome → Byte
  | some .completed => 0x00#8
  | some (.stopped _ _) => 0x01#8
  | some .aborted => 0x02#8
  | some .fault => 0x03#8
  | some .lamp => 0x04#8
  | none => Config.absentCode .passOutcome

/-- The class a pass was stopped by, or a free byte (log 21). -/
def stoppedClassCode : Option PassOutcome → Byte
  | some (.stopped c _) => BitVec.ofNat 8 c.bit
  | _ => Config.absentCode .passClass

/-- The frame a pass was stopped at, 0 where absent. -/
def stoppedFrame : Option PassOutcome → Nat
  | some (.stopped _ k) => k
  | _ => 0

/-- The state of a segment outcome record. -/
def segmentStateCode : SegState → Byte
  | .notRun => 0x00#8
  | .running => 0x01#8
  | .done => 0x02#8
  | .stopped => 0x03#8
  | .aborted => 0x04#8

/-- A tag status. -/
def tagCode : TagStatus → Byte
  | .none => 0x00#8
  | .reading => 0x01#8
  | .valid => 0x02#8
  | .degraded => 0x03#8
  | .absent => 0x04#8
  | .failed => 0x05#8

/-- A bus state. -/
def busCode : BusState → Byte
  | .running => 0x00#8
  | .recovering => 0x01#8
  | .failed => 0x02#8

/-- A reason of TRANSPORT, or a free byte where the flag is clear (log 21). -/
def transportReasonCode : Option TransportReason → Byte
  | some .drift => 0x00#8
  | some .fault => 0x01#8
  | some .aux => 0x02#8
  | none => Config.absentCode .flagReason

/-- A reason of INDEX, or a free byte where the flag is clear (log 21). -/
def indexReasonCode : Option IndexReason → Byte
  | some .closed => 0x00#8
  | some .renumbered => 0x01#8
  | some .cleared => 0x02#8
  | some .diverge => 0x03#8
  | none => Config.absentCode .flagReason

/-- A reason of TAG, or a free byte where the flag is clear (log 21). -/
def tagReasonCode : Option TagReason → Byte
  | some .loaded => 0x00#8
  | some .writeFailed => 0x01#8
  | none => Config.absentCode .flagReason

/-- A flag clear mode. -/
def clearModeCode : ClearMode → Byte
  | .clearOnRead => 0x00#8
  | .writeOne => 0x01#8

/-- An answer code (11, Answer codes). -/
def answerCode : AnswerCode → Byte
  | .ok => 0x00#8
  | .accepted => 0x01#8
  | .busy => 0x02#8
  | .full => 0x03#8
  | .range => 0x04#8
  | .state => 0x05#8
  | .owner => 0x06#8
  | .noTag => 0x07#8
  | .dupTag => 0x08#8
  | .tooLate => 0x09#8
  | .stale => 0x0A#8
  | .mismatch => 0x0B#8
  | .malformed => 0x0C#8
  | .noRoll => 0x0D#8

/-! ### Fields -/

/-- An optional frame, 0 where absent (R195). -/
def frameBytes (k : Option Nat) : List Byte := le2 (k.getD 0)

/-- An optional step, FFFFh where absent (R195). -/
def stepBytes (k : Option Nat) : List Byte := le2 (k.getD 0xFFFF)

/-- An optional coordinate; free bytes where absent (log 21). -/
def positionBytes : Option Nat → List Byte
  | some p => le3 p
  | none => [Config.absentCode (.position 0), Config.absentCode (.position 1), Config.absentCode (.position 2)]

/-- An optional mark length; free bytes where absent (log 21). -/
def lengthBytes : Option Nat → List Byte
  | some n => le2 n
  | none => [Config.absentCode (.markLength 0), Config.absentCode (.markLength 1)]

/-- An optional number in one byte; a free byte where absent (log 21). -/
def orFree (f : Config.AbsentField) : Option Nat → List Byte
  | some n => le1 n
  | none => [Config.absentCode f]

/-- A flag set or a flag mask: two bytes (11, Request codes). -/
def flagSetBytes (b : BitVec 11) : List Byte := le2 b.toNat

/-- Sixty-four inputs in eight bytes. -/
def inputBytes (x : Inputs) : List Byte := recordBytes x

/-- The flags of an entry as bits 0 to 4 (R195). -/
def entryFlagsCode (f : EntryFlags) : Byte :=
  (if f.splice then 0x01#8 else 0#8) ||| (if f.gap then 0x02#8 else 0#8) |||
  (if f.strayNear then 0x04#8 else 0#8) ||| (if f.classDoubt then 0x08#8 else 0#8) |||
  (if f.verified then 0x10#8 else 0#8)

/-- The three bytes of the holder in STATUS: kind, link, tag or sweep id (The STATUS record). -/
def holderBytes : Option Holder → List Byte
  | none => [0x00#8, 0xFF#8, 0x00#8]
  | some (.retrieval l t) => [0x01#8, linkCode (some l), t]
  | some (.pass l) => [0x02#8, linkCode (some l), 0x00#8]
  | some (.sweep l n) => [0x03#8, linkCode (some l), BitVec.ofNat 8 n]

/-- The 34 bytes of STATUS (The STATUS record). -/
def statusBytes (r : StatusReport) : List Byte :=
  [transportCode r.transport, faultCode r.fault] ++ holderBytes r.holder ++ frameBytes r.gateFrame ++
  le3 r.register ++ [directionCode r.direction, levelCode r.level, yesNo r.discovery,
    yesNo r.closure.isSome, closureCode r.closure] ++ le2 r.extent ++ le3 r.pitchQ ++
  [lampCode r.lamp, passCode r.pass, linkCode r.passOwner, sweepCode r.sweep] ++
  le1 (r.sweepId.getD 0) ++ le1 (r.sweepPoint.getD 0xFF) ++ [tagCode r.tag] ++ le4 r.rollId.toNat ++
  le2 r.focusPosition ++ [focusCode r.focusStatus]

/-- The 21 bytes of an index entry (The index entry record). -/
def entryBytes (row : Nat × Entry) : List Byte :=
  let e := row.2
  le2 row.1 ++ le3 e.position ++ [sourceCode e.source, classCode e.cls, yesNo e.length.isSome] ++
  lengthBytes e.length ++ le2 e.triple.batch ++ le2 e.triple.document ++ le2 e.triple.page ++
  [entryFlagsCode e.flags, captureCode e.capture] ++ le1 e.captureCount ++ stepBytes e.focusStep

/-- The values of a slot's result: the code, the frame, the position and the step (R117, R134, R135). -/
def slotResultBytes : Option SlotResult → List Byte
  | some r => [resultCode r.code] ++ frameBytes r.frame ++ positionBytes r.position ++ stepBytes r.focusStep
  | none => [Config.absentCode .slotResult] ++ frameBytes none ++ positionBytes none ++ stepBytes none

/-- The four value bytes that a FRAME or RELATIVE target leaves unused; free in an answer (log 21). -/
def unusedTargetBytes : List Byte :=
  [Config.absentCode (.targetValue 0), Config.absentCode (.targetValue 1), Config.absentCode (.targetValue 2),
    Config.absentCode (.targetValue 3)]

/-- A slot's target in the seven bytes of a target (11, Request codes). -/
def slotTargetBytes : SlotTarget → List Byte
  | .frame k => [0x00#8] ++ le2 k ++ unusedTargetBytes
  | .address b d p => [0x01#8] ++ le2 b ++ le2 d ++ le2 p
  | .relativeFrame k => [0x02#8] ++ le2 k ++ unusedTargetBytes

/-- What QUERY answers (R134). -/
def slotBytes (r : SlotReport) : List Byte :=
  [slotCode r.state] ++ slotTargetBytes r.target ++ frameBytes r.frame ++
  [actionCode r.action, priorityCode r.priority] ++ le1 r.hold ++ orFree .holdRemaining r.holdRemaining ++
  le4 r.sequence.toNat ++ le1 r.skip ++ slotResultBytes r.result

/-- The 13 bytes of a segment outcome record (The segment outcome record). -/
def segmentBytes : Option SegOutcome → List Byte
  | some o =>
    [segmentStateCode o.state] ++ le2 o.visited ++ le2 o.captured ++ le1 o.faults.captureFail ++
    le1 o.faults.captureTimeout ++ le1 o.faults.missedMark ++ le1 o.faults.gap ++ le1 o.faults.focusFail ++
    le1 o.faults.splice ++ frameBytes o.firstFault
  | none => 0xFF#8 :: List.replicate 12 0x00#8

/-- The last-pass outcome (R156, R157). -/
def lastPassBytes (r : Option LastPass) : List Byte :=
  let o := r.map (·.outcome)
  [outcomeCode o, stoppedClassCode o] ++ le2 (stoppedFrame o) ++ [linkCode (r.map (·.owner)),
    modeCode (r.map (·.mode))] ++ orFree .yieldCount (r.map (·.yieldCount)) ++
  frameBytes (r.bind (·.lastTriggered)) ++ frameBytes (r.bind (·.timedOut))

/-- What PASS REPORT answers (R157). An absent current segment is an absent ordinal, FFh (R195). -/
def passBytes (r : PassReport) : List Byte :=
  [passCode r.state, linkCode r.owner, modeCode r.modeRequested, modeCode r.mode] ++
  orFree .segmentCount r.segmentCount ++ le1 (r.current.getD 0xFF) ++ frameBytes r.resume ++
  frameBytes r.frameInHand ++ [workCode r.work, pendingCode r.pending] ++ le1 r.yieldCount ++
  le1 r.framesSinceYield ++ lastPassBytes r.last ++ segmentBytes r.segment

/-- A zone as ZONE READ gives it (R104). -/
def zoneBytes (z : Zone) : List Byte :=
  le2 z.start ++ le2 z.step ++ [zoneSourceCode z.source, qualityCode z.quality]

/-- The quality of a sweep result, or a free byte (log 21). -/
def optQualityCode : Option Quality → Byte
  | some q => qualityCode q
  | none => Config.absentCode .quality

/-- The last sweep result record (R105); the scores follow their number. -/
def sweepBytes : Option SweepReport → List Byte
  | some r =>
    le1 r.id ++ le2 r.frame ++ [linkCode (some r.link), sweepResultCode r.result] ++ stepBytes r.step ++
    [optQualityCode r.quality, storeCode r.store] ++ le1 r.scores.length ++ r.scores.flatMap le2 ++
    le1 (r.timedOutPoint.getD 0xFF)
  | none =>
    le1 0 ++ le2 0 ++ [linkCode none, Config.absentCode .sweepResult] ++ stepBytes none ++
    [Config.absentCode .quality, Config.absentCode .storeOutcome] ++ le1 0 ++ le1 0xFF

/-- What READ SENSORS answers (R178): the values, the quality of each byte, the latches, the bus and the count. -/
def sensorBytes (r : SensorReport) : List Byte :=
  inputBytes r.values ++ (List.range 8).map (fun b => yesNo (r.stale.getLsbD b)) ++ inputBytes r.latches ++
  [busCode r.bus] ++ le1 r.faults

/-- What READ FLAGS answers (R188). -/
def flagBytes (r : FlagReport) : List Byte :=
  flagSetBytes r.flags.bits ++ [transportReasonCode r.flags.transport, indexReasonCode r.flags.index,
    tagReasonCode r.flags.tag] ++
  flagSetBytes (derivedBits r.result r.frameReady r.scoreWanted r.sensor) ++ flagSetBytes r.mask ++
  [clearModeCode r.mode, yesNo r.suppressed, yesNo r.notice]

/-- The outcome byte of a RESOLVE, which stands before what R18 lists of a found target (log 21). -/
def resolutionCode : Resolution → Byte
  | .found _ => 0x00#8
  | .beyond => 0x01#8
  | .absent => 0x02#8

/-- The bytes of an answer's contents (R195). RESOLVE's begin with an outcome byte, 00h for a found target (log 21). -/
def contentBytes : Contents → List Byte
  | .empty => []
  | .number 1 v => le1 v
  | .number 2 v => le2 v
  | .number _ v => le4 v
  | .status r => statusBytes r
  | .entries atEnd rows => le1 rows.length ++ [yesNo atEnd] ++ rows.flatMap entryBytes
  | .resolution r => [resolutionCode r]
  | .resolved k p g c t =>
    [0x00#8] ++ le2 k ++ le3 p ++ le3 g ++ [classCode c] ++ le2 t.batch ++ le2 t.document ++ le2 t.page
  | .slot r => slotBytes r
  | .result t r => [t] ++ slotResultBytes (some r)
  | .pass r => passBytes r
  | .zones n rows last => le1 n ++ rows.flatMap zoneBytes ++ sweepBytes last
  | .sensors r => sensorBytes r
  | .flags r => flagBytes r
  | .flagSet f => flagSetBytes f.bits

/-- The answer frame (Request and answer frames, R194). -/
def answerFrame (a : Answer) : List Byte :=
  let c := contentBytes a.contents
  withCheck ([answerCode a.code, a.request] ++ le1 c.length ++ c)

/-- The byte shifted out at a place of a transfer: the pending answer's frame, then FFh (R194). -/
def shiftedOut (s : State) (l : Link) (place : Nat) : Byte :=
  (answerFrame (s.link l).answer).getD place 0xFF#8

end Sys2Proof.Machine
end

