-- ==== Sys2Proof/Machine/Motion.lean ====
section
/-! DEFINITION. Moves: plans, legs, arrival, stops, stalls and the sensors that end legs (R50 to R69). -/

namespace Sys2Proof.Machine

open Sys2Proof

/-! ### Confidence (R4) -/

/-- The level is set, and both counts with it; LOST discards the mark in progress (R4, R28). -/
def setLevel (x : Level) (s : State) : State :=
  let s1 := { s with tracker := { s.tracker with level := x, good := 0, miss := 0 } }
  if x = .lost then discardMark s1 else s1

/-- A retried move that succeeds makes a LOCKED level DRIFTING (R64). Retried is a move whose attempt count is not 0, also one
stopped in its first back-off (log 66). -/
def retrySucceeded (m : Move) (s : State) : State :=
  if m.attempts ≠ 0 ∧ s.tracker.level = .locked then setLevel .drifting s else s

/-! ### Plans (R52, R53, R61, R62, R66) -/

/-- The target coordinate of a FRAME move and whether it is clamped at the trailer; none where the gate
coordinate lies beyond the register's range, or the frame is not in the index (R52). -/
def frameTarget (s : State) (k : Nat) : Option (Nat × Bool) :=
  match s.entry k with
  | none => none
  | some e =>
    let g := e.position + s.roll.active.gateOffset
    if g > Config.maxCoord - s.params.arriveTol then none
    else match s.index.trailer with
      | some t => if g > t then some (t, true) else some (g, false)
      | none => some (g, false)

/-- The final CREEP leg of a FRAME move (R53). -/
def finalLeg : Leg := { direction := .forward, cls := .creep, stop := .target }

/-- A leg to a coordinate. -/
def legTo (d : Direction) (c : SpeedClass) (coord : Nat) : Leg :=
  { direction := d, cls := c, stop := .coord coord }

/-- The speed plan of a FRAME move to target `t` (R53). -/
def framePlan (s : State) (t : Nat) : List Leg :=
  let r := s.tracker.register
  let dist := s.params.approachDist
  let f := s.frontier
  if r + dist < t then
    let c := t - dist
    (if r < min c f then [legTo .forward .shuttle (min c f)] else []) ++
    (if r < c ∧ f < c then [legTo .forward .index c] else []) ++ [finalLeg]
  else [legTo .reverse .shuttle (t - dist), finalLeg]

/-- The open forward leg at INDEX speed (R61, R62). -/
def openIndexLeg : Leg := { direction := .forward, cls := .index, stop := .unbounded }

/-- The speed plan of a DISCOVER move (R61). -/
def discoverPlan (s : State) : List Leg :=
  let r := s.tracker.register
  let c := s.frontier - s.params.approachDist
  if s.frontier < r then [legTo .reverse .shuttle c, openIndexLeg]
  else if r + s.params.approachDist ≤ s.frontier then [legTo .forward .shuttle c, openIndexLeg]
  else [openIndexLeg]

/-- The speed plan of a FLY-RUN move with run-up `u` and optional end `z` (R62). -/
def flyPlan (s : State) (u : Nat) (z : Option Nat) : List Leg :=
  let run : Leg := match z with
    | some c => legTo .forward .index c
    | none => openIndexLeg
  if s.tracker.register ≤ u then
    legTo .forward .shuttle (min u s.frontier) ::
      ((if s.frontier < u then [legTo .forward .index u] else []) ++ [run])
  else [legTo .reverse .shuttle u, run]

/-- The speed plan of a HOME move, from the reading of LEADER_IN (R66). -/
def homePlan (s : State) : List Leg :=
  let creep : Leg := { direction := .forward, cls := .creep, stop := .leaderReads .film }
  match s.transport.leaderIn with
  | .film => [{ direction := .reverse, cls := .shuttle, stop := .leaderReads .leader }, creep]
  | .leader => [creep]

/-- The plan a move makes at its start and at each replanning; none where a FRAME move ends at once (R52). -/
def planFor (s : State) (m : Move) : Option (List Leg) :=
  match m.purpose with
  | .frame =>
    match frameTarget s (m.frame.getD 0) with
    | some (t, _) => some (framePlan s t)
    | none => none
  | .discover => some (discoverPlan s)
  | .flyRun => some (flyPlan s m.runUp m.runEnd)
  | .home => some (homePlan s)
  | .rewind => some [{ direction := .reverse, cls := .shuttle, stop := .unbounded }]

/-! ### Stopping the drive -/

/-- The drive is stopped to bring the film to rest, after which `a` is done; the stall timer stops (R63). What waits for rest waits
for FILM_AT_REST, also where the film stands already, as it does at a stall (R64, log 71). -/
def pauseFor (a : RestAction) (s : State) : State :=
  let s1 := { s with transport := { s.transport with capstan := none, stallTimer := none } }
  onMove (fun m => { m with finalApproach := false, atRest := some a }) s1

/-- The move stops and ends with this outcome at rest: the phase becomes STOPPING and the legs still to run
are dropped (R59, R60, R68). The outcome waits for FILM_AT_REST, also where the film stands already (log 71). -/
def stopFor (o : MoveOutcome) (s : State) : State :=
  let s1 := { s with transport := { s.transport with capstan := none, stallTimer := none } }
  onMove (fun m => { m with finalApproach := false, phase := .stopping, plan := [], aside := [],
                            atRest := some (.finish o) }) s1

/-- The move ends, with the film at rest: the record is removed, the state becomes PARKED and the outcome
goes to the holder (R51, R59, R64). -/
def finishMove (o : MoveOutcome) (s : State) : State :=
  match s.transport.move with
  | none => s
  | some m =>
    let s1 := if (m.purpose = .discover ∨ m.purpose = .flyRun) ∧ (o = .arrived ∨ o = .stopped)
      then retrySucceeded m s else s
    enterState .parked
      (emit (.moveDone o)
        { s1 with transport := { s1.transport with
            move := none, stallTimer := none, settleTimer := none, gateReady := false, capstan := none } })

/-! ### Arrival (R54, R55) -/

/-- Arrival in the final leg: SETTLING with the settle timer, or for a clamped move the stop at the trailer
(R55, R68); a retried move has then succeeded (R64). -/
def arrive (s : State) : State :=
  match s.transport.move with
  | none => s
  | some m =>
    let s1 := retrySucceeded m s
    if m.clamped then stopFor .endOfFilm s1
    else
      let s2 := onMove (fun x => { x with finalApproach := false, settleTaken := false, atRest := none }) s1
      enterState .settling
        { s2 with transport := { s2.transport with
            capstan := none, stallTimer := none, settleTimer := some s2.params.settleTime,
            gateReady := false } }

/-- The register lies in the arrival band of target `t` (R54). -/
def inBand (s : State) (t : Nat) : Bool :=
  decide (t ≤ s.tracker.register + s.params.arriveTol) &&
    decide (s.tracker.register ≤ t + s.params.arriveTol)

/-- The start of a final CREEP leg (R52, R54): the target is computed again, the final-approach flag set,
the lens sent to the frame's step (R101), and arrival or a passed target taken where the register already shows it. A frame
that has come to lie beyond the register's range stops the move, which ends END_OF_FILM at rest (log 54). -/
def startFinal (prevForward : Bool) (s : State) : State :=
  match s.transport.move with
  | none => s
  | some m =>
    let k := m.frame.getD 0
    match frameTarget s k with
    | none => stopFor .endOfFilm s
    | some (t, clamped) =>
      let s1 := onMove (fun x => { x with target := some t, clamped := clamped, finalApproach := true,
                                          focusTaken := false }) s
      let s2 := setFocusTarget (s1.zoneStep k) (.approach k) s1
      if prevForward = true ∧ inBand s2 t = true then arrive s2
      else if t + s2.params.arriveTol < s2.tracker.register then pauseFor .replan s2
      else s2

/-! ### Legs (R51) -/

/-- A leg begins: the drive runs, a SHUTTLE leg discards the mark in progress (R28), and the stall timer
starts where the leg begins after rest (R63). -/
def beginLeg (g : Leg) (rest : List Leg) (afterRest : Bool) (s : State) : State :=
  let s1 := onMove (fun m => { m with leg := g, plan := rest, travel := 0, atRest := none,
                                      finalApproach := false }) s
  let s2 := { s1 with transport := { s1.transport with
      capstan := some g.direction,
      stallTimer := if afterRest then some s1.params.stallTime else s1.transport.stallTimer } }
  if g.cls = .shuttle then discardMark s2 else s2

/-- A leg begins, with what its kind adds: a final leg's start (R54), or the run of a FLY-RUN, in which the pass
arms its triggers (R62, R148). -/
def takeLeg (g : Leg) (rest : List Leg) (afterRest prevForward : Bool) (s : State) : State :=
  let s1 := beginLeg g rest afterRest s
  if g.stop = .target then startFinal prevForward s1
  else if rest = [] then
    match s1.transport.move with
    | some m => if m.purpose = .flyRun then emit .passArm s1 else s1
    | none => s1
  else s1

/-- The next leg of the plan begins after rest. -/
def nextLegAfterRest (s : State) : State :=
  match s.transport.move with
  | none => s
  | some m =>
    match m.plan with
    | [] => s
    | g :: rest => takeLeg g rest true false s

/-- A plan begins after rest. -/
def beginPlan (plan : List Leg) (s : State) : State :=
  match plan with
  | [] => s
  | g :: rest => takeLeg g rest true false s

/-- The target coordinate the record shows, computed at the start of the move and at each replanning (R50, R52). -/
def withTarget (s : State) (m : Move) : Move :=
  match m.purpose with
  | .frame =>
    match frameTarget s (m.frame.getD 0) with
    | some (t, c) => { m with target := some t, clamped := c }
    | none => m
  | .flyRun => { m with target := m.runEnd }
  | _ => m

/-- The move is replanned, with the film at rest, by the rule of its purpose, and its target is computed again (R52, R54,
R64). A frame that has come to lie beyond the register's range ends the move there, END_OF_FILM (log 54). -/
def replan (s : State) : State :=
  match s.transport.move with
  | none => s
  | some m =>
    match planFor s m with
    | none => finishMove .endOfFilm s
    | some plan => beginPlan plan (onMove (withTarget s) s)

/-- The running leg has reached its end (R51). A FLY-RUN that comes to rest after its last leg is STOPPING, though nothing has asked
for a stop (log 72). -/
def legEnded (s : State) : State :=
  match s.transport.move with
  | none => s
  | some m =>
    match m.plan with
    | [] => stopFor .arrived s
    | g :: rest =>
      if g.direction = m.leg.direction then
        takeLeg g rest false (decide (m.leg.direction = .forward)) s
      else pauseFor .nextLeg s

/-- The last leg of a FLY-RUN or the open leg of a DISCOVER, in which a recorded trailer coordinate ends
the move (R61, R62). -/
def isOpenRun (m : Move) : Bool :=
  (m.purpose == .discover || m.purpose == .flyRun) && m.plan.isEmpty

/-- The register is looked at, at an encoder count (`ev` its direction) or at a slip correction (`ev`
none), by the running leg (R51, R54, R61, R62). A recorded trailer coordinate is looked at before the end coordinate of a
FLY-RUN (log 55). After arrival the flag is cleared: a correction in SETTLING that leaves the register out of the band
lets the settle run on (log 64). -/
def motionCheck (ev : Option Direction) (s : State) : State :=
  match s.runningLeg, s.transport.move with
  | some g, some m =>
    let r := s.tracker.register
    if m.finalApproach then
      let t := m.target.getD 0
      if inBand s t = true ∧ ev ≠ some .reverse then arrive s
      else if t + s.params.arriveTol < r then pauseFor .replan s
      else s
    else if s.transport.state = .moving ∧ isOpenRun m = true ∧
        (match s.index.trailer with
          | some t => decide (t ≤ r)
          | none => false) = true then stopFor .endOfFilm s
    else match g.stop with
      | .coord c =>
        match g.direction with
        | .forward => if c ≤ r then legEnded s else s
        | .reverse => if r ≤ c then legEnded s else s
      | _ => s
  | _, _ => s

/-! ### Starting a move (R50) -/

/-- A move record before its first leg (R50). -/
def newMove (purpose : Purpose) (frame : Option Nat) (runUp : Nat) (runEnd : Option Nat) : Move :=
  { purpose := purpose, frame := frame, target := none, clamped := false, leg := finalLeg, plan := [],
    aside := [], finalApproach := false, phase := .running, attempts := 0, travel := 0, runUp := runUp,
    runEnd := runEnd, atRest := none, settleTaken := false, focusTaken := false }

/-- A granted move begins from PARKED (R50). In the order of log 9: with the level LOST only a HOME move is
begun; a FRAME move beyond the register's range ends without motion (R52); an open door or a tension out of band
faults the transport in place of the first leg (R70). In any other state the grant is held. -/
def startMove (m : Move) (s : State) : State :=
  if s.transport.state ≠ .parked then s
  else if s.tracker.level = .lost ∧ m.purpose ≠ .home then emit (.moveDone .lost) s
  else match planFor s m with
    | none => emit (.moveDone .endOfFilm) s
    | some plan =>
      if s.doorClosed = false then enterFaulted .door s
      else if tensionOut s.poller.values = true then enterFaulted .tension s
      else
        let s1 := enterState .moving s
        beginPlan plan { s1 with transport := { s1.transport with move := some (withTarget s m) } }

/-! ### Stops (R59, R60) -/

/-- A stop asked for by a holder or by the scheduler, taken according to the transport state (R59). -/
def requestStop (s : State) : State :=
  match s.transport.state with
  | .moving =>
    match s.transport.move with
    | some m => if m.phase = .running then stopFor .stopped s else s
    | none => s
  | .recovering => stopFor .stopped (enterState .moving s)
  | .settling =>
    enterState .parked
      (emit (.moveDone .stopped)
        { s with transport := { s.transport with settleTimer := none, gateReady := false, move := none } })
  | .settled => freeGate s
  | .parked => if s.sched.grant = .none then s else endGrant s
  | .standby => if s.sched.grant = .none then s else endGrant s
  | .waking => if s.sched.grant = .none then s else endGrant s
  | _ => s

/-- The confidence becomes LOST (R46, R60): a FRAME, DISCOVER or FLY-RUN move in flight stops and ends LOST in
place of STOPPED, and the scheduler looks for work (R122). A move already coming to rest for END_OF_FILM keeps that outcome
(log 65). -/
def loseConfidence (s : State) : State :=
  let s1 := emit .choose (setLevel .lost s)
  match s1.transport.move with
  | none => s1
  | some m =>
    if m.purpose = .home ∨ m.purpose = .rewind then s1
    else match s1.transport.state with
      | .moving =>
        if m.phase = .running then stopFor .lost s1
        else if m.atRest = some (.finish .stopped) then stopFor .lost s1
        else s1
      | .recovering => stopFor .lost (enterState .moving s1)
      | _ => s1

/-! ### Stalls (R63 to R65) -/

/-- The back-off leg, opposite to the stalled leg (R64). -/
def backOffLeg (dist : Nat) (stalled : Leg) : Leg :=
  { direction := flipDirection stalled.direction, cls := .creep, stop := .travel dist }

/-- A stall (R64, R65). -/
def stalled (s : State) : State :=
  match s.transport.state with
  | .moving =>
    match s.transport.move with
    | none => s
    | some m =>
      if s.params.recoverTries ≤ m.attempts then enterFaulted .jam s
      else
        pauseFor .backOff
          (onMove (fun x => { x with attempts := x.attempts + 1, aside := x.leg :: x.plan, plan := [] })
            (enterState .recovering s))
  | .recovering => enterFaulted .jam s
  | .rewinding => enterFaulted .jam s
  | _ => s

/-- The back-off's travel is complete: it has counted its distance, or a reverse one stands at register 0
(R64, log 32). -/
def backOffDone (s : State) : Bool :=
  match s.transport.state, s.runningLeg, s.transport.move with
  | .recovering, some g, some m =>
    match g.stop with
    | .travel d =>
      decide (d ≤ m.travel) || (g.direction == .reverse && s.tracker.register == 0)
    | _ => false
  | _, _, _ => false

/-- A leg of a HOME move has counted 16,777,215 counts without its sensor condition (R66). -/
def leaderLost (s : State) : Bool :=
  match s.transport.state, s.runningLeg, s.transport.move with
  | .moving, some g, some m =>
    match g.stop with
    | .leaderReads _ => decide (Config.maxCoord ≤ m.travel)
    | _ => false
  | _, _, _ => false

/-! ### The film at rest (R51) -/

/-- No count has been taken for so long that the film is at rest (R51). -/
def filmStill (s : State) : State := { s with tracker := { s.tracker with inMotion := false } }

/-- What the move awaited rest for is done (R51, R54, R59, R64, R68). -/
def restTaken (s : State) : State :=
  match s.motionLeg, s.transport.move with
  | some g, some m =>
    match m.atRest with
    | none => s
    | some .nextLeg => nextLegAfterRest s
    | some .replan => replan s
    | some .backOff => beginLeg (backOffLeg s.params.recoverDist g) [] true s
    | some .retry =>
      replan (onMove (fun x => { x with aside := [] }) (enterState .moving s))
    | some (.finish o) => finishMove o s
  | _, _ => s

/-- The film has come to rest, in a move or in a coast of its own (R51). -/
def filmRested (s : State) : State := restTaken (filmStill s)

/-! ### Encoder counts (R1, R28, R63, R69, R75) -/

/-- The register and the direction after one count (R1); the film is in motion (R51). -/
def countRegister (d : Direction) (s : State) : State :=
  { s with tracker := { s.tracker with
      direction := d,
      inMotion := true,
      register := match d with
        | .forward => min Config.maxCoord (s.tracker.register + 1)
        | .reverse => s.tracker.register - 1 } }

/-- The film can move forward in these states (R69). -/
def TState.canOverrun : TState → Bool
  | .moving => true
  | .recovering => true
  | .threading => true
  | .settling => true
  | .settled => true
  | _ => false

/-- The travel count and the stall timer after a count (R50, R63): both follow the running leg's direction. -/
def countTravel (d : Direction) (s : State) : State :=
  match s.transport.move with
  | none => s
  | some m =>
    if m.leg.direction = d then
      let s1 := onMove (fun x => { x with travel := x.travel + 1 }) s
      { s1 with transport := { s1.transport with
          stallTimer := s1.transport.stallTimer.map (fun _ => s1.params.stallTime) } }
    else s

/-- A preview pulse is due: a forward count to exactly a frame's gate coordinate, in a running INDEX leg of a
move that is not a FLY-RUN, with the lamp ON (R75). -/
def previewDue (d : Direction) (s : State) : Bool :=
  s.params.gatePreview && d == .forward && s.lamp.state == .on &&
    (match s.runningLeg, s.transport.move with
      | some g, some m => g.cls == .index && m.purpose != .flyRun
      | _, _ => false) &&
    s.index.entries.any (fun e => e.position + s.roll.active.gateOffset == s.tracker.register)

/-- A forward count brings the register to the end of its range in a state in which the film can move
forward (R69). -/
def overruns (d : Direction) (s : State) : Bool :=
  d == .forward && s.tracker.register + 1 == Config.maxCoord && s.transport.state.canOverrun

/-- One encoder count up to the judgement of the running leg (R1): the register and the direction; a reverse count
discards the mark (R28); then the travel count, the stall timer and a preview pulse (R63, R75), judged by the leg that ran up to
this count (log 53). -/
def countTaken (d : Direction) (s : State) : State :=
  let s1 := countRegister d s
  let s2 := if d = .reverse then discardMark s1 else s1
  let s3 := countTravel d s2
  if previewDue d s3 then givePulse s3 else s3

/-! ### LEADER_IN and TRAILER_IN (R66, R67, R68) -/

/-- The register is set to 0 at the leader reference edge and the confidence becomes LOCKED; the mark in
progress is discarded (R3, R5, R28). -/
def zeroAtLeader (s : State) : State :=
  let s1 := setLevel .locked s
  discardMark { s1 with tracker := { s1.tracker with register := 0 } }

/-- A change of LEADER_IN as it bears on a move in flight (R66, R67). A HOME move that comes to rest after its final arrival is
STOPPING (log 72). -/
def leaderChangedInMove (level : LeaderLevel) (s : State) : State :=
  match s.runningLeg, s.transport.move with
  | some g, some m =>
    match s.transport.state with
    | .recovering =>
      if g.direction = .reverse ∧ level = .leader then pauseFor .retry s else s
    | .moving =>
      if m.purpose = .home then
        if g.stop = .leaderReads level then
          if level = .film then stopFor .arrived (zeroAtLeader s) else legEnded s
        else s
      else if g.direction = .reverse ∧ level = .leader then legEnded s
      else s
    | _ => s
  | _, _ => s

/-- The index closes with a reason, if it is OPEN (R10): INDEX is flagged, and the slots still RESOLVING
and the pass take it as consequences. -/
def closeIndex (c : Closure) (s : State) : State :=
  if s.indexOpen then
    emit .indexClosed
      (flagIndex .closed { s with index := { s.index with closure := some c } })
  else s

/-- A firing of TRAILER_IN (R11, R68), in forward motion of MOVING or RECOVERING: a forward leg that carries the film. With the film
at rest, before a move's first count and after a stalled leg has come to rest, it is ignored (log 49). -/
def trailerFired (s : State) : State :=
  match s.carryingLeg with
  | some g =>
    if g.direction = .forward then
      let s1 := closeIndex .trailer
        { s with index := { s.index with trailer := some s.tracker.register } }
      let s2 := if s1.transport.state = .recovering then enterState .moving s1 else s1
      stopFor .endOfFilm s2
    else s
  | none => s

end Sys2Proof.Machine
end

