-- ==== Sys2Proof/Machine/Index.lean ====
section
/-! DEFINITION. The Frame Index: new entries, checkpoints, renumbering, re-resolution of slots, discovery
and resighting (R7 to R17, R32 to R47, R121, R166). -/

namespace Sys2Proof.Machine

open Sys2Proof

/-! ### Slots and the growing index (R121, R127, R128) -/

/-- The scheduler stops its DISCOVER move, or drops a held one (R127). -/
def stopDiscover (s : State) : State :=
  if s.sched.grant = .discover then requestStop s else s

/-- The DISCOVER move stops when no slot is RESOLVING any longer (R127). -/
def stopDiscoverIfDone (s : State) : State :=
  if s.anyResolving then s else stopDiscover s

/-- What a new resolution makes of a RESOLVING slot (R121). -/
def Slot.reresolved (s : State) (x : Slot) : Slot :=
  if x.state = .resolving then
    match resolveTarget s x.target with
    | .found k => { x with state := .pending, frame := some k }
    | .beyond => x
    | .absent => x.endedBare .notFound
  else x

/-- A slot that the new resolution makes PENDING (R121). -/
def Slot.becomesPending (s : State) (x : Slot) : Bool :=
  x.state == .resolving && (x.reresolved s).state == .pending

/-- RESOLVING slots are resolved again (R121). One that becomes PENDING stops a DISCOVER move (R127), an
URGENT one asks the pass to yield (R128), and the pass looks whether a periodic yield is due (R153); the scheduler
looks for work (R122). -/
def reresolve (s : State) : State :=
  let s1 := { s with slots := s.slots.map (Slot.reresolved s) }
  let s2 := if s.slots.any (Slot.becomesPending s) then stopDiscover s1
    else if s.anyResolving then stopDiscoverIfDone s1 else s1
  let s3 := if s.slots.any (fun x => x.becomesPending s && x.priority == .urgent)
    then emit .askYield s2 else s2
  let s4 := if s.slots.any (Slot.becomesPending s) then emit .passBoundary s3 else s3
  emit .choose s4

/-! ### New entries (R7, R13, R40, R41) -/

/-- A hierarchy number plus one, saturating (R13). -/
def nextNumber (n : Nat) : Nat := min 65535 (n + 1)

/-- The triple of the entry after one with this triple, by its class (R13). -/
def nextTriple (t : Triple) : MarkClass → Triple
  | .batch => { batch := nextNumber t.batch, document := 1, page := 1 }
  | .document => { batch := t.batch, document := nextNumber t.document, page := 1 }
  | .image => { batch := t.batch, document := t.document, page := nextNumber t.page }

/-- No flags. -/
def EntryFlags.clear : EntryFlags :=
  { splice := false, gap := false, strayNear := false, classDoubt := false, verified := false }

/-- A new entry with the fields of R7; its triple is given when it is appended. -/
def newEntry (position : Nat) (source : Source) (cls : MarkClass) (length : Option Nat) : Entry :=
  { position := position, source := source, cls := cls, length := length,
    triple := { batch := 0, document := 0, page := 0 }, flags := EntryFlags.clear, capture := .none,
    captureCount := 0, focusStep := none }

/-- One entry is appended at E + 1 and numbered from the counters (R9, R13). -/
def appendEntry (e : Entry) (s : State) : State :=
  let t := nextTriple s.index.counters e.cls
  { s with index := { s.index with entries := s.index.entries ++ [{ e with triple := t }], counters := t } }

/-- Entries are appended in frame order. -/
def appendEntries : List Entry → State → State
  | [], s => s
  | e :: es, s => appendEntries es (appendEntry e s)

/-- The comparison of the new entry of frame `k` with the checkpoint of its frame, if there is one (R41). -/
def compareCheckpoint (k : Nat) (s : State) : State :=
  match s.entry k, s.index.checkpoints.find? (fun c => c.frame == k) with
  | some e, some c =>
    let ok := decide (distance e.position c.position ≤ s.w) && e.cls == c.cls
    let mark (x : Checkpoint) : Checkpoint :=
      if x.frame = k then { x with state := if ok then .verified else .diverged } else x
    let s1 := { s with index := { s.index with checkpoints := s.index.checkpoints.map mark } }
    if ok then onEntry k (fun x => { x with flags := { x.flags with verified := true } }) s1
    else setDirty (flagIndex .diverge s1)
  | _, _ => s

/-- The comparisons of `n` new entries from frame `k` on, in frame order (R40). -/
def compareNew : Nat → Nat → State → State
  | 0, _, s => s
  | n + 1, k, s => compareNew n (k + 1) (compareCheckpoint k s)

/-- The highest frame of the checkpoint list, 0 where it is empty (R166). -/
def highestCheck (s : State) : Nat :=
  match s.index.checkpoints.getLast? with
  | some c => c.frame
  | none => 0

/-- New entries from frame `first` on are handed on (R20, R40): the checkpoint comparisons, the re-resolution of slots,
the tag dirty flag where E has passed the highest checkpoint (R166), and the pass. -/
def handOn (first : Nat) (s : State) : State :=
  if s.extent < first then s
  else
    let s1 := compareNew (s.extent + 1 - first) first s
    let s2 := reresolve s1
    let s3 := if first - 1 ≤ highestCheck s ∧ highestCheck s < s.extent then setDirty s2 else s2
    emit .indexGrew s3

/-- Entries are stored up to capacity (R20, R42): those that do not fit are not stored, and the index then closes with
reason CAPACITY; the stored ones are handed on. -/
def storeEntries (es : List Entry) (s : State) : State :=
  let first := s.extent + 1
  let room := Config.maxFrames - s.extent
  let s1 := appendEntries (es.take room) s
  let s2 := if room < es.length then closeIndex .capacity s1 else s1
  handOn first s2

/-! ### Renumbering (R14) -/

/-- The entries numbered again from a starting triple, and the triple after the last (R14). -/
def renumberList : Triple → List Entry → List Entry × Triple
  | t, [] => ([], t)
  | t, e :: es =>
    let u := nextTriple t e.cls
    let r := renumberList u es
    ({ e with triple := u } :: r.1, r.2)

/-- The triples of entries `k`..E are computed again (R14). -/
def renumberFrom (k : Nat) (s : State) : State :=
  let start : Triple := match s.entry (k - 1) with
    | some e => e.triple
    | none => { batch := 0, document := 0, page := 0 }
  let r := renumberList start (s.index.entries.drop (k - 1))
  flagIndex .renumbered
    { s with index := { s.index with
        entries := s.index.entries.take (k - 1) ++ r.1, counters := r.2 } }

/-! ### Discovery (R35 to R39, R42) -/

/-- The class of a mark of length `l` (R27). -/
def classOfLength (p : Profile) (l : Nat) : MarkClass :=
  if p.tBatch ≤ l then .batch else if p.tDoc ≤ l then .document else .image

/-- A stray mark sets STRAY_NEAR on entry E (R38). -/
def strayMark (s : State) : State :=
  onEntry s.extent (fun e => { e with flags := { e.flags with strayNear := true } }) s

/-- pitch_q after a measured distance of one pitch (R39). -/
def updatedPitch (nominal pitchQ delta : Nat) : Nat :=
  let d : Int := 16 * (delta : Int) - (pitchQ : Int)
  let q : Int := (pitchQ : Int) + d.tdiv 8
  max (pitchLow nominal) (min (pitchHigh nominal) q.toNat)

/-- The pitch may be updated by an acceptance with j = 1 after entry E as it stands (R39). -/
def pitchUpdateAllowed (s : State) (m : Nat) (widened : Bool) : Bool :=
  (match s.entry s.extent with
    | some e => e.source == .observed && !e.flags.gap
    | none => false) &&
  !widened &&
  (match s.marks.lastSplice with
    | some c => !(decide (s.pos s.extent < c) && decide (c ≤ m))
    | none => true) &&
  decide (s.extent < Config.maxFrames)

/-- The frames counted from entry E to a mark at distance `delta`, rounded to the nearest (R36). -/
def framesBetween (pitchQ delta : Nat) : Nat := (16 * delta + pitchQ / 2) / pitchQ

/-- The FILLED entries of frames E + 1 to E + n, all predicted from entry E (R32, R37). -/
def fillEntries (s : State) (n : Nat) : List Entry :=
  (List.range n).map (fun i => newEntry (s.predFromE (s.extent + 1 + i)) .filled .image none)

/-- The first frame of the index (R35). -/
def firstFrame (m len : Nat) (cls : MarkClass) (s : State) : State :=
  storeEntries [newEntry m .observed cls (some len)]
    { s with index := { s.index with widening := false } }

/-- A mark beyond the frontier (R36 to R39). -/
def discoverMark (m len : Nat) (cls : MarkClass) (s : State) : State :=
  let widened := s.index.widening
  let s0 := { s with index := { s.index with widening := false } }
  let delta := m - s.pos s.extent
  let j := framesBetween s.index.pitchQ delta
  let seen := newEntry m .observed cls (some len)
  if j = 0 then strayMark s0
  else if s.params.maxFill < j - 1 then
    storeEntries [{ seen with flags := { EntryFlags.clear with gap := true } }] s0
  else if distance m (s.predFromE (s.extent + j)) ≤ (if widened then 2 * s.w else s.w) then
    let s1 := if j = 1 ∧ pitchUpdateAllowed s m widened = true
      then { s0 with index := { s0.index with
              pitchQ := updatedPitch s.roll.active.pitch s.index.pitchQ delta } }
      else s0
    storeEntries (fillEntries s (j - 1) ++ [seen]) s1
  else strayMark s0

/-! ### Resighting and slip correction (R2, R29, R44 to R47) -/

/-- A slip correction by the error `e` (R2), carried to a mark in progress (R29). What it does to a move in flight
follows as a consequence. -/
def slipCorrect (e : Int) (s : State) : State :=
  emit .corrected
    { s with tracker := { s.tracker with register := clampCoord ((s.tracker.register : Int) - e) }
             marks := { s.marks with inProgress := s.marks.inProgress.map (fun c => ((c : Int) - e).toNat) } }

/-- The place, from 0, of the entry nearest to `m`, the lower where two are equally near (R44). -/
def nearestFrom (m : Nat) : List Entry → Nat → Nat → Nat → Nat
  | [], _, best, _ => best
  | e :: es, i, best, d =>
    if distance m e.position < d then nearestFrom m es (i + 1) i (distance m e.position)
    else nearestFrom m es (i + 1) best d

/-- The frame of the entry nearest to `m` (R44); 0 in an empty index. -/
def nearestFrame (m : Nat) (l : List Entry) : Nat :=
  match l with
  | [] => 0
  | e :: es => nearestFrom m es 1 0 (distance m e.position) + 1

/-- A resighting miss (R46). -/
def resightMiss (s : State) : State :=
  if s.tracker.miss = 0 then
    { s with tracker := { s.tracker with
        miss := 1, good := if s.tracker.level = .drifting then 0 else s.tracker.good } }
  else loseConfidence s

/-- The miss count returns to 0 at an accepted resighting (R44). -/
def resightAccepted (s : State) : State := { s with tracker := { s.tracker with miss := 0 } }

/-- A good resighting raises the good count while DRIFTING; the third makes the level LOCKED (R45). -/
def goodResighting (s : State) : State :=
  if s.tracker.level = .drifting then
    if 2 ≤ s.tracker.good then setLevel .locked s
    else { s with tracker := { s.tracker with good := s.tracker.good + 1 } }
  else s

/-- The entry gains CLASS_DOUBT where an accepted mark measures another class (R45). -/
def doubtClass (k : Nat) (cls : MarkClass) (s : State) : State :=
  onEntry k (fun e => if e.cls = cls then e
    else { e with flags := { e.flags with classDoubt := true } }) s

/-- A mark lies strictly between the neighbours of frame `k`; a missing neighbour sets no bound (R47). -/
def betweenNeighbours (s : State) (k m : Nat) : Bool :=
  (match s.entry (k - 1) with
    | some e => decide (e.position < m)
    | none => true) &&
  (match s.entry (k + 1) with
    | some e => decide (m < e.position)
    | none => true)

/-- The entry of frame `k` is converted to OBSERVED at the mark (R47). -/
def convertEntry (k m len : Nat) (cls : MarkClass) (s : State) : State :=
  let changed := match s.entry k with
    | some e => e.cls != cls
    | none => false
  let s1 := onEntry k (fun e => { e with
    source := .observed, position := m, cls := cls, length := some len,
    flags := { e.flags with verified := true } }) (resightAccepted s)
  if changed then renumberFrom k s1 else s1

/-- A mark placed for resighting (R44, R45, R47). -/
def resight (m len : Nat) (cls : MarkClass) (s : State) : State :=
  let k := nearestFrame m s.index.entries
  match s.entry k with
  | none => s
  | some e =>
    let err : Int := (m : Int) - (e.position : Int)
    let d := distance m e.position
    if e.source = .observed then
      if d ≤ s.w then
        doubtClass k cls (goodResighting (slipCorrect err (resightAccepted s)))
      else if d ≤ 3 * s.w then
        doubtClass k cls
          (flagTransport .drift (setLevel .drifting (slipCorrect err (resightAccepted s))))
      else resightMiss s
    else if d ≤ s.w ∧ betweenNeighbours s k m = true then convertEntry k m len cls s
    else resightMiss s

/-- Where a mark goes (R34). -/
def placeMark (m len : Nat) (cls : MarkClass) (s : State) : State :=
  if s.tracker.level = .lost then s
  else if m < s.roll.active.leader then s
  else if s.extent = 0 then
    if s.indexOpen then firstFrame m len cls s else s
  else if s.pos s.extent + s.w < m then
    if s.indexOpen then discoverMark m len cls s else s
  else resight m len cls s

/-! ### The Mark Reader (R25 to R28, R30) -/

/-- A leading edge of MARK_IN (R25): with the film at rest it starts nothing. -/
def leadingEdge (s : State) : State :=
  match s.carryingLeg with
  | some g =>
    if g.readsMarks = true ∧ s.tracker.level ≠ .lost then
      { s with marks := { s.marks with inProgress := some s.tracker.register } }
    else s
  | none => s

/-- A trailing edge of MARK_IN (R26); a mark completed in FAULTED is not placed (R71, log 37). -/
def trailingEdge (s : State) : State :=
  match s.marks.inProgress with
  | none => s
  | some m =>
    let len := min 65535 (s.tracker.register - m)
    let s1 := discardMark s
    if len < s.roll.active.minMark then s1
    else if s.transport.state = .faulted then s1
    else placeMark m len (classOfLength s.roll.active len) s1

/-- The film moves forward (R30), from a count until it comes to rest (log 49): in a forward leg, in the thread pull (log 28), or
coasting with no leg, after arrival, past the leader edge or in FAULTED (R55, R71, R85), its last count a forward one. -/
def State.filmForward (s : State) : Bool :=
  s.tracker.inMotion &&
    match s.motionLeg with
    | some g => g.direction == .forward
    | none =>
      (s.transport.state == .threading && s.transport.capstan == some .forward) || s.tracker.direction == .forward

/-- The entry a splice coordinate flags, if any: the last one at or below it (R30). -/
def spliceEntry (s : State) (c : Nat) : Nat :=
  (s.index.entries.filter (fun e => e.position ≤ c)).length

/-- A firing of SPLICE_IN (R30). -/
def spliceFired (s : State) : State :=
  if s.filmForward then
    let c := s.tracker.register
    let k := spliceEntry s c
    let s1 := { s with marks := { s.marks with lastSplice := some c } }
    let s2 := onEntry k (fun e => { e with flags := { e.flags with splice := true } }) s1
    if s.extent = 0 ∨ (k = s.extent ∧ s.pos s.extent < c) then
      { s2 with index := { s2.index with widening := true } }
    else s2
  else s

end Sys2Proof.Machine
end

