-- ==== Sys2Proof/Machine/Sweeping.lean ====
section
/-! DEFINITION. The sweep: its points, its scores, the peak fit, storing and ending (R105 to R116). -/

namespace Sys2Proof.Machine

open Sys2Proof

/-- Changes the active sweep record. -/
def onSweep (f : SweepRecord → SweepRecord) (s : State) : State :=
  { s with sweep := { s.sweep with active := s.sweep.active.map f } }

/-- The next sweep id: one above the counter, or 1 after 255 (R105). -/
def nextSweepId (counter : Nat) : Nat := if 255 ≤ counter then 1 else counter + 1

/-! ### The end of a sweep (R115) -/

/-- A sweep ends (R115): the record parts, the gate freed where this sweep holds it, and the hand-off to
the scheduler or to the pass. -/
def endSweep (result : SweepResult) (step : Option Nat) (quality : Option Quality)
    (store : StoreOutcome) (s : State) : State :=
  match s.sweep.active with
  | none => s
  | some x =>
    let s1 := finishSweep result step quality store s
    let s2 := if s1.transport.holder = some (.sweep x.link x.id) then freeGate s1 else s1
    match x.origin with
    | .standAlone => if s2.sched.grant = .sweep then endGrant s2 else s2
    | .pass => emit (.passSweepDone result) s2

/-- A sweep ends with no fitted result. -/
def endSweepBare (result : SweepResult) (s : State) : State :=
  match s.sweep.active with
  | none => s
  | some x => endSweep result none none (unstored x.store) s

/-- The sweep's own work holds the transport. -/
def sweepHolds (x : SweepRecord) (s : State) : Bool :=
  match x.origin with
  | .standAlone => s.sched.grant == .sweep
  | .pass => s.sched.grant == .pass

/-- An event of R116 ends an active sweep: a TRAVELLING one has its move stopped. -/
def cancelSweep (result : SweepResult) (s : State) : State :=
  match s.sweep.active with
  | none => s
  | some x =>
    let s1 := if x.state = .travelling ∧ sweepHolds x s = true then requestStop s else s
    endSweepBare result s1

/-! ### Points and scoring (R109 to R111) -/

/-- The centre shifted so that every point lies within 0..4095 (R109). -/
def shiftedCentre (c h s : Nat) : Nat :=
  if c < h * s then h * s
  else if Config.maxStep < c + h * s then Config.maxStep - h * s
  else c

/-- The points of a sweep (R109). -/
def sweepPoints (c h s : Nat) : List Nat :=
  (List.range (2 * h + 1)).map (fun i => shiftedCentre c h s + i * s - h * s)

/-- The lens is sent to the current point (R109, R111). -/
def sendToPoint (s : State) : State :=
  match s.sweep.active with
  | none => s
  | some x => setFocusTarget (x.points.getD x.current 0) (.sweep x.id x.current) s

/-- At the sweep's HOLD the points are placed and the lens is sent to the first (R109). -/
def placePoints (s : State) : State :=
  match s.sweep.active with
  | none => s
  | some x =>
    let c := match x.centre with
      | some c => c
      | none => s.zoneStep x.frame
    sendToPoint
      (onSweep (fun y => { y with points := sweepPoints c x.halfWidth x.stepSize, scores := [],
                                  current := 0, state := .movingLens }) s)

/-- The sweep answers the ready gate (R108). -/
def offerSweep (s : State) : State :=
  match s.sweep.active with
  | none => leaveGate s
  | some x =>
    match s.lamp.state with
    | .on => placePoints (holdGate (.sweep x.link x.id) s)
    | .failed => endSweepBare .dark (leaveGate s)
    | _ => s

/-- The focus arrival of a point: its score is awaited and the score timer starts (R110). -/
def pointArrived (id point : Nat) (s : State) : State :=
  match s.sweep.active with
  | some x =>
    if x.id = id ∧ x.current = point ∧ x.state = .movingLens then
      let s1 := onSweep (fun y => { y with state := .awaitingScore }) s
      { s1 with sweep := { s1.sweep with scoreTimer := some s1.params.scoreTimeout } }
    else s
  | none => s

/-! ### The peak fit (R113) -/

/-- The greatest score. -/
def maxScore (l : List Nat) : Nat := l.foldl max 0

/-- The least score. -/
def minScore (l : List Nat) : Nat := l.foldl min 65535

/-- num / den rounded to the nearest with a half away from zero; 0 where den is 0 (R113). -/
def roundedQuotient (num : Int) (den : Nat) : Int :=
  if den = 0 then 0
  else
    let q : Nat := (2 * num.natAbs + den) / (2 * den)
    if num < 0 then -(q : Int) else (q : Int)

/-- The offset of the peak from the best point, through it and its neighbours `a`, `b`, `c` (R113). -/
def peakOffset (a b c s : Nat) : Int :=
  roundedQuotient (((c : Int) - (a : Int)) * (s : Int)) (2 * (2 * b - a - c))

/-- The result of a fit: the result, the step and the quality (R113). -/
structure Fit where
  result : SweepResult
  step : Option Nat
  quality : Option Quality
  deriving DecidableEq, Repr

/-- The peak fit over the scores of the points (R113). -/
def fitScores (minContrast stepSize : Nat) (points scores : List Nat) : Fit :=
  let best := maxScore scores
  let i := scores.findIdx (fun x => x == best)
  if best - minScore scores < minContrast then
    { result := .lowContrast, step := none, quality := none }
  else if i = 0 ∨ i + 1 = points.length then
    { result := .atLimit, step := some (points.getD i 0), quality := some .edge }
  else
    let off := peakOffset (scores.getD (i - 1) 0) best (scores.getD (i + 1) 0) stepSize
    { result := .fitted, step := some (min Config.maxStep ((points.getD i 0 : Int) + off).toNat),
      quality := some .good }

/-- The storing of a result under frame `f` (R114): the zones after it, or none where it is not stored. -/
def storeResult (f step : Nat) (q : Quality) (zones : List Zone) : Option (List Zone) :=
  let fresh : Zone := { start := f, step := step, source := .sweep, quality := q }
  if zones.any (fun z => z.start == f) ∨ zones.length < Config.maxZones then some (putZone fresh zones)
  else match coveringZone f zones with
    | some c => some (putZone { fresh with start := c.start } zones)
    | none => none

/-- The fit is made after the last score, and the sweep ends (R113, R114, R115). -/
def fitSweep (s : State) : State :=
  match s.sweep.active with
  | none => s
  | some x =>
    let fit := fitScores s.params.minContrast x.stepSize x.points x.scores
    match fit.step, fit.quality with
    | some t, some q =>
      let s1 := setFocusTarget t .back s
      if x.store then
        match storeResult x.frame t q s1.zones with
        | some zs => endSweep fit.result (some t) (some q) .stored (setDirty { s1 with zones := zs })
        | none => endSweep fit.result (some t) (some q) .notStored s1
      else endSweep fit.result (some t) (some q) .notAsked s1
    | _, _ =>
      endSweep fit.result none none (unstored x.store) (setFocusTarget (s.zoneStep x.frame) .back s)

/-- A score for the current point is taken (R111). -/
def takeScore (v : Nat) (s : State) : State :=
  match s.sweep.active with
  | none => s
  | some x =>
    let s1 := onSweep (fun y => { y with scores := y.scores ++ [v] })
      { s with sweep := { s.sweep with scoreTimer := none } }
    if x.current < 2 * x.halfWidth then
      sendToPoint (onSweep (fun y => { y with current := y.current + 1, state := .movingLens }) s1)
    else fitSweep s1

end Sys2Proof.Machine
end

