-- ==== Sys2Proof/Machine/Passing.lean ====
section
/-! DEFINITION. The Pass Sequencer (R139 to R156). -/

namespace Sys2Proof.Machine

open Sys2Proof

/-! ### The end of a pass (R156) -/

/-- The pass ends (R156): its record, an active sweep of its own, a frame it holds in the gate, its move in flight, and its
grant, which lasts while its move is still stopping (R126). -/
def endPass (o : PassOutcome) (s : State) : State :=
  match s.pass.owner with
  | none => s
  | some l =>
    let s1 := finishPass o s
    let s2 := match s1.sweep.active with
      | some x => if x.origin = .pass then cancelSweep .cancelled s1 else s1
      | none => s1
    let s3 := if s2.transport.holder = some (.pass l) then freeGate s2 else s2
    if s3.sched.grant = .pass then
      let s4 := if s3.transport.move.isSome ∨ s3.transport.state = .settling then requestStop s3 else s3
      if s4.transport.move.isNone ∧ s4.sched.grant = .pass then endGrant s4 else s4
    else s3

/-! ### Segments and selection (R141) -/

/-- The current segment of the pass. -/
def State.segment (s : State) : Option Segment :=
  match s.pass.current with
  | some c => s.pass.program[c - 1]?
  | none => none

/-- The place, from 0, of the current segment. -/
def State.place (s : State) : Nat := s.pass.current.getD 1 - 1

/-- An entry is selected by an action (R141). -/
def selects (a : SegAction) (e : Entry) : Bool :=
  match a with
  | .all => true
  | .docStarts => e.cls != .image
  | .missing => e.capture != .captured
  | .indexOnly => false

/-- The last frame of the span that is in the index (R141). -/
def State.spanIndexed (s : State) (g : Segment) : Nat :=
  match g.last with
  | some n => min n s.extent
  | none => s.extent

/-- The span extends beyond E (R143, R149). -/
def State.spanBeyond (s : State) (g : Segment) : Bool :=
  match g.last with
  | some n => decide (s.extent < n)
  | none => true

/-- A frame lies beyond the last frame of the span. -/
def Segment.past (g : Segment) (k : Nat) : Bool :=
  match g.last with
  | some n => decide (n < k)
  | none => false

/-- The lowest frame of the span from frame `k` on that is in the index and selected as its entry now stands (R141). -/
def findSelected (s : State) (g : Segment) (k : Nat) : Option Nat :=
  let from0 := k - 1
  let rows := (s.index.entries.take (s.spanIndexed g)).drop from0
  (rows.findIdx? (selects g.action)).map (fun i => from0 + i + 1)

/-- The lowest frame from the resume frame on that has been judged selected and is not yet taken (R141). -/
def Pass.next (p : Pass) : Option Nat := p.chosen.find? (fun k => decide (p.resume.getD 1 ≤ k))

/-- The first frame of the span that has not been judged in this visit of it (R141). -/
def Pass.unjudged (p : Pass) : Nat := max (p.resume.getD 1) (p.judgedUpTo + 1)

/-- The pass looks for its next frame (R141, R143, R148): where none judged before is left, it judges the frames of the index
upward, each once, to the first that is selected (log 62). -/
def judgeNext (g : Segment) (s : State) : State :=
  match s.pass.next with
  | some _ => s
  | none =>
    match findSelected s g s.pass.unjudged with
    | some k => { s with pass := { s.pass with judgedUpTo := k, chosen := [k] } }
    | none => { s with pass := { s.pass with judgedUpTo := max s.pass.judgedUpTo (s.spanIndexed g) } }

/-- The frames that discovery has added to the span are judged as they stand (R141, R143). -/
def judgeAdded (g : Segment) (s : State) : State :=
  let k := s.pass.unjudged
  let new := (List.range' k (s.spanIndexed g + 1 - k)).filter (fun j => match s.entry j with
    | some e => selects g.action e
    | none => false)
  { s with pass := { s.pass with judgedUpTo := max s.pass.judgedUpTo (s.spanIndexed g), chosen := s.pass.chosen ++ new } }

/-- After LOST the frames are judged again from the resume frame on, or from the one after the frame in hand, on which the work
is repeated (R141, R142, log 62). -/
def judgeAgain (s : State) : State :=
  match s.pass.frameInHand with
  | some k => { s with pass := { s.pass with judgedUpTo := k, chosen := [k] } }
  | none => { s with pass := { s.pass with judgedUpTo := s.pass.resume.getD 1 - 1, chosen := [] } }

/-! ### Ordinals and sweeps due (R143, R147, R148) -/

/-- The frame with this sweep ordinal has a sweep due by the segment's policy (R147). -/
def Segment.sweepsAt (g : Segment) (ordinal : Nat) : Bool :=
  match g.policy with
  | .table => false
  | .sweep n _ _ => (ordinal - 1) % n == 0

/-- The first time a frame is taken in hand or known as the next to arm, the segment's sweep ordinal rises, and whether a sweep is
due at the frame is judged (R143, R147, R148). -/
def countOrdinal (g : Segment) (k : Nat) (s : State) : State :=
  if s.pass.counted.contains k then s
  else
    let ordinals := s.pass.ordinals.modify s.place (fun n => n + 1)
    { s with pass := { s.pass with
        counted := k :: s.pass.counted, ordinals := ordinals
        sweepOwed := if g.sweepsAt (ordinals.getD s.place 0) then k :: s.pass.sweepOwed else s.pass.sweepOwed } }

/-- A sweep is due at frame `k` and has not been made (R147). -/
def sweepDue (s : State) (k : Nat) : Bool := s.pass.sweepOwed.contains k

/-- The sweep due at frame `k` has been made (R147). -/
def sweepMade (k : Nat) (s : State) : State :=
  { s with pass := { s.pass with sweepOwed := s.pass.sweepOwed.erase k } }

/-! ### Moves of the pass -/

/-- The pass asks for a FRAME move (R143). -/
def approachFrame (k : Nat) (s : State) : State :=
  startMove (newMove .frame (some k) 0 none)
    { s with pass := { s.pass with frameInHand := some k, work := .approaching, visitedInHand := false } }

/-- A sweep travels to its frame, which is first checked against the index (R108). -/
def travelSweep (s : State) : State :=
  match s.sweep.active with
  | none => s
  | some x =>
    if s.extent < x.frame then endSweepBare .noFrame s
    else startMove (newMove .frame (some x.frame) 0 none)
      (onSweep (fun y => { y with state := .travelling }) s)

/-- The pass starts a sweep of its own at a frame (R107); with the lens not READY it is not run and its
result record is written at once (log 12). -/
def startPassSweep (g : Segment) (k : Nat) (s : State) : State :=
  let id := nextSweepId s.sweep.counter
  let l := s.pass.owner.getD .a
  let p := match g.policy with
    | .sweep _ h z => (h, z)
    | .table => (1, 1)
  let s1 : State :=
    { s with
      pass := { s.pass with frameInHand := some k, work := .sweeping, after := .nothing }
      sweep := { s.sweep with counter := id } }
  if s.focus.status = .ready then
    let x : SweepRecord :=
      { state := .travelling, origin := .pass, id := id, link := l, frame := k, centre := none,
        halfWidth := p.1, stepSize := p.2, store := true, points := [], scores := [], current := 0 }
    travelSweep { s1 with sweep := { s1.sweep with active := some x } }
  else
    let r : SweepReport :=
      { id := id, frame := k, link := l, result := .focusFail, step := none, quality := none,
        store := .notStored, scores := [], timedOutPoint := none }
    emit (.passSweepDone .focusFail) { s1 with sweep := { s1.sweep with last := some r } }

/-! ### Frame boundaries (R142, R153, R154) -/

/-- What a boundary decides (R142). -/
inductive Decision where
  | goOn
  | abort
  | giveUp (kind : GiveUp)
  deriving DecidableEq, Repr

/-- The first that applies: a pending ABORT, a pending SUSPEND, a yield asked for, a periodic yield due (R142, R153). -/
def decideBoundary (s : State) : Decision :=
  if s.pass.pending = .abort then .abort
  else if s.pass.pending = .suspend then .giveUp .suspend
  else if s.pass.yieldAsked then .giveUp .urgentYield
  else if s.pass.yieldInterval ≠ 0 ∧ s.pass.yieldInterval ≤ s.pass.framesSinceYield ∧
      s.normalPending = true then .giveUp .periodicYield
  else .goOn

/-- The pass gives the transport back with the film at rest (R153, R154). Its work is NONE meanwhile (the model's choice, log 78).
Where it stopped for a sweep that has not begun, the frame to sweep stays in hand (log 74). -/
def giveBack (kind : GiveUp) (s : State) : State :=
  let p := { s.pass with framesSinceYield := 0, yieldAsked := false, yieldLater := false, work := .none,
                         after := .nothing, armed := none }
  let s1 := match kind with
    | .suspend => { s with pass := { p with state := .suspended, pending := .none } }
    | .urgentYield =>
      { s with pass := { p with state := .yielding, yieldCount := satInc p.yieldCount }
               sched := { s.sched with yieldOwed := false } }
    | .periodicYield =>
      { s with pass := { p with state := .yielding, yieldCount := satInc p.yieldCount }
               sched := { s.sched with yieldOwed := true } }
  if s1.sched.grant = .pass ∧ s1.transport.move = none then endGrant s1 else s1

/-- The pass has a move of its own in flight: one asked for by work it is doing now. -/
def passMoving (s : State) : Bool :=
  s.sched.grant == .pass && s.transport.move.isSome && s.pass.work != .none

/-- The pass stops its move and does `a` at the STOPPED outcome (R142). -/
def stopThen (a : AfterStop) (s : State) : State :=
  requestStop { s with pass := { s.pass with work := .stopping, after := a, armed := none } }

/-- A run for indexing that gives the transport back goes on after the last frame it visited (R142), 16,385 after frame 16,384 (log 73);
its resume frame stands still until then (log 46). -/
def afterVisits (s : State) : State :=
  match s.segment with
  | some g =>
    if g.action = .indexOnly ∧ s.pass.work = .runningFly then
      { s with pass := { s.pass with resume := some (max (s.pass.resume.getD 1) (s.pass.judgedUpTo + 1)) } }
    else s
  | none => s

/-- A pass that gives the transport up in its sweep ends the sweep CANCELLED, and the sweep stays due at its frame (log 61). -/
def leaveSweep (s : State) : State :=
  if s.pass.work = .sweeping then
    cancelSweep .cancelled { s with pass := { s.pass with frameInHand := none } }
  else s

/-- A boundary is taken: an abort, giving the transport back (at rest, or after a stop), or going on. -/
def takeBoundary (goOn : State → State) (s : State) : State :=
  match decideBoundary s with
  | .abort => endPass .aborted s
  | .giveUp kind =>
    let s1 := leaveSweep s
    if passMoving s1 then stopThen (.giveUp kind) (afterVisits s1) else giveBack kind s1
  | .goOn => goOn s

/-- The pass stands at a boundary now, so that a request is taken at once (R142). In the sweep of a FLY pass no trigger is armed:
an ABORT and a SUSPEND are taken at once (log 61), and a yield waits for the capture (R147). While the pass stops, an ABORT
is taken at once (log 47); what else is asked for is taken with the STOPPED outcome, at which the transport is given back. -/
def atBoundary (s : State) : Bool :=
  s.pass.state == .running &&
    (s.sched.grant != .pass ||
      (match s.pass.work with
        | .none => true
        | .seeking => s.pass.frameInHand.isNone
        | .runningFly => s.pass.armed.isNone
        | .sweeping => s.pass.mode == some .fly && s.pass.pending != .none
        | .stopping => s.pass.pending == .abort
        | _ => false))

/-- A yield asked for in a sweep is due from here on, the swept frame being captured or its work ended (R147). -/
def yieldDue (s : State) : State :=
  { s with pass := { s.pass with yieldAsked := s.pass.yieldAsked || s.pass.yieldLater, yieldLater := false } }

/-! ### The end of a segment (R156) -/

/-- The current segment's record becomes RUNNING when the pass first works on it (R156): segment 1's in PARKED, not at a grant made
in STANDBY or WAKING (log 59). -/
def beginSegment (s : State) : State :=
  onOutcome s.place (fun o => if o.state = .notRun then { o with state := .running } else o) s

/-- A segment ends (R148, R151, R156): DONE, and the next one is taken, or the pass ends COMPLETED. A run in flight is
stopped, and the pass goes on at rest. -/
def endSegment (s : State) : State :=
  match s.pass.current, s.pass.segmentCount with
  | some c, some n =>
    if s.pass.state = .running then
      if n ≤ c then endPass .completed s
      else
        let s1 := onOutcome s.place (fun o => { o with state := .done }) s
        let s2 := { s1 with pass := { s1.pass with
            current := some (c + 1), resume := (s1.pass.program[c]?).map (·.first),
            frameInHand := none, armed := none, judgedUpTo := 0, chosen := [], counted := [], sweepOwed := [],
            visitedInHand := false, work := .seeking, after := .nothing } }
        let s3 := beginSegment (yieldDue s2)
        if passMoving s3 then stopThen .goOn s3 else takeBoundary (emit .passGo) s3
    else s
  | _, _ => s

/-! ### Visits and faults (R144, R150, R151, R152) -/

/-- The visit classes an entry shows, in the order MISSED_MARK, GAP, SPLICE (R152). -/
def visitClasses (e : Entry) : List FaultClass :=
  (if e.source = .filled then [.missedMark] else []) ++
  (if e.flags.gap then [.gap] else []) ++ (if e.flags.splice then [.splice] else [])

/-- Faults of several classes are counted for one frame. -/
def countFaults (i : Nat) (k : Nat) : List FaultClass → State → State
  | [], s => s
  | c :: cs, s => countFaults i k cs (countFault i c k s)

/-- Frame `k` is visited in the current segment: counted and judged (R144, R150, R151); a selected frame
also counts towards the yield (R153). A frame visited again after LOST is counted again, also past 16,384 (log 70). -/
def visitFrame (k : Nat) (selected : Bool) (s : State) : State :=
  let s1 := onOutcome s.place (fun o => { o with visited := o.visited + 1 }) s
  let s2 := match s.entry k with
    | some e => countFaults s.place k (visitClasses e) s1
    | none => s1
  { s2 with pass := { s2.pass with
      framesSinceYield := if selected then satInc s2.pass.framesSinceYield else s2.pass.framesSinceYield } }

/-- The first visit class of frame `k` in the current segment's stop mask (R152). -/
def maskedVisit (s : State) (k : Nat) : Option FaultClass :=
  match s.entry k with
  | some e => (visitClasses e).find? (fun c => s.masked s.place c)
  | none => none

/-! ### STEP mode (R143 to R146) -/

/-- The frame in hand is swept where a sweep is due, and otherwise approached (R143). -/
def workOnFrame (g : Segment) (k : Nat) (s : State) : State :=
  if sweepDue s k then startPassSweep g k s else approachFrame k s

/-- STEP mode looks for its next frame (R143). -/
def stepNext (g : Segment) (s : State) : State :=
  match s.pass.frameInHand with
  | some k => workOnFrame g k s
  | none =>
    let s1 := judgeNext g s
    match s1.pass.next with
    | some k => workOnFrame g k (countOrdinal g k { s1 with pass := { s1.pass with frameInHand := some k } })
    | none =>
      if s1.spanBeyond g = true ∧ g.past (s1.pass.resume.getD 1) = false ∧ s1.indexOpen = true then
        startMove (newMove .discover none 0 none) { s1 with pass := { s1.pass with work := .seeking } }
      else emit .segmentEnd s

/-- The pass answers the ready gate at its frame (R143, R144). A masked visit class ends it STOPPED, whatever request is pending (the
model's choice beside R142, log 57). -/
def offerPass (s : State) : State :=
  match s.pass.frameInHand, s.pass.owner with
  | some k, some l =>
    let first := !s.pass.visitedInHand
    let s1 := if first then
        visitFrame k true { s with pass := { s.pass with visitedInHand := true } }
      else s
    match (if first then maskedVisit s k else none) with
    | some c => endPass (.stopped c k) (leaveGate s1)
    | none =>
      match s1.lamp.state with
      | .on =>
        let s2 := holdGate (.pass l) s1
        { s2 with pass := { s2.pass with work := .awaitingCapture,
                                         captureTimer := some s2.params.captureTimeout } }
      | .failed => endPass .lamp (leaveGate s1)
      | _ => s1
  | _, _ => leaveGate s

/-- The frame in hand of a STEP pass is finished: the gate is freed and the next boundary taken; a masked fault
ends the pass there (R145, R146), whatever request is pending (log 57). After frame 16,384 the resume frame is 16,385
(log 73). -/
def finishFrame (k : Nat) (fault : Option FaultClass) (s : State) : State :=
  let s1 := freeGate (yieldDue
    { s with pass := { s.pass with frameInHand := none, resume := some (k + 1), captureTimer := none,
                                   work := .seeking, visitedInHand := false } })
  match fault with
  | some c => endPass (.stopped c k) s1
  | none => takeBoundary (emit .passGo) s1

/-! ### FLY mode (R148 to R151) -/

/-- The pitch in whole counts, p of R148. -/
def wholePitch (s : State) : Nat := (s.index.pitchQ + 8) / 16

/-- The gate coordinate of a starting frame, predicted where it is not yet in the index (R148). -/
def startCoord (s : State) (k : Nat) : Nat :=
  if k ≤ s.extent then s.gateCoord k
  else if s.extent = 0 then s.roll.active.leader + s.roll.active.gateOffset
  else s.predFromE k + s.roll.active.gateOffset

/-- A run towards the next frame of the segment begins (R148, R151). The segment ends instead where its span lies wholly beyond
a CLOSED index, and where the resume frame lies past its last frame, whose trigger has been taken (log 44). A run for indexing
notes its visits anew from the resume frame. -/
def flyStart (g : Segment) (s : State) : State :=
  let r := s.pass.resume.getD 1
  if g.past r = true ∨ (s.extent < g.first ∧ s.indexOpen = false) then emit .segmentEnd s
  else
    let s1 := if g.action = .indexOnly then { s with pass := { s.pass with judgedUpTo := r - 1 } } else judgeNext g s
    let k0 := if g.action = .indexOnly then r
      else match s1.pass.next with
        | some k => k
        | none => max r (s.extent + 1)
    startMove (newMove .flyRun none (startCoord s k0 - 2 * wholePitch s) none)
      { s1 with pass := { s1.pass with work := .runningFly, armed := none, frameInHand := none, after := .nothing } }

/-- The pass runs a FLY-RUN move, from the move's start until the film is at rest after it (R59, R62, R142). -/
def flyMoving (s : State) : Bool :=
  s.pass.state == .running && s.pass.work == .runningFly && s.sched.grant == .pass &&
    (match s.transport.move with
      | some m => m.purpose == .flyRun
      | none => false)

/-- The pass is in the INDEX run of its FLY-RUN (R62, R148). -/
def inRun (s : State) : Bool :=
  flyMoving s && s.transport.state == .moving && s.runningLeg.isSome &&
    (match s.transport.move with
      | some m => m.plan.isEmpty
      | none => false)

/-- A trigger is taken during the FLY-RUN move, given or not, and a boundary with it (R74, R142, R150). A trigger that a stop for
LOST or at the trailer leaves armed is taken also while the film comes to rest (log 10). The last frame's not given waits for the
lamp (log 11). A yield asked for in the frame's sweep is taken with the trigger given, its capture (R147, log 63). After frame
16,384 the resume frame is 16,385 (log 73). A masked class ends the pass STOPPED, whatever request is pending (log 57). -/
def passTrigger (s : State) : State :=
  match s.pass.armed, s.segment with
  | some (k, c), some g =>
    if flyMoving s = true ∧ c ≤ s.tracker.register then
      if s.lamp.state = .on then
        let s1 := givePulse (onEntry k (fun e => { e with capture := .triggered,
                                                          focusStep := some s.focus.position }) s)
        let s2 := visitFrame k true (yieldDue
          { s1 with pass := { s1.pass with
              armed := none, resume := some (k + 1),
              lastTriggered := some (max k (s1.pass.lastTriggered.getD 0)) } })
        match maskedVisit s k with
        | some cls => endPass (.stopped cls k) s2
        | none =>
          takeBoundary (fun x => if g.last = some k then endSegment x else emit .passArm x) s2
      else takeBoundary (stopThen .awaitLamp) { s with pass := { s.pass with armed := none, resume := some k } }
    else s
  | _, _ => s

/-- The pass arms its next trigger during the run (R148); where a sweep is due it stops for it (R147). -/
def armNext (s : State) : State :=
  match s.segment with
  | none => s
  | some g =>
    if inRun s = true ∧ s.pass.armed = none then
      if g.action = .indexOnly then emit .passCheck s
      else
        let s1 := judgeNext g s
        match s1.pass.next with
        | none => emit .passCheck s1
        | some k =>
          let s2 := countOrdinal g k s1
          if sweepDue s2 k then
            stopThen (.sweepAt k) { s2 with pass := { s2.pass with frameInHand := some k } }
          else
            let s3 := { s2 with pass := { s2.pass with armed := some (k, s2.gateCoord k) } }
            emit .passCheck (passTrigger (setFocusTarget (s3.zoneStep k) .fly s3))
    else s

/-- The FILLED entries at the end of the index since its last OBSERVED or IMPORTED entry (R149). -/
def trailingFills (l : List Entry) : Nat :=
  (l.reverse.takeWhile (fun e => e.source == .filled)).length

/-- A FLY fill is due (R149), also in the INDEX leg of the run-up before u (log 10). -/
def fillDue (s : State) (g : Segment) : Bool :=
  s.pass.state == .running && s.pass.work == .runningFly && s.sched.grant == .pass &&
    s.pass.mode == some .fly && g.action != .indexOnly &&
    s.transport.state == .moving &&
    (match s.runningLeg, s.transport.move with
      | some leg, some m => m.purpose == .flyRun && leg.direction == .forward && leg.cls == .index
      | _, _ => false) &&
    s.indexOpen && decide (1 ≤ s.extent) && decide (s.extent < Config.maxFrames) && s.spanBeyond g &&
    s.marks.inProgress.isNone && decide (trailingFills s.index.entries < s.params.maxFill) &&
    decide (s.predFromE (s.extent + 1) + (if s.index.widening then 2 * s.w else s.w)
      ≤ s.tracker.register)

/-- The pass looks at the register during a run: a FLY fill (R149), then visits and the segment's end. -/
def tickPass (s : State) : State :=
  match s.segment with
  | none => s
  | some g =>
    if s.pass.work = .runningFly then
      emit .passCheck
        (if fillDue s g then
          storeEntries [newEntry (s.predFromE (s.extent + 1)) .filled .image none] s
        else s)
    else s

/-- The run has ended the segment (R148): no trigger is armed and no frame judged selected is left to arm. -/
def runEnded (s : State) (g : Segment) : Bool :=
  s.pass.armed.isNone && s.pass.next.isNone &&
    match g.last with
    | some n =>
      decide (1 ≤ n) && decide (n ≤ s.extent) &&
        (g.action == .indexOnly || decide (n ≤ s.pass.judgedUpTo)) &&
        decide (s.gateCoord n ≤ s.tracker.register)
    | none =>
      !s.indexOpen && decide (1 ≤ s.extent) && decide (s.gateCoord s.extent ≤ s.tracker.register)

/-- A run for indexing visits its frames one after another (R151), and a run ends its segment (R148), both in the last leg of the
FLY-RUN alone and not in its run-up (log 10). The frames visited in the run are noted beside the resume frame (log 46). -/
def checkRun (s : State) : State :=
  match s.segment with
  | none => s
  | some g =>
    if inRun s then
      let k := s.pass.unjudged
      if g.action = .indexOnly ∧ k ≤ s.spanIndexed g ∧ s.gateCoord k ≤ s.tracker.register then
        let s1 := visitFrame k false { s with pass := { s.pass with judgedUpTo := k } }
        match maskedVisit s k with
        | some cls => endPass (.stopped cls k) s1
        | none => emit .passCheck s1
      else if runEnded s g then endSegment s
      else s
    else s

/-! ### Going on (R142, R147, R156) -/

/-- The pass, holding the transport in PARKED, goes on with its work (R142, R143, R148, R151). A grant held in STANDBY or WAKING makes
segment 1's record RUNNING only here (R156, log 59). -/
def goPass (s : State) : State :=
  if s.pass.state = .running ∧ s.sched.grant = .pass ∧ s.transport.state = .parked ∧
      s.transport.move = none then
    match s.segment with
    | none => endPass .completed s
    | some g =>
      let s1 := beginSegment s
      match s1.sweep.active with
      | some x =>
        if x.origin = .pass then travelSweep { s1 with pass := { s1.pass with work := .sweeping } }
        else s1
      | none =>
        if s1.pass.mode = some .fly ∨ g.action = .indexOnly then flyStart g s1 else stepNext g s1
  else s

/-- A sweep of the pass has ended with a result (R147): the frame is approached or run up to, its sweep made. A masked FOCUS_FAIL ends
the pass STOPPED, whatever request is pending (the model's choice beside R142, log 57). -/
def passSweepEnded (r : SweepResult) (s : State) : State :=
  match s.pass.frameInHand, s.segment with
  | some k, some g =>
    if s.pass.state = .running ∧ s.pass.work = .sweeping ∧ s.sweep.active = none then
      let onward (x : State) : State :=
        let y := sweepMade k x
        if s.pass.mode = some .fly then
          emit .passGo { y with pass := { y.pass with frameInHand := none, work := .seeking } }
        else approachFrame k y
      match r with
      | .fitted => onward s
      | .atLimit => onward s
      | .endOfFilm =>
        endSegment { s with pass := { s.pass with frameInHand := none, work := .seeking } }
      | .dark => s
      | .cancelled => s
      | _ =>
        let s1 := countFault s.place .focusFail k s
        if g.stopMask.getLsbD FaultClass.focusFail.bit then endPass (.stopped .focusFail k) s1
        else onward s1
    else s
  | _, _ => s

/-- The transport is lost to the pass at a LOST move (R142). A sweep of its own stays TRAVELLING without the transport (R108),
also beside an URGENT slot granted next (log 69). The pass's work is NONE until its next grant (log 78). A yield asked for before
it is dropped, since the pass has given the transport back (log 63). -/
def passLost (s : State) : State :=
  let s1 := endGrant (judgeAgain { s with pass := { s.pass with work := .none, armed := none, after := .nothing,
                                                                yieldAsked := false, yieldLater := false } })
  if s1.pass.pending = .none then s1 else takeBoundary id s1

/-- What the pass does at the STOPPED outcome of a stop it asked for (R142, R143, R147, R148, R150). While it waits for a
WARMING lamp its work reads NONE (log 58). A SUSPEND or a yield taken at the outcome of a stop for a sweep leaves the frame in
hand (log 74). -/
def passStopped (s : State) : State :=
  let s0 := { s with pass := { s.pass with after := .nothing } }
  match s.pass.after with
  | .giveUp kind =>
    match decideBoundary s0 with
    | .abort => endPass .aborted s0
    | .giveUp other => giveBack other s0
    | .goOn =>
      if kind = .suspend then emit .passGo { s0 with pass := { s0.pass with work := .seeking } }
      else giveBack kind s0
  | .lookAgain => takeBoundary (emit .passGo) { s0 with pass := { s0.pass with work := .seeking } }
  | .sweepAt k =>
    match s.segment with
    | some g => takeBoundary (startPassSweep g k) { s0 with pass := { s0.pass with work := .seeking } }
    | none => s0
  | .goOn => takeBoundary (emit .passGo) { s0 with pass := { s0.pass with work := .seeking } }
  | .awaitLamp =>
    takeBoundary
      (fun x => if x.lamp.state = .on then emit .passGo x
        else { x with pass := { x.pass with work := .none, after := .awaitLamp } })
      { s0 with pass := { s0.pass with work := .seeking } }
  | .nothing => emit .passGo { s0 with pass := { s0.pass with work := .seeking } }

/-- A move outcome is handed to the pass (R142, R143, R148). A move STOPPED was stopped by the pass itself, which then reads
STOPPING. -/
def passMoveDone (o : MoveOutcome) (s : State) : State :=
  if s.pass.state ≠ .running ∨ s.pass.work = .none then endGrant s
  else match o with
    | .lost => passLost s
    | .endOfFilm =>
      if s.pass.work = .sweeping then endSweepBare .endOfFilm s
      else if s.pass.after = .goOn then passStopped s
      else
        endSegment { s with pass := { s.pass with frameInHand := none, armed := none, after := .nothing } }
    | .stopped =>
      if s.pass.work = .stopping then passStopped s else passLost s
    | .arrived =>
      if s.pass.work = .stopping then passStopped s else endSegment s

/-- The pass holds the transport for a DISCOVER move it asked for, running or coming to rest (R143). The move that an ended pass
has left coming to rest is none of its successor's, whose work is NONE until its own grant (R126, R140). -/
def passDiscovers (s : State) : Bool :=
  s.pass.state == .running && (s.pass.work == .seeking || s.pass.work == .stopping) && s.sched.grant == .pass &&
    (match s.transport.move with
      | some m => m.purpose == .discover
      | none => false)

/-- New entries have come while the pass seeks, which judges each as it is added, or runs (R143, R148). -/
def passGrew (s : State) : State :=
  match s.segment with
  | none => s
  | some g =>
    if passDiscovers s = true then
      let s1 := judgeAdded g s
      if s1.pass.work = .seeking ∧ (s1.pass.next.isSome = true ∨ s1.spanBeyond g = false) then stopThen .lookAgain s1
      else s1
    else armNext s

/-- A FLY-RUN of the pass carries the film forward at INDEX speed, running or coming to rest. -/
def runningOut (s : State) : Bool :=
  flyMoving s &&
    (match s.transport.move with
      | some m => m.leg.readsMarks
      | none => false)

/-- The index has closed: a seeking pass stops its move, looks again at the STOPPED outcome, and takes a selected frame that the
closing placement stored (R143, log 56), and a run that has passed its last frame ends its segment (R148). At a TRAILER closure too
the seeking pass reads STOPPING, while the film coasts to END_OF_FILM, where R143 names no work (the model's choice, log 76). -/
def passClosed (s : State) : State :=
  if s.pass.state = .running ∧ s.pass.work = .seeking ∧ s.sched.grant = .pass ∧
      s.transport.move.isSome = true then stopThen .lookAgain s
  else if inRun s then emit .passCheck s
  else match s.segment with
    | some g => if runningOut s = true ∧ runEnded s g = true then endSegment s else s
    | none => s

/-- The scheduler asks the pass to yield (R128); in a sweep the request waits for the boundary after the frame's capture
(R147). A new pass with the work NONE, beside the stopping move of an ended one whose grant still stands, is not asked (the model's
choice, log 77). -/
def askYield (s : State) : State :=
  if s.sched.grant = .pass ∧ s.pass.state = .running ∧ (s.pass.work ≠ .none ∨ s.transport.move = none) then
    if s.pass.work = .sweeping then { s with pass := { s.pass with yieldLater := true } }
    else
      let s1 := { s with pass := { s.pass with yieldAsked := true } }
      if atBoundary s1 then takeBoundary id s1 else s1
  else s

/-- A boundary looked at because a slot has become PENDING (R153); not of a new pass beside the stopping move of an ended one
(log 77). -/
def lookBoundary (s : State) : State :=
  if s.sched.grant = .pass ∧ atBoundary s = true ∧ (s.pass.work ≠ .none ∨ s.transport.move = none) then
    takeBoundary id s
  else s

/-- The lamp has come ON while the pass waits for it with the transport PARKED (R150). -/
def passLampOn (s : State) : State :=
  if s.pass.state = .running ∧ s.pass.after = .awaitLamp ∧ s.sched.grant = .pass ∧
      s.transport.state = .parked then
    emit .passGo { s with pass := { s.pass with after := .nothing, work := .seeking } }
  else s

end Sys2Proof.Machine
end

