-- ==== Sys2Proof/Machine/Scheduler.lean ====
section
/-! DEFINITION. The Transport Scheduler: the choice of the next holder, the grants, the offer of the gate and
the hand-over of move outcomes (R122 to R130, R57). -/

namespace Sys2Proof.Machine

open Sys2Proof

/-! ### The NORMAL choice (R124) -/

/-- A NORMAL candidate: its slot number, its coordinate and the slot. -/
structure Candidate where
  number : Nat
  coord : Nat
  slot : Slot
  deriving DecidableEq, Repr

/-- The frontier gate coordinate, at which a RESOLVING slot stands (R124). -/
def frontierGate (s : State) : Nat :=
  if s.extent = 0 then s.roll.active.leader else s.gateCoord s.extent

/-- The candidate of one slot, if it is one (R124). -/
def candidateOf (s : State) (i : Nat) (x : Slot) : Option Candidate :=
  if x.priority = .normal then
    match x.state with
    | .pending => some { number := i, coord := min Config.maxCoord (s.gateCoord (x.frame.getD 0)), slot := x }
    | .resolving =>
      if s.passActive then none else some { number := i, coord := frontierGate s, slot := x }
    | _ => none
  else none

/-- The candidates among slots, numbered from `i` on. -/
def candidatesFrom (s : State) : Nat → List Slot → List Candidate
  | _, [] => []
  | i, x :: xs =>
    match candidateOf s i x with
    | some c => c :: candidatesFrom s (i + 1) xs
    | none => candidatesFrom s (i + 1) xs

/-- The candidates of the NORMAL choice. -/
def State.candidates (s : State) : List Candidate := candidatesFrom s 0 s.slots

/-- The oldest candidate, by arrival sequence (R118). -/
def oldest : List Candidate → Option Candidate
  | [] => none
  | c :: cs =>
    match oldest cs with
    | none => some c
    | some d => if olderSeq d.slot.sequence c.slot.sequence ∧ d.slot.sequence ≠ c.slot.sequence
        then some d else some c

/-- The candidate nearest to the register, the older of two equally near (R124). -/
def nearest (r : Nat) : List Candidate → Option Candidate
  | [] => none
  | c :: cs =>
    match nearest r cs with
    | none => some c
    | some d =>
      if distance d.coord r < distance c.coord r then some d
      else if distance d.coord r = distance c.coord r ∧
          olderSeq d.slot.sequence c.slot.sequence = true ∧ d.slot.sequence ≠ c.slot.sequence then some d
      else some c

/-- A candidate lies in a direction from the register (R124). -/
def liesIn (r : Nat) (d : Direction) (c : Candidate) : Bool :=
  match d with
  | .forward => decide (r ≤ c.coord)
  | .reverse => decide (c.coord ≤ r)

/-- The candidate the NORMAL choice falls on (R124): aging first, then the elevator. -/
def normalPick (s : State) : Option Candidate :=
  let cs := s.candidates
  let r := s.tracker.register
  match oldest (cs.filter (fun c => decide (s.params.agingLimit ≤ c.slot.skip))) with
  | some c => some c
  | none =>
    match nearest r (cs.filter (liesIn r s.sched.direction)) with
    | some c => some c
    | none => nearest r (cs.filter (liesIn r (flipDirection s.sched.direction)))

/-- The direction after a NORMAL choice (R124). -/
def directionTo (r coord : Nat) (old : Direction) : Direction :=
  if r < coord then .forward else if coord < r then .reverse else old

/-- What a NORMAL choice makes of one slot's skip count (R124). -/
def Slot.skipped (s : State) (pick : Candidate) (i : Nat) (x : Slot) : Slot :=
  if x.state = .resolving ∧ pick.slot.state = .resolving then { x with skip := 0 }
  else if i = pick.number then x
  else match candidateOf s i x with
    | some _ => { x with skip := min 15 (x.skip + 1) }
    | none => x

/-- The slots after a NORMAL choice, numbered from `i` on. -/
def skipFrom (s : State) (pick : Candidate) : Nat → List Slot → List Slot
  | _, [] => []
  | i, x :: xs => x.skipped s pick i :: skipFrom s pick (i + 1) xs

/-- The direction and the skip counts after a NORMAL choice (R124). -/
def normalTaken (pick : Candidate) (s : State) : State :=
  { s with slots := skipFrom s pick 0 s.slots
           sched := { s.sched with
             direction := directionTo s.tracker.register pick.coord s.sched.direction } }

/-! ### The URGENT row (R123) -/

/-- A slot is a candidate of row 2 (R123). -/
def urgentCandidate (s : State) (x : Slot) : Bool :=
  x.priority == .urgent && (x.state == .pending || (x.state == .resolving && !s.passActive))

/-- The URGENT candidates among slots numbered from `i` on. -/
def urgentFrom (s : State) : Nat → List Slot → List Candidate
  | _, [] => []
  | i, x :: xs =>
    if urgentCandidate s x then { number := i, coord := 0, slot := x } :: urgentFrom s (i + 1) xs
    else urgentFrom s (i + 1) xs

/-- The oldest URGENT candidate (R123). -/
def urgentPick (s : State) : Option Candidate := oldest (urgentFrom s 0 s.slots)

/-! ### Grants (R125) -/

/-- The grant is made: the idle timer stops (R89), a transport in STANDBY wakes with the grant held (R91), and in
PARKED the work begins (R50). A pass whose grant is held shows the work NONE, and segment 1's record NOT_RUN, until PARKED
(log 59). -/
def makeGrant (g : Grant) (s : State) : State :=
  let s1 := { s with sched := { s.sched with grant := g }, roll := { s.roll with idleTimer := none } }
  match s1.transport.state with
  | .standby => enterWaking s1
  | .parked => emit .beginGrant s1
  | _ => s1

/-- A PENDING slot is granted the transport and becomes TRAVELLING (R125). -/
def grantSlot (i : Nat) (s : State) : State :=
  makeGrant (.slot i) (onSlot i (fun x => { x with state := .travelling, reached := none }) s)

/-- The queued sweep is granted the transport: its frame is checked, and it becomes TRAVELLING (R108, R125). -/
def grantSweep (s : State) : State :=
  match s.sweep.active with
  | none => s
  | some x =>
    if s.extent < x.frame then
      endSweepBare .noFrame { s with sched := { s.sched with grant := .sweep } }
    else makeGrant .sweep (onSweep (fun y => { y with state := .travelling }) s)

/-- The pass is granted the transport and is RUNNING; with the lamp FAILED it ends LAMP (R140, R156). -/
def grantPass (s : State) : State :=
  if s.lamp.state = .failed then endPass .lamp { s with sched := { s.sched with grant := .pass } }
  else makeGrant .pass { s with pass := { s.pass with state := .running } }

/-- The NORMAL choice is made and granted (R123, rows 5 and 6): a granted NORMAL slot pays the yield owed (R128). -/
def grantNormal (s : State) : State :=
  match normalPick s with
  | none => s
  | some c =>
    let s1 := normalTaken c s
    if c.slot.state = .pending then
      grantSlot c.number { s1 with sched := { s1.sched with yieldOwed := false } }
    else makeGrant .discover s1

/-- The rows of the order, in their order, for a state in which some row has a candidate (R123, R128). Row 2 grants an URGENT slot
also beside a pass sweep that a LOST move has left TRAVELLING, against the law of R125 (log 69). -/
def chooseRow (s : State) : State :=
  let s0 := if s.sched.yieldOwed = true ∧ s.normalPending = false
    then { s with sched := { s.sched with yieldOwed := false } } else s
  if s0.tracker.level = .lost then makeGrant .home s0
  else match urgentPick s0 with
    | some c => if c.slot.state = .pending then grantSlot c.number s0 else makeGrant .discover s0
    | none =>
      if (match s0.sweep.active with
          | some x => x.state == .queued
          | none => false) = true then grantSweep s0
      else if s0.passActive = true ∧ s0.sched.yieldOwed = false then grantPass s0
      else grantNormal s0

/-- Some row of the order has a candidate (R122, R123). -/
def anyCandidate (s : State) : Bool :=
  s.tracker.level == .lost || (urgentPick s).isSome ||
    (match s.sweep.active with
      | some x => x.state == .queued
      | none => false) ||
    s.passActive || !s.candidates.isEmpty

/-- The scheduler makes a choice where it may (R122). -/
def choose (s : State) : State :=
  if s.sched.grant = .none ∧
      (s.transport.state = .parked ∨ s.transport.state = .standby ∨ s.transport.state = .waking) ∧
      anyCandidate s = true then chooseRow s
  else s

/-! ### Beginning a grant from PARKED (R50, R125) -/

/-- The granted work begins from PARKED (R50). -/
def beginGrant (s : State) : State :=
  if s.transport.state = .parked ∧ s.transport.move = none then
    match s.sched.grant with
    | .none => s
    | .home => startMove (newMove .home none 0 none) s
    | .discover => startMove (newMove .discover none 0 none) s
    | .slot i => startMove (newMove .frame (s.slot i).frame 0 none) s
    | .sweep => travelSweep s
    | .pass => emit .passGo s
  else s

/-! ### The offer of the gate (R57, R129) -/

/-- The slot holds what the gate-ready event gave it: the entry's position and the lens position (R129). -/
def Slot.atGate (s : State) (x : Slot) : Slot :=
  { x with reached := match x.reached with
      | some r => some r
      | none => some (s.pos (x.frame.getD 0), s.focus.position) }

/-- A TRAVELLING slot answers the ready gate (R129). -/
def offerSlot (i : Nat) (s : State) : State :=
  let s0 := onSlot i (Slot.atGate s) s
  let x := s0.slot i
  match s0.lamp.state with
  | .on =>
    match x.action with
    | .present =>
      holdGate (.retrieval x.owner x.tag)
        (onSlot i (fun y => { y with state := .presenting,
                                     holdTimer := if y.hold = 0 then none else some y.hold }) s0)
    | .snap => endGrant (leaveGate (onSlot i (Slot.endedReached .snapped) (givePulse s0)))
  | .failed => endGrant (leaveGate (onSlot i (Slot.endedReached .dark) s0))
  | _ => s0

/-- The ready gate is offered to the work that holds the transport (R57); with no such work left the grant ends. -/
def offerGate (s : State) : State :=
  if s.transport.state = .settling ∧ s.transport.gateReady = true then
    match s.sched.grant with
    | .slot i => if (s.slot i).state = .travelling then offerSlot i s else endGrant (leaveGate s)
    | .sweep => offerSweep s
    | .pass => if s.pass.work = .sweeping then offerSweep s else offerPass s
    | _ => endGrant (leaveGate s)
  else s

/-- The gate becomes ready when the settle expiry and the focus arrival have both been taken: the frame becomes
the gate frame, the move record is removed and the gate is offered (R56, R57). -/
def checkReady (s : State) : State :=
  match s.transport.move with
  | none => s
  | some m =>
    if s.transport.state = .settling ∧ s.transport.gateReady = false ∧ m.settleTaken = true ∧
        m.focusTaken = true then
      emit .offerGate
        { s with transport := { s.transport with gateFrame := m.frame, move := none, gateReady := true } }
    else s

/-- The focus arrival of a frame's approach is taken by the move to that frame (R56, R99). -/
def approachArrived (k : Nat) (s : State) : State :=
  match s.transport.move with
  | none => s
  | some m =>
    if m.purpose = .frame ∧ m.frame = some k then
      checkReady (onMove (fun x => { x with focusTaken := true }) s)
    else s

/-! ### Move outcomes (R126, R127, R130) -/

/-- A DISCOVER move ending END_OF_FILM makes the slots still RESOLVING DONE, NOT_FOUND (R127). -/
def Slot.onDiscoverEnd (x : Slot) : Slot :=
  if x.state = .resolving then x.endedBare .notFound else x

/-- What a move outcome makes of the TRAVELLING slot (R130): it ends NOT_FOUND, or waits again. A move STOPPED has no TRAVELLING
slot any more (R133, R136), and one that arrives has been answered at the ready gate (R129). -/
def Slot.onMoveEnd (o : MoveOutcome) (x : Slot) : Slot :=
  if x.state = .travelling then
    match o with
    | .endOfFilm => x.endedBare .notFound
    | _ => { x with state := .pending, reached := none }
  else x

/-- A stand-alone sweep's move has ended (R108, R126): the sweep ends, or is QUEUED again. A move STOPPED has no TRAVELLING sweep
any more (R116). -/
def sweepMoveDone (o : MoveOutcome) (s : State) : State :=
  let s1 := match s.sweep.active with
    | some x =>
      if x.origin = .standAlone ∧ x.state = .travelling then
        match o with
        | .endOfFilm => endSweepBare .endOfFilm s
        | _ => onSweep (fun y => { y with state := .queued }) s
      else s
    | none => s
  if s1.sched.grant = .sweep then endGrant s1 else s1

/-- A move outcome is handed, with the film at rest in PARKED, to the work that holds the transport (R50, R126).
The slots still RESOLVING end at END_OF_FILM of a DISCOVER move granted to them alone: the pass's own ends its segment (R143) and
leaves them RESOLVING (log 80). -/
def moveDone (o : MoveOutcome) (s : State) : State :=
  if s.transport.state ≠ .parked then s
  else match s.sched.grant with
  | .none => s
  | .home => endGrant s
  | .discover =>
    endGrant (if o = .endOfFilm then { s with slots := s.slots.map Slot.onDiscoverEnd } else s)
  | .slot i => endGrant (onSlot i (Slot.onMoveEnd o) s)
  | .sweep => sweepMoveDone o s
  | .pass => passMoveDone o s

/-! ### What the lamp's neighbours read (R88) -/

/-- The lamp state has changed: a ready gate is offered again (R57), a FAILED lamp ends a scoring sweep (R116) and the
pass (R156), and a lamp come ON lets the pass go on (R150). -/
def lampChanged (s : State) : State :=
  let s1 := if s.transport.state = .settling ∧ s.transport.gateReady = true then offerGate s else s
  match s1.lamp.state with
  | .failed =>
    let s2 := match s1.sweep.active with
      | some x =>
        if x.state = .movingLens ∨ x.state = .awaitingScore then endSweepBare .dark s1 else s1
      | none => s1
    if s2.pass.state = .idle then s2 else endPass .lamp s2
  | .on => passLampOn s1
  | _ => s1

end Sys2Proof.Machine
end

