-- ==== Sys2Proof/Machine/Loading.lean ====
section
/-! DEFINITION. The life of a roll: the Tag Controller's loads and write-backs (R160 to R171), cartridge insertion and
removal (R78, R79), threading, rewinding and unloading (R84 to R95). -/

namespace Sys2Proof.Machine

open Sys2Proof

/-! ### The profile and the emptying of the roll -/

/-- The active profile is replaced whole; pitch_q follows its nominal pitch (R81, R83, R31). -/
def applyProfile (p : Profile) (s : State) : State :=
  setPitch p.pitch { s with roll := { s.roll with active := p, modified := false } }

/-- The emptying of the index (R23, R24): what INDEX CLEAR and the emptying events have in common. -/
def emptyIndex (s : State) : State :=
  closeStreams
    { s with
      index := { s.index with entries := [], closure := none,
                              counters := { batch := 0, document := 0, page := 0 }, widening := false,
                              pitchQ := 16 * s.roll.active.pitch }
      marks := { inProgress := none, lastSplice := none }
      transport := { s.transport with gateFrame := none } }

/-- The transport enters EMPTY and what belongs to the roll is emptied (R24, R5, R72, R83, R94, R118, R166); the reel drives are
off (log 51), and no move is left. -/
def enterEmpty (s : State) : State :=
  let s1 := emptyIndex (applyProfile s.roll.default s)
  let s2 := { s1 with
    index := { s1.index with checkpoints := [], trailer := none }
    zones := []
    tag := { s1.tag with dirty := false }
    sched := { s1.sched with direction := .forward }
    transport := { s1.transport with reels := .off, move := none } }
  flagRoll (enterState .empty (setLevel .drifting s2))

/-! ### Threading (R85, R86) -/

/-- Threading completes when the thread arrival and the tag load completion have both been taken (R86). -/
def threadCheck (s : State) : State :=
  if s.transport.state = .threading ∧ s.roll.threadTaken = true ∧ s.roll.tagLoad = .complete then
    enterState .parked (flagRoll s)
  else s

/-- The thread arrival (R85): LEADER_IN has changed to FILM during the pull. -/
def threadArrived (s : State) : State :=
  let s1 := zeroAtLeader s
  threadCheck
    { s1 with transport := { s1.transport with capstan := none }
              roll := { s1.roll with threadTimer := none, threadTaken := true } }

/-! ### The unload (R93, R94) -/

/-- The unload completes (R94), and the tag status becomes NONE (R159): a load that still runs is dropped with it, and a start put off
until the write-back's end stays put off (log 43). "Roll records valid" stays as that load had made it (the model's choice, log 30). -/
def unloadComplete (s : State) : State :=
  enterEmpty
    { s with
      roll := { s.roll with tagLoad := .none, rewindTaken := false, writeBackTaken := false }
      tag := { s.tag with status := .none, load := none }
      bus := { s.bus with waiting := none } }

/-- The unload completes when the rewind end and the write-back end have both been taken (R94). -/
def unloadCheck (s : State) : State :=
  if s.transport.state = .rewinding ∧ s.roll.rewindTaken = true ∧ s.roll.writeBackTaken = true then
    unloadComplete s
  else s

/-- The rewind end (R93): the drives stop. One taken in the tension wait of a rewind begun from STANDBY stops the tension timer
too, and the reverse drive does not begin (log 79). -/
def rewindEnd (s : State) : State :=
  if s.transport.state = .rewinding ∧ s.roll.rewindTaken = false then
    unloadCheck
      { s with transport := { s.transport with capstan := none, reels := .off, stallTimer := none, move := none }
               roll := { s.roll with rewindTaken := true, tensionTimer := none } }
  else s

/-- The rewind leg: reverse at SHUTTLE until the tail-out (R93). -/
def rewindLeg : Leg := { direction := .reverse, cls := .shuttle, stop := .unbounded }

/-- The reverse drive of the rewind begins, with its move record and the stall timer (R50, R63, R93). -/
def rewindDrive (s : State) : State :=
  discardMark
    { s with transport := { s.transport with
        capstan := some .reverse, reels := .winding, stallTimer := some s.params.stallTime,
        move := some { newMove .rewind none 0 none with leg := rewindLeg } } }

/-- The rewind starts (R93): at once, from STANDBY after the tension timer, or with its end where the tail-out
already reads true. -/
def rewindStart (fromStandby : Bool) (s : State) : State :=
  if s.input 3 then rewindEnd s
  else if fromStandby then
    { s with roll := { s.roll with tensionTimer := some Config.tensionTime }
             transport := { s.transport with reels := .tension } }
  else rewindDrive s

/-! ### The tag load (R160 to R163) -/

/-- The Tag Controller asks for a record transfer and waits for its end (R173). -/
def askRecord (kind : RecordTransfer) (s : State) : State :=
  { s with bus := { s.bus with waiting := some kind } }

/-- A load record with nothing read (R160). -/
def emptyLoad : LoadRecord :=
  { next := 0, stage := .rollA, profile := builtInProfile, zones := [], checks := [] }

/-- ROLL-C has been taken. -/
def LoadRecord.rollTaken (l : LoadRecord) : Bool := l.stage == .zones || l.stage == .checks

/-- The tag status at the end of a load (R163). -/
def loadStatus (e : LoadEnd) (l : LoadRecord) : TagStatus :=
  match e with
  | .busFailed => .failed
  | .notAcknowledged => .absent
  | .atEnd => if l.rollTaken then .valid else .degraded
  | .early => .degraded

/-- A profile was read: the load did not fail and took ROLL-C (R163). -/
def profileRead (e : LoadEnd) (l : LoadRecord) : Bool :=
  match e with
  | .busFailed => false
  | .notAcknowledged => false
  | _ => l.rollTaken

/-- The write-back has ended (R170, R171): it is reported to the load logic. -/
def writeReported (s : State) : State :=
  let s1 := { s with tag := { s.tag with writeState := .idle, writePlan := [] } }
  if s1.transport.state = .rewinding then
    unloadCheck { s1 with roll := { s1.roll with writeBackTaken := true } }
  else s1

/-- The write-back ends WRITE_FAILED (R171); the dirty flag stays set. -/
def writeFailed (s : State) : State := writeReported (flagTag .writeFailed s)

/-- The write-back is decided (R167): nothing to write, or the writes begin and the first fails on a FAILED bus. -/
def decideWrite (s : State) : State :=
  if s.tag.status = .absent ∨ s.tag.status = .none ∨ s.tag.dirty = false then writeReported s
  else
    let s1 := { s with tag := { s.tag with writeState := .writing, writePlan := s.writes } }
    if s.bus.state = .failed then writeFailed s1 else askRecord .write s1

/-- The write-back is started (R167): it waits for a running load, and a running one serves. -/
def writeStart (s : State) : State :=
  if s.tag.writeState = .writing then s
  else if s.tag.status = .reading then { s with tag := { s.tag with writeState := .waiting } }
  else decideWrite s

/-- The applied gauge is compared with STATION_GAUGE while THREADING, and threading is counted (R86). -/
def gaugeAndThread (s : State) : State :=
  if s.transport.state = .threading ∧ s.roll.active.gauge ≠ s.params.stationGauge then
    enterFaulted .threadFail s
  else threadCheck s

/-- A tag load completes and hands its results on (R163, R81). -/
def completeLoad (e : LoadEnd) (l : LoadRecord) (s : State) : State :=
  let read := profileRead e l
  let fresh := decide (s.extent = 0)
  let s1 := { s with
    tag := { s.tag with status := loadStatus e l, rollValid := read, load := none }
    roll := { s.roll with tagLoad := .complete } }
  let s2 := if fresh then applyProfile (if read then l.profile else s1.roll.default) s1 else s1
  let s3 := gaugeAndThread s2
  let s4 := if fresh then
      { s3 with zones := if read then l.zones else []
                index := { s3.index with checkpoints := if read then l.checks else [] }
                tag := { s3.tag with dirty := false } }
    else s3
  let s5 := flagTag .loaded s4
  if s5.tag.writeState = .waiting then decideWrite s5 else s5

/-- A tag load begins (R160); on a FAILED bus it ends at once. -/
def beginLoad (s : State) : State :=
  let s1 := { s with tag := { s.tag with status := .reading, rollValid := false, load := some emptyLoad } }
  if s1.bus.state = .failed then completeLoad .busFailed emptyLoad s1 else askRecord .read s1

/-- A tag load is asked for (R160): a running load serves, and a running write-back comes first. -/
def startTagLoad (s : State) : State :=
  let s1 := { s with roll := { s.roll with tagLoad := .running } }
  if s1.tag.status = .reading then s1
  else if s1.tag.writeState = .writing then { s1 with tag := { s1.tag with loadAfterWrite := true } }
  else beginLoad s1

/-- A tag load put off until the write-back's end is made (R160). Where that end completes an unload, which makes the tag load field
NONE (R94), the field becomes RUNNING again with the start (log 43). -/
def deferredLoad (s : State) : State :=
  if s.tag.loadAfterWrite = true ∧ s.tag.writeState = .idle then
    beginLoad { s with roll := { s.roll with tagLoad := .running }, tag := { s.tag with loadAfterWrite := false } }
  else s

/-- A record's contents are taken by the stage; none where the load ends at it (R161). -/
def takeItem (x : TagItem) (l : LoadRecord) : Option LoadRecord :=
  match l.stage, x with
  | .rollA, .rollA i ld =>
    some { l with stage := .rollB, profile := { l.profile with rollId := i, leader := ld } }
  | .rollB, .rollB p g m a =>
    some { l with stage := .rollC,
                  profile := { l.profile with pitch := p, gateOffset := g, minMark := m, gauge := a } }
  | .rollC, .rollC d b f =>
    some { l with stage := .zones,
                  profile := { l.profile with tDoc := d, tBatch := b, defaultStep := f } }
  | .zones, .zone st sp _ q =>
    if (match l.zones.getLast? with
        | some z => decide (z.start < st)
        | none => true) = true ∧ l.zones.length < Config.maxZones then
      some { l with zones := l.zones ++ [{ start := st, step := sp, source := .tag, quality := q }] }
    else none
  | _, .check k p c =>
    if l.rollTaken = true ∧ (match l.checks.getLast? with
        | some y => decide (y.frame < k)
        | none => true) = true ∧ l.checks.length < Config.maxCheckpoints then
      some { l with stage := .checks,
                    checks := l.checks ++ [{ frame := k, position := p, cls := c, state := .unverified }] }
    else none
  | _, _ => none

/-- A valid record is taken by a running load (R161): END ends it, another record is read, or it ends there. -/
def takeRecord (x : TagItem) (l : LoadRecord) (s : State) : State :=
  if x = .endMark ∧ l.rollTaken = true then completeLoad .atEnd l s
  else match takeItem x l with
    | none => completeLoad .early l s
    | some l1 =>
      if 255 ≤ l.next then completeLoad .early l1 s
      else
        let valid := s.tag.rollValid || l1.rollTaken
        askRecord .read
          { s with tag := { s.tag with load := some { l1 with next := l.next + 1 }, rollValid := valid } }

/-- The end of a tag record read, as the Tag Controller takes it (R161, R162). -/
def recordRead (acknowledged : Bool) (r : TagRecord) (s : State) : State :=
  match s.tag.load with
  | none => s
  | some l =>
    if acknowledged = false then
      completeLoad (if l.next = 0 then .notAcknowledged else .early) l s
    else match readRecord r with
      | none => completeLoad .early l s
      | some x => takeRecord x l s

/-- The end of a tag record write, as the Tag Controller takes it (R170, R171). -/
def recordWritten (acknowledged : Bool) (s : State) : State :=
  if s.tag.writeState = .writing then
    if acknowledged = false then deferredLoad (writeFailed s)
    else match s.tag.writePlan with
      | _ :: next :: rest =>
        askRecord .write { s with tag := { s.tag with writePlan := next :: rest } }
      | _ => deferredLoad (writeReported { s with tag := { s.tag with dirty := false } })
  else s

/-- The bus has become FAILED: the load or the write-back that waits on it ends (R162, R171, R182). -/
def tagBusFailed (s : State) : State :=
  let s1 := match s.tag.load with
    | some l => completeLoad .busFailed l s
    | none => s
  if s1.tag.writeState = .writing then deferredLoad (writeFailed s1) else s1

/-! ### Cartridge insertion and removal (R78, R79) -/

/-- A cartridge is inserted (R78). -/
def cartridgeInserted (s : State) : State :=
  startTagLoad { s with roll := { s.roll with cartridge := true } }

/-- A running load and a running write-back are abandoned (R79, R164, R171). Of an abandoned load nothing is kept, its ROLL
records neither (log 30). -/
def abandonTag (s : State) : State :=
  let s1 := { s with
    tag := { s.tag with status := .none, load := none, loadAfterWrite := false,
                        rollValid := s.tag.rollValid && s.tag.load.isNone }
    bus := { s.bus with waiting := none } }
  if s1.tag.writeState = .idle then s1
  else flagTag .writeFailed { s1 with tag := { s1.tag with writeState := .idle, writePlan := [] } }

/-- The cartridge is removed (R79). -/
def cartridgeRemoved (s : State) : State :=
  let s1 := abandonTag { s with roll := { s.roll with cartridge := false, tagLoad := .none } }
  match s1.transport.state with
  | .empty => applyProfile s1.roll.default s1
  | .faulted => s1
  | _ => enterFaulted .cartridge s1

/-! ### After device reset (R95) -/

/-- The first poll round is complete: cartridge and film are taken as they read (R95, R176); a threaded film is PARKED, which
holds tension (log 51). -/
def firstRoundComplete (s : State) : State :=
  let s1 := { s with poller := { s.poller with firstRoundDone := true }
                     roll := { s.roll with cartridge := s.input 0 } }
  if s1.filmInGate then
    let s2 := enterState .parked (flagRoll (setLevel .lost (holdTension s1)))
    if s2.roll.cartridge then startTagLoad s2 else s2
  else setLevel .drifting s1

end Sys2Proof.Machine
end

