-- ==== Sys2Proof/Machine/AuxBus.lean ====
section
/-! DEFINITION. The Sensor Poller and the Auxiliary Bus Controller (R172 to R182). -/

namespace Sys2Proof.Machine

open Sys2Proof

/-! ### Inputs and latches (R174, R177) -/

/-- The inputs of one expander byte. -/
def byteMask (b : Nat) : Inputs := 0xFF#64 <<< (8 * b)

/-- The inputs with one expander byte replaced. -/
def putByte (b : Nat) (v : Byte) (x : Inputs) : Inputs :=
  (x &&& ~~~(byteMask b)) ||| (v.zeroExtend 64 <<< (8 * b))

/-- The changed inputs latch in both links' copies (R174). -/
def latchBoth (changed : Inputs) (s : State) : State :=
  onLinks (fun k => { k with latches := k.latches ||| changed }) s

/-- A byte's quality becomes STALE. -/
def markStale (b : Nat) (s : State) : State :=
  { s with poller := { s.poller with stale := s.poller.stale ||| (1#8 <<< b) } }

/-- A byte's quality becomes GOOD and its values are replaced. -/
def takeByte (b : Nat) (v : Byte) (s : State) : State :=
  { s with poller := { s.poller with values := putByte b v s.poller.values,
                                     stale := s.poller.stale &&& ~~~(1#8 <<< b) } }

/-! ### Deliveries (R175) -/

/-- The door has opened (R70). -/
def doorOpened (s : State) : State :=
  match s.transport.state with
  | .moving => enterFaulted .door s
  | .settling => enterFaulted .door s
  | .settled => enterFaulted .door s
  | .recovering => enterFaulted .door s
  | .threading => enterFaulted .door s
  | .rewinding => enterFaulted .door s
  | _ => s

/-- The tension has passed out of band (R70). -/
def tensionPassedOut (s : State) : State :=
  match s.transport.state with
  | .moving => enterFaulted .tension s
  | .settling => enterFaulted .tension s
  | .settled => enterFaulted .tension s
  | .recovering => enterFaulted .tension s
  | .threading => enterFaulted .tension s
  | .rewinding => enterFaulted .tension s
  | _ => s

/-- Lamp-OK has changed (R87). -/
def lampOkChanged (ok : Bool) (s : State) : State :=
  match s.lamp.state with
  | .warming => if ok then s else flagLamp (setLamp .failed s)
  | .on => if ok then s else flagLamp (setLamp .failed s)
  | .failed => if ok then enterWarming s else s
  | .off => s

/-- One change of the delivered inputs (R175). -/
inductive Delivery where
  | inserted | removed | doorOpen | tailOut | tensionOut | lampOk (ok : Bool)
  deriving DecidableEq, Repr

/-- The deliveries of one change of the held inputs, in input order (R175). -/
def deliveries (old new : Inputs) : List Delivery :=
  let rose (n : Nat) : Bool := !old.getLsbD n && new.getLsbD n
  let fell (n : Nat) : Bool := old.getLsbD n && !new.getLsbD n
  (if rose 0 then [.inserted] else []) ++ (if fell 0 then [.removed] else []) ++
  (if fell 1 then [.doorOpen] else []) ++ (if rose 3 then [.tailOut] else []) ++
  (if !(tensionOut old) && tensionOut new then [.tensionOut] else []) ++
  (if rose 8 then [.lampOk true] else []) ++ (if fell 8 then [.lampOk false] else [])

/-- A delivery is taken by its owner. -/
def deliver (x : Delivery) (s : State) : State :=
  match x with
  | .inserted => cartridgeInserted s
  | .removed => cartridgeRemoved s
  | .doorOpen => doorOpened s
  | .tailOut => rewindEnd s
  | .tensionOut => tensionPassedOut s
  | .lampOk ok => lampOkChanged ok s

/-- The deliveries of one read are taken in order, each in the state the one before leaves (R175). -/
def deliverAll (l : List Delivery) (s : State) : State := l.foldl (fun x d => deliver d x) s

/-! ### The arbiter (R173, R179) -/

/-- A transfer begins: its attempt count is 0 and the bus timer starts (R180, log 26). A read of byte 0 begins the round
of a waiting suppression (R179). -/
def beginTransfer (t : Transfer) (s : State) : State :=
  let s1 := { s with bus := { s.bus with transfer := some t, attempts := 0, timer := some s.params.auxTimeout } }
  if t = .poll ∧ s.bus.nextByte = 0 then
    onLinks (fun k => { k with suppress := if k.suppress = .waiting then .inRound else k.suppress }) s1
  else s1

/-- The transfer after a poll byte: a waiting record, else the next poll byte (R173). -/
def afterPoll (s : State) : State :=
  match s.bus.waiting with
  | some k => beginTransfer (.record k) { s with bus := { s.bus with waiting := none } }
  | none => beginTransfer .poll s

/-- A suppression in its round ends with the read of byte 7 (R179). -/
def endSuppression (s : State) : State :=
  onLinks (fun k => { k with suppress := if k.suppress = .inRound then .none else k.suppress }) s

/-- An acknowledged byte is taken: silently in the first round, with latches and deliveries after it (R174, R175). -/
def byteAcknowledged (b : Nat) (v : Byte) (s : State) : State :=
  let old := s.poller.values
  let s1 := takeByte b v s
  let new := s1.poller.values
  if s.poller.firstRoundDone then deliverAll (deliveries old new) (latchBoth (old ^^^ new) s1) else s1

/-- The end of a poll byte read (R173, R174, R176, R179). -/
def pollEnded (acknowledged : Bool) (v : Byte) (s : State) : State :=
  let b := s.bus.nextByte
  let s1 := { s with bus := { s.bus with nextByte := (b + 1) % 8, transfer := none, timer := none } }
  let s2 := if acknowledged then byteAcknowledged b v s1 else markStale b s1
  let s3 := if b = 7 then endSuppression s2 else s2
  let s4 := if b = 7 ∧ s.poller.firstRoundDone = false then firstRoundComplete s3 else s3
  afterPoll s4

/-- The end of a record transfer: the Tag Controller takes it, and the next transfer is a poll byte (R173). -/
def recordEnded (take : State → State) (s : State) : State :=
  beginTransfer .poll (take { s with bus := { s.bus with transfer := none, timer := none } })

/-! ### Faults and recovery (R180 to R182) -/

/-- The bus becomes FAILED (R182, R176). TRANSPORT is flagged AUX before the tag load ends (log 60). -/
def busFailed (s : State) : State :=
  let s1 := { s with
    bus := { s.bus with state := .failed, transfer := none, waiting := none, attempts := 0, timer := none }
    poller := { s.poller with stale := 0xFF#8 } }
  let s2 := onLinks (fun k => { k with suppress := .none }) (flagTransport .aux s1)
  let s3 := tagBusFailed s2
  if s3.poller.firstRoundDone then s3 else firstRoundComplete s3

/-- A bus fault (R180): a poll byte becomes STALE, and the bus recovers or, after three attempts, fails (R181). -/
def busFault (s : State) : State :=
  let s1 := if s.bus.transfer = some .poll then markStale s.bus.nextByte s else s
  if 3 ≤ s1.bus.attempts then busFailed s1
  else { s1 with bus := { s1.bus with state := .recovering, timer := none } }

/-- The end of one recovery attempt (R181). -/
def recoveryEnded (high : Bool) (s : State) : State :=
  let n := s.bus.attempts + 1
  if high then
    { s with bus := { s.bus with state := .running, attempts := n, timer := some s.params.auxTimeout }
             poller := { s.poller with faults := min 255 (s.poller.faults + 1) } }
  else if n < 3 then { s with bus := { s.bus with attempts := n } }
  else busFailed s

end Sys2Proof.Machine
end

