-- ==== Sys2Proof/Machine/Cascade.lean ====
section
/-! DEFINITION. The consequences of one command inside the part, carried out before it ends (log 4). -/

namespace Sys2Proof.Machine

open Sys2Proof

/-- A slip correction as the running leg and the pass read it (R2, R51, R54, R74). -/
def corrected (s : State) : State :=
  emit .passTick (motionCheck none (passTrigger s))

/-- One consequence is carried out by its owner. -/
def handle (sig : Signal) (s : State) : State :=
  match sig with
  | .choose => choose s
  | .beginGrant => beginGrant s
  | .moveDone o => moveDone o s
  | .corrected => corrected s
  | .focusArrived (.approach k) => approachArrived k s
  | .focusArrived (.sweep id p) => pointArrived id p s
  | .focusArrived .fly => s
  | .focusArrived .back => s
  | .offerGate => offerGate s
  | .lampChanged => lampChanged s
  | .passGo => goPass s
  | .passArm => armNext s
  | .passTick => tickPass s
  | .passCheck => checkRun s
  | .indexGrew => passGrew s
  | .indexClosed => passClosed (reresolve s)
  | .askYield => askYield s
  | .passSweepDone r => passSweepEnded r s
  | .segmentEnd => if s.transport.state = .parked then endSegment s else s
  | .passBoundary => lookBoundary s

/-- The consequences are carried out one after another, those of each before the next (log 4). -/
def settle : Nat → State → State
  | 0, s => s
  | n + 1, s =>
    match s.todo with
    | [] => s
    | sig :: rest =>
      let s1 := handle sig { s with todo := [] }
      settle n { s1 with todo := s1.todo ++ rest }

/-- Everything that follows from a command is carried out, and nothing is left over (log 4). -/
def finish (s : State) : State := { settle Config.cascadeFuel s with todo := [] }

/-- A command that the part takes: its effect and what follows from it. -/
def takes (f : State → State) (s : State) : Host.Outcome State Fault Refusal := .next (finish (f s))

/-- A command that has no further consequence: its effect alone. -/
def plainly (f : State → State) (s : State) : Host.Outcome State Fault Refusal := .next (f s)

/-- A request that may set work off (R184): the link closes its stream, the owner takes the request, the
owner's answer becomes the pending answer, and what follows is carried out. -/
def request (l : Link) (code : Byte) (owner : State → State × Reply) (s : State) :
    Host.Outcome State Fault Refusal :=
  let r := owner (closeStream l s)
  .next (finish (setAnswer l { code := r.2.code, request := code, contents := r.2.contents } r.1))

/-- A request that sets no work off (R184). -/
def quietRequest (l : Link) (code : Byte) (owner : State → State × Reply) (s : State) :
    Host.Outcome State Fault Refusal :=
  let r := owner (closeStream l s)
  .next (setAnswer l { code := r.2.code, request := code, contents := r.2.contents } r.1)

/-- A request that is only answered (R184). -/
def answerOnly (l : Link) (code : Byte) (owner : State → Reply) (s : State) :
    Host.Outcome State Fault Refusal :=
  quietRequest l code (fun x => (x, owner x)) s

end Sys2Proof.Machine
end

