-- ==== Sys2Proof/Machine/FilmEvents.lean ====
section
/-! DEFINITION. What the film and the transport's own timers bring: encoder counts, marks, splices, LEADER_IN, TRAILER_IN,
rest, stalls, back-offs, settles and pulses (R1, R25, R26, R30, R51, R54 to R57, R63 to R69, R74). -/

namespace Sys2Proof.Machine

open Sys2Proof

/-- One encoder count as every reader of the register takes it (R1, R51, R54, R69, R74, R149, R151). At the count that
reaches the end of the range OVERRUN is taken and nothing else (log 52). -/
def encoderCount (d : Direction) (s : State) : State :=
  if overruns d s then enterFaulted .overrun (countTaken d s)
  else emit .passTick (motionCheck (some d) (passTrigger (countTaken d s)))

/-- ENCODER_COUNT (R1). -/
def execEncoderCount (d : Direction) (s : State) : Host.Outcome State Fault Refusal :=
  takes (encoderCount d) s

/-- MARK_LEADING_EDGE (R25). -/
def execMarkLeadingEdge (s : State) : Host.Outcome State Fault Refusal := plainly leadingEdge s

/-- MARK_TRAILING_EDGE (R26). -/
def execMarkTrailingEdge (s : State) : Host.Outcome State Fault Refusal := takes trailingEdge s

/-- SPLICE_IN (R30). -/
def execSpliceIn (s : State) : Host.Outcome State Fault Refusal := plainly spliceFired s

/-- A change of LEADER_IN: the thread arrival during the pull, else as the move in flight takes it (R66, R67, R85). -/
def leaderChanged (level : LeaderLevel) (s : State) : State :=
  if s.transport.leaderIn = level then s
  else
    let s1 := { s with transport := { s.transport with leaderIn := level } }
    if s1.transport.state = .threading then
      if level = .film ∧ s1.transport.capstan = some .forward then threadArrived s1 else s1
    else leaderChangedInMove level s1

/-- LEADER_IN_CHANGE (R66, R67, R85). -/
def execLeaderInChange (level : LeaderLevel) (s : State) : Host.Outcome State Fault Refusal :=
  takes (leaderChanged level) s

/-- TRAILER_IN (R68). -/
def execTrailerIn (s : State) : Host.Outcome State Fault Refusal := takes trailerFired s

/-- FILM_AT_REST (R51). -/
def execFilmAtRest (s : State) : Host.Outcome State Fault Refusal := takes filmRested s

/-- STALL_TIMER_EXPIRY (R63 to R65); not taken while the timer is stopped (log 1). -/
def execStallTimerExpiry (s : State) : Host.Outcome State Fault Refusal :=
  takes (fun x => if x.transport.stallTimer.isSome then stalled x else x) s

/-- BACK_OFF_COMPLETE (R64): the film is brought to rest before the retry. -/
def execBackOffComplete (s : State) : Host.Outcome State Fault Refusal :=
  takes (fun x => if backOffDone x then pauseFor .retry x else x) s

/-- LEADER_LOST_COUNT (R66). -/
def execLeaderLostCount (s : State) : Host.Outcome State Fault Refusal :=
  takes (fun x => if leaderLost x then enterFaulted .leaderLost x else x) s

/-- The settle expiry (R55): one of the two events that make the gate ready. -/
def settleExpired (s : State) : State :=
  checkReady
    (onMove (fun m => { m with settleTaken := true })
      { s with transport := { s.transport with settleTimer := none } })

/-- SETTLE_EXPIRY (R55); not taken while the timer is stopped (log 1). -/
def execSettleExpiry (s : State) : Host.Outcome State Fault Refusal :=
  takes (fun x => if x.transport.settleTimer.isSome then settleExpired x else x) s

/-- GATE_PULSE_END (R74). -/
def execGatePulseEnd (s : State) : Host.Outcome State Fault Refusal :=
  plainly (fun x => { x with transport := { x.transport with pulse := none } }) s

end Sys2Proof.Machine
end

