-- ==== Sys2Proof/Machine/IndexCommands.lean ====
section
/-! DEFINITION. The requests of the Frame Index: INDEX WINDOW, INDEX READ, INDEX WRITE, INDEX CLEAR and RESOLVE (R15 to
R23). -/

namespace Sys2Proof.Machine

open Sys2Proof

/-- A frame number of a request lies in 1..16,384. -/
def frameInRange (k : Nat) : Bool := decide (1 ≤ k) && decide (k ≤ Config.maxFrames)

/-- INDEX WINDOW (R21). -/
def execIndexWindow (l : Link) (first last : Half) (order : Byte) (s : State) :
    Host.Outcome State Fault Refusal :=
  quietRequest l 0x10#8 (fun x =>
    match decodeOrder order with
    | none => (x, refuse .malformed)
    | some o =>
      if frameInRange first.toNat && frameInRange last.toNat && decide (first.toNat ≤ last.toNat) then
        let w : Stream :=
          { order := o, first := first.toNat, last := last.toNat,
            pointer := match o with
              | .ascending => first.toNat
              | .descending => last.toNat }
        (onLink l (fun k => { k with stream := some w }) x, okReply)
      else (x, refuse .range)) s

/-- The pointer stands on the window's end (R22). -/
def Stream.atEnd (w : Stream) : Bool :=
  match w.order with
  | .ascending => w.pointer == w.last
  | .descending => w.pointer == w.first

/-- The pointer one frame on (R22). -/
def Stream.advance (w : Stream) : Stream :=
  match w.order with
  | .ascending => { w with pointer := w.pointer + 1 }
  | .descending => { w with pointer := w.pointer - 1 }

/-- Up to `n` entries from the pointer on: the rows, and the stream after them, none where it ended (R22). -/
def readRows (s : State) : Nat → Stream → List (Nat × Entry) × Option Stream
  | 0, w => if s.extent < w.pointer then ([], none) else ([], some w)
  | n + 1, w =>
    match s.entry w.pointer with
    | none => ([], none)
    | some e =>
      if w.atEnd then ([(w.pointer, e)], none)
      else
        let r := readRows s n w.advance
        ((w.pointer, e) :: r.1, r.2)

/-- INDEX READ as the link takes it (R22). -/
def indexRead (l : Link) (count : Nat) (s : State) : State × Reply :=
  match (s.link l).stream with
  | none => (s, refuse .state)
  | some w =>
    if count = 0 ∨ 8 < count then (s, refuse .range)
    else
      let r := readRows s count w
      (onLink l (fun k => { k with stream := r.2 }) s,
        { code := .ok, contents := .entries r.2.isNone r.1 })

/-- INDEX READ (R22): the one request that does not close the stream (R184). -/
def execIndexRead (l : Link) (count : Byte) (s : State) : Host.Outcome State Fault Refusal :=
  plainly (fun x =>
    let r := indexRead l count.toNat x
    setAnswer l { code := r.2.code, request := 0x11#8, contents := r.2.contents } r.1) s

/-! ### INDEX WRITE (R19, R20) -/

/-- The entry an import description gives (R7); none where a code of it is unknown (R19, R195). -/
def importEntry (d : ImportDesc) : Option Entry :=
  match decodeClass d.cls, decodeYesNo d.lengthPresent with
  | some c, some present =>
    some (newEntry d.position.toNat .imported c (if present then some d.length.toNat else none))
  | _, _ => none

/-- The entries of several descriptions; none where one has an unknown code. -/
def importEntries : List ImportDesc → Option (List Entry)
  | [] => some []
  | d :: ds =>
    match importEntry d, importEntries ds with
    | some e, some es => some (e :: es)
    | _, _ => none

/-- Each position lies at least `gap` counts beyond the one before it (R19). -/
def spacedFrom (gap : Nat) : Nat → List Entry → Bool
  | _, [] => true
  | p, e :: es => decide (p + gap ≤ e.position) && spacedFrom gap e.position es

/-- The spacing checks of an import (R19). -/
def spacingHolds (s : State) (es : List Entry) : Bool :=
  let gap := s.roll.active.pitch / 2
  (if s.extent = 0 then
    match es with
    | [] => true
    | e :: rest => decide (s.roll.active.leader ≤ e.position) && spacedFrom gap e.position rest
  else spacedFrom gap (s.pos s.extent) es) &&
  (match s.index.trailer with
    | some t => es.all (fun e => decide (e.position ≤ t))
    | none => true)

/-- INDEX WRITE as the Frame Index takes it (R19, R20). -/
def indexWrite (count : Nat) (ds : List ImportDesc) (s : State) : State × Reply :=
  if s.transport.state = .empty ∨ s.transport.state = .threading then (s, refuse .noRoll)
  else if count = 0 ∨ 4 < count then (s, refuse .range)
  else match importEntries (ds.take count) with
    | none => (s, refuse .malformed)
    | some es =>
      if s.transport.state = .rewinding ∨ s.indexOpen = false ∨ s.discoveryActive = true then
        (s, refuse .state)
      else if spacingHolds s es = false then (s, refuse .range)
      else
        let room := Config.maxFrames - s.extent
        (storeEntries es s,
          if room < count then { code := .full, contents := .number 1 room }
          else { code := .ok, contents := .number 1 count })

/-- INDEX WRITE (R19, R20). -/
def execIndexWrite (l : Link) (count : Byte) (d1 d2 d3 d4 : ImportDesc) (s : State) :
    Host.Outcome State Fault Refusal :=
  request l 0x12#8 (indexWrite count.toNat [d1, d2, d3, d4]) s

/-! ### INDEX CLEAR and RESOLVE (R23, R18) -/

/-- A slot that bars INDEX CLEAR (R23). -/
def Slot.isOpen (x : Slot) : Bool :=
  x.state == .pending || x.state == .resolving || x.state == .travelling || x.state == .presenting

/-- INDEX CLEAR is taken in this state (R23). -/
def clearAllowed (s : State) : Bool :=
  (s.transport.state == .parked || s.transport.state == .standby || s.transport.state == .empty) &&
    !s.slots.any Slot.isOpen && s.pass.state == .idle

/-- INDEX CLEAR's effect (R23). -/
def indexClear (s : State) : State :=
  let s1 := emptyIndex s
  flagIndex .cleared
    { s1 with index := { s1.index with
        checkpoints := s1.index.checkpoints.map (fun c => { c with state := .unverified }) } }

/-- INDEX CLEAR (R23). -/
def execIndexClear (l : Link) (s : State) : Host.Outcome State Fault Refusal :=
  quietRequest l 0x13#8 (fun x =>
    if clearAllowed x then (indexClear x, okReply) else (x, refuse .state)) s

/-- What RESOLVE answers to an outcome (R18). -/
def resolution (s : State) (r : Resolution) : Contents :=
  match r with
  | .found k =>
    match s.entry k with
    | some e => .resolved k e.position (min Config.maxCoord (s.gateCoord k)) e.cls e.triple
    | none => .resolution r
  | _ => .resolution r

/-- RESOLVE as the Frame Index takes it (R18). -/
def resolve (target : RawTarget) (s : State) : Reply :=
  match decodeTarget target with
  | none => refuse .malformed
  | some t =>
    if targetInRange s t = false then refuse .range
    else { code := .ok, contents := resolution s (resolveTarget s (slotTarget s t)) }

/-- RESOLVE (R18). -/
def execResolve (l : Link) (target : RawTarget) (s : State) : Host.Outcome State Fault Refusal :=
  answerOnly l 0x14#8 (resolve target) s

end Sys2Proof.Machine
end

