-- ==== Sys2Proof/Machine/FocusCommands.lean ====
section
/-! DEFINITION. The requests of the Focus Controller (R102 to R104, R106, R111), the score timer (R112), the stepper and
homing (R97, R98). -/

namespace Sys2Proof.Machine

open Sys2Proof

/-! ### The zone table (R102 to R104) -/

/-- ZONE SET as the Focus Controller takes it (R102). -/
def zoneSet (start step : Nat) (s : State) : State × Reply :=
  if s.transport.state = .empty ∨ s.transport.state = .threading then (s, refuse .noRoll)
  else if s.transport.state = .rewinding then (s, refuse .state)
  else if frameInRange start = false then (s, refuse .range)
  else if s.zones.any (fun z => z.start == start) = false ∧ Config.maxZones ≤ s.zones.length then
    (s, refuse .full)
  else
    let step := min Config.maxStep step
    let fresh : Zone := { start := start, step := step, source := .set, quality := .good }
    (setDirty { s with zones := putZone fresh s.zones }, { code := .ok, contents := .number 2 step })

/-- ZONE SET (R102). -/
def execZoneSet (l : Link) (start step : Half) (s : State) : Host.Outcome State Fault Refusal :=
  quietRequest l 0x42#8 (zoneSet start.toNat step.toNat) s

/-- ZONE REMOVE as the Focus Controller takes it (R103). -/
def zoneRemove (start : Nat) (s : State) : State × Reply :=
  if s.transport.state = .empty ∨ s.transport.state = .threading then (s, refuse .noRoll)
  else if s.transport.state = .rewinding then (s, refuse .state)
  else if frameInRange start = false ∨ s.zones.any (fun z => z.start == start) = false then (s, refuse .range)
  else (setDirty { s with zones := s.zones.filter (fun z => z.start != start) }, okReply)

/-- ZONE REMOVE (R103). -/
def execZoneRemove (l : Link) (start : Half) (s : State) : Host.Outcome State Fault Refusal :=
  quietRequest l 0x43#8 (zoneRemove start.toNat) s

/-- ZONE READ (R104). -/
def execZoneRead (l : Link) (ordinal : Byte) (s : State) : Host.Outcome State Fault Refusal :=
  answerOnly l 0x44#8 (fun x =>
    if ordinal.toNat = 0 ∨ Config.maxZones < ordinal.toNat then refuse .range
    else
      { code := .ok
        contents := .zones x.zones.length ((x.zones.drop (ordinal.toNat - 1)).take 4) x.sweep.last }) s

/-! ### FOCUS SWEEP and SCORE (R106, R111) -/

/-- The centre of a sweep: a step or AUTO (11); none where the kind is unknown. -/
def decodeCentre (kind : Byte) (step : Half) : Option (Option Nat) :=
  if kind = 0x00#8 then some (some step.toNat)
  else if kind = 0x01#8 then some none
  else none

/-- FOCUS SWEEP is refused STATE in this state (R106, check 1). -/
def sweepBarred (s : State) : Bool :=
  s.focus.status != .ready ||
    (s.transport.state == .empty || s.transport.state == .threading ||
      s.transport.state == .rewinding || s.transport.state == .faulted) ||
    s.sweep.active.isSome || s.pass.state == .running

/-- FOCUS SWEEP as the Focus Controller takes it (R106, R127). -/
def focusSweep (l : Link) (frame : Nat) (centreKind : Byte) (centre : Half)
    (halfWidth stepSize : Nat) (store : Byte) (s : State) : State × Reply :=
  if sweepBarred s then (s, refuse .state)
  else match decodeCentre centreKind centre, decodeYesNo store with
    | some c, some keep =>
      if (frameInRange frame && decide (1 ≤ halfWidth) && decide (halfWidth ≤ 8) && decide (1 ≤ stepSize) &&
          decide (stepSize ≤ 64) && decide (c.getD 0 ≤ Config.maxStep)) = false then (s, refuse .range)
      else if s.extent < frame then (s, refuse .range)
      else
        let id := nextSweepId s.sweep.counter
        let x : SweepRecord :=
          { state := .queued, origin := .standAlone, id := id, link := l, frame := frame, centre := c,
            halfWidth := halfWidth, stepSize := stepSize, store := keep, points := [], scores := [],
            current := 0 }
        (emit .choose (stopDiscover { s with sweep := { s.sweep with active := some x, counter := id } }),
          { code := .accepted, contents := .number 1 id })
    | _, _ => (s, refuse .malformed)

/-- FOCUS SWEEP (R106). -/
def execFocusSweep (l : Link) (frame : Half) (centreKind : Byte) (centre : Half)
    (halfWidth stepSize store : Byte) (s : State) : Host.Outcome State Fault Refusal :=
  request l 0x40#8
    (focusSweep l frame.toNat centreKind centre halfWidth.toNat stepSize.toNat store) s

/-- SCORE for the last sweep result record, or for no sweep (R111, cases 2 and 3). -/
def lateScore (l : Link) (id point : Nat) (s : State) : AnswerCode :=
  match s.sweep.last with
  | some r =>
    if r.id = id then
      if r.link ≠ l then .owner
      else if r.timedOutPoint = some point then .tooLate
      else .stale
    else .stale
  | none => .stale

/-- SCORE as the Focus Controller takes it (R111). -/
def score (l : Link) (id point v : Nat) (s : State) : State × Reply :=
  match s.sweep.active with
  | some x =>
    if x.id = id then
      if x.link ≠ l then (s, refuse .owner)
      else if x.state ≠ .awaitingScore ∨ x.current ≠ point then (s, refuse .stale)
      else (takeScore v s, okReply)
    else (s, refuse (lateScore l id point s))
  | none => (s, refuse (lateScore l id point s))

/-- SCORE (R111). -/
def execScore (l : Link) (sweepId point : Byte) (value : Half) (s : State) :
    Host.Outcome State Fault Refusal :=
  request l 0x41#8 (score l sweepId.toNat point.toNat value.toNat) s

/-- The score timer runs for a point whose score is awaited (R110, R112). -/
def scoreAwaited (s : State) : Bool :=
  s.sweep.scoreTimer.isSome && (match s.sweep.active with
    | some x => x.state == .awaitingScore
    | none => false)

/-- SCORE_TIMER_EXPIRY (R112); not taken while the timer is stopped (log 1). -/
def execScoreTimerExpiry (s : State) : Host.Outcome State Fault Refusal :=
  takes (fun x => if scoreAwaited x then endSweepBare .timeout x else x) s

/-! ### The stepper (R97, R98) -/

/-- FOCUS_STEP (R97, R98). -/
def execFocusStep (focHome : Bool) (s : State) : Host.Outcome State Fault Refusal :=
  takes (stepLens focHome) s

/-- HOMING_STEP_LIMIT (R97): 4200 steps issued without the home switch. -/
def execHomingStepLimit (s : State) : Host.Outcome State Fault Refusal :=
  takes (fun x =>
    if x.focus.status = .homing ∧ Config.homingLimit ≤ x.focus.homingSteps then homeNotFound x else x) s

end Sys2Proof.Machine
end

