-- ==== Sys2Proof/Machine/LinkCommands.lean ====
section
/-! DEFINITION. Device reset, the frames that are not requests, and the requests of the links themselves: NOP, STATUS,
SET PARAMETER, LINK RESET, the flags, the masks, the sensors and the suppression (R177 to R193). -/

namespace Sys2Proof.Machine

open Sys2Proof

/-- DEVICE_RESET (R193 and the reset values of every block): the levels of LEADER_IN and FOC_HOME are those of the
lines (log 5); the commands still waiting go on waiting. -/
def execDeviceReset (leaderIn : LeaderLevel) (focHome : Bool) (s : State) :
    Host.Outcome State Fault Refusal :=
  .next { State.resetWith leaderIn focHome with pending := s.pending, freeCount := s.freeCount }

/-- MALFORMED_FRAME (R183, R184, R194): the stream closes and the answer is MALFORMED with request code FFh. -/
def execMalformedFrame (l : Link) (s : State) : Host.Outcome State Fault Refusal :=
  plainly (fun x => setAnswer l { code := .malformed, request := 0xFF#8, contents := .empty } (closeStream l x)) s

/-- UNKNOWN_REQUEST_CODE (R184, R194): MALFORMED with the code received. -/
def execUnknownRequestCode (l : Link) (code : Byte) (s : State) : Host.Outcome State Fault Refusal :=
  answerOnly l code (fun _ => refuse .malformed) s

/-- NOP (R184). -/
def execNop (l : Link) (s : State) : Host.Outcome State Fault Refusal :=
  answerOnly l 0x00#8 (fun _ => okReply) s

/-- The STATUS record as the part stands (R190). -/
def statusReport (s : State) : StatusReport :=
  { transport := s.transport.state, fault := s.transport.fault, holder := s.transport.holder,
    gateFrame := s.transport.gateFrame, register := s.tracker.register, direction := s.tracker.direction,
    level := s.tracker.level, discovery := s.discoveryActive, closure := s.index.closure,
    extent := s.extent, pitchQ := s.index.pitchQ, lamp := s.lamp.state, pass := s.pass.state,
    passOwner := s.pass.owner, sweep := s.sweep.active.map (·.state), sweepId := s.sweep.active.map (·.id),
    sweepPoint := match s.sweep.active with
      | some x => if x.points = [] then none else some x.current
      | none => none
    tag := s.tag.status, rollId := s.roll.active.rollId, focusPosition := s.focus.position,
    focusStatus := s.focus.status }

/-- STATUS (R190). -/
def execStatus (l : Link) (s : State) : Host.Outcome State Fault Refusal :=
  answerOnly l 0x01#8 (fun x => { code := .ok, contents := .status (statusReport x) }) s

/-- SET PARAMETER (R191). -/
def execSetParameter (l : Link) (code : Byte) (value : Half) (s : State) :
    Host.Outcome State Fault Refusal :=
  quietRequest l 0x02#8 (fun x =>
    match storeParameter code value.toNat x.params with
    | some (p, v) => ({ x with params := p }, { code := .ok, contents := .number 2 v })
    | none => (x, refuse .malformed)) s

/-- READ SENSORS (R178): the link's latches are cleared after the answer is formed. -/
def execReadSensors (l : Link) (s : State) : Host.Outcome State Fault Refusal :=
  quietRequest l 0x0A#8 (fun x =>
    (onLink l (fun k => { k with latches := 0#64 }) x,
      { code := .ok, contents := .sensors
          { values := x.poller.values, stale := x.poller.stale, latches := (x.link l).latches,
            bus := x.bus.state, faults := x.poller.faults } })) s

/-- READ FLAGS' answer (R188). -/
def flagReport (s : State) (l : Link) : FlagReport :=
  { flags := (s.link l).flags, result := s.resultFlag l, frameReady := s.frameReady l,
    scoreWanted := s.scoreWanted l, sensor := s.sensorFlag l, mask := (s.link l).flagMask,
    mode := (s.link l).clearMode, suppressed := (s.link l).suppress != .none, notice := s.notice l }

/-- READ FLAGS (R188): in CLEAR_ON_READ the latched flags are cleared once the answer is formed. -/
def execReadFlags (l : Link) (s : State) : Host.Outcome State Fault Refusal :=
  quietRequest l 0x50#8 (fun x =>
    (onLink l (fun k => if k.clearMode = .clearOnRead then { k with flags := Flags.clear } else k) x,
      { code := .ok, contents := .flags (flagReport x l) })) s

/-- CLEAR FLAGS (R189, R195): a bit beyond the list is MALFORMED and a derived flag RANGE (log 23). -/
def execClearFlags (l : Link) (flags : Half) (s : State) : Host.Outcome State Fault Refusal :=
  quietRequest l 0x51#8 (fun x =>
    if 0x800#16 ≤ flags then (x, refuse .malformed)
    else if 0x080#16 ≤ flags then (x, refuse .range)
    else
      let y := onLink l (fun k => { k with flags := k.flags.without (flags.setWidth 11) }) x
      (y, { code := .ok, contents := .flagSet (y.link l).flags })) s

/-- SET MASK naming the flag mask, or a name that names nothing (R187, R195, log 24). -/
def execSetFlagMask (l : Link) (name : Byte) (bits : Half) (s : State) :
    Host.Outcome State Fault Refusal :=
  quietRequest l 0x52#8 (fun x =>
    if name ≠ 0x00#8 ∨ 0x800#16 ≤ bits then (x, refuse .malformed)
    else (onLink l (fun k => { k with flagMask := bits.setWidth 11 }) x, okReply)) s

/-- SET MASK naming the input mask (R177). -/
def execSetInputMask (l : Link) (byte bits : Byte) (s : State) : Host.Outcome State Fault Refusal :=
  quietRequest l 0x52#8 (fun x =>
    if 8 ≤ byte.toNat then (x, refuse .range)
    else (onLink l (fun k => { k with inputMask := putByte byte.toNat bits k.inputMask }) x, okReply)) s

/-- SET CLEAR MODE (R188). -/
def execSetClearMode (l : Link) (mode : Byte) (s : State) : Host.Outcome State Fault Refusal :=
  quietRequest l 0x53#8 (fun x =>
    match decodeClearMode mode with
    | some m => (onLink l (fun k => { k with clearMode := m }) x, okReply)
    | none => (x, refuse .malformed)) s

/-- SUPPRESS (R179). -/
def execSuppress (l : Link) (s : State) : Host.Outcome State Fault Refusal :=
  quietRequest l 0x54#8 (fun x =>
    if x.bus.state = .failed then (x, refuse .state)
    else (onLink l (fun k => { k with suppress := .waiting }) x, okReply)) s

/-! ### LINK RESET (R192) -/

/-- LINK RESET frees the slots of one link, from slot `i` on for `n` slots (R136). -/
def freeSlots (l : Link) : Nat → Nat → State → State
  | 0, _, s => s
  | n + 1, i, s =>
    let x := s.slot i
    let s1 := if x.state ≠ .free ∧ x.owner = l then
        let s0 := onSlot i (fun _ => Slot.empty) s
        if x.state = .travelling then requestStop s0
        else if x.state = .presenting then endGrant (freeGate s0)
        else s0
      else s
    freeSlots l n (i + 1) s1

/-- The link is left as LINK RESET leaves it (R192, items 4 to 8). -/
def clearLink (l : Link) (s : State) : State :=
  onLink l (fun k => LinkState.cleared k.answer) s

/-- LINK RESET ends the link's slots, its pass and its sweep (R192, items 1 to 3; R136, R155, R116). -/
def endLinkWork (l : Link) (s : State) : State :=
  let s1 := freeSlots l Config.slotCount 0 s
  let s2 := if s1.sched.grant = .discover then stopDiscoverIfDone s1 else s1
  let s3 := if s2.pass.owner = some l then endPass .aborted s2 else s2
  match s3.sweep.active with
  | some x => if x.link = l then cancelSweep .cancelled s3 else s3
  | none => s3

/-- What LINK RESET does (R192): the link is cleared once everything that ending its work sets off is carried out, so that no
flag raised by it is left. -/
def linkReset (l : Link) (s : State) : State := clearLink l (finish (endLinkWork l s))

/-- LINK RESET (R192). -/
def execLinkReset (l : Link) (s : State) : Host.Outcome State Fault Refusal :=
  quietRequest l 0x0B#8 (fun x => (linkReset l x, okReply)) s

end Sys2Proof.Machine
end

