-- ==== Sys2Proof/Machine/PassCommands.lean ====
section
/-! DEFINITION. The requests of the Pass Sequencer (R138, R140, R145, R154, R155, R157) and the capture timer (R146). -/

namespace Sys2Proof.Machine

open Sys2Proof

/-! ### PASS SEGMENT (R138) -/

/-- The focus policy of a segment; its numbers are kept only for SWEEP (R195). -/
def decodePolicy (b : Byte) (interval halfWidth stepSize : Nat) : Option FocusPolicy :=
  if b = 0x00#8 then some .table
  else if b = 0x01#8 then some (.sweep interval halfWidth stepSize)
  else none

/-- The last frame of a segment: FFFFh is END_OF_ROLL (11). -/
def decodeLast (n : Half) : Option Nat := if n = 0xFFFF#16 then none else some n.toNat

/-- A segment's fields lie in the ranges of R137. -/
def Segment.inRange (g : Segment) : Bool :=
  frameInRange g.first &&
  (match g.last with
    | some n => frameInRange n
    | none => true) &&
  (match g.policy with
    | .table => true
    | .sweep n h z =>
      decide (1 ≤ n) && decide (n ≤ 1023) && decide (1 ≤ h) && decide (h ≤ 8) && decide (1 ≤ z) &&
        decide (z ≤ 64))

/-- PASS SEGMENT as the Pass Sequencer takes it (R138). A stop mask with a bit that names no class is MALFORMED, after STATE and
before RANGE, as an unknown action or policy is (R195, log 22). -/
def passSegment (l : Link) (place : Nat) (first last : Half) (action policy : Byte)
    (interval : Half) (halfWidth stepSize stopMask : Byte) (s : State) : State × Reply :=
  if s.pass.state ≠ .idle ∧ s.pass.owner = some l then (s, refuse .state)
  else match decodeSegAction action,
      decodePolicy policy interval.toNat halfWidth.toNat stepSize.toNat with
    | some a, some p =>
      if 64 ≤ stopMask.toNat then (s, refuse .malformed)
      else
        let g : Segment := { first := first.toNat, last := decodeLast last, action := a, policy := p,
                             stopMask := stopMask.setWidth 6 }
        if place = 0 ∨ 8 < place ∨ g.inRange = false then (s, refuse .range)
        else (onLink l (fun k => { k with buffer := k.buffer.set (place - 1) (some g) }) s, okReply)
    | _, _ => (s, refuse .malformed)

/-- PASS SEGMENT (R138). -/
def execPassSegment (l : Link) (place : Byte) (first last : Half) (action policy : Byte)
    (interval : Half) (halfWidth stepSize stopMask : Byte) (s : State) :
    Host.Outcome State Fault Refusal :=
  quietRequest l 0x30#8
    (passSegment l place.toNat first last action policy interval halfWidth stepSize stopMask) s

/-! ### PASS START (R140) -/

/-- The first `n` places of a buffer, none where one of them is empty (R140). -/
def programOf : Nat → List (Option Segment) → Option (List Segment)
  | 0, _ => some []
  | n + 1, some g :: rest =>
    match programOf n rest with
    | some gs => some (g :: gs)
    | none => none
  | _ + 1, _ => none

/-- The segments follow one another: first ≤ last in each, END_OF_ROLL in the last alone, each first above the
previous last (R140). -/
def programOrdered : List Segment → Bool
  | [] => true
  | [g] =>
    match g.last with
    | some n => decide (g.first ≤ n)
    | none => true
  | g :: h :: rest =>
    (match g.last with
      | some n => decide (g.first ≤ n) && decide (n < h.first)
      | none => false) && programOrdered (h :: rest)

/-- The mode in effect (R140, item 5). -/
def modeInEffect (s : State) (m : PassMode) : PassMode :=
  if m = .fly ∧ 2 * s.w < s.roll.active.gateOffset then .fly else .step

/-- The code of a mode (R195). -/
def modeNumber : PassMode → Nat
  | .step => 0
  | .fly => 1

/-- The pass record of an accepted PASS START (R140). -/
def startedPass (l : Link) (requested effect : PassMode) (y : Nat) (program : List Segment) : Pass :=
  { idlePass with
    state := .running, owner := some l, modeRequested := some requested, mode := some effect,
    yieldInterval := y, segmentCount := some program.length, current := some 1,
    resume := program.head?.map (·.first), program := program,
    outcomes := List.replicate 8 SegOutcome.fresh }

/-- PASS START as the Pass Sequencer takes it (R140, R127). -/
def passStart (l : Link) (count : Nat) (mode : Byte) (y : Nat) (s : State) : State × Reply :=
  if s.pass.state ≠ .idle then (s, refuse .busy)
  else if s.transport.state = .empty ∨ s.transport.state = .threading ∨
      s.transport.state = .rewinding then (s, refuse .noRoll)
  else if s.transport.state = .faulted then (s, refuse .state)
  else match decodeMode mode with
    | none => (s, refuse .malformed)
    | some m =>
      if count = 0 ∨ 8 < count then (s, refuse .range)
      else match programOf count (s.link l).buffer with
        | none => (s, refuse .range)
        | some gs =>
          if programOrdered gs = false then (s, refuse .range)
          else
            let e := modeInEffect s m
            (emit .choose (stopDiscover { s with pass := startedPass l m e y gs }),
              { code := .accepted, contents := .number 1 (modeNumber e) })

/-- PASS START (R140). -/
def execPassStart (l : Link) (count mode yieldInterval : Byte) (s : State) :
    Host.Outcome State Fault Refusal :=
  request l 0x31#8 (passStart l count.toNat mode yieldInterval.toNat) s

/-! ### PASS SUSPEND, PASS RESUME, PASS ABORT (R154, R155) -/

/-- A request that has just been made pending is taken at once where a boundary is already reached (R142). -/
def pendingMade (p : PendingRequest) (s : State) : State :=
  let s1 := { s with pass := { s.pass with pending := p } }
  if atBoundary s1 then takeBoundary id s1 else s1

/-- PASS SUSPEND as the Pass Sequencer takes it (R154). -/
def passSuspend (l : Link) (s : State) : State × Reply :=
  match s.pass.state with
  | .idle => (s, refuse .state)
  | .running =>
    if s.pass.owner ≠ some l then (s, refuse .owner)
    else match s.pass.pending with
      | .none => (pendingMade .suspend s, okReply)
      | .suspend => (s, okReply)
      | .abort => (s, refuse .state)
  | .yielding =>
    if s.pass.owner ≠ some l then (s, refuse .owner)
    else ({ s with pass := { s.pass with state := .suspended } }, okReply)
  | .suspended => if s.pass.owner ≠ some l then (s, refuse .owner) else (s, refuse .state)

/-- PASS SUSPEND (R154). -/
def execPassSuspend (l : Link) (s : State) : Host.Outcome State Fault Refusal :=
  request l 0x32#8 (passSuspend l) s

/-- PASS RESUME as the Pass Sequencer takes it (R154). -/
def passResume (l : Link) (s : State) : State × Reply :=
  match s.pass.state with
  | .idle => (s, refuse .state)
  | .running =>
    if s.pass.owner ≠ some l then (s, refuse .owner)
    else if s.pass.pending = .suspend then
      ({ s with pass := { s.pass with pending := .none } }, okReply)
    else (s, refuse .state)
  | .yielding => if s.pass.owner ≠ some l then (s, refuse .owner) else (s, refuse .state)
  | .suspended =>
    if s.pass.owner ≠ some l then (s, refuse .owner)
    else (emit .choose { s with pass := { s.pass with state := .running } }, okReply)

/-- PASS RESUME (R154). -/
def execPassResume (l : Link) (s : State) : Host.Outcome State Fault Refusal :=
  request l 0x33#8 (passResume l) s

/-- PASS ABORT as the Pass Sequencer takes it (R155). -/
def passAbort (l : Link) (s : State) : State × Reply :=
  match s.pass.state with
  | .idle => (s, refuse .state)
  | .running =>
    if s.pass.owner ≠ some l then (s, refuse .owner)
    else if s.pass.pending = .abort then (s, okReply)
    else (pendingMade .abort s, okReply)
  | .yielding => if s.pass.owner ≠ some l then (s, refuse .owner) else (endPass .aborted s, okReply)
  | .suspended => if s.pass.owner ≠ some l then (s, refuse .owner) else (endPass .aborted s, okReply)

/-- PASS ABORT (R155). -/
def execPassAbort (l : Link) (s : State) : Host.Outcome State Fault Refusal :=
  request l 0x34#8 (passAbort l) s

/-! ### CAPTURED (R145) -/

/-- The pass owner of R145: of the pass, or of the last pass that ran. -/
def passOwner (s : State) : Option Link :=
  match s.pass.owner with
  | some l => some l
  | none => s.pass.last.map (·.owner)

/-- A capture is acknowledged OK in an entry (R8, R145). -/
def Entry.captured (step : Option Nat) (e : Entry) : Entry :=
  { e with capture := .captured, captureCount := min 255 (e.captureCount + 1),
           focusStep := match step with
             | some f => some f
             | none => e.focusStep }

/-- A capture has failed in an entry (R145, R146). -/
def Entry.failed (e : Entry) : Entry := { e with capture := .failed }

/-- One frame captured more in a segment outcome record. -/
def SegOutcome.oneCaptured (o : SegOutcome) : SegOutcome := { o with captured := o.captured + 1 }

/-- A STEP acknowledgement of the frame in hand (R145). -/
def stepCaptured (k : Nat) (ok : Bool) (s : State) : State :=
  if ok then
    finishFrame k none
      (onOutcome s.place SegOutcome.oneCaptured (onEntry k (Entry.captured (some s.focus.position)) s))
  else
    finishFrame k (if s.masked s.place .captureFail then some .captureFail else none)
      (countFault s.place .captureFail k (onEntry k Entry.failed s))

/-- A FLY acknowledgement of a triggered frame in the segment at place `i` (R145). -/
def flyCaptured (k i : Nat) (ok : Bool) (s : State) : State :=
  if ok then onOutcome i SegOutcome.oneCaptured (onEntry k (Entry.captured none) s)
  else
    let s1 := countFault i .captureFail k (onEntry k Entry.failed s)
    if s1.masked i .captureFail = true ∧ s1.pass.state ≠ .idle then
      endPass (.stopped .captureFail k) s1
    else s1

/-- The segment that holds a triggered frame a FLY acknowledgement may name (R145). -/
def flyAwaited (k : Nat) (s : State) : Option Nat :=
  if s.pass.mode = some .fly ∧ (match s.entry k with
      | some e => e.capture == .triggered
      | none => false) = true ∧ (match s.pass.lastTriggered with
      | some n => decide (k ≤ n)
      | none => false) = true then s.segmentHolding k
  else none

/-- CAPTURED as the Pass Sequencer takes it (R145); an unknown result is MALFORMED (R195, log 22). -/
def captured (l : Link) (k : Nat) (result : Byte) (s : State) : State × Reply :=
  if result ≠ 0x00#8 ∧ result ≠ 0x01#8 then (s, refuse .malformed)
  else
    let ok := result == 0x00#8
    match passOwner s with
    | none => (s, refuse .state)
    | some o =>
      if l ≠ o then (s, refuse .owner)
      else if s.pass.work = .awaitingCapture ∧ s.pass.frameInHand = some k then (stepCaptured k ok s, okReply)
      else if s.pass.timedOut = some k then (s, refuse .tooLate)
      else match flyAwaited k s with
        | some i => (flyCaptured k i ok s, okReply)
        | none => (s, refuse .stale)

/-- CAPTURED (R145). -/
def execCaptured (l : Link) (frame : Half) (result : Byte) (s : State) :
    Host.Outcome State Fault Refusal :=
  request l 0x35#8 (captured l frame.toNat result) s

/-! ### The capture timer (R146) -/

/-- The capture timer has expired on the frame in hand (R146). -/
def captureTimeout (s : State) : State :=
  match s.pass.frameInHand with
  | some k =>
    let s1 := countFault s.place .captureTimeout k (onEntry k Entry.failed s)
    finishFrame k (if s.masked s.place .captureTimeout then some .captureTimeout else none)
      { s1 with pass := { s1.pass with timedOut := some k } }
  | none => s

/-- CAPTURE_TIMER_EXPIRY (R146); not taken while the timer is stopped (log 1). -/
def execCaptureTimerExpiry (s : State) : Host.Outcome State Fault Refusal :=
  takes (fun x =>
    if x.pass.work = .awaitingCapture ∧ x.pass.captureTimer.isSome = true then captureTimeout x else x) s

/-! ### PASS REPORT (R157) -/

/-- What PASS REPORT answers for a segment (R157). -/
def passReport (segment : Nat) (s : State) : PassReport :=
  { state := s.pass.state, owner := s.pass.owner, modeRequested := s.pass.modeRequested,
    mode := s.pass.mode, segmentCount := s.pass.segmentCount, current := s.pass.current,
    resume := s.pass.resume, frameInHand := s.pass.frameInHand, work := s.pass.work,
    pending := s.pass.pending, yieldCount := s.pass.yieldCount,
    framesSinceYield := s.pass.framesSinceYield, last := s.pass.last,
    segment := s.pass.outcomes[segment - 1]? }

/-- PASS REPORT (R157). -/
def execPassReport (l : Link) (segment : Byte) (s : State) : Host.Outcome State Fault Refusal :=
  answerOnly l 0x36#8 (fun x =>
    if segment.toNat = 0 ∨ 8 < segment.toNat then refuse .range
    else { code := .ok, contents := .pass (passReport segment.toNat x) }) s

end Sys2Proof.Machine
end

