-- ==== Sys2Proof/Machine/RetrievalCommands.lean ====
section
/-! DEFINITION. The requests of the Retrieval Table: RETRIEVE, RELEASE, CANCEL, QUERY and COLLECT (R119 to R135), and the
hold timer (R131). -/

namespace Sys2Proof.Machine

open Sys2Proof

/-! ### RETRIEVE (R119, R120) -/

/-- The number of non-FREE slots a link holds. -/
def State.held (s : State) (l : Link) : Nat :=
  (s.slots.filter (fun x => x.state != .free && x.owner == l)).length

/-- The lowest-numbered FREE slot. -/
def State.freeSlot (s : State) : Option Nat := s.slots.findIdx? (fun x => x.state == .free)

/-- The slot of an accepted RETRIEVE, as its target resolves (R120). -/
def newSlot (s : State) (l : Link) (tag : Byte) (target : SlotTarget) (action : SlotAction)
    (priority : Priority) (hold : Nat) : Slot :=
  let x : Slot :=
    { Slot.empty with owner := l, tag := tag, target := target, action := action, priority := priority,
                      hold := hold, sequence := s.sched.counter }
  match resolveTarget s target with
  | .found k => { x with state := .pending, frame := some k }
  | .beyond => { x with state := .resolving }
  | .absent => x.endedBare .notFound

/-- What an accepted RETRIEVE sets off (R120, R122, R127, R128, R153). -/
def slotTaken (x : Slot) (s : State) : State :=
  if x.state = .pending then
    if x.priority = .urgent then emit .choose (emit .askYield (stopDiscover s))
    else emit .choose (emit .passBoundary s)
  else if x.state = .resolving then emit .choose s
  else s

/-- An accepted RETRIEVE fills slot `i` (R120). -/
def fillSlot (i : Nat) (x : Slot) (s : State) : State :=
  slotTaken x
    { onSlot i (fun _ => x) s with sched := { s.sched with counter := s.sched.counter + 1#32 } }

/-- RETRIEVE as the Retrieval Table takes it (R119, R120). -/
def retrieve (l : Link) (tag : Byte) (target : RawTarget) (action priority hold : Byte) (s : State) :
    State × Reply :=
  if s.transport.state = .empty ∨ s.transport.state = .threading then (s, refuse .noRoll)
  else if s.transport.state = .rewinding then (s, refuse .state)
  else match decodeAction action, decodePriority priority, decodeTarget target with
    | some a, some p, some t =>
      if targetInRange s t = false then (s, refuse .range)
      else if (s.slotOf l tag).isSome then (s, refuse .dupTag)
      else if Config.linkSlots ≤ s.held l then (s, refuse .full)
      else match s.freeSlot with
        | none => (s, refuse .full)
        | some i =>
          (fillSlot i (newSlot s l tag (slotTarget s t) a p hold.toNat) s, refuse .accepted)
    | _, _, _ => (s, refuse .malformed)

/-- RETRIEVE (R119, R120). -/
def execRetrieve (l : Link) (tag : Byte) (target : RawTarget) (action priority hold : Byte) (s : State) :
    Host.Outcome State Fault Refusal :=
  request l 0x20#8 (retrieve l tag target action priority hold) s

/-! ### RELEASE and CANCEL (R132, R133) -/

/-- A PRESENTING slot ends with a result: its hold timer stops, the gate is freed and the grant ends (R131 to R133). -/
def endPresenting (i : Nat) (code : ResultCode) (s : State) : State :=
  endGrant (freeGate (onSlot i (Slot.endedReached code) s))

/-- A DONE slot ended by its hold timer (R132). -/
def Slot.expired (x : Slot) : Bool :=
  match x.result with
  | some r => x.state == .done && r.code == .holdExpired
  | none => false

/-- RELEASE as the Retrieval Table takes it (R132). -/
def release (l : Link) (tag : Byte) (s : State) : State × Reply :=
  match s.slotOf l tag with
  | none => (s, refuse .noTag)
  | some i =>
    let x := s.slot i
    if x.state = .presenting then (endPresenting i .released s, okReply)
    else if x.expired then (s, refuse .tooLate)
    else (s, refuse .state)

/-- RELEASE (R132). -/
def execRelease (l : Link) (tag : Byte) (s : State) : Host.Outcome State Fault Refusal :=
  request l 0x21#8 (release l tag) s

/-- CANCEL as the Retrieval Table takes it (R133, R127). -/
def cancel (l : Link) (tag : Byte) (s : State) : State × Reply :=
  match s.slotOf l tag with
  | none => (s, refuse .noTag)
  | some i =>
    let ended := onSlot i (Slot.endedReached .cancelled) s
    match (s.slot i).state with
    | .pending => (ended, okReply)
    | .resolving => (stopDiscoverIfDone ended, okReply)
    | .travelling => (requestStop ended, okReply)
    | .presenting => (endPresenting i .cancelled s, okReply)
    | _ => (s, refuse .state)

/-- CANCEL (R133). -/
def execCancel (l : Link) (tag : Byte) (s : State) : Host.Outcome State Fault Refusal :=
  request l 0x22#8 (cancel l tag) s

/-! ### QUERY and COLLECT (R134, R135) -/

/-- The hold time remaining of a PRESENTING slot with a timer, in whole seconds rounded up: a free value in
1..hold time (R134, log 3). -/
def holdRemaining (x : Slot) (n : Nat) : Option Nat :=
  match x.holdTimer with
  | some h => some (1 + Config.holdElapsed n % h)
  | none => none

/-- What QUERY reports of a slot (R134). -/
def slotReport (x : Slot) (n : Nat) : SlotReport :=
  { state := x.state, target := x.target, frame := x.frame, action := x.action, priority := x.priority,
    hold := x.hold, holdRemaining := holdRemaining x n, sequence := x.sequence, skip := x.skip,
    result := x.result }

/-- QUERY as the Retrieval Table takes it (R134). -/
def query (l : Link) (tag : Byte) (s : State) : State × Reply :=
  match s.slotOf l tag with
  | none => (s, refuse .noTag)
  | some i =>
    ({ s with freeCount := if (s.slot i).holdTimer.isSome then s.freeCount + 1 else s.freeCount },
      { code := .ok, contents := .slot (slotReport (s.slot i) s.freeCount) })

/-- QUERY (R134). -/
def execQuery (l : Link) (tag : Byte) (s : State) : Host.Outcome State Fault Refusal :=
  quietRequest l 0x23#8 (query l tag) s

/-- The oldest DONE slot of a link among slots numbered from `i` on (R135). -/
def oldestDone (l : Link) : Nat → List Slot → Option (Nat × Slot)
  | _, [] => none
  | i, x :: xs =>
    if x.state = .done ∧ x.owner = l then
      match oldestDone l (i + 1) xs with
      | some (j, y) =>
        if olderSeq y.sequence x.sequence = true ∧ y.sequence ≠ x.sequence then some (j, y) else some (i, x)
      | none => some (i, x)
    else oldestDone l (i + 1) xs

/-- A DONE slot is collected: its result is answered and it becomes FREE (R135). -/
def collectSlot (i : Nat) (s : State) : State × Reply :=
  match (s.slot i).result with
  | some r =>
    (onSlot i (fun _ => Slot.empty) s, { code := .ok, contents := .result (s.slot i).tag r })
  | none => (s, refuse .state)

/-- COLLECT as the Retrieval Table takes it (R135); an unknown selector is MALFORMED (R195, log 22). -/
def collect (l : Link) (selector tag : Byte) (s : State) : State × Reply :=
  if selector = 0x00#8 then
    match s.slotOf l tag with
    | none => (s, refuse .noTag)
    | some i => if (s.slot i).state = .done then collectSlot i s else (s, refuse .state)
  else if selector = 0x01#8 then
    match oldestDone l 0 s.slots with
    | none => (s, refuse .state)
    | some (i, _) => collectSlot i s
  else (s, refuse .malformed)

/-- COLLECT (R135). -/
def execCollect (l : Link) (selector tag : Byte) (s : State) : Host.Outcome State Fault Refusal :=
  quietRequest l 0x24#8 (collect l selector tag) s

/-! ### The hold timer (R131) -/

/-- The number of the PRESENTING slot whose hold timer runs, if any. -/
def State.timedSlot (s : State) : Option Nat :=
  s.slots.findIdx? (fun x => x.state == .presenting && x.holdTimer.isSome)

/-- HOLD_TIMER_EXPIRY (R131). -/
def execHoldTimerExpiry (s : State) : Host.Outcome State Fault Refusal :=
  takes (fun x =>
    match x.timedSlot with
    | some i => endPresenting i .holdExpired x
    | none => x) s

end Sys2Proof.Machine
end

