-- ==== Sys2Proof/Machine/RollCommands.lean ====
section
/-! DEFINITION. The requests of the roll's life: the profile fields, LOAD, UNLOAD, STANDBY, WAKE and CLEAR FAULT (R72,
R82 to R92). -/

namespace Sys2Proof.Machine

open Sys2Proof

/-- The transport states in which SET PROFILE FIELD is refused (R82). -/
def TState.barsProfile : TState → Bool
  | .moving => true
  | .settling => true
  | .settled => true
  | .recovering => true
  | .rewinding => true
  | _ => false

/-- SET PROFILE FIELD as its owner takes it (R82). -/
def setProfileField (field : Byte) (value : Quad) (s : State) : State × Reply :=
  if s.extent ≠ 0 ∨ s.transport.state.barsProfile = true then (s, refuse .state)
  else match decodeField field with
    | none => (s, refuse .malformed)
    | some f =>
      if fieldInRange s.roll.active value.toNat f = false then (s, refuse .range)
      else if f = .gauge ∧ value.toNat ≠ s.params.stationGauge ∧ s.transport.state ≠ .empty then
        (s, refuse .mismatch)
      else
        let s1 := setDirty { s with roll := { s.roll with active := storeField s.roll.active value f,
                                                          modified := true } }
        (if f = .pitch then setPitch value.toNat s1 else s1,
          { code := .ok, contents := .number 4 value.toNat })

/-- SET PROFILE FIELD (R82). -/
def execSetProfileField (l : Link) (field : Byte) (value : Quad) (s : State) :
    Host.Outcome State Fault Refusal :=
  quietRequest l 0x03#8 (setProfileField field value) s

/-- SET DEFAULT PROFILE FIELD (R83). -/
def execSetDefaultProfileField (l : Link) (field : Byte) (value : Quad) (s : State) :
    Host.Outcome State Fault Refusal :=
  quietRequest l 0x04#8 (fun x =>
    match decodeField field with
    | none => (x, refuse .malformed)
    | some f =>
      if fieldInRange x.roll.default value.toNat f = false then (x, refuse .range)
      else ({ x with roll := { x.roll with default := storeField x.roll.default value f } },
        { code := .ok, contents := .number 4 value.toNat })) s

/-! ### LOAD (R84) -/

/-- The pull of an accepted LOAD, where the transport is still THREADING (R84, R85, R70). -/
def startPull (s : State) : State :=
  if s.transport.state = .threading then
    if tensionOut s.poller.values then enterFaulted .tension s
    else { s with roll := { s.roll with threadTimer := some s.params.threadTime }
                  transport := { s.transport with capstan := some .forward, reels := .tension } }
  else s

/-- An accepted LOAD (R84). -/
def loadAccepted (s : State) : State :=
  let s1 := enterWarming (enterState .threading { s with roll := { s.roll with threadTaken := false } })
  startPull (if s1.roll.tagLoad = .none then startTagLoad s1 else s1)

/-- LOAD as the load logic takes it (R84). -/
def load (s : State) : State × Reply :=
  if s.poller.firstRoundDone = false then (s, refuse .busy)
  else if s.roll.cartridge = false then (s, refuse .noRoll)
  else if s.transport.state ≠ .empty ∨ s.doorClosed = false then (s, refuse .state)
  else if s.roll.tagLoad = .complete ∧ s.roll.active.gauge ≠ s.params.stationGauge then
    (s, refuse .mismatch)
  else (loadAccepted s, refuse .accepted)

/-- LOAD (R84). -/
def execLoad (l : Link) (s : State) : Host.Outcome State Fault Refusal := request l 0x05#8 load s

/-! ### UNLOAD (R92) -/

/-- A slot neither FREE nor DONE ends UNLOADED (R92, R72). -/
def Slot.onUnload (x : Slot) : Slot :=
  if x.state = .free ∨ x.state = .done then x else x.endedReached .unloaded

/-- A sweep, which is queued where UNLOAD is taken, ends CANCELLED (R92, R116). -/
def cancelQueued (s : State) : State := endSweepBare .cancelled s

/-- An accepted UNLOAD (R92, R93, R167). -/
def unloadAccepted (s : State) : State :=
  let fromStandby := decide (s.transport.state = .standby)
  let s1 := cancelQueued { s with slots := s.slots.map Slot.onUnload }
  let s2 := { s1 with
    sched := { s1.sched with grant := .none }
    transport := { s1.transport with fault := .none, faultInThreading := false }
    roll := { s1.roll with wakeCount := none, tensionTimer := none, rewindTaken := false,
                           writeBackTaken := false } }
  writeStart (rewindStart fromStandby (enterState .rewinding s2))

/-- UNLOAD as the load logic takes it (R92). -/
def unload (s : State) : State × Reply :=
  if s.pass.state ≠ .idle ∨
      (s.transport.state ≠ .parked ∧ s.transport.state ≠ .standby ∧ s.transport.state ≠ .faulted) then
    (s, refuse .state)
  else if s.roll.cartridge = false then (s, refuse .noRoll)
  else if s.doorClosed = false ∨ tensionOut s.poller.values = true then (s, refuse .state)
  else (unloadAccepted s, refuse .accepted)

/-- UNLOAD (R92). -/
def execUnload (l : Link) (s : State) : Host.Outcome State Fault Refusal := request l 0x06#8 unload s

/-! ### STANDBY and WAKE (R90, R91) -/

/-- STANDBY as the load logic takes it (R90). -/
def standby (count : Nat) (s : State) : State × Reply :=
  if s.transport.state ≠ .parked ∨ s.sched.grant ≠ .none then (s, refuse .state)
  else if 3600 < count then (s, refuse .range)
  else (enterStandby (if count = 0 then none else some count) s, okReply)

/-- STANDBY (R90). -/
def execStandby (l : Link) (count : Half) (s : State) : Host.Outcome State Fault Refusal :=
  request l 0x07#8 (standby count.toNat) s

/-- WAKE as the load logic takes it (R91). -/
def wake (s : State) : State × Reply :=
  match s.transport.state with
  | .standby => (enterWaking s, okReply)
  | .empty => (s, refuse .state)
  | .threading => (s, refuse .state)
  | .rewinding => (s, refuse .state)
  | .faulted => (s, refuse .state)
  | _ => (s, okReply)

/-- WAKE (R91). -/
def execWake (l : Link) (s : State) : Host.Outcome State Fault Refusal := request l 0x08#8 wake s

/-! ### CLEAR FAULT (R72) -/

/-- CLEAR FAULT with film in the gate (R72, R86): PARKED, which holds tension (log 51), and LOST. -/
def clearIntoParked (s : State) : State :=
  let s1 := setLevel .lost
    (holdTension { s with transport := { s.transport with fault := .none, faultInThreading := false } })
  enterState .parked (if s.transport.faultInThreading then flagRoll s1 else s1)

/-- CLEAR FAULT with no film in the gate (R72, R160): EMPTY, and a new tag load where a cartridge is present. -/
def clearIntoEmpty (s : State) : State :=
  let s1 := enterEmpty
    { s with transport := { s.transport with fault := .none, faultInThreading := false }
             slots := s.slots.map Slot.onUnload }
  if s1.roll.cartridge then startTagLoad s1 else s1

/-- CLEAR FAULT as the Transport Controller takes it (R72). -/
def clearFault (s : State) : State × Reply :=
  if s.transport.state = .faulted then
    (if s.filmInGate then clearIntoParked s else clearIntoEmpty s, okReply)
  else (s, refuse .state)

/-- CLEAR FAULT (R72). -/
def execClearFault (l : Link) (s : State) : Host.Outcome State Fault Refusal := request l 0x09#8 clearFault s

end Sys2Proof.Machine
end

