-- ==== Sys2Proof/Machine/RollEvents.lean ====
section
/-! DEFINITION. The load logic's and the lamp's timers (R85, R87, R89 to R91, R93) and the auxiliary bus (R161, R162, R170,
R174, R180, R181). A timer's expiry is not taken while the timer is stopped, nor a transfer's end while that transfer is not in
progress (log 1). -/

namespace Sys2Proof.Machine

open Sys2Proof

/-- THREAD_TIMER_EXPIRY (R85). -/
def execThreadTimerExpiry (s : State) : Host.Outcome State Fault Refusal :=
  takes (fun x =>
    if x.transport.state = .threading ∧ x.roll.threadTimer.isSome = true then enterFaulted .threadFail x
    else x) s

/-- WARM_TIMER_EXPIRY (R87). -/
def execWarmTimerExpiry (s : State) : Host.Outcome State Fault Refusal :=
  takes (fun x =>
    if x.lamp.state = .warming ∧ x.lamp.warmTimer.isSome = true then warmExpired x else x) s

/-- IDLE_TIMER_EXPIRY (R89). -/
def execIdleTimerExpiry (s : State) : Host.Outcome State Fault Refusal :=
  takes (fun x =>
    if x.transport.state = .parked ∧ x.roll.idleTimer.isSome = true then enterStandby none x else x) s

/-- WAKE_COUNT_TICK (R90): the wake count falls by one. -/
def execWakeCountTick (s : State) : Host.Outcome State Fault Refusal :=
  plainly (fun x => { x with roll := { x.roll with wakeCount := x.roll.wakeCount.map (· - 1) } }) s

/-- WAKE_COUNT_EXPIRY (R90, R91): the wake count has reached 0 (log 6). -/
def execWakeCountExpiry (s : State) : Host.Outcome State Fault Refusal :=
  takes (fun x =>
    if x.transport.state = .standby ∧ x.roll.wakeCount = some 0 then enterWaking x else x) s

/-- The tension timer's expiry: a held grant begins from PARKED (R91, R50), or the reverse drive begins (R93). -/
def tensionExpired (s : State) : State :=
  let s1 := { s with roll := { s.roll with tensionTimer := none } }
  match s.transport.state with
  | .waking =>
    let s2 := enterState .parked s1
    if s2.sched.grant = .none then s2 else emit .beginGrant s2
  | .rewinding => rewindDrive s1
  | _ => s1

/-- TENSION_TIMER_EXPIRY (R91, R93). -/
def execTensionTimerExpiry (s : State) : Host.Outcome State Fault Refusal :=
  takes (fun x => if x.roll.tensionTimer.isSome then tensionExpired x else x) s

/-- A transfer is in progress on the RUNNING bus. -/
def transferring (t : Transfer) (s : State) : Bool :=
  s.bus.state == .running && s.bus.transfer == some t

/-- POLL_BYTE_READ (R174 to R176). -/
def execPollByteRead (acknowledged : Bool) (value : Byte) (s : State) :
    Host.Outcome State Fault Refusal :=
  takes (fun x => if transferring .poll x then pollEnded acknowledged value x else x) s

/-- TAG_RECORD_READ (R161, R162). -/
def execTagRecordRead (acknowledged : Bool) (record : TagRecord) (s : State) :
    Host.Outcome State Fault Refusal :=
  takes (fun x =>
    if transferring (.record .read) x then recordEnded (recordRead acknowledged record) x else x) s

/-- TAG_RECORD_WRITE (R170, R171). -/
def execTagRecordWrite (acknowledged : Bool) (s : State) : Host.Outcome State Fault Refusal :=
  takes (fun x =>
    if transferring (.record .write) x then recordEnded (recordWritten acknowledged) x else x) s

/-- BUS_TIMER_EXPIRY (R180). -/
def execBusTimerExpiry (s : State) : Host.Outcome State Fault Refusal :=
  takes (fun x =>
    if x.bus.state = .running ∧ x.bus.timer.isSome = true then busFault x else x) s

/-- RECOVERY_ATTEMPT_END (R181). -/
def execRecoveryAttemptEnd (high : Bool) (s : State) : Host.Outcome State Fault Refusal :=
  takes (fun x => if x.bus.state = .recovering then recoveryEnded high x else x) s

end Sys2Proof.Machine
end

