-- ==== Sys2Proof/Machine/Dispatch.lean ====
section
/-! DEFINITION. The dispatch of a command to its meaning. -/

namespace Sys2Proof.Machine

def exec (i : Instr) (s : State) : Host.Outcome State Fault Refusal :=
  match i with
  | .deviceReset leaderIn focHome => Sys2Proof.Machine.execDeviceReset leaderIn focHome s
  | .malformedFrame link => Sys2Proof.Machine.execMalformedFrame link s
  | .unknownRequestCode link code => Sys2Proof.Machine.execUnknownRequestCode link code s
  | .nop link => Sys2Proof.Machine.execNop link s
  | .status link => Sys2Proof.Machine.execStatus link s
  | .setParameter link code value => Sys2Proof.Machine.execSetParameter link code value s
  | .setProfileField link field value => Sys2Proof.Machine.execSetProfileField link field value s
  | .setDefaultProfileField link field value => Sys2Proof.Machine.execSetDefaultProfileField link field value s
  | .load link => Sys2Proof.Machine.execLoad link s
  | .unload link => Sys2Proof.Machine.execUnload link s
  | .standby link count => Sys2Proof.Machine.execStandby link count s
  | .wake link => Sys2Proof.Machine.execWake link s
  | .clearFault link => Sys2Proof.Machine.execClearFault link s
  | .readSensors link => Sys2Proof.Machine.execReadSensors link s
  | .linkReset link => Sys2Proof.Machine.execLinkReset link s
  | .indexWindow link first last order => Sys2Proof.Machine.execIndexWindow link first last order s
  | .indexRead link count => Sys2Proof.Machine.execIndexRead link count s
  | .indexWrite link count d1 d2 d3 d4 => Sys2Proof.Machine.execIndexWrite link count d1 d2 d3 d4 s
  | .indexClear link => Sys2Proof.Machine.execIndexClear link s
  | .resolve link target => Sys2Proof.Machine.execResolve link target s
  | .retrieve link tag target action priority hold => Sys2Proof.Machine.execRetrieve link tag target action priority hold s
  | .release link tag => Sys2Proof.Machine.execRelease link tag s
  | .cancel link tag => Sys2Proof.Machine.execCancel link tag s
  | .query link tag => Sys2Proof.Machine.execQuery link tag s
  | .collect link selector tag => Sys2Proof.Machine.execCollect link selector tag s
  | .passSegment link place first last action policy interval halfWidth stepSize stopMask => Sys2Proof.Machine.execPassSegment link place first last action policy interval halfWidth stepSize stopMask s
  | .passStart link count mode yieldInterval => Sys2Proof.Machine.execPassStart link count mode yieldInterval s
  | .passSuspend link => Sys2Proof.Machine.execPassSuspend link s
  | .passResume link => Sys2Proof.Machine.execPassResume link s
  | .passAbort link => Sys2Proof.Machine.execPassAbort link s
  | .captured link frame result => Sys2Proof.Machine.execCaptured link frame result s
  | .passReport link segment => Sys2Proof.Machine.execPassReport link segment s
  | .focusSweep link frame centreKind centre halfWidth stepSize store => Sys2Proof.Machine.execFocusSweep link frame centreKind centre halfWidth stepSize store s
  | .score link sweepId point score => Sys2Proof.Machine.execScore link sweepId point score s
  | .zoneSet link start step => Sys2Proof.Machine.execZoneSet link start step s
  | .zoneRemove link start => Sys2Proof.Machine.execZoneRemove link start s
  | .zoneRead link ordinal => Sys2Proof.Machine.execZoneRead link ordinal s
  | .readFlags link => Sys2Proof.Machine.execReadFlags link s
  | .clearFlags link flags => Sys2Proof.Machine.execClearFlags link flags s
  | .setFlagMask link name bits => Sys2Proof.Machine.execSetFlagMask link name bits s
  | .setInputMask link byte bits => Sys2Proof.Machine.execSetInputMask link byte bits s
  | .setClearMode link mode => Sys2Proof.Machine.execSetClearMode link mode s
  | .suppress link => Sys2Proof.Machine.execSuppress link s
  | .encoderCount direction => Sys2Proof.Machine.execEncoderCount direction s
  | .markLeadingEdge => Sys2Proof.Machine.execMarkLeadingEdge s
  | .markTrailingEdge => Sys2Proof.Machine.execMarkTrailingEdge s
  | .spliceIn => Sys2Proof.Machine.execSpliceIn s
  | .leaderInChange level => Sys2Proof.Machine.execLeaderInChange level s
  | .trailerIn => Sys2Proof.Machine.execTrailerIn s
  | .filmAtRest => Sys2Proof.Machine.execFilmAtRest s
  | .stallTimerExpiry => Sys2Proof.Machine.execStallTimerExpiry s
  | .backOffComplete => Sys2Proof.Machine.execBackOffComplete s
  | .leaderLostCount => Sys2Proof.Machine.execLeaderLostCount s
  | .settleExpiry => Sys2Proof.Machine.execSettleExpiry s
  | .gatePulseEnd => Sys2Proof.Machine.execGatePulseEnd s
  | .threadTimerExpiry => Sys2Proof.Machine.execThreadTimerExpiry s
  | .warmTimerExpiry => Sys2Proof.Machine.execWarmTimerExpiry s
  | .idleTimerExpiry => Sys2Proof.Machine.execIdleTimerExpiry s
  | .wakeCountTick => Sys2Proof.Machine.execWakeCountTick s
  | .wakeCountExpiry => Sys2Proof.Machine.execWakeCountExpiry s
  | .tensionTimerExpiry => Sys2Proof.Machine.execTensionTimerExpiry s
  | .holdTimerExpiry => Sys2Proof.Machine.execHoldTimerExpiry s
  | .captureTimerExpiry => Sys2Proof.Machine.execCaptureTimerExpiry s
  | .scoreTimerExpiry => Sys2Proof.Machine.execScoreTimerExpiry s
  | .focusStep focHome => Sys2Proof.Machine.execFocusStep focHome s
  | .homingStepLimit => Sys2Proof.Machine.execHomingStepLimit s
  | .pollByteRead acknowledged value => Sys2Proof.Machine.execPollByteRead acknowledged value s
  | .tagRecordRead acknowledged record => Sys2Proof.Machine.execTagRecordRead acknowledged record s
  | .tagRecordWrite acknowledged => Sys2Proof.Machine.execTagRecordWrite acknowledged s
  | .busTimerExpiry => Sys2Proof.Machine.execBusTimerExpiry s
  | .recoveryAttemptEnd high => Sys2Proof.Machine.execRecoveryAttemptEnd high s

end Sys2Proof.Machine
end

