-- ==== Sys2Proof/Safety.lean ====
section
/-! DEFINITION. What the statements call a sound state: the bounds the spec gives (R1, R9, R117, R119, R165, R191) and no
consequence left undone (log 4); and the states several of them speak of. -/

namespace Sys2Proof.Machine

open Sys2Proof

/-- No consequence of an earlier command is left undone. -/
abbrev Quiet (s : State) : Prop := s.todo = []

/-- Every station parameter lies in its range (R191). -/
abbrev Params.inRange (p : Params) : Prop :=
  (10 ≤ p.stallTime ∧ p.stallTime ≤ 2550) ∧ (5 ≤ p.settleTime ∧ p.settleTime ≤ 255) ∧
  (1 ≤ p.arriveTol ∧ p.arriveTol ≤ 255) ∧ (500 ≤ p.approachDist ∧ p.approachDist ≤ 65535) ∧
  (100 ≤ p.recoverDist ∧ p.recoverDist ≤ 65535) ∧ p.recoverTries ≤ 7 ∧
  (1 ≤ p.threadTime ∧ p.threadTime ≤ 60) ∧ p.lampWarm ≤ 10 ∧ p.standbyIdle ≤ 3600 ∧
  (10 ≤ p.captureTimeout ∧ p.captureTimeout ≤ 2550) ∧ (10 ≤ p.scoreTimeout ∧ p.scoreTimeout ≤ 2550) ∧
  p.minContrast ≤ 65535 ∧ p.backlash ≤ 63 ∧ (1 ≤ p.agingLimit ∧ p.agingLimit ≤ 15) ∧
  (1 ≤ p.maxFill ∧ p.maxFill ≤ 8) ∧ (16 ≤ p.checkInterval ∧ p.checkInterval ≤ 1024) ∧
  (1 ≤ p.auxTimeout ∧ p.auxTimeout ≤ 255) ∧ (10 ≤ p.gatePulse ∧ p.gatePulse ≤ 1000) ∧
  (p.stationGauge = 16 ∨ p.stationGauge = 35)

/-- The name a slot is reached by, its owner and tag; none while it is FREE (R117). -/
def Slot.key (x : Slot) : Option (Link × Byte) := if x.state = .free then none else some (x.owner, x.tag)

/-- The names of the 16 slots. -/
def State.slotKeys (s : State) : List (Option (Link × Byte)) := s.slots.map Slot.key

/-- How many slots a link holds, among slots of these names. -/
def heldKeys (l : Link) (keys : List (Option (Link × Byte))) : Nat :=
  keys.countP (fun k => match k with
    | some x => x.1 == l
    | none => false)

/-- No name stands twice. -/
def distinctKeys : List (Option (Link × Byte)) → Bool
  | [] => true
  | none :: ks => distinctKeys ks
  | some k :: ks => !ks.contains (some k) && distinctKeys ks

/-- The law of the retrieval table (R117, R119): 16 slots, at most 12 of them held by each link, and no two of a link's slots
share a tag. -/
abbrev SlotLaw (s : State) : Prop :=
  s.slots.length = Config.slotCount ∧ heldKeys .a s.slotKeys ≤ Config.linkSlots ∧
    heldKeys .b s.slotKeys ≤ Config.linkSlots ∧ distinctKeys s.slotKeys = true

/-- The register lies in its range (R1). -/
abbrev RegisterLaw (s : State) : Prop := s.tracker.register ≤ Config.maxCoord

/-- Focus zones in strictly ascending start order (R100). -/
abbrev zonesAscend (l : List Zone) : Prop := l.Pairwise (fun a b => a.start < b.start)

/-- The law of the zone table (R100): ascending by start, at most 32; and so are the zones a running tag load has gathered
(R161). -/
abbrev ZoneLaw (s : State) : Prop :=
  (zonesAscend s.zones ∧ s.zones.length ≤ Config.maxZones) ∧
    ∀ l ∈ s.tag.load, zonesAscend l.zones ∧ l.zones.length ≤ Config.maxZones

/-- Checkpoints in strictly ascending frame order (R165). -/
abbrev checksAscend (l : List Checkpoint) : Prop := l.Pairwise (fun a b => a.frame < b.frame)

/-- The law of the index table and of the checkpoint list (R9, R165): at most 16,384 entries; at most 96 checkpoints, ascending
by frame, and so are those a running tag load has gathered (R161). -/
abbrev IndexLaw (s : State) : Prop :=
  s.index.entries.length ≤ Config.maxFrames ∧
    (checksAscend s.index.checkpoints ∧ s.index.checkpoints.length ≤ Config.maxCheckpoints) ∧
    ∀ l ∈ s.tag.load, checksAscend l.checks ∧ l.checks.length ≤ Config.maxCheckpoints

/-- The law of the lens (R96, R98, R100): the position and the target lie in 0..4095; a lens stepping up stands below its target,
and the end of a planned DOWN leg does not lie above it. -/
abbrev LensLaw (s : State) : Prop :=
  s.focus.position ≤ Config.maxStep ∧ (∀ t ∈ s.focus.target, t ≤ Config.maxStep) ∧
    (s.focus.phase = .up → s.focus.status = .ready ∧ ∃ t ∈ s.focus.target, s.focus.position < t) ∧
    (s.focus.phase = .down → s.focus.status = .ready → ∃ t ∈ s.focus.target, s.focus.downEnd ≤ t)

/-- The law of the pitch (R31, R80): a nominal pitch of 500 to 16,000 in every profile, and pitch_q within an eighth of the active
one. -/
abbrev PitchLaw (s : State) : Prop :=
  (500 ≤ s.roll.active.pitch ∧ s.roll.active.pitch ≤ 16000) ∧
    (500 ≤ s.roll.default.pitch ∧ s.roll.default.pitch ≤ 16000) ∧
    (∀ l ∈ s.tag.load, 500 ≤ l.profile.pitch ∧ l.profile.pitch ≤ 16000) ∧
    pitchLow s.roll.active.pitch ≤ s.index.pitchQ ∧ s.index.pitchQ ≤ pitchHigh s.roll.active.pitch

/-- The entries stand in the order of their positions (R9). -/
abbrev OrderLaw (s : State) : Prop := s.index.entries.Pairwise (fun a b => a.position < b.position)

/-- Every entry has the triple that its class gives after the one before it, and the counters hold the last one (R13). -/
abbrev NumberLaw (s : State) : Prop :=
  renumberList { batch := 0, document := 0, page := 0 } s.index.entries = (s.index.entries, s.index.counters)

/-- A resolved frame lies in the index (R121): in every PENDING, TRAVELLING or PRESENTING slot; and no slot is open while there is
no roll (R24). -/
abbrev FrameLaw (s : State) : Prop :=
  (∀ x ∈ s.slots, (x.state = .pending ∨ x.state = .travelling ∨ x.state = .presenting) →
    ∃ k ∈ x.frame, k ≤ s.index.entries.length) ∧
  ((s.transport.state = .empty ∨ s.transport.state = .threading ∨ s.transport.state = .rewinding) →
    ∀ x ∈ s.slots, x.state = .free ∨ x.state = .done)

/-- The fault kind is NONE except in FAULTED (R49). -/
abbrev FaultLaw (s : State) : Prop := s.transport.state = .faulted ↔ s.transport.fault ≠ .none

/-- What the gate holder record shows (R58): it is filled in SETTLED alone, and then by the one slot that is PRESENTING, by the pass
that awaits a capture, or by the sweep that has a current point, each with the grant of its kind. -/
def holderShown (s : State) : Prop :=
  match s.transport.holder with
  | none => s.transport.state ≠ .settled
  | some (.retrieval l tag) => s.transport.state = .settled ∧
      ∃ i, s.sched.grant = .slot i ∧ ∃ x, s.slots[i]? = some x ∧ x.state = .presenting ∧ x.owner = l ∧ x.tag = tag
  | some (.pass l) => s.transport.state = .settled ∧
      s.pass.work = .awaitingCapture ∧ s.pass.owner = some l ∧ s.sched.grant = .pass
  | some (.sweep l id) => s.transport.state = .settled ∧
      ∃ x, s.sweep.active = some x ∧ (x.state = .movingLens ∨ x.state = .awaitingScore) ∧ x.link = l ∧ x.id = id ∧
        match x.origin with
        | .standAlone => s.sched.grant = .sweep
        | .pass => s.sched.grant = .pass ∧ s.pass.work = .sweeping

/-- Work at the gate or on the way to it holds the transport (R58, R125): a TRAVELLING slot has the grant; a PRESENTING one, a pass
that awaits a capture and a sweep with a current point fill the holder record. -/
abbrev workHolds (s : State) : Prop :=
  (∀ i x, s.slots[i]? = some x →
    (x.state = .travelling → s.sched.grant = .slot i) ∧
    (x.state = .presenting → s.sched.grant = .slot i ∧ s.transport.holder = some (.retrieval x.owner x.tag))) ∧
  (s.pass.work = .awaitingCapture → ∃ l, s.transport.holder = some (.pass l)) ∧
  (∀ x ∈ s.sweep.active, (x.state = .movingLens ∨ x.state = .awaitingScore) →
    s.transport.holder = some (.sweep x.link x.id)) ∧
  (∀ x ∈ s.sweep.active, x.origin = .standAlone → x.state = .travelling → s.sched.grant = .sweep)

/-- What else the gate's law rests on: the first round precedes every film (R95), a ready gate and a filled one have no move
(R57), a pass at work, a sweep of the pass and a grant stand together (R125, R126, R139), and no stand-alone sweep is active
beside a pass that works or waits for the lamp (R106, R150). -/
abbrev GateFrame (s : State) : Prop :=
  (s.poller.firstRoundDone = false → s.transport.state = .empty) ∧
  (s.transport.gateReady = true → s.transport.state = .settling ∧ s.transport.move = none) ∧
  (s.transport.move ≠ none → s.transport.state = .moving ∨ s.transport.state = .recovering ∨
    s.transport.state = .settling ∨ s.transport.state = .rewinding) ∧
  (s.sched.grant ≠ .none → s.transport.state ≠ .empty ∧ s.transport.state ≠ .threading ∧
    s.transport.state ≠ .rewinding ∧ s.transport.state ≠ .faulted) ∧
  (s.sched.grant = .sweep → ∃ x ∈ s.sweep.active, x.origin = .standAlone) ∧
  (s.pass.owner = none ↔ s.pass.state = .idle) ∧
  (s.pass.work ≠ .none → s.sched.grant = .pass) ∧
  ((s.pass.work ≠ .none ∨ s.pass.after = .awaitLamp) →
    s.pass.state = .running ∧ ∀ x ∈ s.sweep.active, x.origin = .pass) ∧
  (∀ x ∈ s.sweep.active, (x.state = .queued → x.origin = .standAlone) ∧
    (x.origin = .pass → s.pass.owner = some x.link))

/-- The law of the gate (R49, R58, R125). -/
abbrev GateLaw (s : State) : Prop := FaultLaw s ∧ holderShown s ∧ workHolds s ∧ GateFrame s

/-- The link a request came on; none for an event of the film, a timer, the lens or the bus. -/
def linkOf (c : Instr) : Option Link :=
  match c with
  | .malformedFrame l => some l
  | _ => (requestParts c).map (·.1)

/-- A state in which a link has been answered (R183) and its index stream closed (R184, item 1), and nothing else. -/
def answered (l : Link) (code : AnswerCode) (request : Byte) (contents : Contents) (s : State) : State :=
  onLink l (fun k => { k with stream := none, answer := { code := code, request := request, contents := contents } }) s

/-- A slot the scheduler has nothing to do for. -/
def Slot.resting (x : Slot) : Bool := x.state == .free || x.state == .done

/-- No row of the scheduler's order has a candidate (R122, R123): the level is not LOST, no slot waits, no sweep is active
and the pass is not active. -/
abbrev NoWork (s : State) : Prop :=
  s.tracker.level ≠ .lost ∧ (∀ x ∈ s.slots, x.resting = true) ∧ s.sweep.active = none ∧ s.passActive = false

/-- The scheduler has no choice to make: a grant stands, or no row has a candidate (R122). -/
abbrev AtEase (s : State) : Prop := s.sched.grant ≠ .none ∨ NoWork s

/-- The state after a fault of this kind, where no pass is owned and no sweep is active (R71). -/
def faulted (kind : FaultKind) (s : State) : State :=
  flagTransport .fault
    { s with
      transport := { s.transport with
        state := .faulted, fault := kind, faultInThreading := decide (s.transport.state = .threading),
        capstan := none, pulse := none, stallTimer := none, settleTimer := none, gateReady := false, move := none,
        holder := none }
      slots := s.slots.map Slot.onFault
      sched := { s.sched with grant := .none }
      roll := { s.roll with threadTaken := false, rewindTaken := false, writeBackTaken := false, threadTimer := none,
                            tensionTimer := none, wakeCount := none, idleTimer := none } }

/-- The move `m` has been stopped and ends with this outcome once the film is at rest (R59), at the next FILM_AT_REST also where it
stands already (log 71). -/
def comingToRest (m : Move) (o : MoveOutcome) (s : State) : State :=
  { s with transport := { s.transport with
      capstan := none, stallTimer := none
      move := some { m with finalApproach := false, phase := .stopping, plan := [], aside := [],
                            atRest := some (.finish o) } } }

/-- A grant is made, the idle timer stopping, with no yield owed (R125, R89); WAKING holds it until PARKED (R50, R91). -/
def heldGrant (g : Grant) (s : State) : State :=
  { s with sched := { s.sched with grant := g, yieldOwed := false }, roll := { s.roll with idleTimer := none } }

/-- The transport as a HOME move begins in it from PARKED (R50, R63, R66): on film the reverse leg to the leader goes before the
final forward CREEP leg. -/
def homeStarted (s : State) : Transport :=
  let creep : Leg := { direction := .forward, cls := .creep, stop := .leaderReads .film }
  let back : Leg := { direction := .reverse, cls := .shuttle, stop := .leaderReads .leader }
  { s.transport with
    state := .moving, stallTimer := some s.params.stallTime
    capstan := some (if s.transport.leaderIn = .film then .reverse else .forward)
    move := some { newMove .home none 0 none with
      leg := if s.transport.leaderIn = .film then back else creep
      plan := if s.transport.leaderIn = .film then [creep] else [] } }

/-- HOME is granted in PARKED and its move begins (R123, R125); its reverse leg, at SHUTTLE, discards the mark in progress
(R28). -/
def homeGranted (s : State) : State :=
  { s with
    sched := { s.sched with grant := .home }
    transport := homeStarted s
    marks := { s.marks with inProgress := if s.transport.leaderIn = .film then none else s.marks.inProgress }
    roll := { s.roll with idleTimer := none } }

/-- A lens that does not move for the target `t` is there already, or has no working home (R98, R99). -/
def lensThere (t : Nat) (s : State) : Bool :=
  s.focus.status == .fault || (s.focus.status == .ready && t == s.focus.position)

/-- The lens with the target `t` from this requester (R97, R98, R99): one that is not there plans its legs, down by BACKLASH beyond a
lower target, and one that still homes keeps the target. -/
def lensSent (t : Nat) (r : Requester) (s : State) : Focus :=
  if s.focus.status = .homing then { s.focus with target := some t, requester := some r }
  else if lensThere t s = true then { s.focus with target := some t, requester := none, phase := .idle }
  else if t < s.focus.position then
    { s.focus with target := some t, requester := some r, phase := .down, downEnd := t - s.params.backlash }
  else { s.focus with target := some t, requester := some r, phase := .up }

/-- The move `m` to frame `k` begins its final CREEP leg towards the target `t` (R51, R54, R101): the final-approach flag is set, and
the lens is sent to the frame's step. -/
def creeping (k t : Nat) (clamped : Bool) (m : Move) (s : State) : State :=
  { s with
    transport := { s.transport with
      capstan := some .forward
      move := some { m with
        leg := { direction := .forward, cls := .creep, stop := .target }, plan := [], travel := 0, atRest := none,
        target := some t, clamped := clamped, finalApproach := true,
        focusTaken := lensThere (min 4095 (s.zoneStep k)) s } }
    focus := lensSent (min 4095 (s.zoneStep k)) (.approach k) s }

/-- The discovery frontier (R12): a window beyond the last entry, or the leader length. -/
def frontierCoord (s : State) : Nat :=
  if s.index.entries = [] then s.roll.active.leader
  else s.pos s.index.entries.length + max 40 (s.index.pitchQ / 64)

/-- The target of a FRAME move to frame k, its gate coordinate or the trailer that lies below it, and whether it is clamped there
(R52). -/
def gateTarget (k : Nat) (s : State) : Nat × Bool :=
  let gate := s.pos k + s.roll.active.gateOffset
  match s.index.trailer with
  | some t => if t < gate then (t, true) else (gate, false)
  | none => (gate, false)

/-- The legs of a FRAME move to the target `t` (R53). -/
def frameLegs (t : Nat) (s : State) : List Leg :=
  let d := t - s.params.approachDist
  let n := min d (frontierCoord s)
  (if s.tracker.register + s.params.approachDist < t then
    (if s.tracker.register < n then [{ direction := .forward, cls := .shuttle, stop := .coord n }] else []) ++
      (if frontierCoord s < d then [{ direction := .forward, cls := .index, stop := .coord d }] else [])
  else [{ direction := .reverse, cls := .shuttle, stop := .coord d }]) ++
    [{ direction := .forward, cls := .creep, stop := .target }]

/-- The legs of a DISCOVER move (R61). -/
def discoverLegs (s : State) : List Leg :=
  let d := frontierCoord s - s.params.approachDist
  (if frontierCoord s < s.tracker.register then [{ direction := .reverse, cls := .shuttle, stop := .coord d }]
  else if s.tracker.register + s.params.approachDist ≤ frontierCoord s then
    [{ direction := .forward, cls := .shuttle, stop := .coord d }]
  else []) ++ [{ direction := .forward, cls := .index, stop := .unbounded }]

/-- The legs of a FLY-RUN with the run-up coordinate `u` and an end coordinate or none (R62). -/
def flyLegs (u : Nat) (z : Option Nat) (s : State) : List Leg :=
  (if s.tracker.register ≤ u then
    { direction := .forward, cls := .shuttle, stop := .coord (min u (frontierCoord s)) } ::
      (if frontierCoord s < u then [{ direction := .forward, cls := .index, stop := .coord u }] else [])
  else [{ direction := .reverse, cls := .shuttle, stop := .coord u }]) ++
    [{ direction := .forward, cls := .index, stop := match z with
        | some c => .coord c
        | none => .unbounded }]

/-- The move `m` begins from rest with these legs (R50, R51, R63): MOVING, the capstan driving the first leg, which at SHUTTLE
discards the mark in progress (R28). -/
def moveBegun (m : Move) (legs : List Leg) (s : State) : State :=
  match legs with
  | [] => s
  | x :: rest =>
    { s with
      transport := { s.transport with
        state := .moving, move := some { m with leg := x, plan := rest }, capstan := some x.direction
        stallTimer := some s.params.stallTime }
      roll := { s.roll with idleTimer := none }
      marks := { s.marks with inProgress := if x.cls = .shuttle then none else s.marks.inProgress } }

/-- A FRAME move to frame k begins (R50, R52, R53). -/
def approachBegun (k : Nat) (s : State) : State :=
  let t := gateTarget k s
  moveBegun { newMove .frame (some k) 0 none with target := some t.1, clamped := t.2 } (frameLegs t.1 s) s

/-- A DISCOVER move begins (R50, R61). -/
def discoverBegun (s : State) : State := moveBegun (newMove .discover none 0 none) (discoverLegs s) s

/-- A move may begin from PARKED (R50, R70): no other is in flight, the level is not LOST, the door is closed and the tension in
band. -/
abbrev MayMove (s : State) : Prop :=
  s.transport.move = none ∧ s.tracker.level ≠ .lost ∧ s.doorClosed = true ∧ tensionOut s.poller.values = false

/-- Frame k is in the index, and its gate coordinate lies within the register's range (R52). -/
abbrev InReach (k : Nat) (s : State) : Prop :=
  1 ≤ k ∧ k ≤ s.index.entries.length ∧ s.pos k + s.roll.active.gateOffset ≤ 16777215 - s.params.arriveTol

/-- The grant has ended in PARKED, with nothing else to do (R89, R126). -/
def grantEnded (s : State) : State :=
  { s with sched := { s.sched with grant := .none }
           roll := { s.roll with idleTimer := if s.params.standbyIdle = 0 then none else some s.params.standbyIdle } }

/-- A move is in flight, in MOVING or in the back-off of RECOVERING. -/
abbrev InFlight (s : State) : Prop :=
  (s.transport.state = .moving ∨ s.transport.state = .recovering) ∧ s.transport.move ≠ none

/-- A stop is asked for of the move in flight (R59): one that stops already goes on stopping, and one in RECOVERING is MOVING
again. -/
def stopAsked (s : State) : State :=
  match s.transport.move with
  | some m =>
    if s.transport.state = .recovering then
      comingToRest m .stopped
        { s with transport := { s.transport with state := .moving }, roll := { s.roll with idleTimer := none } }
    else if m.phase = .running then comingToRest m .stopped s
    else s
  | none => s

/-- The transport is given back with the film at rest and nothing else to do (R58, R59, R126): SETTLED frees the gate, SETTLING
abandons its settle, both PARKED, and a grant that WAKING holds is dropped. -/
def transportFreed (s : State) : State :=
  match s.transport.state with
  | .settled => grantEnded { s with transport := { s.transport with state := .parked, holder := none } }
  | .settling => grantEnded
      { s with transport := { s.transport with
          state := .parked, settleTimer := none, gateReady := false, move := none } }
  | .parked => grantEnded s
  | _ => { s with sched := { s.sched with grant := .none } }

/-- The pass of this link has ended in its segment c (R156), with PASS_END on the link; what R156 does not name keeps its value
(log 33). -/
def passEnded (l : Link) (c : Nat) (o : PassOutcome) (x : SegState) (s : State) : State :=
  onLink l (fun k => { k with flags := { k.flags with passEnd := true } })
    { s with pass := { s.pass with
        state := .idle, owner := none, work := .none, pending := .none, captureTimer := none, armed := none,
        frameInHand := none, yieldAsked := false, yieldLater := false, after := .nothing, visitedInHand := false
        outcomes := s.pass.outcomes.modify (c - 1) (fun r => { r with state := x })
        last := some
          { outcome := o, owner := l, mode := s.pass.mode.getD .step, yieldCount := s.pass.yieldCount,
            lastTriggered := s.pass.lastTriggered, timedOut := s.pass.timedOut } } }

/-- The sweep `x` has ended with this result and no step (R115), FOCUS flagged on its link; the store outcome is the model's choice
(log 14). -/
def sweepEnded (x : SweepRecord) (result : SweepResult) (s : State) : State :=
  onLink x.link (fun k => { k with flags := { k.flags with focus := true } })
    { s with sweep := { s.sweep with
        active := none, scoreTimer := none
        last := some
          { id := x.id, frame := x.frame, link := x.link, result := result, step := none, quality := none,
            store := if x.store then .notStored else .notAsked, scores := x.scores
            timedOutPoint := if result = .timeout then some x.current else none } } }

/-- The segment that holds a pass's frame is no other than its segment c (R152). -/
abbrev HeldAlone (c k : Nat) (s : State) : Prop :=
  ∀ j, (h : j < s.pass.program.length) → j ≠ c - 1 →
    ¬ (s.pass.program[j].first ≤ k ∧ ∀ n ∈ s.pass.program[j].last, k ≤ n)

/-- A FOCUS_FAIL of frame k is counted in segment c (R152). -/
def focusFailed (c k : Nat) (s : State) : State :=
  { s with pass := { s.pass with outcomes := s.pass.outcomes.modify (c - 1) (fun o =>
      { o with faults := { o.faults with focusFail := min 255 (o.faults.focusFail + 1) }
               firstFault := some (o.firstFault.getD k) }) } }

/-- A frame that the segment `g` selects as its entry stands, from the resume frame `r` on, not judged before (R141). -/
abbrev selectedFrom (r : Nat) (g : Segment) (s : State) (k : Nat) : Prop :=
  k ≤ s.index.entries.length ∧ (∀ n ∈ g.last, k ≤ n) ∧ r ≤ k ∧ s.pass.judgedUpTo < k ∧ ∃ e ∈ s.entry k,
    g.action = .all ∨ (g.action = .docStarts ∧ e.cls ≠ .image) ∨ (g.action = .missing ∧ e.capture ≠ .captured)

/-- The frame judged selected before and not yet taken (R141, log 62). -/
def rememberedFrom (r : Nat) (s : State) : Option Nat := s.pass.chosen.find? (fun k => decide (r ≤ k))

/-- No frame of the index is left to take (R141). -/
abbrev exhaustedFrom (r : Nat) (g : Segment) (s : State) : Prop :=
  rememberedFrom r s = none ∧ ∀ j, j ≤ s.index.entries.length → ¬ selectedFrom r g s j

/-- The segment is worked on in steps (R143, R151). -/
abbrev inSteps (g : Segment) (s : State) : Prop := s.pass.mode = some .step ∧ g.action ≠ .indexOnly

/-- The segment ends where the pass goes on: in STEP with no frame left and nothing more to discover, in FLY and for INDEX_ONLY
with the resume frame past its last frame (log 44) or its span wholly beyond a CLOSED index (R143, R148). -/
abbrev segmentEnds (r : Nat) (g : Segment) (s : State) : Prop :=
  let E := s.index.entries.length
  (inSteps g s ∧ exhaustedFrom r g s ∧ ¬ ((∀ n ∈ g.last, E < n ∧ r ≤ n) ∧ s.index.closure = none)) ∨
    (¬ inSteps g s ∧ ((∃ n ∈ g.last, n < r) ∨ (E < g.first ∧ s.index.closure ≠ none)))

/-- How a pass goes on that holds the transport in the state `s`, PARKED, in its segment c with the resume frame r (R141, R142, R143,
R147, R148, R151, R152, R156); `go` says of a state that it is the next one. When a frame is judged is log 62 and when its ordinal is
counted log 68; a sweep due with the lens not READY ends at once FOCUS_FAIL (log 12), which masked ends the pass STOPPED whatever is
pending (log 57); what ends a FLY segment at rest is log 44, and what R156 does not name is kept (log 33). -/
def PassGoesOn (l : Link) (c r : Nat) (g : Segment) (s : State) (go : State → Prop) : Prop :=
  let E := s.index.entries.length
  let begun (p : Pass) : Pass :=
    { p with outcomes := p.outcomes.modify (c - 1) (fun o =>
        { o with state := if o.state = .notRun then .running else o.state }) }
  let lowest (k : Nat) : Prop := selectedFrom r g s k ∧ ∀ j, j < k → ¬ selectedFrom r g s j
  let remembered := rememberedFrom r s
  let found (k : Nat) : Prop := (remembered = some k ∧ k ≤ E) ∨ (remembered = none ∧ lowest k)
  let judged (k : Nat) : Pass := if remembered = none then { s.pass with judgedUpTo := k, chosen := [k] } else s.pass
  let looked : Pass := { s.pass with judgedUpTo := max s.pass.judgedUpTo (min (g.last.getD E) E) }
  let runs (k : Nat) (p : Pass) : State :=
    let coord := if k ≤ E then s.pos k + s.roll.active.gateOffset
      else if E = 0 then s.roll.active.leader + s.roll.active.gateOffset
      else s.pos E + ((k - E) * s.index.pitchQ + 8) / 16 + s.roll.active.gateOffset
    let u := coord - 2 * ((s.index.pitchQ + 8) / 16)
    moveBegun (newMove .flyRun none u none) (flyLegs u none s)
      { s with pass := { begun p with work := .runningFly, armed := none, frameInHand := none, after := .nothing } }
  (∀ k, inSteps g s → found k → s.pos k + s.roll.active.gateOffset ≤ 16777215 - s.params.arriveTol →
    let first : Prop := k ∉ s.pass.counted
    let ordinals := if first then s.pass.ordinals.modify (c - 1) (fun n => n + 1) else s.pass.ordinals
    let falls : Bool := match g.policy with
      | .table => false
      | .sweep n _ _ => (ordinals.getD (c - 1) 0 - 1) % n == 0
    let owed := if first ∧ falls = true then k :: s.pass.sweepOwed else s.pass.sweepOwed
    let taken : Pass :=
      { begun (judged k) with frameInHand := some k, ordinals := ordinals, sweepOwed := owed
                              counted := if first then k :: s.pass.counted else s.pass.counted }
    let id := if 255 ≤ s.sweep.counter then 1 else s.sweep.counter + 1
    (k ∉ owed → go (approachBegun k { s with pass := { taken with work := .approaching, visitedInHand := false } })) ∧
    (∀ n h z, g.policy = .sweep n h z → k ∈ owed →
      (s.focus.status = .ready →
        go (approachBegun k { s with
          pass := { taken with work := .sweeping, after := .nothing }
          sweep := { s.sweep with counter := id, active := some {
            state := .travelling, origin := .pass, id := id, link := l, frame := k, centre := none, halfWidth := h,
            stepSize := z, store := true, points := [], scores := [], current := 0 } } })) ∧
      (s.focus.status ≠ .ready →
        let noted : State := focusFailed c k { s with
          pass := { taken with work := .sweeping, after := .nothing }
          sweep := { s.sweep with counter := id, last := some {
            id := id, frame := k, link := l, result := .focusFail, step := none, quality := none, store := .notStored,
            scores := [], timedOutPoint := none } } }
        (g.stopMask.getLsbD 4 = false →
          go (approachBegun k { noted with pass := { noted.pass with
            work := .approaching, visitedInHand := false, sweepOwed := owed.erase k } })) ∧
        (g.stopMask.getLsbD 4 = true → HeldAlone c k s → (∀ x ∈ s.slots, x.resting = true) →
          go (passEnded l c (.stopped .focusFail k) .stopped (grantEnded noted)))))) ∧
  (inSteps g s → exhaustedFrom r g s → (∀ n ∈ g.last, E < n ∧ r ≤ n) → s.index.closure = none →
    go (discoverBegun { s with pass := { begun looked with work := .seeking } })) ∧
  (¬ inSteps g s → ¬ segmentEnds r g s →
    (g.action = .indexOnly → go (runs r { s.pass with judgedUpTo := r - 1 })) ∧
    (∀ k, g.action ≠ .indexOnly → found k → go (runs k (judged k))) ∧
    (g.action ≠ .indexOnly → exhaustedFrom r g s → go (runs (max r (E + 1)) looked))) ∧
  (segmentEnds r g s → s.pass.segmentCount = some c → (∀ x ∈ s.slots, x.resting = true) →
    go (passEnded l c .completed .done (grantEnded s)))

/-- The segment c is DONE, and the pass takes the segment `g` after it (R156). -/
def nextSegment (c : Nat) (g : Segment) (s : State) : State :=
  { s with pass := { s.pass with
      outcomes := s.pass.outcomes.modify (c - 1) (fun o => { o with state := .done }), current := some (c + 1)
      resume := some g.first, frameInHand := none, armed := none, judgedUpTo := 0, chosen := [], counted := []
      sweepOwed := [], visitedInHand := false, after := .nothing } }

/-- Nothing has been asked of the pass, and no yield is due (R142, R153). -/
abbrev Unasked (s : State) : Prop :=
  s.pass.pending = .none ∧ s.pass.yieldAsked = false ∧ s.pass.yieldLater = false ∧
    (s.pass.yieldInterval = 0 ∨ ∀ x ∈ s.slots, x.state ≠ .pending)

/-- The film has come to rest and the move has ended in PARKED (R51, R59). -/
def moveEnded (s : State) : State :=
  { s with
    tracker := { s.tracker with inMotion := false }
    transport := { s.transport with
      state := .parked, move := none, stallTimer := none, settleTimer := none, gateReady := false, capstan := none }
    roll := { s.roll with idleTimer := none } }

/-- How a pass goes on in PARKED in the state `s` where its segment c has ended: COMPLETED after the last one, else in the next
(R156). -/
def SegmentPassed (l : Link) (c : Nat) (s : State) (go : State → Prop) : Prop :=
  (s.pass.segmentCount = some c → (∀ y ∈ s.slots, y.resting = true) → go (passEnded l c .completed .done (grantEnded s))) ∧
  (∀ n g, s.pass.segmentCount = some n → c < n → s.pass.program[c]? = some g → 1 ≤ g.first → Unasked s → MayMove s →
    PassGoesOn l (c + 1) g.first g (nextSegment c g s) go)

/-- The state an unload leaves (R94, R24, R83, R87, R159): EMPTY, the tables and the roll emptied, the lamp off, DRIFTING, and ROLL
flagged on both links. The reels are off (log 51), and "roll records valid" stays as it was (log 30). -/
def unloaded (s : State) : State :=
  onLinks (fun k => { k with stream := none, flags := { k.flags with roll := true } })
    { s with
      transport := { s.transport with
        state := .empty, reels := .off, move := none, gateFrame := none
        pulse := if s.lamp.state = .off then s.transport.pulse else none }
      lamp := if s.lamp.state = .off then s.lamp else { state := .off, warmTimer := none }
      tracker := { s.tracker with level := .drifting, good := 0, miss := 0 }
      marks := { inProgress := none, lastSplice := none }
      index := { s.index with
        entries := [], closure := none, counters := { batch := 0, document := 0, page := 0 }, widening := false,
        pitchQ := 16 * s.roll.default.pitch, checkpoints := [], trailer := none }
      zones := []
      roll := { s.roll with
        tagLoad := .none, rewindTaken := false, writeBackTaken := false, active := s.roll.default, modified := false,
        idleTimer := none }
      tag := { s.tag with status := .none, load := none, dirty := false }
      bus := { s.bus with waiting := none }
      sched := { s.sched with direction := .forward } }

/-- No pass is owned and no sweep is active. -/
abbrev NoPassNoSweep (s : State) : Prop := s.pass.owner = none ∧ s.sweep.active = none

/-- The results a tag load that ends hands on (R163, R81), the profile, zones and checkpoints read in `kept`: the status, the tag load
field COMPLETE, and TAG flagged with LOADED; with the index empty, the profile read or the station default, its pitch, the zones and
the checkpoints in place of those held, and the tag clean. -/
def tagLoadEnded (st : TagStatus) (kept : Option LoadRecord) (s : State) : State :=
  let u := onLinks (fun k => { k with flags := { k.flags with tag := some .loaded } })
    { s with tag := { s.tag with status := st, rollValid := kept.isSome, load := none }
             roll := { s.roll with tagLoad := .complete } }
  if s.index.entries = [] then
    let p := match kept with
      | some m => m.profile
      | none => s.roll.default
    { u with roll := { u.roll with active := p, modified := false }
             tag := { u.tag with dirty := false }
             index := { s.index with pitchQ := 16 * p.pitch, checkpoints := (kept.map (·.checks)).getD [] }
             zones := (kept.map (·.zones)).getD [] }
  else u

/-- What the end of a tag load makes of a roll that is THREADING (R86): of the wrong gauge it is faulted, and with its thread arrival
taken it is PARKED and ROLL is flagged. -/
def threadingChecked (s : State) : State :=
  if s.transport.state = .threading then
    if s.roll.active.gauge ≠ s.params.stationGauge then faulted .threadFail s
    else if s.roll.threadTaken then
      onLinks (fun k => { k with flags := { k.flags with roll := true } })
        { s with transport := { s.transport with state := .parked }
                 roll := { s.roll with
                   idleTimer := if s.params.standbyIdle = 0 then none else some s.params.standbyIdle } }
    else s
  else s

/-- Where the end of a tag load faults or parks a THREADING roll, the part has nothing else to do. -/
abbrev ThreadsAlone (s : State) : Prop :=
  s.transport.state = .threading →
    (s.roll.active.gauge ≠ s.params.stationGauge → NoPassNoSweep s) ∧
    (s.roll.active.gauge = s.params.stationGauge → s.roll.threadTaken = true →
      s.sched.grant = .none ∧ NoWork s ∧ s.lamp.state ≠ .off)

/-- The write-back's end is reported to the load logic (R170, R171): a rewind takes it, and one that has ended before completes the
unload (R94). -/
def writeBackEnded (s : State) : State :=
  let v : State :=
    { s with tag := { s.tag with writeState := .idle, writePlan := [] }
             roll := { s.roll with
               writeBackTaken := if s.transport.state = .rewinding then true else s.roll.writeBackTaken } }
  if s.transport.state = .rewinding ∧ s.roll.rewindTaken = true then unloaded v else v

/-- The write-back ends WRITE_FAILED (R171): TAG is flagged, the tag stays dirty, and the end is reported. -/
def writeBackFailed (s : State) : State :=
  writeBackEnded (onLinks (fun k => { k with flags := { k.flags with tag := some .writeFailed } }) s)

/-- The decision on a write-back that has waited for a tag load (R167): nothing is written where the tag is absent or clean; on a FAILED
bus the first write fails; else the writes begin with the records of the state as it then stands. -/
def writeBackDecided (s : State) : State :=
  if s.tag.status = .absent ∨ s.tag.status = .none ∨ s.tag.dirty = false then writeBackEnded s
  else if s.bus.state = .failed then writeBackFailed s
  else { s with tag := { s.tag with writeState := .writing, writePlan := s.writes }
                bus := { s.bus with waiting := some .write } }

/-- A tag load has ended, and all that follows from its end (R163, R86, R167). -/
def tagLoadFinished (st : TagStatus) (kept : Option LoadRecord) (s : State) : State :=
  let u := threadingChecked (tagLoadEnded st kept s)
  if s.tag.writeState = .waiting then writeBackDecided u else u

/-- A run is safe when no step of it faults or is refused: the FT-340 answers every command. -/
def Safe (s : State) : Prop := ∃ t, step s = .next t

end Sys2Proof.Machine
end

