-- ==== Sys2Proof/Certificates/Slice0/Obligations.lean ====
section
/-! DEFINITION. What is asked of the provers: the rules of the spec as statements about the model. -/

open Sys2Proof Sys2Proof.Machine

/-! ### The machine -/

/-- The command at the front of the queue is the one carried out, on the state with the queue's rest; on an empty queue the
block idles (log 2). -/
def Obligations.FrontCommandRuns : Prop :=
  (∀ (c : Instr) (rest : List Instr) (s : State), s.pending = c :: rest →
    step s = exec c { s with pending := rest }) ∧
  (∀ s : State, s.pending = [] → step s = .next s)

/-- No command stops the part, none touches the commands that wait behind it (log 2), and what follows from a command is carried out
before the next one, so that every step leaves nothing undone (log 4). -/
def Obligations.QueueIsLeftAlone : Prop :=
  (∀ (c : Instr) (s : State), ∃ t, exec c s = .next t ∧ t.pending = s.pending) ∧
  (∀ s t : State, Quiet s → step s = .next t → Quiet t)

/-- Every step keeps the register within 0..16,777,215 (R1). -/
def Obligations.StepKeepsRegister : Prop :=
  ∀ s t : State, RegisterLaw s → step s = .next t → RegisterLaw t

/-- Every step keeps the parameters within their ranges, and a parameter is changed by SET PARAMETER and device reset alone, never by
LINK RESET or an event (R191). -/
def Obligations.ParametersAreKept : Prop :=
  (∀ s t : State, s.params.inRange → step s = .next t → t.params.inRange) ∧
  (∀ (c : Instr) (s t : State), exec c s = .next t →
    (∀ l code v, c ≠ .setParameter l code v) → (∀ x h, c ≠ .deviceReset x h) → t.params = s.params)

/-- Every step keeps the law of the retrieval table: 16 slots, at most 12 of a link, no tag twice on a link (R117, R119). -/
def Obligations.StepKeepsSlots : Prop :=
  ∀ s t : State, SlotLaw s → step s = .next t → SlotLaw t

/-- Every step from a state with nothing left undone keeps the law of the gate: the fault kind is NONE except in FAULTED (R49); the holder record is filled in SETTLED
alone, by the slot that is PRESENTING, the pass that awaits a capture or the sweep that has a current point (R58); and a TRAVELLING
slot has the grant (R125). With it go the frame of that law: a pass at work holds the grant, and no stand-alone sweep is active beside
a pass that works or waits for the lamp (R106, R107, R125). In such a state SETTLED and a filled holder record come together, and at most one slot is TRAVELLING or
PRESENTING. -/
def Obligations.StepKeepsGate : Prop :=
  (∀ s t : State, Quiet s → GateLaw s → step s = .next t → GateLaw t) ∧
  (∀ s : State, GateLaw s → (s.transport.state = .settled ↔ s.transport.holder ≠ none)) ∧
  (∀ (s : State) (i j : Nat) (x y : Slot), GateLaw s → s.slots[i]? = some x → s.slots[j]? = some y →
    (x.state = .travelling ∨ x.state = .presenting) → (y.state = .travelling ∨ y.state = .presenting) → i = j)

/-- Every step keeps the tables in their order and size: the focus zones strictly ascending and at most 32 (R100), the index within
16,384 entries (R9), and the checkpoints strictly ascending and at most 96 (R165). -/
def Obligations.StepKeepsTables : Prop :=
  (∀ s t : State, ZoneLaw s → step s = .next t → ZoneLaw t) ∧
  (∀ s t : State, IndexLaw s → step s = .next t → IndexLaw t)

/-- Every step keeps the order and the numbers of the index: the nominal pitches in 500..16,000 and pitch_q within an eighth of the
active one (R31, R80); with them, pos(k) < pos(k+1) for every k < E (R9); the triple of every entry following from the one before by
its class, and the hierarchy counters holding the triple of entry E (R13, R14); and the resolved frame of every PENDING, TRAVELLING
or PRESENTING slot in the index (R121). -/
def Obligations.StepKeepsOrder : Prop :=
  (∀ s t : State, PitchLaw s → step s = .next t → PitchLaw t) ∧
  (∀ s t : State, PitchLaw s → OrderLaw s → step s = .next t → OrderLaw t) ∧
  (∀ s t : State, NumberLaw s → step s = .next t → NumberLaw t) ∧
  (∀ s t : State, FrameLaw s → step s = .next t → FrameLaw t)

/-- Every step keeps the lens and its target in 0..4095, a rising lens below its target, and the end of a falling leg at or below it
(R96, R98, R100). -/
def Obligations.StepKeepsLens : Prop :=
  ∀ s t : State, LensLaw s → step s = .next t → LensLaw t

/-- The state after reset meets every invariant that the steps keep. -/
def Obligations.ResetIsSound : Prop :=
  Quiet State.reset ∧ RegisterLaw State.reset ∧ State.reset.params.inRange ∧ SlotLaw State.reset ∧ ZoneLaw State.reset ∧
    IndexLaw State.reset ∧ LensLaw State.reset ∧ PitchLaw State.reset ∧ OrderLaw State.reset ∧ NumberLaw State.reset ∧
    FrameLaw State.reset ∧ GateLaw State.reset

/-- A request refused on one link changes nothing but that link's pending answer and its index stream, which closes (R183,
R184). INDEX READ, which does not close the stream, and the FULL of INDEX WRITE, which stores what fits, are not meant. -/
def Obligations.RefusalChangesNothing : Prop :=
  ∀ (c : Instr) (l : Link) (code : Byte) (ps : List Byte) (s t : State),
    requestParts c = some (l, code, ps) → Quiet s → exec c s = .next t →
    (t.link l).answer.code ≠ .ok → (t.link l).answer.code ≠ .accepted →
    (∀ m n, c ≠ .indexRead m n) → ((t.link l).answer.code = .full → ∀ m n a b d e, c ≠ .indexWrite m n a b d e) →
    t = answered l (t.link l).answer.code code .empty s

/-- What a link holds for itself is set by its own requests alone: a command that came on another link, and every event,
leaves a link's pending answer, flag mask, clear mode, program buffer and input mask as they are (10; R183, R187, R188, R177,
R138). -/
def Obligations.LinksAreHeldApart : Prop :=
  ∀ (c : Instr) (m : Link) (s t : State), exec c s = .next t → linkOf c ≠ some m → (∀ x h, c ≠ .deviceReset x h) →
    (t.link m).answer = (s.link m).answer ∧ (t.link m).flagMask = (s.link m).flagMask ∧
    (t.link m).clearMode = (s.link m).clearMode ∧ (t.link m).buffer = (s.link m).buffer ∧
    (t.link m).inputMask = (s.link m).inputMask

/-- A slot that is DONE stays as it is until its link collects it or resets itself, or the part is reset (R117, R135, R136). -/
def Obligations.DoneSlotsWait : Prop :=
  ∀ (c : Instr) (i : Nat) (x : Slot) (s t : State), exec c s = .next t → s.slots[i]? = some x → x.state = .done →
    c ≠ .linkReset x.owner → (∀ a b, c ≠ .collect x.owner a b) → (∀ a h, c ≠ .deviceReset a h) →
    t.slots[i]? = some x

/-! ### Reset -/

/-- Device reset (R193 and the reset values of the blocks): the next state is the state right after reset, with the two input
levels given (log 5), the waiting commands and the counter of free values (log 3) kept. What the rules make the part remember without
naming a register for it starts as nothing remembered (log 25: a ready gate and a fault taken in THREADING among it), and the first
poll byte read is in progress with the bus timer running (log 26). Block by block: the position and the marks,
the index, the transport and its timers, the lamp, the roll with the built-in default profile in both places, the lens and its
homing, the zones and the sweep, the slots and the scheduler, the pass, the tag, the poller and the bus, the parameters, and both
links with no flag set and NOTICE deasserted. -/
def Obligations.DeviceResetClears : Prop :=
  ∀ (x : LeaderLevel) (h : Bool) (s : State), ∃ t, exec (.deviceReset x h) s = .next t ∧
    t = { State.resetWith x h with pending := s.pending, freeCount := s.freeCount } ∧
    t.transport.state = .empty ∧ t.transport.fault = .none ∧ t.transport.move = none ∧ t.transport.holder = none ∧
    t.transport.gateFrame = none ∧ t.transport.leaderIn = x ∧ t.transport.capstan = none ∧ t.transport.reels = .off ∧
    t.transport.stallTimer = none ∧ t.transport.settleTimer = none ∧ t.transport.pulse = none ∧
    t.transport.faultInThreading = false ∧ t.transport.gateReady = false ∧
    t.tracker.register = 0 ∧ t.tracker.direction = .forward ∧ t.tracker.level = .drifting ∧ t.tracker.good = 0 ∧
    t.tracker.miss = 0 ∧ t.marks.inProgress = none ∧ t.marks.lastSplice = none ∧
    t.index.entries = [] ∧ t.index.closure = none ∧ t.index.pitchQ = 16 * 3000 ∧ t.index.checkpoints = [] ∧
    t.index.trailer = none ∧ t.index.counters = { batch := 0, document := 0, page := 0 } ∧ t.index.widening = false ∧
    t.lamp.state = .off ∧ t.lamp.warmTimer = none ∧ t.roll.cartridge = false ∧ t.roll.tagLoad = .none ∧
    t.roll.active = t.roll.default ∧ t.roll.default =
      { rollId := 0#32, gauge := 16, leader := 250000, pitch := 3000, gateOffset := 9000, minMark := 50, tDoc := 400,
        tBatch := 800, defaultStep := 2048 } ∧ t.roll.modified = false ∧
    t.roll.threadTaken = false ∧ t.roll.rewindTaken = false ∧ t.roll.writeBackTaken = false ∧
    t.roll.idleTimer = none ∧ t.roll.wakeCount = none ∧ t.roll.threadTimer = none ∧ t.roll.tensionTimer = none ∧
    t.focus.status = (if h then .ready else .homing) ∧ t.focus.position = 0 ∧ t.focus.target = none ∧
    t.focus.phase = (if h then .idle else .down) ∧ t.focus.requester = none ∧ t.focus.homingSteps = 0 ∧ t.zones = [] ∧
    t.sweep.active = none ∧ t.sweep.last = none ∧ t.sweep.counter = 0 ∧ t.sweep.scoreTimer = none ∧
    (∀ y ∈ t.slots, y.state = .free) ∧ t.slots.length = 16 ∧ t.sched.grant = .none ∧ t.sched.direction = .forward ∧
    t.sched.yieldOwed = false ∧ t.sched.counter = 0#32 ∧
    t.pass.state = .idle ∧ t.pass.owner = none ∧ t.pass.work = .none ∧ t.pass.pending = .none ∧ t.pass.last = none ∧
    t.pass.captureTimer = none ∧ t.pass.yieldCount = 0 ∧ t.pass.framesSinceYield = 0 ∧ t.pass.timedOut = none ∧
    t.pass.lastTriggered = none ∧
    t.tag.status = .none ∧ t.tag.dirty = false ∧ t.tag.rollValid = false ∧ t.tag.load = none ∧ t.tag.writeState = .idle ∧
    t.poller.values = 0#64 ∧ t.poller.firstRoundDone = false ∧ t.poller.stale = 0xFF#8 ∧ t.poller.faults = 0 ∧
    t.bus.state = .running ∧ t.bus.nextByte = 0 ∧ t.bus.transfer = some .poll ∧ t.bus.waiting = none ∧ t.bus.attempts = 0 ∧
    t.params = defaultParams ∧ t.pending = s.pending ∧
    (∀ l, (t.link l).answer = { code := .ok, request := 0x00#8, contents := .empty } ∧
      (t.link l).flags = Flags.clear ∧ (t.link l).flagMask = 0#11 ∧ (t.link l).clearMode = .clearOnRead ∧
      (t.link l).stream = none ∧ (t.link l).buffer = List.replicate 8 none ∧ (t.link l).latches = 0#64 ∧
      (t.link l).inputMask = 0#64 ∧ (t.link l).suppress = .none ∧
      t.resultFlag l = false ∧ t.frameReady l = false ∧ t.scoreWanted l = false ∧ t.sensorFlag l = false ∧
      t.notice l = false)

/-- LINK RESET in every state leaves the link's stream, buffer, flags, masks, clear mode, latches and suppression as after device
reset, also where what it set off has flagged something, its answer the OK of the LINK RESET, and no DONE slot of the link
(R192, R136). Where the link has no slot in the gate or in motion, no pass and no sweep, and no DISCOVER move runs, its slots are freed
and nothing else changes. What ending its work sets off, one work at a time: the move of a TRAVELLING slot is stopped as the transport
state has it (R59, log 71), the grant lasting until the STOPPED outcome, and a PRESENTING slot frees the gate; a DISCOVER move stops
where no slot is RESOLVING any longer (R127); the pass of the link ends ABORTED, its move stopped or its gate freed (R155, R156, log
33), with a sweep of its own CANCELLED; and a stand-alone sweep whose score link it is ends CANCELLED, its move stopped or its gate
freed, the lens going back to the zone step where the points were placed (R115, R116), and the grant ending with the sweep (R126). The
store outcome of a sweep is log 14. PASS_END and FOCUS are cleared again. Where the transport is given back, nothing else waits. -/
def Obligations.LinkResetFreesTheLink : Prop :=
  (∀ (l : Link) (s : State), ∃ t, exec (.linkReset l) s = .next t ∧
    t.link l = LinkState.cleared { code := .ok, request := 0x0B#8, contents := .empty } ∧
    (s.slots.length = 16 → ∀ x ∈ t.slots, x.owner = l → x.state = .free)) ∧
  ∀ (l : Link) (s : State), Quiet s → s.slots.length = 16 →
    let done (u : State) : Prop := exec (.linkReset l) s = .next
      (onLink l (fun _ => LinkState.cleared { code := .ok, request := 0x0B#8, contents := .empty }) u)
    let freed : State :=
      { s with slots := s.slots.map (fun x => if x.state ≠ .free ∧ x.owner = l then Slot.empty else x) }
    let aside (x : Slot) : Prop := x.owner = l → x.state ≠ .travelling ∧ x.state ≠ .presenting
    let noPass : Prop := s.pass.owner ≠ some l
    let noSweep : Prop := ∀ x ∈ s.sweep.active, x.link ≠ l
    let alone : Prop := s.tracker.level ≠ .lost ∧ s.lamp.state ≠ .off ∧ ∀ x ∈ s.slots, x.owner = l ∨ x.resting = true
    let lensBack (x : SweepRecord) (u : State) : State :=
      { u with focus := lensSent (min 4095 (s.zoneStep x.frame)) .back s }
    let scoring (x : SweepRecord) : Prop :=
      (x.state = .movingLens ∨ x.state = .awaitingScore) ∧ x.points ≠ [] ∧ s.transport.state = .settled ∧
        s.transport.holder = some (.sweep l x.id) ∧ s.transport.move = none
    ((∀ x ∈ s.slots, aside x) → noPass → noSweep → s.sched.grant ≠ .discover → done freed) ∧
    (∀ i x, s.slots[i]? = some x → x.owner = l → s.sched.grant = .slot i → (∀ j y, j ≠ i → s.slots[j]? = some y → aside y) →
      noPass → noSweep →
      (x.state = .travelling → InFlight s → done (stopAsked freed)) ∧
      (alone → s.sweep.active = none → s.passActive = false →
        (x.state = .travelling → (s.transport.state = .settling ∨ s.transport.state = .waking) → done (transportFreed freed)) ∧
        (x.state = .presenting → s.transport.state = .settled → done (transportFreed freed)))) ∧
    ((∀ x ∈ s.slots, aside x) → noPass → noSweep → s.sched.grant = .discover →
      ((∃ x ∈ s.slots, x.owner ≠ l ∧ x.state = .resolving) → done freed) ∧
      ((∀ x ∈ s.slots, x.state = .resolving → x.owner = l) →
        (InFlight s → done (stopAsked freed)) ∧
        (s.transport.state = .waking → alone → s.sweep.active = none → s.passActive = false → done (transportFreed freed)))) ∧
    ((∀ x ∈ s.slots, aside x) → s.pass.owner = some l → s.sched.grant ≠ .discover →
      let ended : State := passEnded l (s.pass.current.getD 1) .aborted .aborted freed
      (s.sweep.active = none →
        (s.sched.grant ≠ .pass → s.transport.holder ≠ some (.pass l) → done ended) ∧
        (s.sched.grant = .pass → s.transport.holder = none → InFlight s → done (stopAsked ended)) ∧
        (s.sched.grant = .pass → alone →
          (s.transport.state = .settled ∧ s.transport.holder = some (.pass l) ∧ s.transport.move = none) ∨
            (s.transport.state = .settling ∧ s.transport.holder = none) ∨
            ((s.transport.state = .waking ∨ s.transport.state = .parked) ∧ s.transport.holder = none ∧
              s.transport.move = none) →
          done (transportFreed ended))) ∧
      (∀ x, s.sweep.active = some x → x.origin = .pass → x.link = l →
        (x.state = .travelling → x.points = [] → s.transport.holder = none →
          (s.sched.grant ≠ .pass → done (sweepEnded x .cancelled ended)) ∧
          (s.sched.grant = .pass → InFlight s → done (sweepEnded x .cancelled (stopAsked ended))) ∧
          (s.sched.grant = .pass → s.transport.state = .settling → alone →
            done (sweepEnded x .cancelled (transportFreed ended)))) ∧
        (s.sched.grant = .pass → scoring x → alone →
          done (lensBack x (sweepEnded x .cancelled (transportFreed ended)))))) ∧
    (∀ x, (∀ y ∈ s.slots, aside y) → noPass → s.sweep.active = some x → x.origin = .standAlone → x.link = l →
      (x.state = .queued → x.points = [] → s.sched.grant ≠ .sweep → s.sched.grant ≠ .discover →
        s.transport.holder ≠ some (.sweep l x.id) → done (sweepEnded x .cancelled freed)) ∧
      (s.sched.grant = .sweep →
        (x.state = .travelling → x.points = [] → s.transport.holder = none → InFlight s →
          let stopping := stopAsked freed
          done (sweepEnded x .cancelled { stopping with sched := { s.sched with grant := .none } })) ∧
        (alone → s.passActive = false →
          (x.state = .travelling → x.points = [] → s.transport.holder = none →
            (s.transport.state = .settling ∨ s.transport.state = .waking) →
            done (sweepEnded x .cancelled (transportFreed freed))) ∧
          (scoring x → done (lensBack x (sweepEnded x .cancelled (transportFreed freed)))))))

/-! ### Frames -/

/-- A frame that is not whole, a code that names no request, and NOP (R183, R184, R194): the answer replaces the pending one,
the link's stream closes, and nothing else changes. -/
def Obligations.NonRequestsAndNop : Prop :=
  (∀ (l : Link) (s : State), exec (.malformedFrame l) s = .next (answered l .malformed 0xFF#8 .empty s)) ∧
  (∀ (l : Link) (code : Byte) (s : State), requestLength code = none →
    exec (.unknownRequestCode l code) s = .next (answered l .malformed code .empty s)) ∧
  (∀ (l : Link) (s : State), exec (.nop l) s = .next (answered l .ok 0x00#8 .empty s))

/-- The frame a well-formed request is sent as is read back as that request, with every operand (R183, R184, R194, R195). -/
def Obligations.RequestFramesReadBack : Prop :=
  ∀ (i : Instr) (l : Link) (bytes : List Byte), WellFormed i = true → encodeFrame i = some (l, bytes) →
    decodeFrame l bytes = i

/-- Frames written out byte by byte from 11 are read as the requests they stand for; a transfer shorter than its frame, a
parameter length that is not the code's, and a byte sum that is not zero make a frame that is not whole (R183, R194), whatever fill
follows. -/
def Obligations.FramesAreRead : Prop :=
  (∀ (l : Link) (bytes : List Byte), bytes.length < 3 → decodeFrame l bytes = .malformedFrame l) ∧
  (∀ (l : Link) (code n : Byte) (rest : List Byte), rest.length < n.toNat + 1 →
    decodeFrame l (code :: n :: rest) = .malformedFrame l) ∧
  (∀ (l : Link) (code n : Byte) (m : Nat) (rest : List Byte), requestLength code = some m → n.toNat ≠ m →
    decodeFrame l (code :: n :: rest) = .malformedFrame l) ∧
  (∀ (l : Link) (code n check : Byte) (ps fill : List Byte), ps.length = n.toNat →
    sumBytes (code :: n :: (ps ++ [check])) ≠ 0#8 →
    decodeFrame l (code :: n :: (ps ++ [check] ++ fill)) = .malformedFrame l) ∧
  decodeFrame .a [0x21#8, 0x01#8, 0x07#8, 0xD7#8] = .release .a 0x07#8 ∧
  decodeFrame .b [0x00#8, 0x00#8, 0x00#8] = .nop .b ∧
  decodeFrame .a [0x35#8, 0x03#8, 0xDC#8, 0x00#8, 0x00#8, 0xEC#8] = .captured .a 220#16 0x00#8 ∧
  decodeFrame .b [0x42#8, 0x04#8, 0xC8#8, 0x00#8, 0xDA#8, 0x07#8, 0x11#8] = .zoneSet .b 200#16 2010#16 ∧
  decodeFrame .a [0x52#8, 0x03#8, 0x01#8, 0x02#8, 0xFF#8, 0xA9#8] = .setInputMask .a 0x02#8 0xFF#8 ∧
  decodeFrame .a [0x99#8, 0x00#8, 0x67#8] = .unknownRequestCode .a 0x99#8

/-- The records a write-back writes are read back as the values they were written from (R158, R161, R196): a profile in the
tag's units, a zone, a checkpoint, and END. -/
def Obligations.TagRecordsReadBack : Prop :=
  (∀ p : Profile, (∃ n, p.leader = 64 * n ∧ n < 65536) →
    readRecord (rollARecord p) = some (.rollA p.rollId p.leader)) ∧
  (∀ p : Profile, 500 ≤ p.pitch → p.pitch ≤ 16000 → (∃ n, p.gateOffset = 4 * n ∧ n < 65536) →
    (∃ n, p.minMark = 4 * n ∧ 1 ≤ n ∧ n < 256) → (p.gauge = 16 ∨ p.gauge = 35) →
    readRecord (rollBRecord p) = some (.rollB p.pitch p.gateOffset p.minMark p.gauge)) ∧
  (∀ p : Profile, 1 ≤ p.tDoc → p.tDoc < p.tBatch → p.tBatch < 65536 → p.defaultStep ≤ 4095 →
    readRecord (rollCRecord p) = some (.rollC p.tDoc p.tBatch p.defaultStep)) ∧
  (∀ z : Zone, 1 ≤ z.start → z.start ≤ 16384 → z.step ≤ 4095 →
    readRecord (zoneRecord z) = some (.zone z.start z.step z.source z.quality)) ∧
  (∀ (k p : Nat) (c : MarkClass), 1 ≤ k → k ≤ 16384 → p < 16777216 →
    readRecord (checkRecord k p c) = some (.check k p c)) ∧
  readRecord endRecord = some .endMark

/-! ### Links, parameters, flags and masks -/

/-- STATUS is answered with the part's state as it stands, and changes nothing else (R190). The sweep id and point are absent while the
sweep is IDLE (log 13), and discovery reads as active while the film comes to rest after a leg that discovers (log 7). -/
def Obligations.StatusReports : Prop :=
  ∀ (l : Link) (s : State), exec (.status l) s = .next (answered l .ok 0x01#8
    (.status
      { transport := s.transport.state, fault := s.transport.fault, holder := s.transport.holder,
        gateFrame := s.transport.gateFrame, register := s.tracker.register, direction := s.tracker.direction,
        level := s.tracker.level, discovery := s.discoveryActive, closure := s.index.closure,
        extent := s.index.entries.length, pitchQ := s.index.pitchQ, lamp := s.lamp.state, pass := s.pass.state,
        passOwner := s.pass.owner, sweep := s.sweep.active.map (·.state), sweepId := s.sweep.active.map (·.id),
        sweepPoint := s.sweep.active.bind (fun x => if x.points = [] then none else some x.current),
        tag := s.tag.status, rollId := s.roll.active.rollId, focusPosition := s.focus.position,
        focusStatus := s.focus.status }) s)

/-- SET PARAMETER (R191): a value is clamped to the nearest limit of its parameter's range and stored, GATE_PREVIEW and
STATION_GAUGE take one of their two values, the answer carries the value stored, and nothing else changes. A code that names
no parameter is answered MALFORMED. That the answer's number has two bytes is log 21. -/
def Obligations.SetParameterClamps : Prop :=
  (∀ (code : Byte) (lo hi : Nat) (put : Nat → Params → Params),
    (code, lo, hi, put) ∈ ([
      (0x00#8, 10, 2550, fun v p => { p with stallTime := v }), (0x01#8, 5, 255, fun v p => { p with settleTime := v }),
      (0x02#8, 1, 255, fun v p => { p with arriveTol := v }),
      (0x03#8, 500, 65535, fun v p => { p with approachDist := v }),
      (0x04#8, 100, 65535, fun v p => { p with recoverDist := v }),
      (0x05#8, 0, 7, fun v p => { p with recoverTries := v }), (0x06#8, 1, 60, fun v p => { p with threadTime := v }),
      (0x07#8, 0, 10, fun v p => { p with lampWarm := v }), (0x08#8, 0, 3600, fun v p => { p with standbyIdle := v }),
      (0x09#8, 10, 2550, fun v p => { p with captureTimeout := v }),
      (0x0A#8, 10, 2550, fun v p => { p with scoreTimeout := v }),
      (0x0B#8, 0, 65535, fun v p => { p with minContrast := v }), (0x0C#8, 0, 63, fun v p => { p with backlash := v }),
      (0x0D#8, 1, 15, fun v p => { p with agingLimit := v }), (0x0E#8, 1, 8, fun v p => { p with maxFill := v }),
      (0x0F#8, 16, 1024, fun v p => { p with checkInterval := v }),
      (0x10#8, 1, 255, fun v p => { p with auxTimeout := v }), (0x11#8, 10, 1000, fun v p => { p with gatePulse := v })]
      : List (Byte × Nat × Nat × (Nat → Params → Params))) →
    ∀ (l : Link) (v : Half) (s : State), exec (.setParameter l code v) s = .next
      (answered l .ok 0x02#8 (.number 2 (max lo (min hi v.toNat)))
        { s with params := put (max lo (min hi v.toNat)) s.params })) ∧
  (∀ (l : Link) (v : Half) (s : State), exec (.setParameter l 0x12#8 v) s = .next
    (answered l .ok 0x02#8 (.number 2 (if v = 0#16 then 0 else 1))
      { s with params := { s.params with gatePreview := decide (v ≠ 0#16) } })) ∧
  (∀ (l : Link) (v : Half) (s : State), exec (.setParameter l 0x13#8 v) s = .next
    (answered l .ok 0x02#8 (.number 2 (if v.toNat ≤ 25 then 16 else 35))
      { s with params := { s.params with stationGauge := if v.toNat ≤ 25 then 16 else 35 } })) ∧
  (∀ (l : Link) (code : Byte) (v : Half) (s : State), 0x13#8 < code →
    exec (.setParameter l code v) s = .next (answered l .malformed 0x02#8 .empty s))

/-- READ FLAGS reports the latched flags, the derived flags, the mask, the clear mode, the suppression and the level of NOTICE
as they stand; in CLEAR_ON_READ the latched flags of the link are then cleared, in WRITE_ONE nothing is. SET CLEAR MODE sets
the requesting link's mode; an unknown mode is MALFORMED (R188). CLEAR FLAGS clears each named latched flag of the requesting link
with its reason, leaves the others and the other link, and answers with the flags as they stand after it; a request that names a
derived flag is RANGE and clears nothing (R189). The NOTICE line (R187, R179): an UNMASKED latched flag set, an UNMASKED derived flag
true, SENSOR only while no suppression is active. -/
def Obligations.FlagsAreReadAndCleared : Prop :=
  (∀ (l : Link) (s : State), exec (.readFlags l) s = .next
    (answered l .ok 0x50#8
      (.flags { flags := (s.link l).flags, result := s.resultFlag l, frameReady := s.frameReady l,
                scoreWanted := s.scoreWanted l, sensor := s.sensorFlag l, mask := (s.link l).flagMask,
                mode := (s.link l).clearMode, suppressed := (s.link l).suppress != .none, notice := s.notice l })
      (if (s.link l).clearMode = .clearOnRead then onLink l (fun k => { k with flags := Flags.clear }) s else s))) ∧
  (∀ (l : Link) (s : State), exec (.setClearMode l 0x00#8) s = .next
    (answered l .ok 0x53#8 .empty (onLink l (fun k => { k with clearMode := .clearOnRead }) s))) ∧
  (∀ (l : Link) (s : State), exec (.setClearMode l 0x01#8) s = .next
    (answered l .ok 0x53#8 .empty (onLink l (fun k => { k with clearMode := .writeOne }) s))) ∧
  (∀ (l : Link) (mode : Byte) (s : State), 0x01#8 < mode →
    exec (.setClearMode l mode) s = .next (answered l .malformed 0x53#8 .empty s)) ∧
  (∀ (l : Link) (named : Half) (s : State), named < 0x80#16 →
    ∃ f : Flags,
      exec (.clearFlags l named) s = .next
        (answered l .ok 0x51#8 (.flagSet f) (onLink l (fun k => { k with flags := f }) s)) ∧
      f.passEnd = ((s.link l).flags.passEnd && !named.getLsbD 0) ∧
      f.transport = (if named.getLsbD 1 then none else (s.link l).flags.transport) ∧
      f.index = (if named.getLsbD 2 then none else (s.link l).flags.index) ∧
      f.tag = (if named.getLsbD 3 then none else (s.link l).flags.tag) ∧
      f.focus = ((s.link l).flags.focus && !named.getLsbD 4) ∧
      f.roll = ((s.link l).flags.roll && !named.getLsbD 5) ∧
      f.lamp = ((s.link l).flags.lamp && !named.getLsbD 6)) ∧
  (∀ (l : Link) (named : Half) (s : State), 0x80#16 ≤ named → named < 0x800#16 →
    exec (.clearFlags l named) s = .next (answered l .range 0x51#8 .empty s)) ∧
  (∀ (s : State) (l : Link), s.notice l = true ↔
    ((s.link l).flags.passEnd = true ∧ (s.link l).flagMask.getLsbD 0 = false) ∨
    ((s.link l).flags.transport ≠ none ∧ (s.link l).flagMask.getLsbD 1 = false) ∨
    ((s.link l).flags.index ≠ none ∧ (s.link l).flagMask.getLsbD 2 = false) ∨
    ((s.link l).flags.tag ≠ none ∧ (s.link l).flagMask.getLsbD 3 = false) ∨
    ((s.link l).flags.focus = true ∧ (s.link l).flagMask.getLsbD 4 = false) ∨
    ((s.link l).flags.roll = true ∧ (s.link l).flagMask.getLsbD 5 = false) ∨
    ((s.link l).flags.lamp = true ∧ (s.link l).flagMask.getLsbD 6 = false) ∨
    (s.resultFlag l = true ∧ (s.link l).flagMask.getLsbD 7 = false) ∨
    (s.frameReady l = true ∧ (s.link l).flagMask.getLsbD 8 = false) ∨
    (s.scoreWanted l = true ∧ (s.link l).flagMask.getLsbD 9 = false) ∨
    (s.sensorFlag l = true ∧ (s.link l).flagMask.getLsbD 10 = false ∧ (s.link l).suppress = .none))

/-- SET MASK (R187, R177): naming the flag mask it replaces the link's eleven bits; naming the input mask it replaces the
eight bits of one byte's inputs, and a byte number above 7 is RANGE; an unknown mask name and a flag set bit beyond the list are
MALFORMED (log 24). SUPPRESS waits for the next read of byte 0, anew where one is active; on a FAILED bus it is STATE (R179). -/
def Obligations.MasksAndSuppression : Prop :=
  (∀ (l : Link) (bits : Half) (s : State), bits < 0x800#16 →
    exec (.setFlagMask l 0x00#8 bits) s = .next
      (answered l .ok 0x52#8 .empty (onLink l (fun k => { k with flagMask := bits.setWidth 11 }) s))) ∧
  (∀ (l : Link) (name : Byte) (bits : Half) (s : State), name ≠ 0x00#8 → name ≠ 0x01#8 →
    exec (.setFlagMask l name bits) s = .next (answered l .malformed 0x52#8 .empty s)) ∧
  (∀ (l : Link) (byte bits : Byte) (s : State), byte < 8#8 →
    ∃ m : Inputs,
      exec (.setInputMask l byte bits) s = .next
        (answered l .ok 0x52#8 .empty (onLink l (fun k => { k with inputMask := m }) s)) ∧
      ∀ n, n < 64 → m.getLsbD n =
        if n / 8 = byte.toNat then bits.getLsbD (n % 8) else (s.link l).inputMask.getLsbD n) ∧
  (∀ (l : Link) (byte bits : Byte) (s : State), 8#8 ≤ byte →
    exec (.setInputMask l byte bits) s = .next (answered l .range 0x52#8 .empty s)) ∧
  (∀ (l : Link) (name : Byte) (bits : Half) (s : State), name ≠ 0x01#8 → 0x800#16 ≤ bits →
    exec (.setFlagMask l name bits) s = .next (answered l .malformed 0x52#8 .empty s)) ∧
  (∀ (l : Link) (s : State), s.bus.state ≠ .failed → exec (.suppress l) s = .next
    (answered l .ok 0x54#8 .empty (onLink l (fun k => { k with suppress := .waiting }) s))) ∧
  (∀ (l : Link) (s : State), s.bus.state = .failed → exec (.suppress l) s = .next
    (answered l .state 0x54#8 .empty s))

/-- READ SENSORS answers with the held values, the qualities, the link's latches as they stand, the bus state and the recovered
fault count in every state; the link's latches are then clear and its SENSOR is false, and the other link's stand (R178). -/
def Obligations.ReadSensorsAnswersThenClears : Prop :=
  ∀ (l : Link) (s : State), ∃ t, exec (.readSensors l) s = .next t ∧
    t = answered l .ok 0x0A#8
      (.sensors { values := s.poller.values, stale := s.poller.stale, latches := (s.link l).latches,
                  bus := s.bus.state, faults := s.poller.faults })
      (onLink l (fun k => { k with latches := 0#64 }) s) ∧
    t.sensorFlag l = false ∧ ∀ m, m ≠ l → t.link m = s.link m

/-! ### The roll -/

/-- SET PROFILE FIELD (R82): STATE where the index holds entries or the transport is in motion, MALFORMED for an unknown field code,
RANGE outside the field's range in R80's table (T_doc below T_batch), MISMATCH for a gauge other than STATION_GAUGE outside EMPTY;
otherwise the value is stored in its field, the profile is modified, the tag dirty, and pitch_q follows the nominal pitch. SET DEFAULT
PROFILE FIELD (R83), in every state: MALFORMED, RANGE by the default profile's own T_doc and T_batch, or stored in the default profile
alone. That the answer's number has four bytes is log 21. -/
def Obligations.ProfileFieldsAreStored : Prop :=
  ∀ (l : Link) (code : Byte) (v : Quad) (s : State),
    let inRange (p : Profile) : Prop :=
      code = 0x00#8 ∨ (code = 0x01#8 ∧ (v = 16#32 ∨ v = 35#32)) ∨ (code = 0x02#8 ∧ v ≤ 4194240#32) ∨
        (code = 0x03#8 ∧ 500#32 ≤ v ∧ v ≤ 16000#32) ∨ (code = 0x04#8 ∧ v ≤ 262140#32) ∨
        (code = 0x05#8 ∧ 4#32 ≤ v ∧ v ≤ 1020#32) ∨
        (code = 0x06#8 ∧ 1#32 ≤ v ∧ v ≤ 65535#32 ∧ v.toNat < p.tBatch) ∨
        (code = 0x07#8 ∧ p.tDoc < v.toNat ∧ v ≤ 65535#32) ∨ (code = 0x08#8 ∧ v ≤ 4095#32)
    let stored (p : Profile) : Profile :=
      { rollId := if code = 0x00#8 then v else p.rollId, gauge := if code = 0x01#8 then v.toNat else p.gauge,
        leader := if code = 0x02#8 then v.toNat else p.leader, pitch := if code = 0x03#8 then v.toNat else p.pitch,
        gateOffset := if code = 0x04#8 then v.toNat else p.gateOffset,
        minMark := if code = 0x05#8 then v.toNat else p.minMark, tDoc := if code = 0x06#8 then v.toNat else p.tDoc,
        tBatch := if code = 0x07#8 then v.toNat else p.tBatch,
        defaultStep := if code = 0x08#8 then v.toNat else p.defaultStep }
    let barred : Prop := s.index.entries ≠ [] ∨ s.transport.state = .moving ∨ s.transport.state = .settling ∨
      s.transport.state = .settled ∨ s.transport.state = .recovering ∨ s.transport.state = .rewinding
    let set := exec (.setProfileField l code v) s
    let setDefault := exec (.setDefaultProfileField l code v) s
    (barred → set = .next (answered l .state 0x03#8 .empty s)) ∧
    (¬ barred → 0x08#8 < code → set = .next (answered l .malformed 0x03#8 .empty s)) ∧
    (¬ barred → code ≤ 0x08#8 → ¬ inRange s.roll.active → set = .next (answered l .range 0x03#8 .empty s)) ∧
    (¬ barred → inRange s.roll.active → code = 0x01#8 → v.toNat ≠ s.params.stationGauge → s.transport.state ≠ .empty →
      set = .next (answered l .mismatch 0x03#8 .empty s)) ∧
    (¬ barred → inRange s.roll.active →
      (code ≠ 0x01#8 ∨ v.toNat = s.params.stationGauge ∨ s.transport.state = .empty) →
      set = .next
        (answered l .ok 0x03#8 (.number 4 v.toNat)
          { s with roll := { s.roll with active := stored s.roll.active, modified := true }
                   tag := { s.tag with dirty := true }
                   index := { s.index with
                     pitchQ := if code = 0x03#8 then 16 * v.toNat else s.index.pitchQ } })) ∧
    (0x08#8 < code → setDefault = .next (answered l .malformed 0x04#8 .empty s)) ∧
    (code ≤ 0x08#8 → ¬ inRange s.roll.default → setDefault = .next (answered l .range 0x04#8 .empty s)) ∧
    (inRange s.roll.default → setDefault = .next
      (answered l .ok 0x04#8 (.number 4 v.toNat)
        { s with roll := { s.roll with default := stored s.roll.default } }))

/-- LOAD (R84): the checks in their order; accepted, the transport is THREADING, the lamp WARMING, the reels have tension, the
capstan pulls forward and THREAD_TIME runs. With the tag load field NONE a tag load is begun, or served by the one that runs, or put off
behind a running write-back; the roll records are not valid from its beginning on (the model's reading, log 30); on a FAILED bus it ends
at once, which faults a roll of the wrong gauge (R160, R163, R86). With LAMP_WARM 0
the lamp is ON or FAILED at once (R87), and a tension out of band faults the transport in place of the pull (R70). The clause on these
takes a part without a pass and a sweep. -/
def Obligations.LoadThreads : Prop :=
  (∀ (l : Link) (s : State), Quiet s → s.transport.state = .empty → s.poller.firstRoundDone = true →
    s.roll.cartridge = true → s.doorClosed = true → s.roll.tagLoad ≠ .none →
    (s.roll.tagLoad = .complete → s.roll.active.gauge = s.params.stationGauge) →
    tensionOut s.poller.values = false → s.params.lampWarm ≠ 0 →
    exec (.load l) s = .next
      (answered l .accepted 0x05#8 .empty
        { s with
          transport := { s.transport with state := .threading, capstan := some .forward, reels := .tension,
                                          pulse := none }
          lamp := { state := .warming, warmTimer := some s.params.lampWarm }
          roll := { s.roll with threadTaken := false, idleTimer := none,
                                threadTimer := some s.params.threadTime } })) ∧
  (∀ (l : Link) (s : State), Quiet s → s.transport.state = .empty → s.poller.firstRoundDone = true →
    s.roll.cartridge = true → s.doorClosed = true →
    (s.roll.tagLoad = .complete → s.roll.active.gauge = s.params.stationGauge) → NoPassNoSweep s →
    let entered : State :=
      { s with transport := { s.transport with state := .threading, pulse := none }
               roll := { s.roll with threadTaken := false, idleTimer := none } }
    let lit : State :=
      if s.params.lampWarm ≠ 0 then
        { entered with lamp := { state := .warming, warmTimer := some s.params.lampWarm } }
      else if s.lampOk = true then { entered with lamp := { state := .on, warmTimer := none } }
      else onLinks (fun k => { k with flags := { k.flags with lamp := true } })
        { entered with lamp := { state := .failed, warmTimer := none } }
    let reading : State := { lit with roll := { lit.roll with tagLoad := .running } }
    let asked : State :=
      if s.roll.tagLoad ≠ .none then lit
      else if s.tag.status = .reading then reading
      else if s.tag.writeState = .writing then { reading with tag := { s.tag with loadAfterWrite := true } }
      else if s.bus.state = .failed then tagLoadFinished .failed none lit
      else
        { reading with
          tag := { s.tag with
            status := .reading, rollValid := false
            load := some { next := 0, stage := .rollA, profile := builtInProfile, zones := [], checks := [] } }
          bus := { s.bus with waiting := some .read } }
    exec (.load l) s = .next (answered l .accepted 0x05#8 .empty
      (if asked.transport.state ≠ .threading then asked
      else if tensionOut s.poller.values = true then faulted .tension asked
      else
        { asked with
          transport := { asked.transport with capstan := some .forward, reels := .tension }
          roll := { asked.roll with threadTimer := some s.params.threadTime } }))) ∧
  (∀ (l : Link) (s : State), Quiet s → s.poller.firstRoundDone = false →
    exec (.load l) s = .next (answered l .busy 0x05#8 .empty s)) ∧
  (∀ (l : Link) (s : State), Quiet s → s.poller.firstRoundDone = true → s.roll.cartridge = false →
    exec (.load l) s = .next (answered l .noRoll 0x05#8 .empty s)) ∧
  (∀ (l : Link) (s : State), Quiet s → s.poller.firstRoundDone = true → s.roll.cartridge = true →
    (s.transport.state ≠ .empty ∨ s.doorClosed = false) →
    exec (.load l) s = .next (answered l .state 0x05#8 .empty s)) ∧
  (∀ (l : Link) (s : State), Quiet s → s.poller.firstRoundDone = true → s.roll.cartridge = true →
    s.transport.state = .empty → s.doorClosed = true → s.roll.tagLoad = .complete →
    s.roll.active.gauge ≠ s.params.stationGauge →
    exec (.load l) s = .next (answered l .mismatch 0x05#8 .empty s))

/-- UNLOAD from PARKED or FAULTED, with the tail-out not reached and no sweep queued (R92, R93, R167): the open slots end UNLOADED,
the grant and the fault go, the transport is REWINDING and the capstan runs in reverse with the stall timer; from STANDBY
the tension timer runs first. With nothing to write back the write-back's end is taken at once; with the tag dirty it waits
for a running load, fails at once on a FAILED bus, and otherwise asks for its first record. The records (R168, R169, R170):
END in record 3; the zones, the OBSERVED entries at multiples of CHECK_INTERVAL, doubled as often as needed and no oftener to
leave at most 96 with the kept checkpoints, and those, from record 4 on but for the first, then END; the first in record 3;
and the three ROLL records where the profile is modified or the last load found none, both looked at when the writes begin (log 67). -/
def Obligations.UnloadRewinds : Prop :=
  let away (taken : Bool) (s : State) : State :=
    { s with
      slots := s.slots.map (fun x => if x.resting then x else x.endedReached .unloaded)
      sched := { s.sched with grant := .none }
      marks := { s.marks with inProgress := none }
      transport := { s.transport with
        state := .rewinding, fault := .none, faultInThreading := false, capstan := some .reverse,
        reels := .winding, stallTimer := some s.params.stallTime,
        move := some { newMove .rewind none 0 none with
          leg := { direction := .reverse, cls := .shuttle, stop := .unbounded } } }
      roll := { s.roll with idleTimer := none, wakeCount := none, tensionTimer := none, rewindTaken := false,
                            writeBackTaken := taken } }
  let free (s : State) : Prop :=
    s.pass.state = .idle ∧ (s.transport.state = .parked ∨ s.transport.state = .faulted) ∧ s.roll.cartridge = true ∧
      s.doorClosed = true ∧ tensionOut s.poller.values = false ∧ s.input 3 = false ∧ s.sweep.active = none ∧
      s.tag.writeState ≠ .writing
  (∀ (l : Link) (s : State), Quiet s → free s → s.tag.status ≠ .reading →
    (s.tag.dirty = false ∨ s.tag.status = .none ∨ s.tag.status = .absent) →
    exec (.unload l) s = .next
      (answered l .accepted 0x06#8 .empty
        { away true s with tag := { s.tag with writeState := .idle, writePlan := [] } })) ∧
  (∀ (l : Link) (s : State), Quiet s → free s → s.tag.status = .reading →
    exec (.unload l) s = .next
      (answered l .accepted 0x06#8 .empty { away false s with tag := { s.tag with writeState := .waiting } })) ∧
  (∀ (l : Link) (s : State), Quiet s → free s → s.tag.dirty = true → s.bus.state = .failed →
    (s.tag.status = .valid ∨ s.tag.status = .degraded ∨ s.tag.status = .failed) →
    exec (.unload l) s = .next
      (answered l .accepted 0x06#8 .empty
        (onLinks (fun k => { k with flags := { k.flags with tag := some .writeFailed } })
          { away true s with tag := { s.tag with writeState := .idle, writePlan := [] } }))) ∧
  (∀ (l : Link) (n : Nat) (s : State), Quiet s → free s → s.tag.dirty = true → s.bus.state ≠ .failed →
    (s.tag.status = .valid ∨ s.tag.status = .degraded ∨ s.tag.status = .failed) → s.index.entries.length ≤ 16384 →
    let found (m : Nat) : List (Nat × Entry) :=
      (s.index.entries.mapIdx (fun j e => (j + 1, e))).filter (fun x =>
        x.2.source == .observed && x.1 % (s.params.checkInterval * 2 ^ m) == 0)
    let kept : List Checkpoint :=
      s.index.checkpoints.filter (fun c => decide (s.index.entries.length < c.frame) && c.state != .diverged)
    let fits (m : Nat) : Prop := (found m).length + kept.length ≤ 96
    fits n → (∀ m, m < n → ¬ fits m) →
    let records : List TagRecord :=
      s.zones.map zoneRecord ++ (found n).map (fun x => checkRecord x.1 x.2.position x.2.cls) ++
        kept.map (fun c => checkRecord c.frame c.position c.cls)
    let body : List (Nat × TagRecord) := match records with
      | [] => []
      | r :: rs => (rs ++ [endRecord]).mapIdx (fun j x => (4 + j, x)) ++ [(3, r)]
    let roll : List (Nat × TagRecord) :=
      if s.roll.modified = true ∨ s.tag.rollValid = false then
        [(0, rollARecord s.roll.active), (1, rollBRecord s.roll.active), (2, rollCRecord s.roll.active)]
      else []
    exec (.unload l) s = .next
      (answered l .accepted 0x06#8 .empty
        { away false s with
          tag := { s.tag with writeState := .writing, writePlan := (3, endRecord) :: (body ++ roll) }
          bus := { s.bus with waiting := some .write } })) ∧
  (∀ (l : Link) (s : State), Quiet s → s.pass.state = .idle → s.transport.state = .standby → s.roll.cartridge = true →
    s.doorClosed = true → tensionOut s.poller.values = false → s.input 3 = false → s.sweep.active = none →
    s.tag.writeState ≠ .writing → s.tag.status ≠ .reading → s.tag.dirty = false →
    exec (.unload l) s = .next
      (answered l .accepted 0x06#8 .empty
        { s with
          slots := s.slots.map (fun x => if x.resting then x else x.endedReached .unloaded)
          sched := { s.sched with grant := .none }
          transport := { s.transport with
            state := .rewinding, fault := .none, faultInThreading := false, reels := .tension }
          roll := { s.roll with idleTimer := none, wakeCount := none, tensionTimer := some 500, rewindTaken := false,
                                writeBackTaken := true }
          tag := { s.tag with writeState := .idle, writePlan := [] } })) ∧
  (∀ (l : Link) (s : State), Quiet s → (s.pass.state ≠ .idle ∨
      (s.transport.state ≠ .parked ∧ s.transport.state ≠ .standby ∧ s.transport.state ≠ .faulted)) →
    exec (.unload l) s = .next (answered l .state 0x06#8 .empty s)) ∧
  (∀ (l : Link) (s : State), Quiet s → s.pass.state = .idle →
    (s.transport.state = .parked ∨ s.transport.state = .standby ∨ s.transport.state = .faulted) →
    s.roll.cartridge = false → exec (.unload l) s = .next (answered l .noRoll 0x06#8 .empty s))

/-- STANDBY is taken in PARKED with no grant, with a wake count up to 3600 (0: none); the idle timer's expiry enters STANDBY
without one (R89, R90). The lamp goes off and the reels relax.
WAKE in STANDBY, and the wake count reaching 0 there, enter WAKING with tension on the reels, the tension timer at 500 ms
and the lamp WARMING; each tick lowers the wake count by one; WAKE is OK with no effect in the active states and STATE in
EMPTY, THREADING, REWINDING and FAULTED (R90, R91; that the tick and the expiry are two commands is log 6). -/
def Obligations.StandbyAndWaking : Prop :=
  (∀ (l : Link) (n : Half) (s : State), Quiet s → s.transport.state = .parked → s.sched.grant = .none → n ≤ 3600#16 →
    s.lamp.state ≠ .off →
    exec (.standby l n) s = .next
      (answered l .ok 0x07#8 .empty
        { s with transport := { s.transport with state := .standby, reels := .relaxed, pulse := none }
                 lamp := { state := .off, warmTimer := none }
                 roll := { s.roll with idleTimer := none,
                                       wakeCount := if n = 0#16 then none else some n.toNat } })) ∧
  (∀ (l : Link) (n : Half) (s : State), Quiet s → (s.transport.state ≠ .parked ∨ s.sched.grant ≠ .none) →
    exec (.standby l n) s = .next (answered l .state 0x07#8 .empty s)) ∧
  (∀ (l : Link) (n : Half) (s : State), Quiet s → s.transport.state = .parked → s.sched.grant = .none → 3600#16 < n →
    exec (.standby l n) s = .next (answered l .range 0x07#8 .empty s)) ∧
  (∀ s : State, Quiet s → s.transport.state = .parked → s.roll.idleTimer ≠ none → s.lamp.state ≠ .off →
    exec .idleTimerExpiry s = .next
      { s with transport := { s.transport with state := .standby, reels := .relaxed, pulse := none }
               lamp := { state := .off, warmTimer := none }
               roll := { s.roll with idleTimer := none, wakeCount := none } }) ∧
  (∀ (l : Link) (s : State), Quiet s → s.transport.state = .standby → s.lamp.state = .off → s.params.lampWarm ≠ 0 →
    exec (.wake l) s = .next
      (answered l .ok 0x08#8 .empty
        { s with transport := { s.transport with state := .waking, reels := .tension, pulse := none }
                 lamp := { state := .warming, warmTimer := some s.params.lampWarm }
                 roll := { s.roll with idleTimer := none, wakeCount := none, tensionTimer := some 500 } })) ∧
  (∀ s : State, Quiet s → s.transport.state = .standby → s.roll.wakeCount = some 0 → s.lamp.state = .off →
    s.params.lampWarm ≠ 0 →
    exec .wakeCountExpiry s = .next
      { s with transport := { s.transport with state := .waking, reels := .tension, pulse := none }
               lamp := { state := .warming, warmTimer := some s.params.lampWarm }
               roll := { s.roll with idleTimer := none, wakeCount := none, tensionTimer := some 500 } }) ∧
  (∀ s : State, exec .wakeCountTick s = .next
    { s with roll := { s.roll with wakeCount := s.roll.wakeCount.map (fun n => n - 1) } }) ∧
  (∀ (l : Link) (s : State), Quiet s →
    (s.transport.state = .parked ∨ s.transport.state = .waking ∨ s.transport.state = .moving ∨
      s.transport.state = .settling ∨ s.transport.state = .settled ∨ s.transport.state = .recovering) →
    exec (.wake l) s = .next (answered l .ok 0x08#8 .empty s)) ∧
  (∀ (l : Link) (s : State), Quiet s →
    (s.transport.state = .empty ∨ s.transport.state = .threading ∨ s.transport.state = .rewinding ∨
      s.transport.state = .faulted) →
    exec (.wake l) s = .next (answered l .state 0x08#8 .empty s))

/-- CLEAR FAULT (R72, R66, R86, R160): with no film in the gate the part is EMPTY, with the index, the zones and the checkpoints
emptied, the default profile active and ROLL flagged, and with a cartridge a tag load is asked for; with film in the gate, the
confidence is LOST, a fault in THREADING flags ROLL, and the part is already on its way HOME, with the door closed and the
tension in band, or, with the door open, faulted DOOR at that grant (R70), the door looked at after the level and before the tension
(logs 9 and 42). The reels are off in EMPTY and hold tension in PARKED (log 51). The roll records are not valid from the start of the
tag load on (log 30). Outside FAULTED it is STATE. -/
def Obligations.ClearFaultLeavesFaulted : Prop :=
  (∀ (l : Link) (s : State), Quiet s → s.transport.state = .faulted → s.filmInGate = false → s.lamp.state ≠ .off →
    ∃ t, exec (.clearFault l) s = .next t ∧
      t.transport.state = .empty ∧ t.transport.fault = .none ∧ t.transport.reels = .off ∧ t.transport.gateFrame = none ∧
      t.lamp.state = .off ∧ t.index.entries = [] ∧ t.index.closure = none ∧ t.index.checkpoints = [] ∧
      t.index.trailer = none ∧ t.index.pitchQ = 16 * s.roll.default.pitch ∧ t.zones = [] ∧
      t.roll.active = s.roll.default ∧ t.roll.default = s.roll.default ∧ t.tag.dirty = false ∧
      t.tracker.level = .drifting ∧ t.tracker.register = s.tracker.register ∧
      t.slots = s.slots.map (fun x => if x.resting then x else x.endedReached .unloaded) ∧
      (∀ m, (t.link m).flags.roll = true) ∧ t.linkA.stream = none ∧ t.linkB.stream = none ∧
      (t.link l).answer = { code := .ok, request := 0x09#8, contents := .empty } ∧
      t.poller = s.poller ∧ t.params = s.params ∧ t.pass = s.pass ∧ t.sweep = s.sweep ∧
      t.focus = s.focus ∧ t.marks = { inProgress := none, lastSplice := none } ∧
      t.sched = { s.sched with direction := .forward } ∧
      t.pending = s.pending ∧
      (s.roll.cartridge = false → t.bus = s.bus ∧ t.tag = { s.tag with dirty := false } ∧
        t.roll.tagLoad = s.roll.tagLoad) ∧
      (s.roll.cartridge = true → s.tag.status ≠ .reading → s.tag.writeState ≠ .writing → s.bus.state ≠ .failed →
        t.bus = { s.bus with waiting := some .read } ∧ t.roll.tagLoad = .running ∧
        t.tag = { s.tag with
          dirty := false, status := .reading, rollValid := false
          load := some { next := 0, stage := .rollA, profile := builtInProfile, zones := [], checks := [] } })) ∧
  (∀ (l : Link) (s : State), Quiet s → s.transport.state = .faulted → s.filmInGate = true → s.doorClosed = true →
    tensionOut s.poller.values = false → s.lamp.state ≠ .off → s.transport.move = none → s.sched.grant = .none →
    ∃ t, exec (.clearFault l) s = .next t ∧
      t.transport.state = .moving ∧ t.transport.fault = .none ∧ t.transport.reels = .tension ∧ t.sched.grant = .home ∧
      t.tracker.level = .lost ∧
      (∃ m, t.transport.move = some m ∧ m.purpose = .home ∧
        (s.transport.leaderIn = .film → t.transport.capstan = some .reverse ∧ m.leg.stop = .leaderReads .leader) ∧
        (s.transport.leaderIn = .leader → t.transport.capstan = some .forward ∧ m.leg.stop = .leaderReads .film)) ∧
      t.index = s.index ∧ t.zones = s.zones ∧ t.slots = s.slots ∧ t.tracker.register = s.tracker.register ∧
      (t.link l).answer = { code := .ok, request := 0x09#8, contents := .empty } ∧
      t.poller = s.poller ∧ t.bus = s.bus ∧ t.params = s.params ∧ t.pass = s.pass ∧ t.sweep = s.sweep ∧
      t.focus = s.focus ∧ t.tag = s.tag ∧ t.pending = s.pending) ∧
  (∀ (l : Link) (s : State), Quiet s → NoPassNoSweep s → s.transport.state = .faulted → s.filmInGate = true →
    s.doorClosed = false → s.lamp.state ≠ .off → s.transport.move = none → s.sched.grant = .none → s.sched.yieldOwed = false →
    exec (.clearFault l) s = .next
      (answered l .ok 0x09#8 .empty
        (onLinks (fun k => { k with flags := { k.flags with
            roll := if s.transport.faultInThreading then true else k.flags.roll } })
          (faulted .door
            { s with
              tracker := { s.tracker with level := .lost, good := 0, miss := 0 }
              marks := { s.marks with inProgress := none }
              transport := { s.transport with state := .parked, reels := .tension } })))) ∧
  (∀ (l : Link) (s : State), Quiet s → s.transport.state ≠ .faulted →
    exec (.clearFault l) s = .next (answered l .state 0x09#8 .empty s))

/-- The roll's timers (R85, R87, R91, R93): THREAD_TIME before the thread arrival faults THREAD_FAIL; the warm timer makes the
lamp ON or FAILED as lamp-OK reads, and FAILED flags LAMP; the tension timer parks a WAKING transport or begins a waiting
rewind's reverse drive. A grant that WAKING has held begins its work there (R50, R91): the FRAME move of a slot (R52, R53) or of a
stand-alone sweep (R108), the DISCOVER move (R61), or the HOME move (R66). -/
def Obligations.RollTimersExpire : Prop :=
  (∀ s : State, Quiet s → NoPassNoSweep s → s.transport.state = .threading → s.roll.threadTimer ≠ none →
    exec .threadTimerExpiry s = .next (faulted .threadFail s)) ∧
  (∀ s : State, Quiet s → s.lamp.state = .warming → s.lamp.warmTimer ≠ none → s.lampOk = true →
    s.transport.gateReady = false → s.pass.state ≠ .running →
    exec .warmTimerExpiry s = .next { s with lamp := { state := .on, warmTimer := none } }) ∧
  (∀ s : State, Quiet s → s.lamp.state = .warming → s.lamp.warmTimer ≠ none → s.lampOk = false →
    s.transport.gateReady = false → s.pass.state = .idle → s.sweep.active = none →
    exec .warmTimerExpiry s = .next
      (onLinks (fun k => { k with flags := { k.flags with lamp := true } })
        { s with lamp := { state := .failed, warmTimer := none }
                 transport := { s.transport with pulse := none } })) ∧
  (∀ s : State, Quiet s → s.transport.state = .waking → s.roll.tensionTimer ≠ none → s.sched.grant = .none → NoWork s →
    s.lamp.state ≠ .off →
    exec .tensionTimerExpiry s = .next
      { s with transport := { s.transport with state := .parked }
               roll := { s.roll with
                 tensionTimer := none,
                 idleTimer := if s.params.standbyIdle = 0 then none else some s.params.standbyIdle } }) ∧
  (∀ s : State, Quiet s → s.transport.state = .rewinding → s.roll.tensionTimer ≠ none →
    exec .tensionTimerExpiry s = .next
      { s with
        marks := { s.marks with inProgress := none }
        transport := { s.transport with
          capstan := some .reverse, reels := .winding, stallTimer := some s.params.stallTime,
          move := some { newMove .rewind none 0 none with
            leg := { direction := .reverse, cls := .shuttle, stop := .unbounded } } }
        roll := { s.roll with tensionTimer := none } }) ∧
  (∀ s : State, Quiet s → s.transport.state = .waking → s.roll.tensionTimer ≠ none → s.lamp.state ≠ .off →
    let go := exec .tensionTimerExpiry s
    let u : State :=
      { s with transport := { s.transport with state := .parked }
               roll := { s.roll with tensionTimer := none, idleTimer := none } }
    (MayMove s →
      (∀ i x k, s.sched.grant = .slot i → s.slots[i]? = some x → x.frame = some k → InReach k s →
        go = .next (approachBegun k u)) ∧
      (∀ x, s.sched.grant = .sweep → s.sweep.active = some x → x.state = .travelling → InReach x.frame s →
        go = .next (approachBegun x.frame u)) ∧
      (s.sched.grant = .discover → go = .next (discoverBegun u))) ∧
    (s.sched.grant = .home → s.transport.move = none → s.doorClosed = true → tensionOut s.poller.values = false →
      go = .next (homeGranted u)))

/-! ### The index -/

/-- INDEX WINDOW opens the link's stream, replacing an open one, or is MALFORMED or RANGE and leaves it closed; INDEX READ with
the stream closed is STATE, with a count outside 1..8 RANGE with the stream as it was, and otherwise answers with the entries from
the pointer on and END as the stream then stands (R21, R22). -/
def Obligations.IndexStreams : Prop :=
  (∀ (l : Link) (a b : Half) (s : State), 1#16 ≤ a → a ≤ b → b ≤ 16384#16 →
    exec (.indexWindow l a b 0x00#8) s = .next
      (onLink l (fun k => { k with
        stream := some { order := .ascending, first := a.toNat, last := b.toNat, pointer := a.toNat }
        answer := { code := .ok, request := 0x10#8, contents := .empty } }) s) ∧
    exec (.indexWindow l a b 0x01#8) s = .next
      (onLink l (fun k => { k with
        stream := some { order := .descending, first := a.toNat, last := b.toNat, pointer := b.toNat }
        answer := { code := .ok, request := 0x10#8, contents := .empty } }) s)) ∧
  (∀ (l : Link) (a b : Half) (o : Byte) (s : State), o ≤ 0x01#8 → (a = 0#16 ∨ b < a ∨ 16384#16 < b) →
    exec (.indexWindow l a b o) s = .next (answered l .range 0x10#8 .empty s)) ∧
  (∀ (l : Link) (a b : Half) (o : Byte) (s : State), 0x01#8 < o →
    exec (.indexWindow l a b o) s = .next (answered l .malformed 0x10#8 .empty s)) ∧
  (∀ (l : Link) (n : Byte) (s : State), (s.link l).stream = none →
    exec (.indexRead l n) s = .next (answered l .state 0x11#8 .empty s)) ∧
  (∀ (l : Link) (n : Byte) (w : Stream) (s : State), (s.link l).stream = some w → (n = 0#8 ∨ 8#8 < n) →
    exec (.indexRead l n) s = .next
      (onLink l (fun k => { k with answer := { code := .range, request := 0x11#8, contents := .empty } }) s)) ∧
  (∀ (l : Link) (n : Byte) (w : Stream) (s : State), (s.link l).stream = some w → w.order = .ascending → 1#8 ≤ n →
    n ≤ 8#8 → 1 ≤ w.pointer → w.pointer ≤ w.last →
    ∃ rows : List (Nat × Entry),
      rows.length = min n.toNat (min (w.last + 1 - w.pointer) (s.extent + 1 - w.pointer)) ∧
      (∀ i, i < rows.length → (rows[i]?).map (·.1) = some (w.pointer + i) ∧
        (rows[i]?).map (·.2) = s.entry (w.pointer + i)) ∧
      exec (.indexRead l n) s = .next
        (onLink l (fun k => { k with
          stream := if w.last < w.pointer + rows.length ∨ s.extent < w.pointer + rows.length then none
            else some { w with pointer := w.pointer + rows.length }
          answer :=
            { code := .ok, request := 0x11#8,
              contents := .entries
                (decide (w.last < w.pointer + rows.length ∨ s.extent < w.pointer + rows.length)) rows } }) s)) ∧
  (∀ (l : Link) (n : Byte) (w : Stream) (s : State), (s.link l).stream = some w → w.order = .descending → 1#8 ≤ n →
    n ≤ 8#8 → 1 ≤ w.first → w.first ≤ w.pointer → w.pointer ≤ s.extent →
    ∃ rows : List (Nat × Entry),
      rows.length = min n.toNat (w.pointer + 1 - w.first) ∧
      (∀ i, i < rows.length → (rows[i]?).map (·.1) = some (w.pointer - i) ∧
        (rows[i]?).map (·.2) = s.entry (w.pointer - i)) ∧
      exec (.indexRead l n) s = .next
        (onLink l (fun k => { k with
          stream := if rows.length = w.pointer + 1 - w.first then none
            else some { w with pointer := w.pointer - rows.length }
          answer :=
            { code := .ok, request := 0x11#8,
              contents := .entries (decide (rows.length = w.pointer + 1 - w.first)) rows } }) s)) ∧
  (∀ (l : Link) (n : Byte) (w : Stream) (s : State), (s.link l).stream = some w → 1#8 ≤ n → n ≤ 8#8 →
    s.extent < w.pointer →
    exec (.indexRead l n) s = .next (answered l .ok 0x11#8 (.entries true []) s))

/-- INDEX WRITE (R19, R20, R7, R13), in the order of its checks: NO_ROLL in EMPTY and THREADING, RANGE for a count outside 1..4,
MALFORMED for an unknown code within the count, STATE in REWINDING, with the index CLOSED or discovery active, RANGE where a position
does not keep floor(nominal / 2) from the one before it, lies below the leader length in an empty index, or lies beyond the trailer.
Descriptions that pass and fit become IMPORTED entries at the end of the index with the triple their class gives after the one before,
the answer is OK with the count, and the tag is dirty where the index was empty (R166); those that do not fit are discarded, the
answer is FULL with the number stored and the index closes with reason CAPACITY. The stored clauses take no checkpoint, no slot
RESOLVING, the pass not RUNNING and no choice to make. The triple of a new entry follows from the one before it by its class: a BATCH
mark begins a batch, a DOCUMENT mark a document, an IMAGE mark a page, and a number at 65,535 stays there; a description gives an
entry only where its codes name a class and yes or no. -/
def Obligations.IndexWriteAppends : Prop :=
  (∀ (l : Link) (n : Byte) (d1 d2 d3 d4 : ImportDesc) (s : State), Quiet s →
    let go := exec (.indexWrite l n d1 d2 d3 d4) s
    let refusal (code : AnswerCode) := go = .next (answered l code 0x12#8 .empty s)
    let ds := ([d1, d2, d3, d4] : List ImportDesc).take n.toNat
    ((s.transport.state = .empty ∨ s.transport.state = .threading) → refusal .noRoll) ∧
    (s.transport.state ≠ .empty → s.transport.state ≠ .threading →
      ((n = 0#8 ∨ 4#8 < n) → refusal .range) ∧
      (1#8 ≤ n → n ≤ 4#8 →
        ((∃ d ∈ ds, 0x02#8 < d.cls ∨ 0x01#8 < d.lengthPresent) → refusal .malformed) ∧
        ∀ es : List Entry, importEntries ds = some es →
          let spaced : Prop :=
            (∀ e ∈ es.head?, if s.index.entries = [] then s.roll.active.leader ≤ e.position
              else s.pos s.index.entries.length + s.roll.active.pitch / 2 ≤ e.position) ∧
            (∀ x ∈ es.zip es.tail, x.1.position + s.roll.active.pitch / 2 ≤ x.2.position) ∧
            (∀ t ∈ s.index.trailer, ∀ e ∈ es, e.position ≤ t)
          let barred : Prop :=
            s.transport.state = .rewinding ∨ s.index.closure ≠ none ∨ s.discoveryActive = true
          (barred → refusal .state) ∧
          (¬ barred → ¬ spaced → refusal .range) ∧
          (¬ barred → spaced → AtEase s → s.index.checkpoints = [] → (∀ x ∈ s.slots, x.state ≠ .resolving) →
            s.pass.state ≠ .running →
            let room := 16384 - s.index.entries.length
            let grown : State :=
              { s with
                index := { s.index with
                  entries := s.index.entries ++ (renumberList s.index.counters (es.take room)).1
                  counters := (renumberList s.index.counters (es.take room)).2 }
                tag := { s.tag with dirty := s.tag.dirty || decide (s.index.entries = []) } }
            (s.index.entries.length + n.toNat ≤ 16384 →
              go = .next (answered l .ok 0x12#8 (.number 1 n.toNat) grown)) ∧
            (s.index.entries.length ≤ 16384 → 16384 < s.index.entries.length + n.toNat →
              go = .next (answered l .full 0x12#8 (.number 1 room)
                (onLinks (fun k => { k with flags := { k.flags with index := some .closed } })
                  { grown with index := { grown.index with closure := some .capacity } }))))))) ∧
  ((∀ (t : Triple) (e : Entry) (es : List Entry),
     renumberList t (e :: es) =
       ({ e with triple := nextTriple t e.cls } :: (renumberList (nextTriple t e.cls) es).1,
         (renumberList (nextTriple t e.cls) es).2)) ∧
   (∀ t : Triple, nextTriple t .batch = { batch := min 65535 (t.batch + 1), document := 1, page := 1 }) ∧
   (∀ t : Triple, nextTriple t .document = { t with document := min 65535 (t.document + 1), page := 1 }) ∧
   (∀ t : Triple, nextTriple t .image = { t with page := min 65535 (t.page + 1) }) ∧
   (∀ (t : Triple) (es : List Entry), (renumberList t es).1.length = es.length) ∧
   (∀ d : ImportDesc, (importEntry d).isSome = true ↔ d.cls ≤ 0x02#8 ∧ d.lengthPresent ≤ 0x01#8) ∧
   (∀ (d : ImportDesc) (e : Entry), importEntry d = some e →
     e.position = d.position.toNat ∧ e.source = .imported ∧ e.capture = .none ∧ e.captureCount = 0 ∧
     e.focusStep = none ∧ e.flags = EntryFlags.clear ∧
     e.length = (if d.lengthPresent = 0x01#8 then some d.length.toNat else none)))

/-- INDEX CLEAR, taken in PARKED, STANDBY or EMPTY with no open slot and the pass IDLE, empties the index and what R23 names
with it, keeps the trailer coordinate and the DONE slots, and flags INDEX on both links; otherwise it is STATE (R23). -/
def Obligations.IndexClearEmpties : Prop :=
  (∀ (l : Link) (s : State),
    (s.transport.state = .parked ∨ s.transport.state = .standby ∨ s.transport.state = .empty) →
    (∀ x ∈ s.slots, x.resting = true) → s.pass.state = .idle →
    exec (.indexClear l) s = .next
      (onLink l (fun k => { k with answer := { code := .ok, request := 0x13#8, contents := .empty } })
        (onLinks (fun k => { k with stream := none, flags := { k.flags with index := some .cleared } })
          { s with
            index := { entries := [], closure := none, counters := { batch := 0, document := 0, page := 0 },
                       pitchQ := 16 * s.roll.active.pitch,
                       checkpoints := s.index.checkpoints.map (fun c => { c with state := .unverified }),
                       trailer := s.index.trailer, widening := false }
            marks := { inProgress := none, lastSplice := none }
            transport := { s.transport with gateFrame := none } }))) ∧
  (∀ (l : Link) (s : State),
    ((s.transport.state ≠ .parked ∧ s.transport.state ≠ .standby ∧ s.transport.state ≠ .empty) ∨
      (∃ x ∈ s.slots, x.resting = false) ∨ s.pass.state ≠ .idle) →
    exec (.indexClear l) s = .next (answered l .state 0x13#8 .empty s))

/-- RESOLVE answers with the outcome of resolving its target, and changes nothing else (R18, R15, R16, R17): a FRAME or a
RELATIVE target in the index, beyond it while the index is OPEN and absent once it is closed; an ADDRESS target by its first
match; RANGE for a FRAME outside 1..16,384, for a RELATIVE offset outside -16,383..16,383 and for a RELATIVE frame above 16,384 (R15),
and MALFORMED for an unknown kind. An entry matches an ADDRESS target by its
batch, its document where one is given and its page where one is given, and a target lies beyond a triple by the same key (R17). -/
def Obligations.ResolveAnswers : Prop :=
  (∀ (b d p : Nat) (e : Entry), addressMatches b d p e = true ↔
    e.triple.batch = b ∧ (d = 0 ∨ (e.triple.document = d ∧ (p = 0 ∨ e.triple.page = p)))) ∧
  (∀ (b d p : Nat) (t : Triple), addressBeyond b d p t = true ↔
    t.batch < b ∨ (d ≠ 0 ∧ t.batch = b ∧ (t.document < d ∨ (p ≠ 0 ∧ t.document = d ∧ t.page < p)))) ∧
  (∀ (l : Link) (t : RawTarget) (k : Nat) (e : Entry) (s : State),
    ((t.kind = 0x00#8 ∧ t.v0.toNat = k) ∨
      (t.kind = 0x02#8 ∧ -16383 ≤ t.v0.toInt ∧ t.v0.toInt ≤ 16383 ∧
        (k : Int) = max 1 ((s.transport.gateFrame.getD 1 : Int) + t.v0.toInt))) →
    1 ≤ k → k ≤ 16384 → s.entry k = some e →
    exec (.resolve l t) s = .next
      (answered l .ok 0x14#8
        (.resolved k e.position (min 16777215 (e.position + s.roll.active.gateOffset)) e.cls e.triple) s)) ∧
  (∀ (l : Link) (t : RawTarget) (k : Nat) (s : State),
    ((t.kind = 0x00#8 ∧ t.v0.toNat = k) ∨
      (t.kind = 0x02#8 ∧ -16383 ≤ t.v0.toInt ∧ t.v0.toInt ≤ 16383 ∧
        (k : Int) = max 1 ((s.transport.gateFrame.getD 1 : Int) + t.v0.toInt))) →
    1 ≤ k → k ≤ 16384 → s.index.entries.length < k →
    exec (.resolve l t) s = .next
      (answered l .ok 0x14#8 (.resolution (if s.index.closure = none then .beyond else .absent)) s)) ∧
  (∀ (l : Link) (t : RawTarget) (i : Nat) (e : Entry) (s : State), t.kind = 0x01#8 →
    s.index.entries[i]? = some e → addressMatches t.v0.toNat t.v1.toNat t.v2.toNat e = true →
    (∀ j y, j < i → s.index.entries[j]? = some y → addressMatches t.v0.toNat t.v1.toNat t.v2.toNat y = false) →
    exec (.resolve l t) s = .next
      (answered l .ok 0x14#8
        (.resolved (i + 1) e.position (min 16777215 (e.position + s.roll.active.gateOffset)) e.cls e.triple) s)) ∧
  (∀ (l : Link) (t : RawTarget) (s : State), t.kind = 0x01#8 →
    (∀ e ∈ s.index.entries, addressMatches t.v0.toNat t.v1.toNat t.v2.toNat e = false) →
    exec (.resolve l t) s = .next
      (answered l .ok 0x14#8
        (.resolution
          (if s.index.closure = none ∧
              (∀ e ∈ s.index.entries.getLast?, addressBeyond t.v0.toNat t.v1.toNat t.v2.toNat e.triple = true)
            then .beyond else .absent)) s)) ∧
  (∀ (l : Link) (t : RawTarget) (s : State), t.kind = 0x00#8 → (t.v0 = 0#16 ∨ 16384#16 < t.v0) →
    exec (.resolve l t) s = .next (answered l .range 0x14#8 .empty s)) ∧
  (∀ (l : Link) (t : RawTarget) (s : State), t.kind = 0x02#8 →
    (t.v0.toInt < -16383 ∨ 16383 < t.v0.toInt ∨ 16384 < (s.transport.gateFrame.getD 1 : Int) + t.v0.toInt) →
    exec (.resolve l t) s = .next (answered l .range 0x14#8 .empty s)) ∧
  (∀ (l : Link) (t : RawTarget) (s : State), 0x02#8 < t.kind →
    exec (.resolve l t) s = .next (answered l .malformed 0x14#8 .empty s))

/-! ### Retrievals -/

/-- RETRIEVE with a free slot, a new tag, fewer than 12 slots held and a target in range (R119, R120, R118): the lowest FREE slot is
filled, PENDING with its frame, RESOLVING or DONE with NOT_FOUND as the target resolves, with the arrival counter's value, which
rises by one. The refusals, in the order of the checks, are NO_ROLL, STATE, MALFORMED, RANGE, DUP_TAG and FULL. In WAKING with
nothing else to do the new slot is granted the transport at the choice, or DISCOVER where it is RESOLVING, and WAKING holds the
grant (R122, R125); in PARKED its FRAME or DISCOVER move begins at once (R50, R53, R61), and a frame beyond the register's range is
NOT_FOUND (R52, R130); an URGENT slot made PENDING stops a DISCOVER move, a NORMAL one does not (R127). Where a RUNNING pass has the
grant, an URGENT slot asks it to yield, at its boundary at once, in a sweep for the boundary after the capture (R147, log 63), and a
NORMAL one makes a periodic yield due at a boundary (R128, R153); a pass whose grant WAKING holds has the work NONE and stands at a
boundary (log 59), and one that has yielded has the work NONE too (log 78).
A target's range, and how it resolves, are written out (R15, R16, R17). -/
def Obligations.RetrieveFillsASlot : Prop :=
  (∀ (s : State) (k : Nat), targetInRange s (.frame k) = true ↔ 1 ≤ k ∧ k ≤ 16384) ∧
  (∀ (s : State) (b d p : Nat), targetInRange s (.address b d p) = true ∧ slotTarget s (.address b d p) = .address b d p) ∧
  (∀ (s : State) (n : Int), (targetInRange s (.relative n) = true ↔
      -16383 ≤ n ∧ n ≤ 16383 ∧ (s.transport.gateFrame.getD 1 : Int) + n ≤ 16384) ∧
    slotTarget s (.relative n) = .relativeFrame (max 1 ((s.transport.gateFrame.getD 1 : Int) + n).toNat)) ∧
  (∀ (s : State) (k : Nat), slotTarget s (.frame k) = .frame k ∧
    resolveTarget s (.frame k) = (if k ≤ s.index.entries.length then .found k
      else if s.index.closure = none then .beyond else .absent) ∧
    resolveTarget s (.relativeFrame k) = resolveTarget s (.frame k)) ∧
  (∀ (s : State) (b d p i : Nat) (e : Entry), s.index.entries[i]? = some e → addressMatches b d p e = true →
    (∀ j y, j < i → s.index.entries[j]? = some y → addressMatches b d p y = false) →
    resolveTarget s (.address b d p) = .found (i + 1)) ∧
  (∀ (s : State) (b d p : Nat), (∀ e ∈ s.index.entries, addressMatches b d p e = false) →
    resolveTarget s (.address b d p) = (if s.index.closure = none ∧
      (∀ e ∈ s.index.entries.getLast?, addressBeyond b d p e.triple = true) then .beyond else .absent)) ∧
  (∀ (l : Link) (tag action priority hold : Byte) (raw : RawTarget) (a : SlotAction) (p : Priority) (t : Target) (i : Nat)
    (s : State), Quiet s →
    s.transport.state ≠ .empty → s.transport.state ≠ .threading → s.transport.state ≠ .rewinding →
    decodeAction action = some a → decodePriority priority = some p → decodeTarget raw = some t →
    targetInRange s t = true → s.slotOf l tag = none → s.held l < 12 → s.freeSlot = some i →
    let new (x : SlotState) (f : Option Nat) : Slot :=
      { state := x, owner := l, tag := tag, target := slotTarget s t, frame := f, action := a, priority := p,
        hold := hold.toNat, sequence := s.sched.counter, skip := 0, holdTimer := none, reached := none, result := none }
    let put (x : Slot) : State :=
      { s with slots := s.slots.modify i (fun _ => x)
               sched := { s.sched with counter := s.sched.counter + 1#32 } }
    let facing (c : Nat) (u : State) : State :=
      { u with sched := { u.sched with direction :=
          if p = .urgent then s.sched.direction else if s.tracker.register < c then .forward
          else if c < s.tracker.register then .reverse else s.sched.direction } }
    let go := exec (.retrieve l tag raw action priority hold) s
    let done (u : State) : Host.Outcome State Fault Refusal := .next (answered l .accepted 0x20#8 .empty u)
    (s.transport.state = .waking → s.sched.grant = .none → NoWork s →
      (∀ k, resolveTarget s (slotTarget s t) = .found k →
        go = done (heldGrant (.slot i) (facing (min 16777215 (s.pos k + s.roll.active.gateOffset))
          (put (new .travelling (some k)))))) ∧
      (resolveTarget s (slotTarget s t) = .beyond →
        go = done (heldGrant .discover (facing
          (if s.index.entries = [] then s.roll.active.leader
            else s.pos s.index.entries.length + s.roll.active.gateOffset) (put (new .resolving none)))))) ∧
    (s.transport.state = .parked → s.sched.grant = .none → NoWork s → MayMove s →
      (∀ k, resolveTarget s (slotTarget s t) = .found k →
        let chosen (x : Slot) : State :=
          heldGrant (.slot i) (facing (min 16777215 (s.pos k + s.roll.active.gateOffset)) (put x))
        (InReach k s → go = done (approachBegun k (chosen (new .travelling (some k))))) ∧
        (16777215 - s.params.arriveTol < s.pos k + s.roll.active.gateOffset →
          go = done (grantEnded (chosen { new .done (some k) with
            result := some { code := .notFound, frame := some k, position := none, focusStep := none } })))) ∧
      (resolveTarget s (slotTarget s t) = .beyond →
        go = done (discoverBegun (heldGrant .discover (facing
          (if s.index.entries = [] then s.roll.active.leader
            else s.pos s.index.entries.length + s.roll.active.gateOffset) (put (new .resolving none))))))) ∧
    (∀ m k, s.transport.state = .moving → s.sched.grant = .discover → s.transport.move = some m → m.phase = .running →
      resolveTarget s (slotTarget s t) = .found k →
      go = done (if p = .urgent then comingToRest m .stopped (put (new .pending (some k)))
        else put (new .pending (some k)))) ∧
    (∀ k, s.sched.grant = .pass → s.pass.state = .running → resolveTarget s (slotTarget s t) = .found k →
      let waits : State := put (new .pending (some k))
      let due : Prop := p = .urgent ∨ (s.pass.yieldInterval ≠ 0 ∧ s.pass.yieldInterval ≤ s.pass.framesSinceYield)
      (s.transport.state = .settled → s.pass.work = .awaitingCapture →
        go = done { waits with pass := { s.pass with yieldAsked := if p = .urgent then true else s.pass.yieldAsked } }) ∧
      (s.transport.state = .settled → s.pass.work = .sweeping → s.pass.pending = .none →
        go = done { waits with pass := { s.pass with yieldLater := if p = .urgent then true else s.pass.yieldLater } }) ∧
      (s.transport.state = .waking → s.transport.move = none → s.pass.work = .none → s.pass.pending = .none →
        s.pass.yieldAsked = false → s.pass.yieldLater = false → s.tracker.level ≠ .lost → s.sweep.active = none →
        (∀ x ∈ s.slots, x.resting = true) →
        (due → go = done (heldGrant (.slot i) (facing (min 16777215 (s.pos k + s.roll.active.gateOffset))
          { put (new .travelling (some k)) with
            pass := { s.pass with
              state := .yielding, yieldCount := min 255 (s.pass.yieldCount + 1), framesSinceYield := 0, work := .none
              after := .nothing, armed := none } }))) ∧
        (¬ due → go = done waits)))) ∧
  (∀ (l : Link) (tag action priority hold : Byte) (raw : RawTarget) (a : SlotAction) (p : Priority) (t : Target) (i : Nat)
    (s : State), Quiet s →
    s.transport.state ≠ .empty → s.transport.state ≠ .threading → s.transport.state ≠ .rewinding →
    decodeAction action = some a → decodePriority priority = some p → decodeTarget raw = some t →
    targetInRange s t = true → s.slotOf l tag = none → s.held l < 12 → s.freeSlot = some i →
    s.sched.grant ≠ .none → s.sched.grant ≠ .discover → s.sched.grant ≠ .pass →
    ∃ x : Slot,
      exec (.retrieve l tag raw action priority hold) s = .next
        (answered l .accepted 0x20#8 .empty
          { s with slots := s.slots.modify i (fun _ => x)
                   sched := { s.sched with counter := s.sched.counter + 1#32 } }) ∧
      x.owner = l ∧ x.tag = tag ∧ x.target = slotTarget s t ∧ x.action = a ∧ x.priority = p ∧ x.hold = hold.toNat ∧
      x.sequence = s.sched.counter ∧ x.skip = 0 ∧ x.holdTimer = none ∧
      (∀ k, resolveTarget s (slotTarget s t) = .found k →
        x.state = .pending ∧ x.frame = some k ∧ x.result = none) ∧
      (resolveTarget s (slotTarget s t) = .beyond → x.state = .resolving ∧ x.frame = none ∧ x.result = none) ∧
      (resolveTarget s (slotTarget s t) = .absent → x.state = .done ∧ x.frame = none ∧
        x.result = some { code := .notFound, frame := none, position := none, focusStep := none })) ∧
  (∀ (l : Link) (tag action priority hold : Byte) (raw : RawTarget) (s : State), Quiet s →
    let go := exec (.retrieve l tag raw action priority hold) s
    let refusal (code : AnswerCode) := go = .next (answered l code 0x20#8 .empty s)
    ((s.transport.state = .empty ∨ s.transport.state = .threading) → refusal .noRoll) ∧
    (s.transport.state = .rewinding → refusal .state) ∧
    (s.transport.state ≠ .empty → s.transport.state ≠ .threading → s.transport.state ≠ .rewinding →
      ((0x01#8 < action ∨ 0x01#8 < priority ∨ 0x02#8 < raw.kind) → refusal .malformed) ∧
      ∀ t, action ≤ 0x01#8 → priority ≤ 0x01#8 → decodeTarget raw = some t →
        (targetInRange s t = false → refusal .range) ∧
        (targetInRange s t = true →
          ((∃ x ∈ s.slots, x.state ≠ .free ∧ x.owner = l ∧ x.tag = tag) → refusal .dupTag) ∧
          ((∀ x ∈ s.slots, x.state ≠ .free → x.owner = l → x.tag ≠ tag) →
            (12 ≤ s.held l ∨ (∀ x ∈ s.slots, x.state ≠ .free)) → refusal .full))))

/-- A PRESENTING slot ends by RELEASE, by CANCEL or by its hold timer (R131, R132, R133, R58, R126): the slot is DONE with its
result, the holder fields are emptied, the transport is PARKED with its gate frame kept, and the grant ends. The statement takes a
part with nothing else to do and the lamp not OFF. -/
def Obligations.PresentingEnds : Prop :=
  ∀ (l : Link) (tag : Byte) (i : Nat) (x : Slot) (s : State), Quiet s → s.slots[i]? = some x → x.state = .presenting →
    s.tracker.level ≠ .lost → s.sweep.active = none → s.passActive = false → s.lamp.state ≠ .off →
    (∀ j y, j ≠ i → s.slots[j]? = some y → y.resting = true) →
    let ended (code : ResultCode) : State :=
      { s with
        slots := s.slots.modify i (fun y => { y with
          state := .done, holdTimer := none
          result := some { code := code, frame := y.frame, position := y.reached.map (·.1),
                           focusStep := y.reached.map (·.2) } })
        sched := { s.sched with grant := .none }
        transport := { s.transport with state := .parked, holder := none }
        roll := { s.roll with
          idleTimer := if s.params.standbyIdle = 0 then none else some s.params.standbyIdle } }
    (s.slotOf l tag = some i → exec (.release l tag) s = .next (answered l .ok 0x21#8 .empty (ended .released))) ∧
    (s.slotOf l tag = some i → exec (.cancel l tag) s = .next (answered l .ok 0x22#8 .empty (ended .cancelled))) ∧
    (x.holdTimer ≠ none → exec .holdTimerExpiry s = .next (ended .holdExpired))

/-- CANCEL (R133): a PENDING slot ends CANCELLED; a RESOLVING one too, and a DISCOVER move, in MOVING or in the back-off of RECOVERING
(R59), stops when no slot is RESOLVING any longer (R127); a TRAVELLING one too, and its move stops as the transport state has it (R59):
MOVING and RECOVERING come to rest for STOPPED, at a further FILM_AT_REST also where the film stands already (log 71), SETTLING is
PARKED at once with the grant ended, a grant that WAKING holds is dropped, and a move that stops already goes on stopping. RELEASE and
CANCEL of no slot are NO_TAG; RELEASE is TOO_LATE for a slot its hold timer has ended and STATE for every other slot that is not
PRESENTING; CANCEL of a DONE slot is STATE (R132, R133). The clauses in which the grant ends take a part with nothing else to do. -/
def Obligations.ReleaseAndCancelAreChecked : Prop :=
  ∀ (l : Link) (tag : Byte) (s : State), Quiet s →
    (s.slotOf l tag = none → exec (.release l tag) s = .next (answered l .noTag 0x21#8 .empty s) ∧
      exec (.cancel l tag) s = .next (answered l .noTag 0x22#8 .empty s)) ∧
    (∀ i, s.slotOf l tag = some i →
      let ended : State :=
        { s with slots := s.slots.modify i (fun y => { y with
            state := .done, holdTimer := none
            result := some { code := .cancelled, frame := y.frame, position := y.reached.map (·.1),
                             focusStep := y.reached.map (·.2) } }) }
      let free (u : State) : State := { u with sched := { u.sched with grant := .none } }
      let cancel := exec (.cancel l tag) s
      let done (u : State) : Host.Outcome State Fault Refusal := .next (answered l .ok 0x22#8 .empty u)
      (((s.slot i).state = .pending ∨ (s.slot i).state = .resolving ∨ (s.slot i).state = .travelling) →
        exec (.release l tag) s = .next (answered l .state 0x21#8 .empty s)) ∧
      ((s.slot i).state = .pending → cancel = done ended) ∧
      ((s.slot i).state = .resolving →
        ((s.sched.grant ≠ .discover ∨ ∃ j y, j ≠ i ∧ s.slots[j]? = some y ∧ y.state = .resolving) → cancel = done ended) ∧
        (s.sched.grant = .discover → (∀ j y, j ≠ i → s.slots[j]? = some y → y.state ≠ .resolving) →
          (∀ m, s.transport.state = .moving → s.transport.move = some m →
            cancel = done (if m.phase = .running then comingToRest m .stopped ended else ended)) ∧
          (∀ m, s.transport.state = .recovering → s.transport.move = some m →
            cancel = done (comingToRest m .stopped
              { ended with transport := { s.transport with state := .moving }
                           roll := { s.roll with idleTimer := none } })) ∧
          (s.transport.state = .waking → s.tracker.level ≠ .lost → s.sweep.active = none → s.passActive = false →
            (∀ j y, j ≠ i → s.slots[j]? = some y → y.resting = true) → cancel = done (free ended)))) ∧
      ((s.slot i).state = .travelling →
        (∀ m, s.transport.state = .moving → s.transport.move = some m →
          cancel = done (if m.phase = .running then comingToRest m .stopped ended else ended)) ∧
        (∀ m, s.transport.state = .recovering → s.transport.move = some m →
          cancel = done (comingToRest m .stopped
            { ended with transport := { s.transport with state := .moving }
                         roll := { s.roll with idleTimer := none } })) ∧
        (s.sched.grant = .slot i → s.tracker.level ≠ .lost → s.sweep.active = none → s.passActive = false →
          (∀ j y, j ≠ i → s.slots[j]? = some y → y.resting = true) →
          (s.transport.state = .waking → cancel = done (free ended)) ∧
          (s.transport.state = .settling → s.lamp.state ≠ .off →
            cancel = done (free
              { ended with
                transport := { s.transport with state := .parked, settleTimer := none, gateReady := false, move := none }
                roll := { s.roll with
                  idleTimer := if s.params.standbyIdle = 0 then none else some s.params.standbyIdle } }))))) ∧
    (∀ i r, s.slotOf l tag = some i → (s.slot i).state = .done → (s.slot i).result = some r →
      exec (.release l tag) s = .next
        (answered l (if r.code = .holdExpired then .tooLate else .state) 0x21#8 .empty s) ∧
      exec (.cancel l tag) s = .next (answered l .state 0x22#8 .empty s))

/-- What the scheduler chooses (R122, R123, R124, R125, R128), shown at a CANCEL that drops a grant held in WAKING, so that the choice
follows at once and the new grant is held, the pass's work and segment 1's record staying as they were meanwhile (the model's choice,
log 59): HOME where the level is LOST; else the oldest URGENT slot that is PENDING, or RESOLVING with no pass active, by arrival; else
the queued sweep; else an active pass, unless a yield is owed to a PENDING NORMAL slot; else the NORMAL choice among the PENDING slots,
at their gate coordinates, and with no pass active the RESOLVING ones, at the frontier gate coordinate: the oldest of those skipped
AGING_LIMIT times, else the nearest in the direction, the older of two equally near, else the nearest the other way. A PENDING slot
becomes TRAVELLING; a RESOLVING one gives the grant DISCOVER. The NORMAL choice turns the direction to the chosen coordinate, raises the
skip count of every other candidate it did not serve, to 15 at most, and pays the yield owed; a yield owed lapses where no NORMAL slot
is PENDING; with no candidate the grant stays NONE. -/
def Obligations.SchedulerChooses : Prop :=
  ∀ (l : Link) (tag : Byte) (i : Nat) (s : State), Quiet s → s.transport.state = .waking → s.slotOf l tag = some i →
    (s.slot i).state = .travelling → s.sched.grant = .slot i →
    let r := s.tracker.register
    let owed : Bool := s.sched.yieldOwed && s.slots.any (fun y => y.state == .pending && y.priority == .normal)
    let older (x y : Slot) : Prop := (y.sequence - x.sequence).toNat < 2147483648 ∧ x.sequence ≠ y.sequence
    let urgent (y : Slot) : Prop :=
      y.priority = .urgent ∧ (y.state = .pending ∨ (y.state = .resolving ∧ s.passActive = false))
    let normal (y : Slot) : Prop :=
      y.priority = .normal ∧ (y.state = .pending ∨ (y.state = .resolving ∧ s.passActive = false))
    let coord (y : Slot) : Nat :=
      if y.state = .pending then min 16777215 (s.pos (y.frame.getD 0) + s.roll.active.gateOffset)
      else if s.index.entries = [] then s.roll.active.leader
      else s.pos s.index.entries.length + s.roll.active.gateOffset
    let lies (d : Direction) (y : Slot) : Prop := (d = .forward ∧ r ≤ coord y) ∨ (d = .reverse ∧ coord y ≤ r)
    let nearer (x y : Slot) : Prop :=
      distance (coord x) r < distance (coord y) r ∨ (distance (coord x) r = distance (coord y) r ∧ older x y)
    let others (j : Nat) (p : Slot → Prop) : Prop := ∀ k y, k ≠ j → s.slots[k]? = some y → p y
    let cancelled (y : Slot) : Slot :=
      { y with state := .done, holdTimer := none,
               result := some { code := .cancelled, frame := y.frame, position := y.reached.map (·.1),
                                focusStep := y.reached.map (·.2) } }
    let go := exec (.cancel l tag) s
    let done (g : Grant) (d : Direction) (o : Bool) (f : Nat → Slot → Slot) (h : State → State) : Prop :=
      go = .next (answered l .ok 0x22#8 .empty (h
        { s with slots := s.slots.mapIdx (fun k y => if k = i then cancelled y else f k y)
                 sched := { s.sched with grant := g, direction := d, yieldOwed := o }
                 roll := { s.roll with idleTimer := none } }))
    let stands (_ : Nat) (y : Slot) : Slot := y
    let taken (j k : Nat) (y : Slot) : Slot := if k = j then { y with state := .travelling, reached := none } else y
    let queued : Prop := ∃ x ∈ s.sweep.active, x.state = .queued
    let passRow : Prop := s.passActive = true ∧ owed = false
    let quietRows : Prop := s.tracker.level ≠ .lost ∧ (∀ y ∈ s.slots, ¬ urgent y)
    (s.tracker.level = .lost → done .home s.sched.direction owed stands id) ∧
    (∀ j y, s.tracker.level ≠ .lost → s.slots[j]? = some y → urgent y → others j (fun z => urgent z → older y z) →
      (y.state = .pending → done (.slot j) s.sched.direction owed (taken j) id) ∧
      (y.state = .resolving → done .discover s.sched.direction owed stands id)) ∧
    (∀ x, quietRows → s.sweep.active = some x → x.state = .queued → x.frame ≤ s.index.entries.length →
      done .sweep s.sched.direction owed stands
        (fun u => { u with sweep := { s.sweep with active := some { x with state := .travelling } } })) ∧
    (quietRows → ¬ queued → passRow → s.lamp.state ≠ .failed →
      done .pass s.sched.direction false stands (fun u => { u with pass := { s.pass with state := .running } })) ∧
    (∀ j y, quietRows → ¬ queued → ¬ passRow → s.slots[j]? = some y → normal y →
      ((s.params.agingLimit ≤ y.skip ∧
          others j (fun z => normal z → s.params.agingLimit ≤ z.skip → older y z)) ∨
        ((∀ z ∈ s.slots, normal z → z.skip < s.params.agingLimit) ∧
          ((lies s.sched.direction y ∧ others j (fun z => normal z → lies s.sched.direction z → nearer y z)) ∨
            ((∀ z ∈ s.slots, normal z → ¬ lies s.sched.direction z) ∧ others j (fun z => normal z → nearer y z))))) →
      let d : Direction := if r < coord y then .forward else if coord y < r then .reverse else s.sched.direction
      let passed (z : Slot) : Slot := { z with skip := min 15 (z.skip + 1) }
      (y.state = .pending →
        done (.slot j) d false
          (fun k z => if k = j then { z with state := .travelling, reached := none }
            else if z.priority = .normal ∧ (z.state = .pending ∨ (z.state = .resolving ∧ s.passActive = false))
            then passed z else z) id) ∧
      (y.state = .resolving →
        done .discover d owed
          (fun _ z => if z.state = .resolving then { z with skip := 0 }
            else if z.priority = .normal ∧ z.state = .pending then passed z else z) id)) ∧
    (quietRows → ¬ queued → s.passActive = false → (∀ y ∈ s.slots, ¬ normal y) →
      go = .next (answered l .ok 0x22#8 .empty
        { s with slots := s.slots.mapIdx (fun k y => if k = i then cancelled y else y)
                 sched := { s.sched with grant := .none } }))

/-- QUERY answers with the fields of the link's slot of that tag, or NO_TAG; the hold time remaining of a running hold timer is
some whole number of seconds from 1 to the hold time, whatever the free value is (R134, log 3).
COLLECT of a DONE slot, by tag or, with NEXT, of the DONE slot that arrived first, answers with its result and frees it; a
slot that is not DONE and a link with no DONE slot are STATE, no slot is NO_TAG, another selector is MALFORMED (R135,
log 22). -/
def Obligations.QueryAndCollect : Prop :=
  (∀ (l : Link) (tag : Byte) (s : State), s.slotOf l tag = none →
    exec (.query l tag) s = .next (answered l .noTag 0x23#8 .empty s)) ∧
  (∀ (l : Link) (tag : Byte) (i : Nat) (x : Slot) (s : State), s.slotOf l tag = some i → s.slots[i]? = some x →
    ∃ left : Option Nat,
      exec (.query l tag) s = .next
        (answered l .ok 0x23#8
          (.slot { state := x.state, target := x.target, frame := x.frame, action := x.action, priority := x.priority,
                   hold := x.hold, holdRemaining := left, sequence := x.sequence, skip := x.skip, result := x.result })
          { s with freeCount := if x.holdTimer = none then s.freeCount else s.freeCount + 1 }) ∧
      (x.holdTimer = none → left = none) ∧
      ∀ h, x.holdTimer = some h → 1 ≤ h → ∃ n, left = some n ∧ 1 ≤ n ∧ n ≤ h) ∧
  (∀ (l : Link) (tag : Byte) (i : Nat) (x : Slot) (r : SlotResult) (s : State), s.slotOf l tag = some i →
    s.slots[i]? = some x → x.state = .done → x.result = some r →
    exec (.collect l 0x00#8 tag) s = .next
      (answered l .ok 0x24#8 (.result tag r) { s with slots := s.slots.modify i (fun _ => Slot.empty) })) ∧
  (∀ (l : Link) (tag : Byte) (i : Nat) (x : Slot) (r : SlotResult) (s : State), s.slots[i]? = some x →
    x.state = .done → x.owner = l → x.result = some r →
    (∀ j y, j ≠ i → s.slots[j]? = some y → y.state = .done → y.owner = l →
      olderSeq x.sequence y.sequence = true ∧ y.sequence ≠ x.sequence) →
    exec (.collect l 0x01#8 tag) s = .next
      (answered l .ok 0x24#8 (.result x.tag r) { s with slots := s.slots.modify i (fun _ => Slot.empty) })) ∧
  (∀ (l : Link) (tag : Byte) (i : Nat) (s : State), s.slotOf l tag = some i → (s.slot i).state ≠ .done →
    exec (.collect l 0x00#8 tag) s = .next (answered l .state 0x24#8 .empty s)) ∧
  (∀ (l : Link) (tag : Byte) (s : State), s.slotOf l tag = none →
    exec (.collect l 0x00#8 tag) s = .next (answered l .noTag 0x24#8 .empty s)) ∧
  (∀ (l : Link) (tag : Byte) (s : State), (∀ x ∈ s.slots, x.state = .done → x.owner ≠ l) →
    exec (.collect l 0x01#8 tag) s = .next (answered l .state 0x24#8 .empty s)) ∧
  (∀ (l : Link) (selector tag : Byte) (s : State), 0x01#8 < selector →
    exec (.collect l selector tag) s = .next (answered l .malformed 0x24#8 .empty s))

/-! ### Passes -/

/-- PASS SEGMENT stores the segment in its place of the requesting link's buffer; it is STATE where the link owns a pass that is
not IDLE, MALFORMED for an unknown action or policy, and for a stop-mask bit beyond the list, which is looked at in the same place
(the model's choice, log 22), and RANGE for a field outside R137's ranges. PASS REPORT answers
with the pass record and one segment's outcome record, and is RANGE outside 1..8 (R138, R157). -/
def Obligations.SegmentsAreStored : Prop :=
  (∀ (l : Link) (place action h z mask : Byte) (first last n : Half) (a : SegAction) (s : State),
    (s.pass.state = .idle ∨ s.pass.owner ≠ some l) → decodeSegAction action = some a → mask < 64#8 → 1#8 ≤ place →
    place ≤ 8#8 → 1#16 ≤ first → first ≤ 16384#16 → ((1#16 ≤ last ∧ last ≤ 16384#16) ∨ last = 0xFFFF#16) →
    let stored (p : FocusPolicy) : State := onLink l (fun k => { k with buffer := k.buffer.set (place.toNat - 1) (some
      { first := first.toNat, last := if last = 0xFFFF#16 then none else some last.toNat, action := a, policy := p,
        stopMask := mask.setWidth 6 }) }) s
    exec (.passSegment l place first last action 0x00#8 n h z mask) s = .next (answered l .ok 0x30#8 .empty (stored .table)) ∧
    (1#16 ≤ n → n ≤ 1023#16 → 1#8 ≤ h → h ≤ 8#8 → 1#8 ≤ z → z ≤ 64#8 →
      exec (.passSegment l place first last action 0x01#8 n h z mask) s = .next
        (answered l .ok 0x30#8 .empty (stored (.sweep n.toNat h.toNat z.toNat))))) ∧
  (∀ (l : Link) (place action policy h z mask : Byte) (first last n : Half) (s : State),
    s.pass.state ≠ .idle → s.pass.owner = some l →
    exec (.passSegment l place first last action policy n h z mask) s = .next (answered l .state 0x30#8 .empty s)) ∧
  (∀ (l : Link) (place action policy h z mask : Byte) (first last n : Half) (s : State),
    (s.pass.state = .idle ∨ s.pass.owner ≠ some l) → (0x03#8 < action ∨ 0x01#8 < policy ∨ 64#8 ≤ mask) →
    exec (.passSegment l place first last action policy n h z mask) s = .next (answered l .malformed 0x30#8 .empty s)) ∧
  (∀ (l : Link) (place action policy h z mask : Byte) (first last n : Half) (s : State),
    (s.pass.state = .idle ∨ s.pass.owner ≠ some l) → action ≤ 0x03#8 → policy ≤ 0x01#8 → mask < 64#8 →
    (place = 0#8 ∨ 8#8 < place ∨ first = 0#16 ∨ 16384#16 < first ∨ last = 0#16 ∨
      (16384#16 < last ∧ last ≠ 0xFFFF#16) ∨
      (policy = 0x01#8 ∧ (n = 0#16 ∨ 1023#16 < n ∨ h = 0#8 ∨ 8#8 < h ∨ z = 0#8 ∨ 64#8 < z))) →
    exec (.passSegment l place first last action policy n h z mask) s = .next (answered l .range 0x30#8 .empty s)) ∧
  (∀ (l : Link) (n : Byte) (s : State), 1#8 ≤ n → n ≤ 8#8 →
    exec (.passReport l n) s = .next (answered l .ok 0x36#8
      (.pass
        { state := s.pass.state, owner := s.pass.owner, modeRequested := s.pass.modeRequested, mode := s.pass.mode,
          segmentCount := s.pass.segmentCount, current := s.pass.current, resume := s.pass.resume,
          frameInHand := s.pass.frameInHand, work := s.pass.work, pending := s.pass.pending,
          yieldCount := s.pass.yieldCount, framesSinceYield := s.pass.framesSinceYield, last := s.pass.last,
          segment := s.pass.outcomes[n.toNat - 1]? }) s)) ∧
  (∀ (l : Link) (n : Byte) (s : State), (n = 0#8 ∨ 8#8 < n) →
    exec (.passReport l n) s = .next (answered l .range 0x36#8 .empty s))

/-- PASS START with the pass IDLE, film threaded, and a program that passes its checks (R140): the pass is RUNNING with the
program, in the mode in effect, at its first frame, and with the last pass's outcome discarded, while a grant other than DISCOVER
stands; in WAKING with nothing else to do the pass is granted the transport at the choice, and WAKING holds the grant (R122, R123),
the work still NONE (log 59); a DISCOVER move in flight is stopped (R127). The refusals follow in the order of the checks. The order
of a program is written out: first not above last in each segment, END_OF_ROLL in the last alone, and each first above the last
before it. -/
def Obligations.PassStarts : Prop :=
  (∀ (n : Nat) (b : List (Option Segment)) (gs : List Segment), programOf n b = some gs ↔
    gs.length = n ∧ ∀ i, i < n → b[i]? = some gs[i]?) ∧
  (∀ gs : List Segment, programOrdered gs = true ↔
    (∀ g ∈ gs, ∀ n ∈ g.last, g.first ≤ n) ∧ (∀ x ∈ gs.zip gs.tail, ∃ n ∈ x.1.last, n < x.2.first)) ∧
  (∀ (l : Link) (n mode y : Byte) (m : PassMode) (gs : List Segment) (s : State), Quiet s → s.pass.state = .idle →
    decodeMode mode = some m → 1#8 ≤ n → n ≤ 8#8 → programOf n.toNat (s.link l).buffer = some gs →
    programOrdered gs = true →
    let flies : Bool := decide (m = .fly ∧ 2 * max 40 (s.index.pitchQ / 64) < s.roll.active.gateOffset)
    let started : State :=
      { s with pass :=
        { state := .running, owner := some l, modeRequested := some m, mode := some (if flies then .fly else .step),
          yieldInterval := y.toNat, segmentCount := some gs.length, current := some 1,
          resume := gs.head?.map (fun g => g.first), frameInHand := none, work := .none, pending := .none,
          framesSinceYield := 0, yieldCount := 0, captureTimer := none, timedOut := none, lastTriggered := none,
          armed := none, ordinals := List.replicate 8 0, program := gs,
          outcomes := List.replicate 8 SegOutcome.fresh, last := none, yieldAsked := false, yieldLater := false,
          after := .nothing, judgedUpTo := 0, chosen := [], counted := [], sweepOwed := [], visitedInHand := false } }
    let go := exec (.passStart l n mode y) s
    let done (u : State) : Host.Outcome State Fault Refusal :=
      .next (answered l .accepted 0x31#8 (.number 1 (if flies then 1 else 0)) u)
    (s.transport.state = .waking → s.sched.grant = .none → NoWork s → s.lamp.state ≠ .failed →
      go = done (heldGrant .pass started)) ∧
    (∀ v, s.transport.state = .moving → s.sched.grant = .discover → s.transport.move = some v → v.phase = .running →
      go = done (comingToRest v .stopped started))) ∧
  (∀ (l : Link) (n mode y : Byte) (m : PassMode) (gs : List Segment) (s : State), Quiet s → s.pass.state = .idle →
    s.transport.state ≠ .empty → s.transport.state ≠ .threading → s.transport.state ≠ .rewinding →
    s.transport.state ≠ .faulted → s.sched.grant ≠ .none → s.sched.grant ≠ .discover →
    decodeMode mode = some m → 1#8 ≤ n → n ≤ 8#8 → programOf n.toNat (s.link l).buffer = some gs →
    programOrdered gs = true →
    let flies : Bool := decide (m = .fly ∧ 2 * max 40 (s.index.pitchQ / 64) < s.roll.active.gateOffset)
    exec (.passStart l n mode y) s = .next
      (answered l .accepted 0x31#8 (.number 1 (if flies then 1 else 0))
        { s with pass :=
          { state := .running, owner := some l, modeRequested := some m, mode := some (if flies then .fly else .step),
            yieldInterval := y.toNat, segmentCount := some gs.length, current := some 1,
            resume := gs.head?.map (fun g => g.first), frameInHand := none, work := .none, pending := .none,
            framesSinceYield := 0, yieldCount := 0, captureTimer := none, timedOut := none, lastTriggered := none,
            armed := none, ordinals := List.replicate 8 0, program := gs,
            outcomes := List.replicate 8 SegOutcome.fresh, last := none, yieldAsked := false, yieldLater := false,
            after := .nothing, judgedUpTo := 0, chosen := [], counted := [], sweepOwed := [], visitedInHand := false } })) ∧
  (∀ (l : Link) (n mode y : Byte) (s : State), Quiet s →
    let go := exec (.passStart l n mode y) s
    let refusal (code : AnswerCode) := go = .next (answered l code 0x31#8 .empty s)
    (s.pass.state ≠ .idle → refusal .busy) ∧
    (s.pass.state = .idle →
      ((s.transport.state = .empty ∨ s.transport.state = .threading ∨ s.transport.state = .rewinding) → refusal .noRoll) ∧
      (s.transport.state = .faulted → refusal .state) ∧
      (s.transport.state ≠ .empty → s.transport.state ≠ .threading → s.transport.state ≠ .rewinding →
        s.transport.state ≠ .faulted →
        (0x01#8 < mode → refusal .malformed) ∧
        (mode ≤ 0x01#8 →
          (n = 0#8 ∨ 8#8 < n ∨ programOf n.toNat (s.link l).buffer = none ∨
            ∃ gs, programOf n.toNat (s.link l).buffer = some gs ∧ programOrdered gs = false) → refusal .range))))

/-- A granted pass finds its work (R50, R53, R61, R62, R107, R141, R142, R143, R147, R148, R151, R156), stated where WAKING has held
the grant until PARKED, and at the outcomes of the moves a pass asks for. In STEP mode the next frame, from the resume frame up to
E, is taken in hand, the first time with its segment's ordinal rising and whether a sweep is due at it judged, and approached; where
a sweep is due and not yet made, the sweep travels there first; a sweep due with the lens not READY ends at once FOCUS_FAIL (R107,
log 12), which is counted and, masked, ends the pass STOPPED (R152, log 57); with none, the part runs to discover where the span
goes on beyond E of an OPEN index. The next frame is one judged selected before and not yet taken, else the first of those not yet
judged that is selected, each judged once (R141, log 62). In FLY mode, and for INDEX_ONLY, a run begins two pitches before the gate
coordinate of the next frame, or of the next to discover, and for INDEX_ONLY of the resume frame. Else the segment ends and the next
is taken, and the last one ends the pass COMPLETED, the mode, the current segment, the resume frame and the counts kept, which R156
does not name (log 33); a resume frame past the segment's last frame ends it in FLY too (log 44). At the STOPPED outcome of a stop
it asked for the pass looks again, goes on in its next segment, begins the sweep it stopped for (log 74), is SUSPENDED (log 19, log
78), or waits for a lamp that is not ON with the work NONE (R150, log 58); END_OF_FILM ends the segment; and LOST gives the
transport back, the HOME move going first, with the frames to judge anew (R142, log 62, log 78). When an ordinal is counted is log
68. The speed plans are written out. -/
def Obligations.PassFindsWork : Prop :=
  (∀ (l : Link) (c r : Nat) (g : Segment) (s : State), Quiet s → s.transport.state = .waking → s.roll.tensionTimer ≠ none →
    s.transport.move = none → s.sched.grant = .pass → s.pass.state = .running → s.pass.owner = some l →
    s.pass.frameInHand = none → s.pass.current = some c → s.pass.program[c - 1]? = some g → s.pass.resume = some r → 1 ≤ r →
    s.sweep.active = none → s.tracker.level ≠ .lost → s.doorClosed = true → tensionOut s.poller.values = false →
    s.lamp.state ≠ .off → s.pass.mode ≠ none → s.transport.holder = none →
    let u : State :=
      { s with transport := { s.transport with state := .parked }
               roll := { s.roll with tensionTimer := none, idleTimer := none } }
    let go (t : State) : Prop := exec .tensionTimerExpiry s = .next t
    PassGoesOn l c r g u go ∧ (segmentEnds r g s → SegmentPassed l c u go)) ∧
  ∀ (l : Link) (c : Nat) (g : Segment) (m : Move) (s : State), Quiet s → s.transport.state = .moving →
    s.transport.move = some m → m.attempts = 0 → s.sched.grant = .pass → s.pass.state = .running → s.pass.owner = some l →
    s.pass.current = some c → s.pass.program[c - 1]? = some g → s.pass.mode ≠ none → s.sweep.active = none →
    s.lamp.state ≠ .off → s.transport.holder = none →
    let go (t : State) : Prop := exec .filmAtRest s = .next t
    let u := moveEnded s
    let onward (p : Pass) : Prop := Unasked s → MayMove u → s.pass.frameInHand = none →
      ∀ r, s.pass.resume = some r → 1 ≤ r → PassGoesOn l c r g { u with pass := p } go
    (m.atRest = some (.finish .stopped) → s.pass.work = .stopping → s.tracker.level ≠ .lost →
      (s.pass.after = .lookAgain ∨ s.pass.after = .goOn ∨ (s.pass.after = .awaitLamp ∧ s.lamp.state = .on) →
        onward { s.pass with after := .nothing }) ∧
      (s.pass.after = .awaitLamp → s.lamp.state ≠ .on → Unasked s →
        go { u with pass := { s.pass with work := .none, after := .awaitLamp } }) ∧
      (∀ k n h z, s.pass.after = .sweepAt k → g.policy = .sweep n h z → Unasked s → MayMove u → InReach k s →
        s.focus.status = .ready →
        let id := if 255 ≤ s.sweep.counter then 1 else s.sweep.counter + 1
        go (approachBegun k { u with
          pass := { s.pass with frameInHand := some k, work := .sweeping, after := .nothing }
          sweep := { s.sweep with counter := id, active := some {
            state := .travelling, origin := .pass, id := id, link := l, frame := k, centre := none, halfWidth := h,
            stepSize := z, store := true, points := [], scores := [], current := 0 } } })) ∧
      ((∃ x, s.pass.after = .giveUp x) → s.pass.pending = .suspend → (∀ y ∈ s.slots, y.resting = true) →
        go (grantEnded { u with pass := { s.pass with
          state := .suspended, pending := .none, framesSinceYield := 0, yieldAsked := false, yieldLater := false
          work := .none, after := .nothing, armed := none } }))) ∧
    (m.atRest = some (.finish .endOfFilm) →
      (s.pass.work = .seeking ∨ s.pass.work = .approaching ∨ s.pass.work = .runningFly ∨ s.pass.work = .stopping) →
      s.pass.after ≠ .goOn → s.tracker.level ≠ .lost → SegmentPassed l c u go) ∧
    (m.atRest = some (.finish .lost) → s.pass.work ≠ .none → s.pass.work ≠ .sweeping → s.pass.pending = .none →
      s.tracker.level = .lost → s.doorClosed = true → tensionOut s.poller.values = false → s.sched.yieldOwed = false →
      go (homeGranted { u with pass := { s.pass with
        work := .none, armed := none, after := .nothing, yieldAsked := false, yieldLater := false
        judgedUpTo := s.pass.frameInHand.getD (s.pass.resume.getD 1 - 1), chosen := s.pass.frameInHand.toList } }))

/-- A pass at its frames (R142, R143, R144, R148, R149, R150, R151, R152, R156, R74). In STEP, at the ready gate, the frame is visited
and judged once for MISSED_MARK, GAP and SPLICE: a masked class ends the pass STOPPED with the gate left; else with the lamp ON the pass
holds the gate, awaiting the capture, with WARMING it waits and is offered the gate again, and FAILED ends it LAMP. In a FLY run, with
no yield due, the count that reaches the armed trigger gives the pulse, makes the entry TRIGGERED and visits it, a mark in progress or
not; then the next frame judged selected, if the index holds one, is armed with its focus given to the lens, or the run stops for its
sweep. A masked class ends the pass STOPPED, whatever request is pending (log 57), the segment's last frame ends the segment, a pending
SUSPEND stops the run, a pending ABORT ends the pass ABORTED with the run stopped, both also at that frame (log 47), and with the lamp
WARMING nothing is visited and the run stops to wait, also at the segment's last frame (log 11); a trigger that a stop for LOST or at
the trailer leaves armed is taken while the film comes to rest (log 10). The count that reaches the next prediction and the window
beyond it fills it, also at the count of a trigger, and the filled frame is armed where it is selected and no trigger is armed; and a
run for indexing visits each frame at its gate coordinate. The resume frame moves on at the trigger, after frame 16,384 to 16,385 (log
73), and a run for indexing notes its visits beside it (log 46). The frames visited count on past 16,384 (log 70). A pulse given while
another runs goes on with the duration the running one was begun with (log 27). Ends of the pass are stated where no slot and no other
work waits; what R156 does not name keeps its value there (log 33). When a frame is judged is log 62, and when its ordinal is counted
log 68; a frame that the stop for a sweep leaves in hand is log 74. -/
def Obligations.PassServesFrames : Prop :=
  ∀ (l : Link) (c k : Nat) (g : Segment) (e : Entry) (m : Move) (s : State), Quiet s → s.sched.grant = .pass →
    s.pass.state = .running → s.pass.owner = some l → s.pass.current = some c → s.pass.program[c - 1]? = some g →
    (∀ j x, j ≠ c - 1 → s.pass.program[j]? = some x → ¬ (x.first ≤ k ∧ ∀ n ∈ x.last, k ≤ n)) → s.sweep.active = none →
    (∀ x ∈ s.slots, x.resting = true) → s.transport.holder = none → s.entry k = some e →
    let E := s.index.entries.length
    let faulty : Bool := e.source == .filled || e.flags.gap || e.flags.splice
    let judged (o : SegOutcome) : SegOutcome :=
      { o with
        visited := o.visited + 1
        faults := { o.faults with
          missedMark := if e.source = .filled then min 255 (o.faults.missedMark + 1) else o.faults.missedMark
          gap := if e.flags.gap then min 255 (o.faults.gap + 1) else o.faults.gap
          splice := if e.flags.splice then min 255 (o.faults.splice + 1) else o.faults.splice }
        firstFault := if o.firstFault = none ∧ faulty = true then some k else o.firstFault }
    let masked : Option FaultClass :=
      if e.source = .filled ∧ g.stopMask.getLsbD 2 = true then some .missedMark
      else if e.flags.gap = true ∧ g.stopMask.getLsbD 3 = true then some .gap
      else if e.flags.splice = true ∧ g.stopMask.getLsbD 5 = true then some .splice
      else none
    let visited (selected : Bool) (p : Pass) : Pass :=
      { p with outcomes := p.outcomes.modify (c - 1) judged
               framesSinceYield := if selected then min 255 (p.framesSinceYield + 1) else p.framesSinceYield }
    let ended := passEnded l c
    let idle : Option Nat := if s.params.standbyIdle = 0 then none else some s.params.standbyIdle
    let pulsed (u : State) : State :=
      { u with transport := { u.transport with pulse := some (s.transport.pulse.getD s.params.gatePulse) }
               index := { u.index with entries := s.index.entries.modify (k - 1) (fun y =>
                 { y with capture := .triggered, focusStep := some s.focus.position }) } }
    let triggered : Pass :=
      { visited true s.pass with
        armed := none, resume := some (k + 1), lastTriggered := some (max k (s.pass.lastTriggered.getD 0)) }
    (s.transport.state = .settling → s.transport.settleTimer ≠ none → s.transport.gateReady = false →
      s.tracker.level ≠ .lost →
      s.transport.move = some m → m.frame = some k → m.focusTaken = true → s.pass.work = .approaching →
      s.pass.frameInHand = some k → s.pass.visitedInHand = false →
      let ready : State :=
        { s with transport := { s.transport with gateFrame := some k, move := none, settleTimer := none }
                 pass := { visited true s.pass with visitedInHand := true } }
      let left : State :=
        { ready with transport := { ready.transport with state := .parked }
                     roll := { s.roll with idleTimer := idle }, sched := { s.sched with grant := .none } }
      let go := exec .settleExpiry s
      (∀ x, masked = some x → s.lamp.state ≠ .off → go = .next (ended (.stopped x k) .stopped left)) ∧
      (masked = none →
        (s.lamp.state = .on →
          go = .next
            { ready with
              transport := { ready.transport with state := .settled, holder := some (.pass l) }
              roll := { s.roll with idleTimer := none }
              pass := { ready.pass with work := .awaitingCapture, captureTimer := some s.params.captureTimeout } }) ∧
        (s.lamp.state = .warming →
          go = .next { ready with transport := { ready.transport with gateReady := true } }) ∧
        (s.lamp.state = .failed → go = .next (ended .lamp .stopped left)))) ∧
    (s.transport.state = .settling → s.transport.gateReady = true → s.pass.work = .approaching →
      s.pass.frameInHand = some k → s.pass.visitedInHand = true → s.lamp.state = .warming →
      s.lamp.warmTimer ≠ none → s.lampOk = true → s.pass.after = .nothing →
      exec .warmTimerExpiry s = .next
        { s with
          lamp := { state := .on, warmTimer := none }
          transport := { s.transport with state := .settled, gateReady := false, holder := some (.pass l) }
          roll := { s.roll with idleTimer := none }
          pass := { s.pass with work := .awaitingCapture, captureTimer := some s.params.captureTimeout } }) ∧
    (∀ o : MoveOutcome, s.transport.state = .moving → s.transport.move = some m → m.purpose = .flyRun →
      m.phase = .stopping → m.atRest = some (.finish o) → m.finalApproach = false → m.plan = [] → m.aside = [] →
      m.leg.direction = .forward → s.transport.stallTimer = none → s.transport.capstan = none →
      s.tracker.register + 1 < 16777215 → s.pass.work = .runningFly → s.pass.yieldAsked = false →
      s.pass.yieldLater = false → (s.pass.yieldInterval = 0 ∨ ∀ x ∈ s.slots, x.state ≠ .pending) →
      s.pass.armed = some (k, s.tracker.register + 1) → s.pass.pending = .none →
      let go := exec (.encoderCount .forward) s
      let counted : State :=
        { s with
          tracker := { s.tracker with register := s.tracker.register + 1, direction := .forward, inMotion := true }
          transport := { s.transport with move := some { m with travel := m.travel + 1 } } }
      (s.lamp.state = .on →
        (∀ x, masked = some x → go = .next (ended (.stopped x k) .stopped (pulsed { counted with pass := triggered }))) ∧
        (masked = none → (∀ n ∈ g.last, k < n) → go = .next (pulsed { counted with pass := triggered }))) ∧
      (s.lamp.state = .warming →
        go = .next { counted with pass := { s.pass with
          armed := none, resume := some k, work := .stopping, after := .awaitLamp } })) ∧
    (∀ v : Nat, s.transport.state = .moving → s.tracker.level ≠ .lost → s.transport.move = some m → m.purpose = .flyRun →
      m.phase = .running →
      m.atRest = none → m.finalApproach = false → m.plan = [] →
      m.leg = { direction := .forward, cls := .index, stop := .unbounded } → s.transport.stallTimer = some v →
      s.tracker.register + 1 < 16777215 → s.index.trailer = none → s.index.closure = none → (∀ n ∈ g.last, E ≤ n) →
      s.pass.work = .runningFly → s.pass.yieldAsked = false → s.pass.yieldLater = false →
      (s.pass.yieldInterval = 0 ∨ ∀ x ∈ s.slots, x.state ≠ .pending) →
      let go := exec (.encoderCount .forward) s
      let reached := s.tracker.register + 1
      let run : Move := { m with travel := m.travel + 1 }
      let counted : State :=
        { s with
          tracker := { s.tracker with register := reached, direction := .forward, inMotion := true }
          transport := { s.transport with move := some run, stallTimer := some s.params.stallTime } }
      let predicted := s.pos E + (s.index.pitchQ + 8) / 16
      let w := max 40 (s.index.pitchQ / 64)
      let fillDue : Prop :=
        s.pass.mode = some .fly ∧ g.action ≠ .indexOnly ∧ s.marks.inProgress = none ∧ E < 16384 ∧ (∀ n ∈ g.last, E < n) ∧
          (s.index.entries.reverse.takeWhile (fun y => y.source == .filled)).length < s.params.maxFill ∧
          predicted + (if s.index.widening then 2 * w else w) ≤ reached
      let filled (u : State) : State :=
        let t := nextTriple s.index.counters .image
        { u with index := { u.index with
            counters := t
            entries := u.index.entries ++
              [{ position := predicted, source := .filled, cls := .image, length := none, triple := t,
                 flags := EntryFlags.clear, capture := .none, captureCount := 0, focusStep := none }] } }
      let selects (y : Entry) : Prop :=
        g.action = .all ∨ (g.action = .docStarts ∧ y.cls ≠ .image) ∨ (g.action = .missing ∧ y.capture ≠ .captured)
      let arms (j : Nat) (u : State) : State :=
        let first : Prop := j ∉ u.pass.counted
        let ordinals := if first then u.pass.ordinals.modify (c - 1) (fun n => n + 1) else u.pass.ordinals
        let falls : Bool := match g.policy with
          | .table => false
          | .sweep n _ _ => (ordinals.getD (c - 1) 0 - 1) % n == 0
        let owed := if first ∧ falls = true then j :: u.pass.sweepOwed else u.pass.sweepOwed
        let known : Pass :=
          { u.pass with judgedUpTo := j, chosen := [j], ordinals := ordinals, sweepOwed := owed
                        counted := if first then j :: u.pass.counted else u.pass.counted }
        if j ∈ owed then
          comingToRest run .stopped
            { u with pass := { known with armed := none, frameInHand := some j, work := .stopping, after := .sweepAt j } }
        else
          { u with pass := { known with armed := some (j, u.pos j + s.roll.active.gateOffset) }
                   focus := lensSent (min 4095 (s.zoneStep j)) .fly s }
      let grows (u : State) : State :=
        if g.action = .docStarts then
          { filled u with pass := { u.pass with judgedUpTo := E + 1 } }
        else arms (E + 1) (filled u)
      let fires : Prop := s.pass.armed = some (k, reached) ∧ g.action ≠ .indexOnly
      (fires → s.lamp.state = .on →
        (∀ x, masked = some x →
          go = .next (ended (.stopped x k) .stopped (comingToRest run .stopped (pulsed { counted with pass := triggered })))) ∧
        (masked = none → s.pass.pending = .none →
          (g.last = some k → s.pass.segmentCount = some c →
            go = .next (ended .completed .done (comingToRest run .stopped (pulsed { counted with pass := triggered })))) ∧
          ((∀ n ∈ g.last, E < n) → (∀ j ∈ s.pass.chosen, j ≤ k) → (∀ j y, k < j → s.entry j = some y → ¬ selects y) →
            let onward := pulsed { counted with pass := { triggered with judgedUpTo := max s.pass.judgedUpTo E } }
            (¬ fillDue → go = .next onward) ∧
            (fillDue → s.index.checkpoints = [] → s.pass.judgedUpTo ≤ E → reached < predicted + s.roll.active.gateOffset →
              go = .next (grows onward))) ∧
          (∀ j y, (∀ i ∈ s.pass.chosen, i ≤ k) → max k s.pass.judgedUpTo < j → s.entry j = some y → selects y →
            (∀ i x, max k s.pass.judgedUpTo < i → i < j → s.entry i = some x → ¬ selects x) →
            reached < y.position + s.roll.active.gateOffset → ¬ fillDue →
            go = .next (arms j (pulsed { counted with pass := triggered })))) ∧
        (masked = none → s.pass.pending = .suspend →
          go = .next (comingToRest run .stopped (pulsed { counted with pass := { triggered with
            work := .stopping, after := .giveUp .suspend } }))) ∧
        (masked = none → s.pass.pending = .abort →
          go = .next (ended .aborted .aborted (comingToRest run .stopped (pulsed { counted with pass := triggered }))))) ∧
      (fires → s.lamp.state = .warming → s.pass.pending = .none →
        go = .next (comingToRest run .stopped { counted with pass := { s.pass with
          armed := none, resume := some k, work := .stopping, after := .awaitLamp } })) ∧
      (k = E → s.pass.mode = some .fly → g.action ≠ .indexOnly → (∃ j x, s.pass.armed = some (j, x) ∧ reached < x) →
        (fillDue → s.index.checkpoints = [] → go = .next (filled counted)) ∧ (¬ fillDue → go = .next counted)) ∧
      (k = E → fillDue → s.pass.armed = none → s.index.checkpoints = [] → (∀ j ∈ s.pass.chosen, j < s.pass.resume.getD 1) →
        (∀ j y, max (s.pass.resume.getD 1) (s.pass.judgedUpTo + 1) ≤ j → s.entry j = some y → ¬ selects y) →
        s.pass.resume.getD 1 ≤ E + 1 → s.pass.judgedUpTo ≤ E → reached < predicted + s.roll.active.gateOffset →
        go = .next (grows counted)) ∧
      (g.action = .indexOnly → s.pass.armed = none → max (s.pass.resume.getD 1) (s.pass.judgedUpTo + 1) = k →
        (∀ n ∈ g.last, E < n) →
        (reached < e.position + s.roll.active.gateOffset → go = .next counted) ∧
        (e.position + s.roll.active.gateOffset ≤ reached → (∀ y ∈ s.entry (k + 1), reached < y.position + s.roll.active.gateOffset) →
          let p : Pass := { visited false s.pass with judgedUpTo := k }
          (∀ x, masked = some x →
            go = .next (ended (.stopped x k) .stopped (comingToRest run .stopped { counted with pass := p }))) ∧
          (masked = none → go = .next { counted with pass := p }))))

/-- PASS SUSPEND, PASS RESUME and PASS ABORT by the state of the pass and its work (R142, R154, R155): STATE where it is IDLE, OWNER for
another link. A RUNNING pass takes the request as pending in an approach, at the gate, in the sweep of a frame in hand and in a run with
a trigger armed, to be taken at that trigger; while it stops, a SUSPEND is pending until the STOPPED outcome and an ABORT ends the pass
at once (log 47). Where a boundary is reached, in SEEKING with no frame in hand, in a run with no trigger armed and in the sweep of a
FLY pass, an ABORT ends the pass and a SUSPEND stops its move at once, the sweep ending CANCELLED with either (R116; with a SUSPEND it
is the model's choice, log 61; the store outcome, NOT_STORED or NOT_ASKED, is the model's choice, log 14); a run for indexing then has
the frame after the last visited as its resume frame (R142, log 46; after frame 16,384 it is 16,385, log 73). Without the grant a
SUSPEND is taken at once, with the work NONE (log 78) and the frames since yield set to 0 (log 19), and so is an ABORT; a YIELDING pass
is suspended at once; RESUME makes a SUSPENDED pass a candidate again and withdraws a pending SUSPEND; ABORT ends a YIELDING or
SUSPENDED pass, or a RUNNING one without the grant, with PASS_END on its owner, a sweep of its own that a LOST move left TRAVELLING
ending CANCELLED (R116, log 14), and the fields that R156 does not name kept (log 33). -/
def Obligations.PassRequests : Prop :=
  ∀ (l : Link) (s : State), Quiet s →
    let suspend := exec (.passSuspend l) s
    let resume := exec (.passResume l) s
    let abort := exec (.passAbort l) s
    let ok (code : Byte) (t : State) : Host.Outcome State Fault Refusal := .next (answered l .ok code .empty t)
    let refused (a : AnswerCode) (code : Byte) : Host.Outcome State Fault Refusal := .next (answered l a code .empty s)
    let ended : State := passEnded l (s.pass.current.getD 1) .aborted .aborted s
    let suspending : Pass :=
      { s.pass with pending := .suspend, work := .stopping, after := .giveUp .suspend, armed := none }
    (s.pass.state = .idle → suspend = refused .state 0x32#8 ∧ resume = refused .state 0x33#8 ∧
      abort = refused .state 0x34#8) ∧
    (s.pass.state ≠ .idle → s.pass.owner ≠ some l → suspend = refused .owner 0x32#8 ∧
      resume = refused .owner 0x33#8 ∧ abort = refused .owner 0x34#8) ∧
    (s.pass.owner = some l → s.pass.state = .running → s.sched.grant = .pass →
      (s.pass.work = .approaching ∨ s.pass.work = .awaitingCapture ∨ (s.pass.work = .sweeping ∧ s.pass.mode ≠ some .fly) ∨
        (s.pass.work = .runningFly ∧ s.pass.armed ≠ none)) →
      (s.pass.pending = .none → suspend = ok 0x32#8 { s with pass := { s.pass with pending := .suspend } }) ∧
      (s.pass.pending ≠ .abort → abort = ok 0x34#8 { s with pass := { s.pass with pending := .abort } })) ∧
    (s.pass.owner = some l → s.pass.state = .running → s.sched.grant = .pass → s.pass.work = .stopping →
      (s.pass.pending = .none → suspend = ok 0x32#8 { s with pass := { s.pass with pending := .suspend } }) ∧
      (∀ m, s.pass.pending ≠ .abort → s.transport.state = .moving → s.transport.move = some m → m.phase = .stopping →
        s.transport.holder = none → s.sweep.active = none → abort = ok 0x34#8 ended)) ∧
    (∀ m, s.pass.owner = some l → s.pass.state = .running → s.sched.grant = .pass → s.transport.state = .moving →
      s.transport.move = some m → m.phase = .running → s.transport.holder = none →
      (s.sweep.active = none →
        ((s.pass.work = .seeking ∧ s.pass.frameInHand = none) ∨ (s.pass.work = .runningFly ∧ s.pass.armed = none)) →
        (s.pass.pending = .none → (s.pass.work = .seeking ∨ ∀ g ∈ s.segment, g.action ≠ .indexOnly) →
          suspend = ok 0x32#8 (comingToRest m .stopped { s with pass := suspending })) ∧
        (∀ g, s.pass.pending = .none → s.pass.work = .runningFly → s.segment = some g → g.action = .indexOnly →
          suspend = ok 0x32#8 (comingToRest m .stopped { s with pass := { suspending with
            resume := some (max (s.pass.resume.getD 1) (s.pass.judgedUpTo + 1)) } })) ∧
        (s.pass.pending ≠ .abort → abort = ok 0x34#8 (comingToRest m .stopped ended))) ∧
      (∀ x, s.pass.work = .sweeping → s.pass.mode = some .fly → s.sweep.active = some x → x.origin = .pass → x.link = l →
        x.state = .travelling → x.points = [] →
        (s.pass.pending = .none →
          suspend = ok 0x32#8 (sweepEnded x .cancelled (comingToRest m .stopped { s with pass := { suspending with frameInHand := none } }))) ∧
        (s.pass.pending ≠ .abort → abort = ok 0x34#8 (sweepEnded x .cancelled (comingToRest m .stopped ended))))) ∧
    (s.pass.owner = some l → s.pass.state = .running →
      (s.pass.pending = .suspend → suspend = ok 0x32#8 s ∧
        resume = ok 0x33#8 { s with pass := { s.pass with pending := .none } }) ∧
      (s.pass.pending = .abort → suspend = refused .state 0x32#8 ∧ abort = ok 0x34#8 s) ∧
      (s.pass.pending ≠ .suspend → resume = refused .state 0x33#8)) ∧
    (s.pass.owner = some l → s.pass.state = .running → s.sched.grant ≠ .pass → s.pass.pending = .none → s.pass.work = .none →
      suspend = ok 0x32#8 { s with pass := { s.pass with
        state := .suspended, framesSinceYield := 0, yieldAsked := false, yieldLater := false, work := .none,
        after := .nothing, armed := none } }) ∧
    (s.pass.owner = some l → s.pass.state = .yielding →
      suspend = ok 0x32#8 { s with pass := { s.pass with state := .suspended } } ∧ resume = refused .state 0x33#8) ∧
    (s.pass.owner = some l → s.pass.state = .suspended → suspend = refused .state 0x32#8 ∧
      (s.sched.grant ≠ .none → resume = ok 0x33#8 { s with pass := { s.pass with state := .running } })) ∧
    (s.pass.owner = some l →
      (s.pass.state = .yielding ∨ s.pass.state = .suspended ∨ (s.pass.state = .running ∧ s.pass.pending ≠ .abort)) →
      s.sched.grant ≠ .pass →
      (s.sweep.active = none → s.transport.holder ≠ some (.pass l) → abort = ok 0x34#8 ended) ∧
      (∀ x, s.sweep.active = some x → x.origin = .pass → x.link = l → x.state = .travelling → x.points = [] →
        s.transport.holder = none → abort = ok 0x34#8 (sweepEnded x .cancelled ended)))

/-- CAPTURED of the frame a STEP pass holds, and the capture timer's expiry on it (R145, R146, R152): the entry and the segment's
record take the result, the gate is freed, and the boundary is taken with the next frame as the resume frame, after frame 16,384
that is 16,385 (log 73). With nothing asked for the pass goes on to its next frame (R143, in PassGoesOn, with its logs 12, 44, 62
and 68); a pending SUSPEND makes it SUSPENDED, its frames since yield 0 (log 19) and its work NONE (log 78); a pending ABORT ends
it; and to a PENDING URGENT slot it yields (R153, R128), also where the request came in the frame's sweep (R147, log 63). With the
fault's class in the stop mask it ends STOPPED there, whatever is pending (log 57). What R156 does not name is kept (log 33).
CAPTURED of a triggered frame of a FLY pass is taken at any time; its FAIL of a masked class ends a pass that is not IDLE at once,
the move in flight stopped, the segment that holds the frame and the current one STOPPED (log 18). The refusals are STATE, OWNER,
TOO_LATE, STALE and MALFORMED (log 22). -/
def Obligations.CapturesAreTaken : Prop :=
  (∀ (l : Link) (n : Half) (s : State), Quiet s → s.pass.state = .running → s.pass.work = .awaitingCapture →
    s.pass.owner = some l → s.pass.frameInHand = some n.toNat → 1#16 ≤ n →
    s.sched.grant = .pass → s.transport.move = none → s.lamp.state ≠ .off → s.tracker.level ≠ .lost →
    s.sweep.active = none →
    let c := s.pass.current.getD 1
    let took (f : Entry → Entry) (g : SegOutcome → SegOutcome) : State :=
      { s with
        index := { s.index with entries := s.index.entries.modify (n.toNat - 1) f }
        pass := { s.pass with
          work := .seeking, frameInHand := none, resume := some (n.toNat + 1), captureTimer := none, visitedInHand := false
          outcomes := s.pass.outcomes.modify (c - 1) g }
        transport := { s.transport with state := .parked, holder := none }
        roll := { s.roll with idleTimer := none } }
    let given (x : PassState) (u : State) : State :=
      { u with pass := { u.pass with
          state := x, pending := .none, framesSinceYield := 0, yieldAsked := false, yieldLater := false, work := .none
          after := .nothing, armed := none } }
    let rests : Prop := ∀ x ∈ s.slots, x.resting = true
    let follows (u : State) (go : State → Prop) : Prop :=
      (s.pass.pending = .suspend → rests → go (grantEnded (given .suspended u))) ∧
      (s.pass.pending = .abort → rests → go (passEnded l c .aborted .aborted (grantEnded u))) ∧
      (∀ g, Unasked s → s.pass.current = some c → s.pass.program[c - 1]? = some g → s.pass.mode ≠ none → MayMove s →
        PassGoesOn l c (n.toNat + 1) g u go) ∧
      (∀ i x k, s.pass.pending = .none → (s.pass.yieldAsked = true ∨ s.pass.yieldLater = true) → s.slots[i]? = some x →
        x.state = .pending → x.priority = .urgent → x.frame = some k → (∀ j y, j ≠ i → s.slots[j]? = some y → y.resting = true) →
        MayMove s → InReach k s →
        let yielded := given .yielding u
        go (approachBegun k (heldGrant (.slot i)
          { yielded with pass := { yielded.pass with yieldCount := min 255 (s.pass.yieldCount + 1) }
                         slots := s.slots.modify i (fun y => { y with state := .travelling, reached := none }) })))
    let failing (e : Entry) : Entry := { e with capture := .failed }
    let answers (result : Byte) (t : State) : Prop :=
      exec (.captured l n result) s = .next (answered l .ok 0x35#8 .empty t)
    let expires (t : State) : Prop := exec .captureTimerExpiry s = .next t
    let refused : State := took failing (fun o => { o with
      faults := { o.faults with captureFail := min 255 (o.faults.captureFail + 1) }
      firstFault := some (o.firstFault.getD n.toNat) })
    let late : State :=
      let u := took failing (fun o => { o with
        faults := { o.faults with captureTimeout := min 255 (o.faults.captureTimeout + 1) }
        firstFault := some (o.firstFault.getD n.toNat) })
      { u with pass := { u.pass with timedOut := some n.toNat } }
    let stops (cls : FaultClass) (u : State) : State := passEnded l c (.stopped cls n.toNat) .stopped (grantEnded u)
    follows
      (took (fun e => { e with capture := .captured, captureCount := min 255 (e.captureCount + 1),
                               focusStep := some s.focus.position }) (fun o => { o with captured := o.captured + 1 }))
      (answers 0x00#8) ∧
    (s.masked (c - 1) .captureFail = false → follows refused (answers 0x01#8)) ∧
    (s.masked (c - 1) .captureTimeout = false → s.pass.captureTimer ≠ none → follows late expires) ∧
    (rests → HeldAlone c n.toNat s →
      (s.masked (c - 1) .captureFail = true → answers 0x01#8 (stops .captureFail refused)) ∧
      (s.masked (c - 1) .captureTimeout = true → s.pass.captureTimer ≠ none → expires (stops .captureTimeout late))) ∧
    (rests → s.masked (c - 1) .captureFail = true →
      ∃ t, exec (.captured l n 0x01#8) s = .next t ∧ t.pass.state = .idle ∧ t.pass.owner = none ∧
        t.pass.last.map (fun r => r.outcome) = some (.stopped .captureFail n.toNat) ∧
        (t.link l).flags.passEnd = true ∧ t.transport.state = .parked ∧ t.transport.holder = none ∧
        t.sched.grant = .none ∧ t.index = { s.index with entries := s.index.entries.modify (n.toNat - 1) failing } ∧
        t.slots = s.slots ∧ t.tracker = s.tracker ∧ t.zones = s.zones ∧ t.tag = s.tag ∧ t.params = s.params ∧
        t.marks = s.marks ∧ t.lamp = s.lamp ∧ t.focus = s.focus ∧ t.sweep = s.sweep ∧ t.poller = s.poller ∧ t.bus = s.bus ∧
        (∀ m, m ≠ l → t.link m = s.link m) ∧ t.pending = s.pending)) ∧
  (∀ (l : Link) (n : Half) (i : Nat) (e : Entry) (s : State), Quiet s → passOwner s = some l → s.pass.mode = some .fly →
    1#16 ≤ n → s.entry n.toNat = some e → e.capture = .triggered → (∃ m, s.pass.lastTriggered = some m ∧ n.toNat ≤ m) →
    s.segmentHolding n.toNat = some i → s.pass.work ≠ .awaitingCapture → s.pass.timedOut ≠ some n.toNat →
    exec (.captured l n 0x00#8) s = .next (answered l .ok 0x35#8 .empty
      { s with
        index := { s.index with entries := s.index.entries.modify (n.toNat - 1) (fun x =>
          { x with capture := .captured, captureCount := min 255 (x.captureCount + 1) }) }
        pass := { s.pass with outcomes := s.pass.outcomes.modify i (fun o => { o with captured := o.captured + 1 }) } }) ∧
    let failed : State :=
      { s with
        index := { s.index with entries := s.index.entries.modify (n.toNat - 1) (fun x => { x with capture := .failed }) }
        pass := { s.pass with outcomes := s.pass.outcomes.modify i (fun o => { o with
          faults := { o.faults with captureFail := min 255 (o.faults.captureFail + 1) }
          firstFault := some (o.firstFault.getD n.toNat) }) } }
    let answers (t : State) : Prop := exec (.captured l n 0x01#8) s = .next (answered l .ok 0x35#8 .empty t)
    ((s.masked i .captureFail = false ∨ s.pass.state = .idle) → answers failed) ∧
    (s.masked i .captureFail = true → s.pass.state ≠ .idle → s.sweep.active = none →
      s.transport.holder ≠ some (.pass l) →
      let stopped : State :=
        let v := passEnded l (s.pass.current.getD 1) (.stopped .captureFail n.toNat) .stopped failed
        { v with pass := { v.pass with outcomes := v.pass.outcomes.modify i (fun o => { o with state := .stopped }) } }
      (s.sched.grant ≠ .pass → answers stopped) ∧
      (s.sched.grant = .pass → InFlight s → answers (stopAsked stopped)) ∧
      (s.sched.grant = .pass → (s.transport.state = .waking ∨ s.transport.state = .parked) → s.transport.move = none →
        s.tracker.level ≠ .lost → (∀ x ∈ s.slots, x.resting = true) → answers (transportFreed stopped)))) ∧
  (∀ (l : Link) (n : Half) (r : Byte) (s : State), Quiet s →
    let refusal (code : AnswerCode) := exec (.captured l n r) s = .next (answered l code 0x35#8 .empty s)
    (0x01#8 < r → refusal .malformed) ∧
    (r ≤ 0x01#8 →
      (passOwner s = none → refusal .state) ∧
      ((∃ o, passOwner s = some o ∧ o ≠ l) → refusal .owner) ∧
      (passOwner s = some l → (s.pass.work ≠ .awaitingCapture ∨ s.pass.frameInHand ≠ some n.toNat) →
        (s.pass.timedOut = some n.toNat → refusal .tooLate) ∧
        (s.pass.timedOut ≠ some n.toNat →
          (s.pass.mode ≠ some .fly ∨ (∀ e, s.entry n.toNat = some e → e.capture ≠ .triggered) ∨
            s.segmentHolding n.toNat = none ∨ (∀ m, s.pass.lastTriggered = some m → m < n.toNat)) →
          refusal .stale))))

/-! ### Focus -/

/-- FOCUS SWEEP with the lens READY, no sweep active, no pass RUNNING and a frame in the index (R105, R106): a stand-alone record is
QUEUED under the next id, which the answer carries, while a grant other than DISCOVER stands; in WAKING with nothing else to do the
sweep is TRAVELLING at the choice, and WAKING holds the grant (R122, R125); in PARKED its FRAME move begins at once (R50, R108); a
DISCOVER move in flight is stopped (R127). The refusals
are STATE, MALFORMED and RANGE, in that order (the place of the store code's check is log 22). -/
def Obligations.SweepsAreQueued : Prop :=
  (∀ (l : Link) (frame centre : Half) (kind h z store : Byte) (c : Option Nat) (keep : Bool) (s : State), Quiet s →
    s.focus.status = .ready → s.sweep.active = none → s.pass.state ≠ .running →
    ((kind = 0x00#8 ∧ c = some centre.toNat ∧ centre ≤ 4095#16) ∨ (kind = 0x01#8 ∧ c = none)) →
    ((store = 0x00#8 ∧ keep = false) ∨ (store = 0x01#8 ∧ keep = true)) →
    1#16 ≤ frame → frame ≤ 16384#16 → frame.toNat ≤ s.extent → 1#8 ≤ h → h ≤ 8#8 → 1#8 ≤ z → z ≤ 64#8 →
    let id := if 255 ≤ s.sweep.counter then 1 else s.sweep.counter + 1
    let active (x : SweepState) : State :=
      { s with sweep := { s.sweep with
        counter := id
        active := some
          { state := x, origin := .standAlone, id := id, link := l, frame := frame.toNat, centre := c,
            halfWidth := h.toNat, stepSize := z.toNat, store := keep, points := [], scores := [], current := 0 } } }
    let go := exec (.focusSweep l frame kind centre h z store) s
    let done (u : State) : Host.Outcome State Fault Refusal :=
      .next (answered l .accepted 0x40#8 (.number 1 id) u)
    (s.transport.state = .waking → s.sched.grant = .none → NoWork s → go = done (heldGrant .sweep (active .travelling))) ∧
    (s.transport.state = .parked → s.sched.grant = .none → NoWork s → MayMove s → InReach frame.toNat s →
      go = done (approachBegun frame.toNat (heldGrant .sweep (active .travelling)))) ∧
    (∀ m, s.transport.state = .moving → s.sched.grant = .discover → s.transport.move = some m → m.phase = .running →
      go = done (comingToRest m .stopped (active .queued)))) ∧
  (∀ (l : Link) (frame centre : Half) (kind h z store : Byte) (c : Option Nat) (keep : Bool) (s : State), Quiet s →
    s.sched.grant ≠ .none → s.sched.grant ≠ .discover → s.focus.status = .ready → s.sweep.active = none →
    s.pass.state ≠ .running → s.transport.state ≠ .empty → s.transport.state ≠ .threading →
    s.transport.state ≠ .rewinding → s.transport.state ≠ .faulted →
    ((kind = 0x00#8 ∧ c = some centre.toNat ∧ centre ≤ 4095#16) ∨ (kind = 0x01#8 ∧ c = none)) →
    ((store = 0x00#8 ∧ keep = false) ∨ (store = 0x01#8 ∧ keep = true)) →
    1#16 ≤ frame → frame ≤ 16384#16 → frame.toNat ≤ s.extent → 1#8 ≤ h → h ≤ 8#8 → 1#8 ≤ z → z ≤ 64#8 →
    let id := if 255 ≤ s.sweep.counter then 1 else s.sweep.counter + 1
    exec (.focusSweep l frame kind centre h z store) s = .next
      (answered l .accepted 0x40#8 (.number 1 id)
        { s with sweep := { s.sweep with
          counter := id
          active := some
            { state := .queued, origin := .standAlone, id := id, link := l, frame := frame.toNat, centre := c,
              halfWidth := h.toNat, stepSize := z.toNat, store := keep, points := [], scores := [], current := 0 } } })) ∧
  (∀ (l : Link) (frame centre : Half) (kind h z store : Byte) (s : State), Quiet s →
    let refusal (code : AnswerCode) :=
      exec (.focusSweep l frame kind centre h z store) s = .next (answered l code 0x40#8 .empty s)
    let barred : Prop := s.focus.status ≠ .ready ∨ s.transport.state = .empty ∨ s.transport.state = .threading ∨
      s.transport.state = .rewinding ∨ s.transport.state = .faulted ∨ s.sweep.active ≠ none ∨ s.pass.state = .running
    (barred → refusal .state) ∧
    (¬ barred → (0x01#8 < kind ∨ 0x01#8 < store) → refusal .malformed) ∧
    (¬ barred → kind ≤ 0x01#8 → store ≤ 0x01#8 →
      (frame = 0#16 ∨ 16384#16 < frame ∨ s.extent < frame.toNat ∨ h = 0#8 ∨ 8#8 < h ∨ z = 0#8 ∨ 64#8 < z ∨
        (kind = 0x00#8 ∧ 4095#16 < centre)) → refusal .range))

/-- SCORE for the awaited point that is not the last sends the lens to the next point (R111); the last score and the score timer's
expiry end a stand-alone sweep that holds the gate, with its result record, its zone where it is stored, FOCUS on its link and the
gate freed (R112, R113, R114, R115; the store outcome where nothing fits is log 14). In a full zone table without a zone of the
frame the zone that covers it takes the step and keeps its start, and with no zone at or below the frame nothing is stored. A sweep
of the pass ends in the same way and hands its result to the pass, which keeps the transport, the gate freed (R147): after a fitted
result, and after another whose FOCUS_FAIL is counted and not masked, the frame is approached in STEP and run up to in FLY
(PassGoesOn, with its logs 12, 44, 62 and 68), the sweep at it made; a masked FOCUS_FAIL ends the pass STOPPED, whatever is pending
(log 57, log 33); and END_OF_FILM of its move ends the segment. Other SCOREs are OWNER, STALE or TOO_LATE; one with the id of the
last record is judged by that record, also while another sweep is active (log 44). -/
def Obligations.ScoresAreTaken : Prop :=
  (∀ (l : Link) (id point : Byte) (v : Half) (x : SweepRecord) (p : Nat) (s : State), Quiet s →
    s.sweep.active = some x → x.id = id.toNat → x.link = l → x.state = .awaitingScore → x.current = point.toNat →
    x.current < 2 * x.halfWidth → s.focus.status = .ready → x.points[x.current + 1]? = some p → p ≤ 4095 →
    s.focus.position < p →
    exec (.score l id point v) s = .next
      (answered l .ok 0x41#8 .empty
        { s with
          sweep := { s.sweep with
            scoreTimer := none
            active := some { x with scores := x.scores ++ [v.toNat], current := x.current + 1, state := .movingLens } }
          focus := { s.focus with
            target := some p, phase := .up, requester := some (.sweep x.id (x.current + 1)) } })) ∧
  (∀ (x : SweepRecord) (s : State), Quiet s → s.sweep.active = some x → x.origin = .standAlone →
    x.state = .awaitingScore → x.points ≠ [] → s.transport.state = .settled →
    s.transport.holder = some (.sweep x.link x.id) → s.sched.grant = .sweep → s.tracker.level ≠ .lost →
    (∀ y ∈ s.slots, y.resting = true) → s.passActive = false → s.lamp.state ≠ .off →
    let ended (t : State) (r : SweepReport) (step : Nat) : Prop :=
      t.sweep.active = none ∧ t.sweep.scoreTimer = none ∧ t.sweep.last = some r ∧ t.transport.state = .parked ∧
      t.transport.holder = none ∧ t.transport.gateFrame = s.transport.gateFrame ∧ t.sched.grant = .none ∧
      (t.link x.link).flags = { (s.link x.link).flags with focus := true } ∧ (∀ m, m ≠ x.link → t.link m = s.link m) ∧
      t.focus.target = some (min 4095 step) ∧ t.focus.position = s.focus.position ∧ t.slots = s.slots ∧
      t.index = s.index ∧ t.pass = s.pass ∧ t.tracker = s.tracker ∧ t.params = s.params ∧ t.marks = s.marks ∧
      t.lamp = s.lamp ∧ t.poller = s.poller ∧ t.bus = s.bus ∧ t.pending = s.pending
    (s.sweep.scoreTimer ≠ none →
      ∃ t, exec .scoreTimerExpiry s = .next t ∧ t.zones = s.zones ∧ t.tag = s.tag ∧
        ended t
          { id := x.id, frame := x.frame, link := x.link, result := .timeout, step := none, quality := none,
            store := if x.store then .notStored else .notAsked, scores := x.scores, timedOutPoint := some x.current }
          (s.zoneStep x.frame)) ∧
    (∀ (id point : Byte) (v : Half), x.id = id.toNat → x.current = point.toNat → x.current = 2 * x.halfWidth →
      let scores := x.scores ++ [v.toNat]
      let fit := fitScores s.params.minContrast x.stepSize x.points scores
      let room : Prop := (∃ z ∈ s.zones, z.start = x.frame) ∨ s.zones.length < 32
      let stores : Bool := x.store && fit.step.isSome &&
        (decide (s.zones.length < 32) || s.zones.any (fun z => decide (z.start ≤ x.frame)))
      ∃ t, exec (.score x.link id point v) s = .next t ∧
        (t.link x.link).answer = { code := .ok, request := 0x41#8, contents := .empty } ∧
        ended t
          { id := x.id, frame := x.frame, link := x.link, result := fit.result, step := fit.step,
            quality := fit.quality, scores := scores, timedOutPoint := none,
            store := if stores then .stored else if x.store then .notStored else .notAsked }
          (fit.step.getD (s.zoneStep x.frame)) ∧
        (stores = false → t.zones = s.zones ∧ t.tag = s.tag) ∧
        (stores = true → t.tag = { s.tag with dirty := true } ∧
          ∃ q, fit.quality = some q ∧
            (room → t.zones =
              putZone { start := x.frame, step := fit.step.getD 0, source := .sweep, quality := q } s.zones) ∧
            (¬ room → zonesAscend s.zones → ∀ (before after : List Zone) (z : Zone), s.zones = before ++ z :: after →
              z.start < x.frame → (∀ y ∈ after, x.frame < y.start) →
              t.zones = before ++
                { start := z.start, step := fit.step.getD 0, source := .sweep, quality := q } :: after)))) ∧
  (∀ (l : Link) (c k : Nat) (g : Segment) (x : SweepRecord) (s : State), Quiet s → s.sweep.active = some x → x.origin = .pass →
    x.link = l → s.sched.grant = .pass → s.pass.state = .running → s.pass.work = .sweeping → s.pass.owner = some l →
    s.pass.frameInHand = some k → s.pass.current = some c → s.pass.program[c - 1]? = some g → s.pass.mode ≠ none →
    s.tracker.level ≠ .lost → s.lamp.state ≠ .off →
    let rests : Prop := ∀ y ∈ s.slots, y.resting = true
    let ended (step : Nat) (r : SweepReport) : State :=
      onLink l (fun k => { k with flags := { k.flags with focus := true } })
        { s with
          transport := { s.transport with state := .parked, holder := none }
          roll := { s.roll with idleTimer := none }
          sweep := { s.sweep with active := none, scoreTimer := none, last := some r }
          focus := lensSent (min 4095 step) .back s }
    let onward (u : State) (go : State → Prop) : Prop :=
      let made (p : Pass) : Pass := { p with sweepOwed := p.sweepOwed.erase k }
      (s.pass.mode ≠ some .fly → InReach k s →
        go (approachBegun k { u with pass := { made u.pass with work := .approaching, visitedInHand := false } })) ∧
      (∀ r, s.pass.mode = some .fly → s.pass.resume = some r → 1 ≤ r →
        PassGoesOn l c r g { u with pass := { made u.pass with work := .seeking, frameInHand := none } } go)
    let fails (u : State) (go : State → Prop) : Prop :=
      (g.stopMask.getLsbD 4 = false → MayMove s → onward (focusFailed c k u) go) ∧
      (g.stopMask.getLsbD 4 = true → HeldAlone c k s → rests →
        go (passEnded l c (.stopped .focusFail k) .stopped (grantEnded (focusFailed c k u))))
    let report (r : SweepResult) : SweepReport :=
      { id := x.id, frame := x.frame, link := l, result := r, step := none, quality := none
        store := if x.store then .notStored else .notAsked, scores := x.scores, timedOutPoint := none }
    (x.state = .awaitingScore → x.points ≠ [] → s.transport.state = .settled → s.transport.holder = some (.sweep l x.id) →
      s.transport.move = none →
      (s.sweep.scoreTimer ≠ none →
        fails (ended (s.zoneStep x.frame) { report .timeout with timedOutPoint := some x.current })
          (fun t => exec .scoreTimerExpiry s = .next t)) ∧
      (∀ (id point : Byte) (v : Half), x.id = id.toNat → x.current = point.toNat → x.current = 2 * x.halfWidth →
        let go (t : State) : Prop := exec (.score l id point v) s = .next (answered l .ok 0x41#8 .empty t)
        let scores := x.scores ++ [v.toNat]
        let fit := fitScores s.params.minContrast x.stepSize x.points scores
        let scored : SweepReport := { report fit.result with step := fit.step, quality := fit.quality, scores := scores }
        (fit.step = none → fails (ended (s.zoneStep x.frame) scored) go) ∧
        (∀ step q, fit.step = some step → fit.quality = some q → MayMove s →
          (∀ zs, x.store = true → storeResult x.frame step q s.zones = some zs →
            let u := ended step { scored with store := .stored }
            onward { u with zones := zs, tag := { s.tag with dirty := true } } go) ∧
          (x.store = false ∨ storeResult x.frame step q s.zones = none → onward (ended step scored) go)))) ∧
    (∀ m, x.state = .travelling → x.points = [] → s.transport.state = .moving → s.transport.move = some m →
      m.atRest = some (.finish .endOfFilm) → s.transport.holder = none →
      SegmentPassed l c (sweepEnded x .endOfFilm (moveEnded s)) (fun t => exec .filmAtRest s = .next t))) ∧
  (∀ (l : Link) (id point : Byte) (v : Half) (s : State), Quiet s →
    let refusal (code : AnswerCode) := exec (.score l id point v) s = .next (answered l code 0x41#8 .empty s)
    (∀ x, s.sweep.active = some x → x.id = id.toNat →
      (x.link ≠ l → refusal .owner) ∧
      (x.link = l → (x.state ≠ .awaitingScore ∨ x.current ≠ point.toNat) → refusal .stale)) ∧
    ((∀ x, s.sweep.active = some x → x.id ≠ id.toNat) →
      (∀ r, s.sweep.last = some r → r.id = id.toNat →
        (r.link ≠ l → refusal .owner) ∧
        (r.link = l → r.timedOutPoint = some point.toNat → refusal .tooLate) ∧
        (r.link = l → r.timedOutPoint ≠ some point.toNat → refusal .stale)) ∧
      ((∀ r, s.sweep.last = some r → r.id ≠ id.toNat) → refusal .stale)))

/-- The peak fit (R113): scores that differ by less than MIN_CONTRAST give LOW_CONTRAST; a best point, the lowest of equals, at an
end of the range gives its own step, EDGE; otherwise the step lies off the best point by the quotient of the parabola through it
and its two neighbours, rounded to the nearest with a half away from zero, GOOD, and is kept in 0..4095. -/
def Obligations.FitFollowsThePeak : Prop :=
  ∀ (contrast z : Nat) (points scores : List Nat), scores.length = points.length → (∀ x ∈ scores, x ≤ 65535) →
    (scores ≠ [] → (∀ x ∈ scores, ∀ y ∈ scores, x < y + contrast) →
      fitScores contrast z points scores = { result := .lowContrast, step := none, quality := none }) ∧
    ∀ (i best p : Nat), scores[i]? = some best → points[i]? = some p → (∀ y ∈ scores, y ≤ best) →
      (∀ (j y : Nat), j < i → scores[j]? = some y → y < best) → (∃ y ∈ scores, y + contrast ≤ best) →
      ((i = 0 ∨ i + 1 = points.length) →
        fitScores contrast z points scores = { result := .atLimit, step := some p, quality := some .edge }) ∧
      (∀ a b : Nat, 0 < i → scores[i - 1]? = some a → scores[i + 1]? = some b →
        ∃ off : Int,
          fitScores contrast z points scores =
            { result := .fitted, step := some (min 4095 ((p : Int) + off).toNat), quality := some .good } ∧
          2 * (off * (2 * (2 * (best : Int) - a - b)) - ((b : Int) - a) * z).natAbs ≤ 2 * (2 * best - a - b) ∧
          (2 * (off * (2 * (2 * (best : Int) - a - b)) - ((b : Int) - a) * z).natAbs = 2 * (2 * best - a - b) →
            (((b : Int) - a) * z).natAbs < (off * (2 * (2 * (best : Int) - a - b))).natAbs) ∧
          (a < b → 0 ≤ off) ∧ (b < a → off ≤ 0) ∧ (a = b → off = 0) ∧ 2 * off.natAbs ≤ z + 1)

/-- ZONE SET (R102): its checks in their order; accepted, the zone of that start is the one set, every other zone stays, the order
stays ascending, the tag is dirty, the answer carries the step stored, and the next lookup of the frame uses it, whether or not the
frame is in the index. -/
def Obligations.ZoneSetStores : Prop :=
  ∀ (l : Link) (start step : Half) (s : State), zonesAscend s.zones →
    let go := exec (.zoneSet l start step) s
    let refusal (code : AnswerCode) := go = .next (answered l code 0x42#8 .empty s)
    ((s.transport.state = .empty ∨ s.transport.state = .threading) → refusal .noRoll) ∧
    (s.transport.state = .rewinding → refusal .state) ∧
    (s.transport.state ≠ .empty → s.transport.state ≠ .threading → s.transport.state ≠ .rewinding →
      ((start = 0#16 ∨ 16384#16 < start) → refusal .range) ∧
      (1#16 ≤ start → start ≤ 16384#16 →
        ((∀ z ∈ s.zones, z.start ≠ start.toNat) → 32 ≤ s.zones.length → refusal .full) ∧
        (((∃ z ∈ s.zones, z.start = start.toNat) ∨ s.zones.length < 32) →
          ∃ zs : List Zone,
            go = .next (answered l .ok 0x42#8 (.number 2 (min 4095 step.toNat))
              { s with zones := zs, tag := { s.tag with dirty := true } }) ∧
            zonesAscend zs ∧
            (∀ z, z ∈ zs ↔
              z = { start := start.toNat, step := min 4095 step.toNat, source := .set, quality := .good } ∨
              (z ∈ s.zones ∧ z.start ≠ start.toNat)) ∧
            State.zoneStep { s with zones := zs } start.toNat = min 4095 step.toNat)))

/-- ZONE REMOVE (R103): its checks in their order; accepted, the zone goes and the others keep their order, the tag is dirty, and
the frames the zone covered take the step of the zone before it, or the default step.
ZONE READ (R104), in every transport state: the count, the zones at ordinals n to n + 3 that exist in start order, and the last
sweep result record; an ordinal outside 1..32 is RANGE, and one above the count returns no zones. -/
def Obligations.ZoneRemoveAndRead : Prop :=
  (∀ (l : Link) (start : Half) (s : State), zonesAscend s.zones →
     let go := exec (.zoneRemove l start) s
     let refusal (code : AnswerCode) := go = .next (answered l code 0x43#8 .empty s)
     ((s.transport.state = .empty ∨ s.transport.state = .threading) → refusal .noRoll) ∧
     (s.transport.state = .rewinding → refusal .state) ∧
     (s.transport.state ≠ .empty → s.transport.state ≠ .threading → s.transport.state ≠ .rewinding →
       (((∀ z ∈ s.zones, z.start ≠ start.toNat) ∨ start = 0#16 ∨ 16384#16 < start) → refusal .range) ∧
       ∀ (before after : List Zone) (z : Zone), 1#16 ≤ start → start ≤ 16384#16 → z.start = start.toNat →
         s.zones = before ++ z :: after →
         go = .next (answered l .ok 0x43#8 .empty
           { s with zones := before ++ after, tag := { s.tag with dirty := true } }) ∧
         ∀ k, z.start ≤ k → (∀ y ∈ after, k < y.start) →
           State.zoneStep { s with zones := before ++ after } k =
             match before.getLast? with
             | some y => y.step
             | none => s.roll.active.defaultStep)) ∧
  (∀ (l : Link) (n : Byte) (s : State),
     ((n = 0#8 ∨ 32#8 < n) → exec (.zoneRead l n) s = .next (answered l .range 0x44#8 .empty s)) ∧
     (1#8 ≤ n → n ≤ 32#8 →
       ∃ rows : List Zone,
         exec (.zoneRead l n) s = .next (answered l .ok 0x44#8 (.zones s.zones.length rows s.sweep.last) s) ∧
         (∀ i, rows[i]? = if i < 4 then s.zones[n.toNat - 1 + i]? else none) ∧
         (s.zones.length < n.toNat → rows = [])))

/-- One stepper step moves the lens by one in the leg that runs, turns it at the end of a DOWN leg, and ends the move at the
target with the arrival reported: for a point of a sweep it starts its scoring, and the move to a frame takes the arrival of its
approach, which in SETTLING after the settle expiry makes the gate ready, here for a PRESENT slot with the lamp ON (R56, R57,
R129); homing counts its steps, ends READY at FOC_HOME and FOCUS_FAULT after 4200 steps without it (R97, R98, R99, R110). The
homing limit is a command of its own, and the 4200th step only counts (log 6); FOC_HOME is read in homing alone (log 41); an
idle lens does not step (log 1). -/
def Obligations.LensSteps : Prop :=
  (∀ (h : Bool) (s : State), Quiet s → s.focus.status = .ready → s.focus.phase = .down →
    (s.focus.downEnd < s.focus.position - 1 →
      exec (.focusStep h) s = .next { s with focus := { s.focus with position := s.focus.position - 1 } }) ∧
    (s.focus.position - 1 ≤ s.focus.downEnd → s.focus.target ≠ some (s.focus.position - 1) →
      exec (.focusStep h) s = .next
        { s with focus := { s.focus with position := s.focus.position - 1, phase := .up } }) ∧
    (s.focus.position - 1 ≤ s.focus.downEnd → s.focus.target = some (s.focus.position - 1) →
      (s.focus.requester = some .fly ∨ s.focus.requester = some .back) →
      exec (.focusStep h) s = .next
        { s with focus := { s.focus with position := s.focus.position - 1, phase := .idle, requester := none } })) ∧
  (∀ (h : Bool) (s : State), Quiet s → s.focus.status = .ready → s.focus.phase = .up →
    (s.focus.target ≠ some (s.focus.position + 1) →
      exec (.focusStep h) s = .next { s with focus := { s.focus with position := s.focus.position + 1 } }) ∧
    (s.focus.target = some (s.focus.position + 1) → (s.focus.requester = some .fly ∨ s.focus.requester = some .back) →
      exec (.focusStep h) s = .next
        { s with focus := { s.focus with position := s.focus.position + 1, phase := .idle, requester := none } }) ∧
    (∀ x, s.focus.target = some (s.focus.position + 1) → s.sweep.active = some x → x.state = .movingLens →
      s.focus.requester = some (.sweep x.id x.current) →
      exec (.focusStep h) s = .next
        { s with focus := { s.focus with position := s.focus.position + 1, phase := .idle, requester := none }
                 sweep := { s.sweep with active := some { x with state := .awaitingScore }
                                         scoreTimer := some s.params.scoreTimeout } })) ∧
  (∀ (h : Bool) (k p : Nat) (s : State), Quiet s → s.focus.status = .ready → s.focus.requester = some (.approach k) →
    s.focus.target = some p →
    ((s.focus.phase = .up ∧ p = s.focus.position + 1) ∨
      (s.focus.phase = .down ∧ p = s.focus.position - 1 ∧ p ≤ s.focus.downEnd)) →
    let go := exec (.focusStep h) s
    let arrived : State :=
      { s with focus := { s.focus with position := p, phase := .idle, requester := none } }
    ((∀ m ∈ s.transport.move, m.purpose ≠ .frame ∨ m.frame ≠ some k) → go = .next arrived) ∧
    (∀ m, s.transport.move = some m → m.purpose = .frame → m.frame = some k →
      ((s.transport.state ≠ .settling ∨ m.settleTaken = false) →
        go = .next { arrived with transport := { s.transport with move := some { m with focusTaken := true } } }) ∧
      (∀ i x, s.transport.state = .settling → m.settleTaken = true → s.transport.gateReady = false →
        s.sched.grant = .slot i → s.slots[i]? = some x → x.state = .travelling → x.action = .present → x.frame = some k →
        x.reached = none → s.lamp.state = .on →
        go = .next
          { arrived with
            transport := { s.transport with
              state := .settled, gateFrame := some k, move := none, gateReady := false
              holder := some (.retrieval x.owner x.tag) }
            roll := { s.roll with idleTimer := none }
            slots := s.slots.modify i (fun y => { y with
              state := .presenting, reached := some (s.pos k, p)
              holdTimer := if x.hold = 0 then none else some x.hold }) }))) ∧
  (∀ s : State, Quiet s → s.focus.status = .homing → s.focus.phase = .down → s.focus.homingSteps < 4200 →
    exec (.focusStep false) s = .next { s with focus := { s.focus with homingSteps := s.focus.homingSteps + 1 } } ∧
    (s.focus.target = none →
      exec (.focusStep true) s = .next
        { s with focus := { s.focus with status := .ready, position := 0, phase := .idle,
                                         homingSteps := s.focus.homingSteps + 1 } }) ∧
    (∀ t, s.focus.target = some t → 0 < t →
      exec (.focusStep true) s = .next
        { s with focus := { s.focus with status := .ready, position := 0, phase := .up,
                                         homingSteps := s.focus.homingSteps + 1 } })) ∧
  (∀ s : State, Quiet s → s.focus.status = .homing → 4200 ≤ s.focus.homingSteps → s.focus.requester = none →
    exec .homingStepLimit s = .next
      { s with focus := { s.focus with status := .fault, position := 0, phase := .idle } }) ∧
  (∀ (h : Bool) (s : State), Quiet s → (s.focus.phase = .idle ∨ s.focus.status = .fault) →
    exec (.focusStep h) s = .next s)

/-! ### Film and motion -/

/-- ENCODER_COUNT (R1, R28, R50, R51, R54, R55, R63, R69, R75): with no move in flight the register follows the count and stays in
its range, and a reverse count discards the mark in progress; a count of a running leg is counted in its travel and restarts the
stall timer; a leg whose end is reached gives way to the next in the same direction, the final CREEP leg among them, which
computes the target again and sends the lens to the frame's step (R101), or the film is brought to rest; a count into the band
of a final leg is the arrival; and the forward count that reaches 16,777,215 faults OVERRUN, while one that finds the register
already there faults nothing (log 31). That the film is in motion from the count on is log 49. With GATE_PREVIEW on and the lamp ON,
the count of a running INDEX leg of a FRAME or DISCOVER move that brings the register to exactly the gate coordinate of a frame gives
a preview pulse, also where it ends that leg, and no other count of such a move does, not the one that begins an INDEX leg (log 53);
a pulse that meets a running one goes on with the duration of the running one (log 27). -/
def Obligations.EncoderCounts : Prop :=
  (∀ s : State, Quiet s → s.transport.move = none →
    ((s.tracker.register + 1 ≠ 16777215 ∨ s.transport.state.canOverrun = false) →
      exec (.encoderCount .forward) s = .next
        { s with tracker := { s.tracker with register := min 16777215 (s.tracker.register + 1), direction := .forward,
                                                inMotion := true } }) ∧
    exec (.encoderCount .reverse) s = .next
      { s with tracker := { s.tracker with register := s.tracker.register - 1, direction := .reverse, inMotion := true }
               marks := { s.marks with inProgress := none } }) ∧
  (∀ (m : Move) (v : Nat) (s : State), Quiet s → s.transport.move = some m → s.transport.state = .moving →
    s.transport.stallTimer = some v → m.purpose = .frame → m.phase = .running → m.atRest = none →
    (s.params.gatePreview = false ∨ m.leg.cls ≠ .index) → m.leg.direction = .forward → s.tracker.register + 1 < 16777215 →
    let on (f : Transport → Transport) : State :=
      { s with
        tracker := { s.tracker with register := s.tracker.register + 1, direction := .forward, inMotion := true }
        transport := f { s.transport with
          move := some { m with travel := m.travel + 1 }, stallTimer := some s.params.stallTime } }
    (∀ c, m.finalApproach = false → m.leg.stop = .coord c → s.tracker.register + 1 < c →
      exec (.encoderCount .forward) s = .next (on (fun x => x))) ∧
    (∀ c g rest, m.finalApproach = false → m.leg.stop = .coord c → c ≤ s.tracker.register + 1 → m.plan = g :: rest →
      (g.direction = .reverse →
        exec (.encoderCount .forward) s = .next (on (fun x => { x with
          capstan := none, stallTimer := none
          move := some { m with travel := m.travel + 1, atRest := some .nextLeg } }))) ∧
      (g.direction = .forward → g.cls = .index → g.stop ≠ .target →
        exec (.encoderCount .forward) s = .next (on (fun x => { x with
          capstan := some .forward
          move := some { m with travel := 0, leg := g, plan := rest } }))) ∧
      (∀ k e, g = { direction := .forward, cls := .creep, stop := .target } → rest = [] → m.frame = some k →
        s.entry k = some e → e.position + s.roll.active.gateOffset ≤ 16777215 - s.params.arriveTol →
        let gate := e.position + s.roll.active.gateOffset
        let beyond : Bool := match s.index.trailer with
          | some t => decide (t < gate)
          | none => false
        let t := if beyond then s.index.trailer.getD 0 else gate
        (s.tracker.register + 1 + s.params.arriveTol < t →
          exec (.encoderCount .forward) s = .next (creeping k t beyond m (on (fun x => x)))))) ∧
    (∀ t, m.finalApproach = true → m.target = some t → m.clamped = false → m.attempts = 0 →
      (s.tracker.register + 1 + s.params.arriveTol < t →
        exec (.encoderCount .forward) s = .next (on (fun x => x))) ∧
      (t ≤ s.tracker.register + 1 + s.params.arriveTol → s.tracker.register + 1 ≤ t + s.params.arriveTol →
        ∃ u, exec (.encoderCount .forward) s = .next { u with roll := { s.roll with idleTimer := none } } ∧
          u = on (fun x => { x with
            state := .settling, capstan := none, stallTimer := none, settleTimer := some s.params.settleTime
            gateReady := false
            move := some { m with travel := m.travel + 1, finalApproach := false, settleTaken := false } })) ∧
      (t + s.params.arriveTol < s.tracker.register + 1 →
        exec (.encoderCount .forward) s = .next (on (fun x => { x with
          capstan := none, stallTimer := none
          move := some { m with travel := m.travel + 1, finalApproach := false, atRest := some .replan } }))))) ∧
  (∀ (m : Move) (v : Option Nat) (s : State), Quiet s → s.transport.move = some m → s.transport.state = .moving →
    s.transport.stallTimer = v → (m.purpose = .frame ∨ m.purpose = .discover) → s.params.gatePreview = true →
    m.leg.direction = .forward → m.finalApproach = false → s.tracker.register + 1 < 16777215 →
    let go := exec (.encoderCount .forward) s
    let reached := s.tracker.register + 1
    let meets : Bool := s.lamp.state == .on && m.phase == .running && m.atRest.isNone && m.leg.cls == .index &&
      s.index.entries.any (fun e => e.position + s.roll.active.gateOffset == reached)
    let counted : State :=
      { s with
        tracker := { s.tracker with register := reached, direction := .forward, inMotion := true }
        transport := { s.transport with
          move := some { m with travel := m.travel + 1 }, stallTimer := v.map (fun _ => s.params.stallTime)
          pulse := if meets then some (s.transport.pulse.getD s.params.gatePulse) else s.transport.pulse } }
    ((m.phase = .stopping ∨ m.atRest ≠ none) → go = .next counted) ∧
    (m.phase = .running → m.atRest = none →
      (m.purpose = .frame ∨ m.plan ≠ [] ∨ ∀ t ∈ s.index.trailer, reached < t) →
      (m.leg.stop = .unbounded → go = .next counted) ∧
      (∀ c, m.leg.stop = .coord c → reached < c → go = .next counted) ∧
      (∀ c g rest, m.leg.stop = .coord c → c ≤ reached → m.plan = g :: rest →
        (g.direction = .reverse → go = .next { counted with transport := { counted.transport with
          capstan := none, stallTimer := none
          move := some { m with travel := m.travel + 1, atRest := some .nextLeg } } }) ∧
        (g.direction = .forward → g.cls = .index → g.stop ≠ .target →
          go = .next { counted with transport := { counted.transport with
            capstan := some .forward
            move := some { m with travel := 0, leg := g, plan := rest } } }) ∧
        (∀ k e, g = { direction := .forward, cls := .creep, stop := .target } → rest = [] → m.purpose = .frame → m.frame = some k →
          s.entry k = some e → e.position + s.roll.active.gateOffset ≤ 16777215 - s.params.arriveTol →
          let gate := e.position + s.roll.active.gateOffset
          let beyond : Bool := match s.index.trailer with
            | some t => decide (t < gate)
            | none => false
          let t := if beyond then s.index.trailer.getD 0 else gate
          (reached + s.params.arriveTol < t → go = .next (creeping k t beyond m counted)))))) ∧
  (∀ s : State, Quiet s → NoPassNoSweep s → s.tracker.register = 16777214 →
    (s.transport.state = .moving ∨ s.transport.state = .recovering ∨ s.transport.state = .threading ∨
      s.transport.state = .settling ∨ s.transport.state = .settled) →
    exec (.encoderCount .forward) s = .next
      (faulted .overrun
        { s with tracker := { s.tracker with register := 16777215, direction := .forward, inMotion := true } }))

/-- The Mark Reader and the splice sensor (R25, R26, R30, R35, R45): a leading edge begins a mark in a forward INDEX or CREEP leg,
while the film comes to rest after one too (log 7), and in no other motion, the coast of SETTLING among it (log 50), nor with the
film at rest, nor while LOST;
a trailing edge without a mark does nothing, and one of a mark shorter than the minimum discards it; a mark completed with the
index empty and OPEN is the first frame, with the class its length gives; a mark seen again within the window corrects the register
by its error and counts towards LOCKED; a splice in forward motion, in the thread pull (log 28) and in a coast (log 49) too, is
recorded and flags the last entry at or before it, if there is one, and widens the next test where it lies past the last or there is
none, and one at rest or in reverse motion is ignored. The clauses on placed marks take a part with no choice to make. -/
def Obligations.MarksAreRead : Prop :=
  (∀ (m : Move) (s : State), s.transport.move = some m → (s.transport.state = .moving ∨ s.transport.state = .recovering) →
    exec .markLeadingEdge s = .next
      (if s.tracker.inMotion = true ∧ m.leg.direction = .forward ∧ m.leg.cls ≠ .shuttle ∧ s.tracker.level ≠ .lost then
        { s with marks := { s.marks with inProgress := some s.tracker.register } }
      else s)) ∧
  (∀ s : State, s.transport.state ≠ .moving → s.transport.state ≠ .recovering → exec .markLeadingEdge s = .next s) ∧
  (∀ s : State, Quiet s → s.marks.inProgress = none → exec .markTrailingEdge s = .next s) ∧
  (∀ (c : Nat) (s : State), Quiet s → s.marks.inProgress = some c →
    min 65535 (s.tracker.register - c) < s.roll.active.minMark →
    exec .markTrailingEdge s = .next { s with marks := { s.marks with inProgress := none } }) ∧
  (∀ (c : Nat) (s : State), Quiet s → AtEase s → s.marks.inProgress = some c → s.transport.state ≠ .faulted →
    s.tracker.level ≠ .lost → s.index.entries = [] → s.index.closure = none → s.index.checkpoints = [] →
    s.roll.active.leader ≤ c → s.roll.active.minMark ≤ min 65535 (s.tracker.register - c) →
    (∀ x ∈ s.slots, x.state ≠ .resolving) → s.pass.state ≠ .running →
    let len := min 65535 (s.tracker.register - c)
    let cls : MarkClass :=
      if s.roll.active.tBatch ≤ len then .batch else if s.roll.active.tDoc ≤ len then .document else .image
    let triple := nextTriple s.index.counters cls
    exec .markTrailingEdge s = .next
      { s with
        marks := { s.marks with inProgress := none }
        index := { s.index with
          widening := false, counters := triple
          entries :=
            [{ position := c, source := .observed, cls := cls, length := some len, triple := triple,
               flags := EntryFlags.clear, capture := .none, captureCount := 0, focusStep := none }] }
        tag := { s.tag with dirty := true } }) ∧
  (∀ (c k : Nat) (e : Entry) (s : State), Quiet s → s.marks.inProgress = some c → s.transport.state ≠ .faulted →
    s.transport.move = none → s.tracker.level ≠ .lost → s.roll.active.leader ≤ c →
    s.roll.active.minMark ≤ min 65535 (s.tracker.register - c) → c ≤ s.pos s.extent + s.w →
    s.entry k = some e → e.source = .observed → distance c e.position ≤ s.w →
    e.cls = classOfLength s.roll.active (min 65535 (s.tracker.register - c)) →
    (∀ j y, j ≠ k → s.entry j = some y → distance c e.position < distance c y.position) →
    exec .markTrailingEdge s = .next
      { s with
        marks := { s.marks with inProgress := none }
        tracker := { s.tracker with
          miss := 0
          register := min 16777215 ((s.tracker.register : Int) - ((c : Int) - (e.position : Int))).toNat
          level := if s.tracker.level = .drifting ∧ 2 ≤ s.tracker.good then .locked else s.tracker.level
          good := if s.tracker.level = .drifting then (if 2 ≤ s.tracker.good then 0 else s.tracker.good + 1)
            else s.tracker.good } }) ∧
  (∀ s : State, s.filmForward = true →
    (s.index.entries = [] →
      exec .spliceIn s = .next
        { s with marks := { s.marks with lastSplice := some s.tracker.register }
                 index := { s.index with widening := true } }) ∧
    (s.index.entries ≠ [] → (∀ e ∈ s.index.entries, e.position < s.tracker.register) →
      exec .spliceIn s = .next
        { s with marks := { s.marks with lastSplice := some s.tracker.register }
                 index := { s.index with
                   widening := true
                   entries := s.index.entries.modify (s.index.entries.length - 1) (fun e =>
                     { e with flags := { e.flags with splice := true } }) } }) ∧
    (OrderLaw s →
      let noted : State := { s with marks := { s.marks with lastSplice := some s.tracker.register } }
      (∀ e, s.entry 1 = some e → s.tracker.register < e.position → exec .spliceIn s = .next noted) ∧
      (∀ k e, s.entry k = some e → e.position ≤ s.tracker.register →
        (k = s.index.entries.length → s.tracker.register = e.position) →
        (∀ y ∈ s.entry (k + 1), s.tracker.register < y.position) →
        exec .spliceIn s = .next
          { noted with index := { s.index with entries := s.index.entries.modify (k - 1) (fun y =>
              { y with flags := { y.flags with splice := true } }) } }))) ∧
  (∀ s : State, s.filmForward = false → exec .spliceIn s = .next s) ∧
  (∀ s : State, s.filmForward = true ↔ s.tracker.inMotion = true ∧
    (if s.transport.move ≠ none ∧ (s.transport.state = .moving ∨ s.transport.state = .recovering) then
      ∀ m ∈ s.transport.move, m.leg.direction = .forward
    else (s.transport.state = .threading ∧ s.transport.capstan = some .forward) ∨ s.tracker.direction = .forward))

/-- A mark completed beyond frame 1 (R34, R36 to R42, R44 to R47, R14, R59, R60). Beyond the frontier of an OPEN index: at less than
half a pitch from entry E, or outside the window about the frame it counts to, it is stray; with more than MAX_FILL marks
missing it is frame E + 1 with GAP; within the window, twice as wide after a splice, the missing frames are filled as predicted
from entry E, the mark is the frame after them, and a mark one pitch on moves pitch_q by an eighth; what does not fit in
16,384 entries is not stored and the index closes; and a new entry is compared with the checkpoint of its frame, the pitch moved
before that (log 17). A mark with GAP too uses up the wider window of a splice (log 16). At or before
the frontier, against the nearest entry: an OBSERVED one corrects the register, by more than the window with the level
DRIFTING and TRANSPORT flagged, and takes CLASS_DOUBT at another class; a FILLED or IMPORTED one between its neighbours is
converted, and the index renumbered from it where its class changes; else it is a miss, and the second miss is LOST, which
stops a move in flight. The clauses on new entries take no RESOLVING slot and no RUNNING pass; those on the register no move. -/
def Obligations.DiscoveryAndResighting : Prop :=
  ∀ (c : Nat) (s : State), Quiet s → AtEase s → s.marks.inProgress = some c → s.transport.state ≠ .faulted →
    s.tracker.level ≠ .lost → s.roll.active.leader ≤ c →
    let len := min 65535 (s.tracker.register - c)
    let E := s.index.entries.length
    s.roll.active.minMark ≤ len → 1 ≤ E →
    let cls : MarkClass :=
      if s.roll.active.tBatch ≤ len then .batch else if s.roll.active.tDoc ≤ len then .document else .image
    let w := max 40 (s.index.pitchQ / 64)
    let base : State := { s with marks := { s.marks with inProgress := none } }
    let go := exec .markTrailingEdge s
    (s.pos E + w < c →
      (s.index.closure ≠ none → go = .next base) ∧
      (s.index.closure = none → (∀ x ∈ s.slots, x.state ≠ .resolving) → s.pass.state ≠ .running →
        let delta := c - s.pos E
        let j := (16 * delta + s.index.pitchQ / 2) / s.index.pitchQ
        let window := if s.index.widening then 2 * w else w
        let predicted (i : Nat) : Nat := s.pos E + (i * s.index.pitchQ + 8) / 16
        let tested : State := { base with index := { s.index with widening := false } }
        let stray : State :=
          { tested with index := { tested.index with
              entries := s.index.entries.modify (E - 1) (fun e => { e with flags := { e.flags with strayNear := true } }) } }
        let made (m : Nat) (x : Source) (y : MarkClass) (n : Option Nat) : Entry :=
          { position := m, source := x, cls := y, length := n, triple := { batch := 0, document := 0, page := 0 },
            flags := EntryFlags.clear, capture := .none, captureCount := 0, focusStep := none }
        let seen : Entry := made c .observed cls (some len)
        let placed : List Entry := (List.range (j - 1)).map (fun i => made (predicted (i + 1)) .filled .image none) ++ [seen]
        let grown (es : List Entry) (q : Nat) : State :=
          { tested with index := { tested.index with
              entries := s.index.entries ++ (renumberList s.index.counters es).1
              counters := (renumberList s.index.counters es).2
              pitchQ := q } }
        let closed (u : State) : State :=
          onLinks (fun k => { k with flags := { k.flags with index := some .closed } })
            { u with index := { u.index with closure := some .capacity } }
        let step : Int := Int.tdiv (16 * (delta : Int) - (s.index.pitchQ : Int)) 8
        let nominal := 16 * s.roll.active.pitch
        let pitch : Nat :=
          if j = 1 ∧ (∀ e ∈ s.entry E, e.source = .observed ∧ e.flags.gap = false) ∧ s.index.widening = false ∧
              (∀ x ∈ s.marks.lastSplice, ¬ (s.pos E < x ∧ x ≤ c)) then
            max (nominal - nominal / 8) (min (nominal + nominal / 8) ((s.index.pitchQ : Int) + step).toNat)
          else s.index.pitchQ
        (j = 0 → go = .next stray) ∧
        (1 ≤ j → j - 1 ≤ s.params.maxFill → window < distance c (predicted j) → go = .next stray) ∧
        (s.index.checkpoints = [] → s.params.maxFill < j - 1 →
          let gap : Entry := { seen with flags := { EntryFlags.clear with gap := true } }
          (E < 16384 → go = .next (grown [gap] s.index.pitchQ)) ∧
          (E = 16384 → go = .next (closed (grown [] s.index.pitchQ)))) ∧
        (s.index.checkpoints = [] → 1 ≤ j → j - 1 ≤ s.params.maxFill → distance c (predicted j) ≤ window →
          (E + j ≤ 16384 → go = .next (grown placed pitch)) ∧
          (E ≤ 16384 → 16384 < E + j → go = .next (closed (grown (placed.take (16384 - E)) s.index.pitchQ)))) ∧
        (∀ k ∈ s.index.checkpoints, k.frame = E + 1 → checksAscend s.index.checkpoints → E < 16384 → j = 1 →
          distance c (predicted 1) ≤ window →
          let mark (v : CheckState) (u : State) : State :=
            { u with index := { u.index with checkpoints := s.index.checkpoints.map (fun x =>
                if x.frame = E + 1 then { x with state := v } else x) } }
          if distance c k.position ≤ max 40 (pitch / 64) ∧ cls = k.cls then
            go = .next (mark .verified
              (grown [{ seen with flags := { EntryFlags.clear with verified := true } }] pitch))
          else
            go = .next (onLinks (fun x => { x with flags := { x.flags with index := some .diverge } })
              { mark .diverged (grown [seen] pitch) with tag := { s.tag with dirty := true } })))) ∧
    (c ≤ s.pos E + w → ∀ (k : Nat) (e : Entry), s.entry k = some e →
      (∀ j y, j ≠ k → s.entry j = some y →
        distance c e.position < distance c y.position ∨ (distance c e.position = distance c y.position ∧ k < j)) →
      let d := distance c e.position
      let between : Prop := (∀ y ∈ s.entry (k - 1), y.position < c) ∧ (∀ y ∈ s.entry (k + 1), c < y.position)
      let doubted : State :=
        { base with index := { s.index with entries := s.index.entries.modify (k - 1) (fun y =>
            if y.cls = cls then y else { y with flags := { y.flags with classDoubt := true } }) } }
      let moved : Nat := min 16777215 ((s.tracker.register : Int) - ((c : Int) - (e.position : Int))).toNat
      let miss : Prop := (e.source = .observed ∧ 3 * w < d) ∨ (e.source ≠ .observed ∧ (w < d ∨ ¬ between))
      (e.source = .observed → s.transport.move = none → d ≤ w →
        go = .next
          { doubted with tracker := { s.tracker with
              miss := 0, register := moved
              level := if s.tracker.level = .drifting ∧ 2 ≤ s.tracker.good then .locked else s.tracker.level
              good := if s.tracker.level = .drifting then (if 2 ≤ s.tracker.good then 0 else s.tracker.good + 1)
                else s.tracker.good } }) ∧
      (e.source = .observed → s.transport.move = none → w < d → d ≤ 3 * w →
        go = .next
          (onLinks (fun x => { x with flags := { x.flags with transport := some .drift } })
            { doubted with tracker := { s.tracker with miss := 0, good := 0, register := moved, level := .drifting } })) ∧
      (e.source ≠ .observed → d ≤ w → between →
        let converted : Entry :=
          { e with source := .observed, position := c, cls := cls, length := some len,
                   flags := { e.flags with verified := true } }
        let u : State := { base with tracker := { s.tracker with miss := 0 } }
        (e.cls = cls →
          go = .next { u with index := { s.index with entries := s.index.entries.modify (k - 1) (fun _ => converted) } }) ∧
        (e.cls ≠ cls →
          let start : Triple := match s.entry (k - 1) with
            | some y => y.triple
            | none => { batch := 0, document := 0, page := 0 }
          let r := renumberList start (converted :: s.index.entries.drop k)
          go = .next
            (onLinks (fun x => { x with flags := { x.flags with index := some .renumbered } })
              { u with index := { s.index with entries := s.index.entries.take (k - 1) ++ r.1, counters := r.2 } }))) ∧
      (miss →
        (s.tracker.miss = 0 →
          go = .next { base with tracker := { s.tracker with
            miss := 1, good := if s.tracker.level = .drifting then 0 else s.tracker.good } }) ∧
        (s.tracker.miss ≠ 0 → s.sched.grant ≠ .none →
          let lost : State := { base with tracker := { s.tracker with level := .lost, good := 0, miss := 0 } }
          (s.transport.move = none → go = .next lost) ∧
          (∀ m, s.transport.move = some m → s.transport.state = .moving → m.phase = .running → m.purpose ≠ .home →
            m.purpose ≠ .rewind → go = .next (comingToRest m .lost lost)))))

/-- LEADER_IN and TRAILER_IN (R3, R5, R66, R67, R68, R85, R86, R10, R11): an unchanged level does nothing; LEADER_IN reading FILM at
the end of a HOME move, which then comes to rest as STOPPING (log 72), and at the thread arrival sets the register to 0 and the
confidence LOCKED; LEADER_IN reading LEADER ends the reverse leg of a HOME move and of any other move, and the film is brought to rest
for the leg that follows, in a HOME move the final forward CREEP leg, which then begins; it ends a reverse back-off too, and the film is
brought to rest for the move to be planned anew, a HOME move then beginning that final leg; in a forward leg that such a reading does
not end, while the film comes to rest and outside MOVING, RECOVERING and THREADING the change is noted alone; a thread arrival with the
tag load complete parks the film and flags ROLL; TRAILER_IN in forward motion, in MOVING or in RECOVERING, records the trailer
coordinate, closes an OPEN index, and stops the move, which will end END_OF_FILM, whatever it was stopping for (log 8) and in the
run-out to rest too (log 7); in other motion and with the film at rest (log 49) it does nothing. -/
def Obligations.LeaderAndTrailer : Prop :=
  (∀ (x : LeaderLevel) (s : State), Quiet s → s.transport.leaderIn = x → exec (.leaderInChange x) s = .next s) ∧
  (∀ (m : Move) (s : State), Quiet s → s.transport.leaderIn = .leader → s.transport.state = .moving →
    s.transport.move = some m → m.purpose = .home → m.phase = .running → m.atRest = none →
    m.leg.stop = .leaderReads .film →
    exec (.leaderInChange .film) s = .next
      { s with
        tracker := { s.tracker with register := 0, level := .locked, good := 0, miss := 0 }
        marks := { s.marks with inProgress := none }
        transport := { s.transport with
          leaderIn := .film, capstan := none, stallTimer := none
          move := some { m with finalApproach := false, phase := .stopping, plan := [], aside := [],
                                atRest := some (.finish .arrived) } } }) ∧
  (∀ (m : Move) (s : State), Quiet s → s.transport.leaderIn = .film → s.transport.move = some m → m.phase = .running →
    m.atRest = none →
    let turned (a : RestAction) : State :=
      { s with transport := { s.transport with
          leaderIn := .leader, capstan := none, stallTimer := none
          move := some { m with finalApproach := false, atRest := some a } } }
    let creep : Leg := { direction := .forward, cls := .creep, stop := .leaderReads .film }
    let last (u : State) : State :=
      { u with
        tracker := { u.tracker with inMotion := false }
        transport := { u.transport with
          state := .moving, capstan := some .forward, stallTimer := some s.params.stallTime
          move := some { m with leg := creep, plan := [], aside := if s.transport.state = .recovering then [] else m.aside,
                                travel := 0, atRest := none, finalApproach := false } } }
    (s.transport.state = .moving → m.purpose = .home → m.leg.stop = .leaderReads .leader → m.leg.direction = .reverse →
      m.plan = [creep] →
      exec (.leaderInChange .leader) s = .next (turned .nextLeg) ∧
        exec .filmAtRest (turned .nextLeg) = .next (last (turned .nextLeg))) ∧
    (∀ g rest, s.transport.state = .moving → m.purpose ≠ .home → m.leg.direction = .reverse → m.plan = g :: rest →
      g.direction = .forward → exec (.leaderInChange .leader) s = .next (turned .nextLeg)) ∧
    (s.transport.state = .recovering → m.leg.direction = .reverse →
      exec (.leaderInChange .leader) s = .next (turned .retry) ∧
        (m.purpose = .home →
          exec .filmAtRest (turned .retry) = .next
            { last (turned .retry) with roll := { s.roll with idleTimer := none } }))) ∧
  (∀ (x : LeaderLevel) (s : State), Quiet s → s.transport.state ≠ .threading →
    (∀ m ∈ s.transport.move, m.phase = .stopping ∨ m.atRest ≠ none ∨
      (s.transport.state ≠ .moving ∧ s.transport.state ≠ .recovering) ∨
      (m.leg.direction = .forward ∧ m.leg.stop ≠ .leaderReads x)) →
    exec (.leaderInChange x) s = .next { s with transport := { s.transport with leaderIn := x } }) ∧
  (∀ s : State, Quiet s → s.transport.leaderIn = .leader → s.transport.state = .threading →
    s.transport.capstan = some .forward →
    let threaded : State :=
      { s with
        tracker := { s.tracker with register := 0, level := .locked, good := 0, miss := 0 }
        marks := { s.marks with inProgress := none }
        transport := { s.transport with leaderIn := .film, capstan := none }
        roll := { s.roll with threadTimer := none, threadTaken := true } }
    (s.roll.tagLoad ≠ .complete → exec (.leaderInChange .film) s = .next threaded) ∧
    (s.roll.tagLoad = .complete → s.sched.grant = .none → s.lamp.state ≠ .off → (∀ x ∈ s.slots, x.resting = true) →
      s.sweep.active = none → s.passActive = false →
      exec (.leaderInChange .film) s = .next
        (onLinks (fun k => { k with flags := { k.flags with roll := true } })
          { threaded with
            transport := { threaded.transport with state := .parked }
            roll := { threaded.roll with
              idleTimer := if s.params.standbyIdle = 0 then none else some s.params.standbyIdle } }))) ∧
  (∀ (m : Move) (s : State), Quiet s → (s.transport.state = .moving ∨ s.transport.state = .recovering) →
    s.transport.move = some m → m.leg.direction = .forward → s.tracker.inMotion = true →
    let stopped : State :=
      { s with
        index := { s.index with trailer := some s.tracker.register }
        transport := { s.transport with
          state := .moving, capstan := none, stallTimer := none
          move := some { m with finalApproach := false, phase := .stopping, plan := [], aside := [],
                                atRest := some (.finish .endOfFilm) } }
        roll := { s.roll with idleTimer := if s.transport.state = .recovering then none else s.roll.idleTimer } }
    (s.index.closure ≠ none → exec .trailerIn s = .next stopped) ∧
    (s.index.closure = none → s.sched.grant ≠ .none → (∀ x ∈ s.slots, x.state ≠ .resolving) →
      s.pass.state ≠ .running →
      exec .trailerIn s = .next
        (onLinks (fun k => { k with flags := { k.flags with index := some .closed } })
          { stopped with index := { stopped.index with closure := some .trailer } }))) ∧
  (∀ s : State, Quiet s → (s.tracker.inMotion = false ∨ ∀ g, s.motionLeg = some g → g.direction = .reverse) →
    exec .trailerIn s = .next s)

/-- What follows a stop of the drive (R50, R51, R59, R63, R64, R65, R66): at rest a HOME move ends and its grant with it; a move
ended for END_OF_FILM ends its slot NOT_FOUND, the slots still RESOLVING at a DISCOVER move granted to them, and the sweep of its
own; one ended for LOST leaves its slot PENDING and its sweep QUEUED, and the part goes HOME (R108, R126, R127, R130; the store
outcome of the sweep is log 14); a leg in the other direction begins, the final CREEP leg with its target computed again and the
lens sent to the frame's step (R54, R101), and a back-off begins; a stall of a move with attempts left is a recovery, whose back-off
waits for a further FILM_AT_REST although the film stands already (the model's choice, log 71), and any other is a JAM; a back-off
that has counted its distance brings the film to rest, and the move is planned anew from there by the rule of its purpose (R53, R61,
R62); a leg of a HOME move that has counted the whole range faults LEADER_LOST. That reaching the distance and the range are
commands of their own is log 6. -/
def Obligations.RestsAndStalls : Prop :=
  let rested (s : State) : State :=
    { s with
      tracker := { s.tracker with inMotion := false }
      transport := { s.transport with state := .parked, move := none, stallTimer := none, settleTimer := none,
                                      gateReady := false, capstan := none } }
  let freed (s : State) : State :=
    { rested s with
      sched := { s.sched with grant := .none }
      roll := { s.roll with
        idleTimer := if s.params.standbyIdle = 0 then none else some s.params.standbyIdle } }
  (∀ (m : Move) (s : State), Quiet s → s.transport.state = .moving → s.transport.move = some m → s.lamp.state ≠ .off →
    let go := exec .filmAtRest s
    let idle : Prop := s.tracker.level ≠ .lost ∧ s.passActive = false
    let homes : Prop := s.tracker.level = .lost ∧ s.doorClosed = true ∧ tensionOut s.poller.values = false ∧
      s.sched.yieldOwed = false
    (∀ i x, s.sched.grant = .slot i → s.slots[i]? = some x → x.state = .travelling → m.purpose = .frame →
      (m.atRest = some (.finish .endOfFilm) → idle → s.sweep.active = none →
        (∀ j y, j ≠ i → s.slots[j]? = some y → y.resting = true) →
        go = .next { freed s with slots := s.slots.modify i (fun y => { y with
          state := .done, holdTimer := none
          result := some { code := .notFound, frame := y.frame, position := none, focusStep := none } }) }) ∧
      (m.atRest = some (.finish .lost) → homes →
        go = .next (homeGranted
          { rested s with slots := s.slots.modify i (fun y => { y with state := .pending, reached := none }) }))) ∧
    (s.sched.grant = .discover → m.purpose = .discover → idle → s.sweep.active = none →
      (m.atRest = some (.finish .endOfFilm) → (∀ x ∈ s.slots, x.resting = true ∨ x.state = .resolving) →
        go = .next { freed s with slots := s.slots.map (fun y =>
          if y.state = .resolving then
            { y with state := .done, holdTimer := none
                     result := some { code := .notFound, frame := y.frame, position := none, focusStep := none } }
          else y) }) ∧
      (m.atRest = some (.finish .stopped) → m.attempts = 0 → (∀ x ∈ s.slots, x.resting = true) →
        go = .next (freed s))) ∧
    (∀ x, s.sched.grant = .sweep → s.sweep.active = some x → x.origin = .standAlone → x.state = .travelling →
      x.points = [] → m.purpose = .frame → s.transport.holder = none →
      (m.atRest = some (.finish .endOfFilm) → idle → (∀ y ∈ s.slots, y.resting = true) →
        go = .next
          (onLink x.link (fun k => { k with flags := { k.flags with focus := true } })
            { freed s with sweep := { s.sweep with
              active := none, scoreTimer := none
              last := some
                { id := x.id, frame := x.frame, link := x.link, result := .endOfFilm, step := none, quality := none,
                  store := if x.store then .notStored else .notAsked, scores := x.scores,
                  timedOutPoint := none } } })) ∧
      (m.atRest = some (.finish .lost) → homes →
        go = .next (homeGranted
          { rested s with sweep := { s.sweep with active := some { x with state := .queued } } })))) ∧
  (∀ (m : Move) (k : Nat) (s : State), Quiet s → s.transport.state = .moving → s.transport.move = some m →
    m.atRest = some .nextLeg → m.purpose = .frame → m.frame = some k → InReach k s →
    m.plan = [{ direction := .forward, cls := .creep, stop := .target }] →
    let t := gateTarget k s
    s.tracker.register ≤ t.1 + s.params.arriveTol →
    exec .filmAtRest s = .next (creeping k t.1 t.2 m
      { s with tracker := { s.tracker with inMotion := false }
               transport := { s.transport with stallTimer := some s.params.stallTime } })) ∧
  (∀ (m : Move) (s : State), Quiet s → s.transport.state = .recovering → s.transport.move = some m →
    m.atRest = some .retry →
    let go := exec .filmAtRest s
    let again (y : Move) (legs : List Leg) : Prop := ∀ (x : Leg) (rest : List Leg), legs = x :: rest →
      go = .next
        { s with
          tracker := { s.tracker with inMotion := false }
          transport := { s.transport with
            state := .moving, capstan := some x.direction, stallTimer := some s.params.stallTime
            move := some { y with leg := x, plan := rest, aside := [], travel := 0, atRest := none, finalApproach := false } }
          roll := { s.roll with idleTimer := none }
          marks := { s.marks with inProgress := if x.cls = .shuttle then none else s.marks.inProgress } }
    (m.purpose = .home →
      let creep : Leg := { direction := .forward, cls := .creep, stop := .leaderReads .film }
      again m (if s.transport.leaderIn = .film then
        [{ direction := .reverse, cls := .shuttle, stop := .leaderReads .leader }, creep] else [creep])) ∧
    (m.purpose = .discover → again m (discoverLegs s)) ∧
    (m.purpose = .flyRun → again { m with target := m.runEnd } (flyLegs m.runUp m.runEnd s)) ∧
    (∀ k, m.purpose = .frame → m.frame = some k → InReach k s →
      let t := gateTarget k s
      again { m with target := some t.1, clamped := t.2 } (frameLegs t.1 s))) ∧
  (∀ (m : Move) (s : State), Quiet s → s.transport.state = .moving → s.transport.move = some m → m.purpose = .home →
    m.atRest = some (.finish .arrived) → s.sched.grant = .home → s.lamp.state ≠ .off → NoWork s →
    exec .filmAtRest s = .next (freed s)) ∧
  (∀ (m : Move) (g : Leg) (rest : List Leg) (s : State), Quiet s → s.transport.state = .moving →
    s.transport.move = some m → m.atRest = some .nextLeg → m.plan = g :: rest → g.stop ≠ .target → m.purpose ≠ .flyRun →
    exec .filmAtRest s = .next
      { s with
        tracker := { s.tracker with inMotion := false }
        transport := { s.transport with
          move := some { m with leg := g, plan := rest, travel := 0, atRest := none, finalApproach := false }
          capstan := some g.direction, stallTimer := some s.params.stallTime }
        marks := if g.cls = .shuttle then { s.marks with inProgress := none } else s.marks }) ∧
  (∀ (m : Move) (s : State), Quiet s → s.transport.state = .recovering → s.transport.move = some m →
    m.atRest = some .backOff →
    exec .filmAtRest s = .next
      { s with
        tracker := { s.tracker with inMotion := false }
        transport := { s.transport with
          move := some { m with
            leg := { direction := match m.leg.direction with
                       | .forward => .reverse
                       | .reverse => .forward
                     cls := .creep, stop := .travel s.params.recoverDist }
            plan := [], travel := 0, atRest := none, finalApproach := false }
          capstan := some (match m.leg.direction with
            | .forward => .reverse
            | .reverse => .forward)
          stallTimer := some s.params.stallTime } }) ∧
  (∀ (m : Move) (s : State), Quiet s → s.transport.state = .moving → s.transport.stallTimer ≠ none →
    s.transport.move = some m → m.attempts < s.params.recoverTries →
    exec .stallTimerExpiry s = .next
      { s with
        transport := { s.transport with
          state := .recovering, capstan := none, stallTimer := none
          move := some { m with attempts := m.attempts + 1, aside := m.leg :: m.plan, plan := [],
                                finalApproach := false, atRest := some .backOff } }
        roll := { s.roll with idleTimer := none } }) ∧
  (∀ s : State, Quiet s → NoPassNoSweep s → s.transport.stallTimer ≠ none →
    ((s.transport.state = .moving ∧ ∃ m, s.transport.move = some m ∧ s.params.recoverTries ≤ m.attempts) ∨
      s.transport.state = .recovering ∨ s.transport.state = .rewinding) →
    exec .stallTimerExpiry s = .next (faulted .jam s)) ∧
  (∀ (m : Move) (d : Nat) (s : State), Quiet s → s.transport.state = .recovering → s.transport.move = some m →
    m.phase = .running → m.atRest = none → m.leg.stop = .travel d → d ≤ m.travel →
    exec .backOffComplete s = .next
      { s with transport := { s.transport with
          capstan := none, stallTimer := none
          move := some { m with finalApproach := false, atRest := some .retry } } }) ∧
  (∀ (m : Move) (x : LeaderLevel) (s : State), Quiet s → NoPassNoSweep s → s.transport.state = .moving →
    s.transport.move = some m → m.phase = .running → m.atRest = none → m.leg.stop = .leaderReads x →
    16777215 ≤ m.travel →
    exec .leaderLostCount s = .next (faulted .leaderLost s))

/-- The settle and the pulse (R55, R56, R57, R58, R74, R108, R109, R129): the settle expiry alone only counts; with the focus
arrival taken, the frame is in the gate and a PRESENT slot with the lamp ON presents it, its hold timer running, while a SNAP
slot gives its pulse, is DONE and leaves the gate, and with the lamp FAILED either ends DARK; a sweep with the lamp ON holds the
gate, places its points about its centre, shifted into 0..4095, and sends the lens to the first, and a stand-alone one with the
lamp FAILED ends DARK (its store outcome is log 14); a pulse given while one runs goes on with the duration of the running one
(log 27); a pulse that ends is over. The clauses that leave the gate take a part with nothing else to do. -/
def Obligations.SettlesAndPulses : Prop :=
  (∀ (m : Move) (s : State), Quiet s → s.transport.settleTimer ≠ none → s.transport.move = some m → m.focusTaken = false →
    exec .settleExpiry s = .next
      { s with transport := { s.transport with settleTimer := none, move := some { m with settleTaken := true } } }) ∧
  (∀ (m : Move) (i k : Nat) (x : Slot) (s : State), Quiet s → s.transport.state = .settling →
    s.transport.settleTimer ≠ none → s.transport.gateReady = false → s.transport.move = some m → m.focusTaken = true →
    m.frame = some k → s.sched.grant = .slot i → s.slots[i]? = some x → x.state = .travelling → x.frame = some k →
    x.reached = none →
    let left (pulse : Option Nat) (code : ResultCode) : State :=
      { s with
        transport := { s.transport with
          state := .parked, settleTimer := none, gateFrame := some k, move := none, gateReady := false, pulse := pulse }
        roll := { s.roll with
          idleTimer := if s.params.standbyIdle = 0 then none else some s.params.standbyIdle }
        sched := { s.sched with grant := .none }
        slots := s.slots.modify i (fun y => { y with
          state := .done, holdTimer := none, reached := some (s.pos k, s.focus.position)
          result := some { code := code, frame := some k, position := some (s.pos k),
                           focusStep := some s.focus.position } }) }
    (x.action = .present → s.lamp.state = .on →
      exec .settleExpiry s = .next
        { s with
          transport := { s.transport with
            state := .settled, settleTimer := none, gateFrame := some k, move := none, gateReady := false
            holder := some (.retrieval x.owner x.tag) }
          roll := { s.roll with idleTimer := none }
          slots := s.slots.modify i (fun y => { y with
            state := .presenting, reached := some (s.pos k, s.focus.position)
            holdTimer := if x.hold = 0 then none else some x.hold }) }) ∧
    (s.tracker.level ≠ .lost → s.sweep.active = none → s.passActive = false →
      (∀ j y, j ≠ i → s.slots[j]? = some y → y.resting = true) →
      (x.action = .snap → s.lamp.state = .on →
        exec .settleExpiry s = .next (left (some (s.transport.pulse.getD s.params.gatePulse)) .snapped)) ∧
      (s.lamp.state = .failed → exec .settleExpiry s = .next (left s.transport.pulse .dark)))) ∧
  (∀ (m : Move) (k : Nat) (x : SweepRecord) (s : State), Quiet s → s.transport.state = .settling →
    s.transport.settleTimer ≠ none → s.transport.gateReady = false → s.transport.move = some m → m.focusTaken = true →
    m.frame = some k → s.sweep.active = some x →
    let shown : Transport := { s.transport with settleTimer := none, gateFrame := some k, move := none, gateReady := false }
    let reach := x.halfWidth * x.stepSize
    let centre := x.centre.getD (s.zoneStep x.frame)
    let c := if centre < reach then reach else if 4095 < centre + reach then 4095 - reach else centre
    let there := lensThere (c - reach) s
    (((x.origin = .standAlone ∧ s.sched.grant = .sweep) ∨ (s.sched.grant = .pass ∧ s.pass.work = .sweeping)) →
      reach ≤ 2047 → s.lamp.state = .on →
      exec .settleExpiry s = .next
        { s with
          transport := { shown with state := .settled, holder := some (.sweep x.link x.id) }
          roll := { s.roll with idleTimer := none }
          sweep := { s.sweep with
            active := some { x with
              points := (List.range (2 * x.halfWidth + 1)).map (fun i => c + i * x.stepSize - reach), scores := [],
              current := 0, state := if there then .awaitingScore else .movingLens }
            scoreTimer := if there then some s.params.scoreTimeout else s.sweep.scoreTimer }
          focus := lensSent (c - reach) (.sweep x.id 0) s }) ∧
    (x.origin = .standAlone → s.sched.grant = .sweep → x.points = [] → s.transport.holder = none → s.lamp.state = .failed →
      s.tracker.level ≠ .lost → s.passActive = false → (∀ y ∈ s.slots, y.resting = true) →
      exec .settleExpiry s = .next
        (onLink x.link (fun k => { k with flags := { k.flags with focus := true } })
          { s with
            transport := { shown with state := .parked }
            roll := { s.roll with
              idleTimer := if s.params.standbyIdle = 0 then none else some s.params.standbyIdle }
            sched := { s.sched with grant := .none }
            sweep := { s.sweep with
              active := none, scoreTimer := none
              last := some
                { id := x.id, frame := x.frame, link := x.link, result := .dark, step := none, quality := none,
                  store := if x.store then .notStored else .notAsked, scores := x.scores,
                  timedOutPoint := none } } }))) ∧
  (∀ s : State, exec .gatePulseEnd s = .next { s with transport := { s.transport with pulse := none } })

/-! ### The auxiliary bus and the tag -/

/-- The end of a poll byte read (R172, R173, R174, R175, R176, R177, R179): a byte not acknowledged is STALE with its values kept; an
acknowledged one replaces the eight held values, silently in the first round and with each changed input latched in both links' copies
later; then the changes of inputs 0 to 8 are delivered. An insertion starts a tag load (R78, R160), the roll records not valid from
there on (log 30). A removal abandons the load and the write-back, in EMPTY too (R79, log 39): nothing the load read is kept, the roll
records are not valid where one ran (log 30), and no TAG is flagged for it (R164); a write-back WAITING or WRITING ends WRITE_FAILED,
flagged on both links, with the dirty flag as it was (R171); the tag status is NONE, a load put off is not made, and the bus goes back
to polling. The removal faults the transport, in FAULTED nothing more happens, and in EMPTY the default profile becomes active. The door
opening and the tension passing out of band fault an active transport (R70); the tail-out stops a rewind (R93), also in its tension
wait, whose timer stops with no drive to follow (log 79), and where the write-back has ended before it the unload is complete (R94), a
load that still runs dropped with it (log 43); lamp-OK decides between WARMING, ON and FAILED (R87), with LAMP_WARM 0 ON at once. Byte 7
ends a suppression in its round, the read of byte 0 that follows begins a waiting one's, and the first byte 7, acknowledged or not,
completes the first round: with no film in the gate the part stays EMPTY, and with film it is PARKED and, being LOST, already on its way
HOME (R95). A waiting record transfer goes next, the bus timer running anew through the whole transfer (log 26). The clause on the first
tag load takes no load or write-back that is running; those on faults take no pass and no sweep. -/
def Obligations.PollBytesAreTaken : Prop :=
  ∀ (v : Byte) (s : State), Quiet s → s.bus.state = .running → s.bus.transfer = some .poll → s.bus.nextByte < 8 →
    let b := s.bus.nextByte
    let after (t : Transfer) : Bus :=
      { s.bus with nextByte := (b + 1) % 8, transfer := some t, waiting := none, attempts := 0,
                   timer := some s.params.auxTimeout }
    let next : Transfer := match s.bus.waiting with
      | some k => .record k
      | none => .poll
    let stale := { s.poller with stale := s.poller.stale ||| (1#8 <<< b) }
    let x : Inputs := (s.poller.values &&& ~~~(0xFF#64 <<< (8 * b))) ||| (v.zeroExtend 64 <<< (8 * b))
    let fresh : Poller := { s.poller with values := x, stale := s.poller.stale &&& ~~~(1#8 <<< b) }
    let read (t : Transfer) : State :=
      onLinks (fun k => { k with latches :=
          if s.poller.firstRoundDone then k.latches ||| (s.poller.values ^^^ x) else k.latches })
        { s with bus := after t, poller := fresh }
    let go := exec (.pollByteRead true v) s
    let rose (n : Nat) : Prop := s.poller.values.getLsbD n = false ∧ x.getLsbD n = true
    let fell (n : Nat) : Prop := s.poller.values.getLsbD n = true ∧ x.getLsbD n = false
    let out (y : Inputs) : Prop := ∃ n ∈ [4, 5, 6, 7], y.getLsbD n = true
    let pulls : Prop := ¬ out s.poller.values ∧ out x
    let driven : Prop := s.transport.state = .moving ∨ s.transport.state = .settling ∨ s.transport.state = .settled ∨
      s.transport.state = .recovering ∨ s.transport.state = .threading ∨ s.transport.state = .rewinding
    let suppressed (u : State) : State :=
      onLinks (fun k => { k with suppress :=
        if k.suppress = .inRound then .none else if next = .poll ∧ k.suppress = .waiting then .inRound
        else k.suppress }) u
    (∀ n, n < 64 → x.getLsbD n = if n / 8 = b then v.getLsbD (n % 8) else s.poller.values.getLsbD n) ∧
    (b < 7 → exec (.pollByteRead false v) s = .next { s with bus := after next, poller := stale }) ∧
    (b < 7 → (2 ≤ b ∨ s.poller.firstRoundDone = false) → go = .next (read next)) ∧
    (b = 0 → s.poller.firstRoundDone = true →
      (¬ rose 0 → ¬ fell 0 → ¬ fell 1 → ¬ rose 3 → ¬ pulls → go = .next (read next)) ∧
      (¬ rose 0 → ¬ fell 0 → ¬ driven → go = .next (read next)) ∧
      (rose 0 → ¬ fell 1 → ¬ rose 3 → ¬ pulls → s.tag.status ≠ .reading → s.tag.writeState ≠ .writing →
        go = .next
          { read (.record .read) with
            roll := { s.roll with cartridge := true, tagLoad := .running }
            tag := { s.tag with
              status := .reading, rollValid := false
              load := some { next := 0, stage := .rollA, profile := builtInProfile, zones := [], checks := [] } } }) ∧
      (fell 0 →
        let writes : Bool := decide (s.tag.writeState ≠ .idle)
        let gone : State :=
          onLinks (fun k => if writes then { k with flags := { k.flags with tag := some .writeFailed } } else k)
            { read .poll with
              roll := { s.roll with cartridge := false, tagLoad := .none }
              tag := { s.tag with
                status := .none, load := none, loadAfterWrite := false, rollValid := s.tag.rollValid && s.tag.load.isNone
                writeState := .idle, writePlan := if writes then [] else s.tag.writePlan } }
        (s.transport.state = .empty →
          go = .next
            { gone with
              roll := { gone.roll with active := s.roll.default, modified := false }
              index := { s.index with pitchQ := 16 * s.roll.default.pitch } }) ∧
        (s.transport.state = .faulted → go = .next gone) ∧
        (s.transport.state ≠ .empty → s.transport.state ≠ .faulted → NoPassNoSweep s →
          go = .next (faulted .cartridge gone))) ∧
      (¬ rose 0 → ¬ fell 0 → driven → NoPassNoSweep s →
        (fell 1 → go = .next (faulted .door (read next))) ∧
        (¬ fell 1 → pulls → (s.transport.state ≠ .rewinding ∨ ¬ rose 3) →
          go = .next (faulted .tension (read next)))) ∧
      (¬ rose 0 → ¬ fell 0 → ¬ fell 1 → ¬ pulls → rose 3 →
        (s.transport.state ≠ .rewinding → go = .next (read next)) ∧
        (s.transport.state = .rewinding → s.roll.rewindTaken = false →
          let ended (t : Transfer) : State :=
            { read t with
              transport := { s.transport with capstan := none, reels := .off, stallTimer := none, move := none }
              roll := { s.roll with rewindTaken := true, tensionTimer := none } }
          (s.roll.writeBackTaken = false → go = .next (ended next)) ∧
          (s.roll.writeBackTaken = true → go = .next (unloaded (ended .poll)))))) ∧
    (b = 1 → s.poller.firstRoundDone = true →
      (¬ rose 8 → ¬ fell 8 → go = .next (read next)) ∧
      (rose 8 →
        (s.lamp.state ≠ .failed → go = .next (read next)) ∧
        (s.lamp.state = .failed → s.params.lampWarm ≠ 0 → s.transport.gateReady = false →
          go = .next { read next with lamp := { state := .warming, warmTimer := some s.params.lampWarm }
                                      transport := { s.transport with pulse := none } }) ∧
        (s.lamp.state = .failed → s.params.lampWarm = 0 → s.transport.gateReady = false →
          (s.pass.after = .awaitLamp → s.transport.state ≠ .parked) →
          go = .next { read next with lamp := { state := .on, warmTimer := none }
                                      transport := { s.transport with pulse := none } })) ∧
      (fell 8 →
        (s.lamp.state = .off ∨ s.lamp.state = .failed → go = .next (read next)) ∧
        (s.lamp.state = .warming ∨ s.lamp.state = .on → s.transport.gateReady = false → s.pass.state = .idle →
          s.sweep.active = none →
          go = .next
            (onLinks (fun k => { k with flags := { k.flags with lamp := true } })
              { read next with lamp := { state := .failed, warmTimer := none }
                               transport := { s.transport with pulse := none } })))) ∧
    (b = 7 → s.poller.firstRoundDone = true →
      go = .next (suppressed (read next)) ∧
      exec (.pollByteRead false v) s = .next (suppressed { s with bus := after next, poller := stale })) ∧
    (b = 7 → s.poller.firstRoundDone = false → s.bus.waiting = none → s.transport.state = .empty →
      let begun (p : Poller) : State :=
        suppressed { s with bus := after .poll, poller := { p with firstRoundDone := true }
                            roll := { s.roll with cartridge := s.poller.values.getLsbD 0 } }
      (s.poller.values.getLsbD 2 = false →
        let still (u : State) : State := { u with tracker := { u.tracker with level := .drifting, good := 0, miss := 0 } }
        go = .next (still (begun fresh)) ∧
        exec (.pollByteRead false v) s = .next (still (begun stale))) ∧
      (s.poller.values.getLsbD 2 = true → s.poller.values.getLsbD 1 = true → ¬ out s.poller.values →
        s.sched.grant = .none → s.transport.move = none → s.lamp.state = .off →
        let homes (p : Poller) (t : State) : Prop :=
          t.transport.state = .moving ∧ t.sched.grant = .home ∧ t.tracker.level = .lost ∧
          t.poller = { p with firstRoundDone := true } ∧ t.roll.cartridge = s.poller.values.getLsbD 0 ∧
          (∀ l, (t.link l).flags.roll = true) ∧ t.index = s.index ∧ t.slots = s.slots ∧
          (s.poller.values.getLsbD 0 = true → s.tag.status ≠ .reading → s.tag.writeState ≠ .writing →
            t.roll.tagLoad = .running ∧ t.tag.status = .reading ∧ t.bus = after (.record .read)) ∧
          (s.poller.values.getLsbD 0 = false → t.roll.tagLoad = s.roll.tagLoad ∧ t.bus = after .poll)
        (∃ t, go = .next t ∧ homes fresh t) ∧
        (∃ t, exec (.pollByteRead false v) s = .next t ∧ homes stale t)))

/-- The end of a tag record transfer (R160, R161, R162, R163, R81, R86, R166, R170, R171): a valid record that the load's stage
takes is kept and the next one asked for, ROLL-C making the roll records valid; record 255 without END, an invalid record, a
record that the stage does not take and a later record not acknowledged end the load DEGRADED, with what was kept once ROLL-C
was taken and with nothing before; END after ROLL-C ends it VALID; a record 0 not acknowledged ends it ABSENT. At its end, with
the index empty, the profile, the zones and the checkpoints are replaced and the tag is clean; a THREADING transport of the
wrong gauge is faulted, and one that has taken its thread arrival is PARKED. A record written is followed by the next, and the
last one makes the tag clean; a write not acknowledged ends the write-back and keeps the tag dirty; a rewind is told of either
end, and where it has ended before, the unload is complete (R94). A tag load put off until the write-back's end is made at
either end, also at one that completes an unload, the tag load field being RUNNING again (log 43), and its ROLL records are not
valid from there on (log 30). A write-back that waits for the load is decided at its end, from the status it leaves (R167): with the
tag absent or clean it ends there, a rewind taking it, and else the writes begin. The next transfer is a poll byte, the bus timer
running anew through the whole of it (log 26). The end of a transfer that is not in progress changes nothing (log 1). -/
def Obligations.TagRecordsAreTaken : Prop :=
  let onward (w : Option RecordTransfer) (s : State) : State :=
    onLinks (fun k => { k with suppress := if s.bus.nextByte = 0 ∧ k.suppress = .waiting then .inRound else k.suppress })
      { s with bus := { s.bus with transfer := some .poll, waiting := w, attempts := 0,
                                   timer := some s.params.auxTimeout } }
  (∀ (l : LoadRecord) (r : TagRecord) (s : State), Quiet s → s.bus.state = .running →
    s.bus.transfer = some (.record .read) → s.tag.load = some l →
    let go := exec (.tagRecordRead true r) s
    let rolled (m : LoadRecord) : Prop := m.stage = .zones ∨ m.stage = .checks
    let taken : Option LoadRecord := match readRecord r with
      | some (.rollA i ld) =>
        if l.stage = .rollA then
          some { l with stage := .rollB, profile := { l.profile with rollId := i, leader := ld } }
        else none
      | some (.rollB p g m a) =>
        if l.stage = .rollB then
          some { l with stage := .rollC, profile := { l.profile with pitch := p, gateOffset := g, minMark := m, gauge := a } }
        else none
      | some (.rollC d b f) =>
        if l.stage = .rollC then
          some { l with stage := .zones, profile := { l.profile with tDoc := d, tBatch := b, defaultStep := f } }
        else none
      | some (.zone st sp _ q) =>
        if l.stage = .zones ∧ (∀ z ∈ l.zones.getLast?, z.start < st) ∧ l.zones.length < 32 then
          some { l with zones := l.zones ++ [{ start := st, step := sp, source := .tag, quality := q }] }
        else none
      | some (.check k p c) =>
        if rolled l ∧ (∀ y ∈ l.checks.getLast?, y.frame < k) ∧ l.checks.length < 96 then
          some { l with stage := .checks,
                        checks := l.checks ++ [{ frame := k, position := p, cls := c, state := .unverified }] }
        else none
      | _ => none
    let ends (out : Host.Outcome State Fault Refusal) (st : TagStatus) (kept : Option LoadRecord) : Prop :=
      ThreadsAlone (tagLoadEnded st kept s) → out = .next (tagLoadFinished st kept (onward s.bus.waiting s))
    (∀ m, taken = some m → l.next < 255 →
      go = .next
        { onward (some .read) s with
          tag := { s.tag with load := some { m with next := l.next + 1 }
                              rollValid := if rolled m then true else s.tag.rollValid } }) ∧
    (∀ m, taken = some m → 255 ≤ l.next → ends go .degraded (if rolled m then some m else none)) ∧
    (taken = none → ¬ (readRecord r = some .endMark ∧ rolled l) →
      ends go .degraded (if rolled l then some l else none)) ∧
    (readRecord r = some .endMark → rolled l → ends go .valid (some l)) ∧
    (l.next = 0 → ends (exec (.tagRecordRead false r) s) .absent none) ∧
    (l.next ≠ 0 → ends (exec (.tagRecordRead false r) s) .degraded (if rolled l then some l else none))) ∧
  (∀ (a : Bool) (r : TagRecord) (s : State), Quiet s → s.bus.state = .running →
    s.bus.transfer = some (.record .read) → s.tag.load = none →
    exec (.tagRecordRead a r) s = .next (onward s.bus.waiting s)) ∧
  (∀ s : State, Quiet s → s.bus.state = .running → s.bus.transfer = some (.record .write) →
    s.tag.writeState = .writing →
    let written (v : State) : State :=
      if s.tag.loadAfterWrite then
        { v with
          roll := { v.roll with tagLoad := .running }
          bus := { v.bus with waiting := some .read }
          tag := { v.tag with
            loadAfterWrite := false, status := .reading, rollValid := false
            load := some { next := 0, stage := .rollA, profile := builtInProfile, zones := [], checks := [] } } }
      else v
    (∀ x y rest, s.tag.writePlan = x :: y :: rest →
      exec (.tagRecordWrite true) s = .next
        { onward (some .write) s with tag := { s.tag with writePlan := y :: rest } }) ∧
    (∀ x, s.tag.writePlan = [x] →
      exec (.tagRecordWrite true) s = .next
        (written (writeBackEnded { onward s.bus.waiting s with tag := { s.tag with dirty := false } }))) ∧
    exec (.tagRecordWrite false) s = .next (written (writeBackFailed (onward s.bus.waiting s)))) ∧
  (∀ (a : Bool) (r : TagRecord) (s : State), Quiet s →
    ((s.bus.state ≠ .running ∨ s.bus.transfer ≠ some (.record .read)) → exec (.tagRecordRead a r) s = .next s) ∧
    ((s.bus.state ≠ .running ∨ s.bus.transfer ≠ some (.record .write)) → exec (.tagRecordWrite a) s = .next s))

/-- Bus faults (R180, R181, R182, R179): the bus timer's expiry makes a poll byte STALE and the bus RECOVERING; an attempt that finds the
data line high counts a recovered fault and makes the transfer again, the bus timer running through the whole of it (log 26); the
third that finds it low, and a fault on a transfer with three attempts, make the bus FAILED, with every byte STALE, suppressions
ended and TRANSPORT flagged AUX on both links. A tag load in progress ends FAILED then (R162, R163), TRANSPORT flagged before it, so
that the reason is FAULT where that end faults a THREADING roll of the wrong gauge (log 60), and a write-back that waits for it is
decided, and fails where there is something to write (R167); a write-back in progress ends WRITE_FAILED (R171), and a load put off
behind it is made and ends FAILED at once (R160). A bus that fails before the first poll round completes completes it (R176): the
cartridge is taken as it reads, and with no film in the gate the transport stays as it is and the confidence is DRIFTING (R95). -/
def Obligations.BusFaults : Prop :=
  ∀ s : State, Quiet s →
    let failed : State :=
      onLinks (fun k => { k with suppress := .none, flags := { k.flags with transport := some .aux } })
        { s with bus := { s.bus with state := .failed, transfer := none, waiting := none, attempts := 0, timer := none }
                 poller := { s.poller with stale := 0xFF#8 } }
    let fails (out : Host.Outcome State Fault Refusal) : Prop :=
      (s.tag.load = none → s.tag.writeState ≠ .writing →
        (s.poller.firstRoundDone = true → out = .next failed) ∧
        (s.poller.firstRoundDone = false → s.filmInGate = false →
          out = .next
            { failed with
              poller := { failed.poller with firstRoundDone := true }
              roll := { s.roll with cartridge := s.poller.values.getLsbD 0 }
              tracker := { s.tracker with level := .drifting, good := 0, miss := 0 } })) ∧
      (s.poller.firstRoundDone = true →
        (∀ l, s.tag.load = some l → s.tag.writeState ≠ .writing → ThreadsAlone (tagLoadEnded .failed none failed) →
          out = .next (tagLoadFinished .failed none failed)) ∧
        (s.tag.load = none → s.tag.writeState = .writing →
          let v := writeBackFailed failed
          (s.tag.loadAfterWrite = false → out = .next v) ∧
          (s.tag.loadAfterWrite = true →
            let u : State := { v with tag := { v.tag with loadAfterWrite := false } }
            ThreadsAlone (tagLoadEnded .failed none u) → out = .next (tagLoadFinished .failed none u))))
    (s.bus.state = .running → s.bus.timer ≠ none →
      (s.bus.attempts < 3 →
        (s.bus.transfer = some .poll →
          exec .busTimerExpiry s = .next
            { s with bus := { s.bus with state := .recovering, timer := none }
                     poller := { s.poller with stale := s.poller.stale ||| (1#8 <<< s.bus.nextByte) } }) ∧
        (s.bus.transfer ≠ some .poll →
          exec .busTimerExpiry s = .next { s with bus := { s.bus with state := .recovering, timer := none } })) ∧
      (3 ≤ s.bus.attempts → fails (exec .busTimerExpiry s))) ∧
    (s.bus.state = .recovering →
      exec (.recoveryAttemptEnd true) s = .next
        { s with bus := { s.bus with state := .running, attempts := s.bus.attempts + 1,
                                     timer := some s.params.auxTimeout }
                 poller := { s.poller with faults := min 255 (s.poller.faults + 1) } } ∧
      (s.bus.attempts < 2 →
        exec (.recoveryAttemptEnd false) s = .next { s with bus := { s.bus with attempts := s.bus.attempts + 1 } }) ∧
      (s.bus.attempts = 2 → fails (exec (.recoveryAttemptEnd false) s)))
end

