-- ==== Sys2Proof/Laws/State.lean ====
section
/-! SUPPORT. The named updates of the state, field by field: what each leaves and what each sets. Every lemma holds by the
update's definition, so no later proof unfolds a record update. -/

namespace Sys2Proof.Machine

open Sys2Proof

/-! ### `emit` -/

@[simp] theorem emit_tracker (sig : Signal) (s : State) : (emit sig s).tracker = s.tracker := rfl

@[simp] theorem emit_marks (sig : Signal) (s : State) : (emit sig s).marks = s.marks := rfl

@[simp] theorem emit_index (sig : Signal) (s : State) : (emit sig s).index = s.index := rfl

@[simp] theorem emit_transport (sig : Signal) (s : State) : (emit sig s).transport = s.transport := rfl

@[simp] theorem emit_lamp (sig : Signal) (s : State) : (emit sig s).lamp = s.lamp := rfl

@[simp] theorem emit_roll (sig : Signal) (s : State) : (emit sig s).roll = s.roll := rfl

@[simp] theorem emit_focus (sig : Signal) (s : State) : (emit sig s).focus = s.focus := rfl

@[simp] theorem emit_zones (sig : Signal) (s : State) : (emit sig s).zones = s.zones := rfl

@[simp] theorem emit_sweep (sig : Signal) (s : State) : (emit sig s).sweep = s.sweep := rfl

@[simp] theorem emit_slots (sig : Signal) (s : State) : (emit sig s).slots = s.slots := rfl

@[simp] theorem emit_sched (sig : Signal) (s : State) : (emit sig s).sched = s.sched := rfl

@[simp] theorem emit_pass (sig : Signal) (s : State) : (emit sig s).pass = s.pass := rfl

@[simp] theorem emit_tag (sig : Signal) (s : State) : (emit sig s).tag = s.tag := rfl

@[simp] theorem emit_poller (sig : Signal) (s : State) : (emit sig s).poller = s.poller := rfl

@[simp] theorem emit_bus (sig : Signal) (s : State) : (emit sig s).bus = s.bus := rfl

@[simp] theorem emit_params (sig : Signal) (s : State) : (emit sig s).params = s.params := rfl

@[simp] theorem emit_linkA (sig : Signal) (s : State) : (emit sig s).linkA = s.linkA := rfl

@[simp] theorem emit_linkB (sig : Signal) (s : State) : (emit sig s).linkB = s.linkB := rfl

@[simp] theorem emit_freeCount (sig : Signal) (s : State) : (emit sig s).freeCount = s.freeCount := rfl

@[simp] theorem emit_todo (sig : Signal) (s : State) : (emit sig s).todo = s.todo ++ [sig] := rfl

@[simp] theorem emit_pending (sig : Signal) (s : State) : (emit sig s).pending = s.pending := rfl

/-! ### `onLinks` -/

@[simp] theorem onLinks_tracker (f : LinkState → LinkState) (s : State) : (onLinks f s).tracker = s.tracker := rfl

@[simp] theorem onLinks_marks (f : LinkState → LinkState) (s : State) : (onLinks f s).marks = s.marks := rfl

@[simp] theorem onLinks_index (f : LinkState → LinkState) (s : State) : (onLinks f s).index = s.index := rfl

@[simp] theorem onLinks_transport (f : LinkState → LinkState) (s : State) : (onLinks f s).transport = s.transport := rfl

@[simp] theorem onLinks_lamp (f : LinkState → LinkState) (s : State) : (onLinks f s).lamp = s.lamp := rfl

@[simp] theorem onLinks_roll (f : LinkState → LinkState) (s : State) : (onLinks f s).roll = s.roll := rfl

@[simp] theorem onLinks_focus (f : LinkState → LinkState) (s : State) : (onLinks f s).focus = s.focus := rfl

@[simp] theorem onLinks_zones (f : LinkState → LinkState) (s : State) : (onLinks f s).zones = s.zones := rfl

@[simp] theorem onLinks_sweep (f : LinkState → LinkState) (s : State) : (onLinks f s).sweep = s.sweep := rfl

@[simp] theorem onLinks_slots (f : LinkState → LinkState) (s : State) : (onLinks f s).slots = s.slots := rfl

@[simp] theorem onLinks_sched (f : LinkState → LinkState) (s : State) : (onLinks f s).sched = s.sched := rfl

@[simp] theorem onLinks_pass (f : LinkState → LinkState) (s : State) : (onLinks f s).pass = s.pass := rfl

@[simp] theorem onLinks_tag (f : LinkState → LinkState) (s : State) : (onLinks f s).tag = s.tag := rfl

@[simp] theorem onLinks_poller (f : LinkState → LinkState) (s : State) : (onLinks f s).poller = s.poller := rfl

@[simp] theorem onLinks_bus (f : LinkState → LinkState) (s : State) : (onLinks f s).bus = s.bus := rfl

@[simp] theorem onLinks_params (f : LinkState → LinkState) (s : State) : (onLinks f s).params = s.params := rfl

@[simp] theorem onLinks_linkA (f : LinkState → LinkState) (s : State) : (onLinks f s).linkA = f s.linkA := rfl

@[simp] theorem onLinks_linkB (f : LinkState → LinkState) (s : State) : (onLinks f s).linkB = f s.linkB := rfl

@[simp] theorem onLinks_freeCount (f : LinkState → LinkState) (s : State) : (onLinks f s).freeCount = s.freeCount := rfl

@[simp] theorem onLinks_todo (f : LinkState → LinkState) (s : State) : (onLinks f s).todo = s.todo := rfl

@[simp] theorem onLinks_pending (f : LinkState → LinkState) (s : State) : (onLinks f s).pending = s.pending := rfl

/-! ### `onSlot` -/

@[simp] theorem onSlot_tracker (i : Nat) (f : Slot → Slot) (s : State) : (onSlot i f s).tracker = s.tracker := rfl

@[simp] theorem onSlot_marks (i : Nat) (f : Slot → Slot) (s : State) : (onSlot i f s).marks = s.marks := rfl

@[simp] theorem onSlot_index (i : Nat) (f : Slot → Slot) (s : State) : (onSlot i f s).index = s.index := rfl

@[simp] theorem onSlot_transport (i : Nat) (f : Slot → Slot) (s : State) : (onSlot i f s).transport = s.transport := rfl

@[simp] theorem onSlot_lamp (i : Nat) (f : Slot → Slot) (s : State) : (onSlot i f s).lamp = s.lamp := rfl

@[simp] theorem onSlot_roll (i : Nat) (f : Slot → Slot) (s : State) : (onSlot i f s).roll = s.roll := rfl

@[simp] theorem onSlot_focus (i : Nat) (f : Slot → Slot) (s : State) : (onSlot i f s).focus = s.focus := rfl

@[simp] theorem onSlot_zones (i : Nat) (f : Slot → Slot) (s : State) : (onSlot i f s).zones = s.zones := rfl

@[simp] theorem onSlot_sweep (i : Nat) (f : Slot → Slot) (s : State) : (onSlot i f s).sweep = s.sweep := rfl

@[simp] theorem onSlot_slots (i : Nat) (f : Slot → Slot) (s : State) : (onSlot i f s).slots = s.slots.modify i f := rfl

@[simp] theorem onSlot_sched (i : Nat) (f : Slot → Slot) (s : State) : (onSlot i f s).sched = s.sched := rfl

@[simp] theorem onSlot_pass (i : Nat) (f : Slot → Slot) (s : State) : (onSlot i f s).pass = s.pass := rfl

@[simp] theorem onSlot_tag (i : Nat) (f : Slot → Slot) (s : State) : (onSlot i f s).tag = s.tag := rfl

@[simp] theorem onSlot_poller (i : Nat) (f : Slot → Slot) (s : State) : (onSlot i f s).poller = s.poller := rfl

@[simp] theorem onSlot_bus (i : Nat) (f : Slot → Slot) (s : State) : (onSlot i f s).bus = s.bus := rfl

@[simp] theorem onSlot_params (i : Nat) (f : Slot → Slot) (s : State) : (onSlot i f s).params = s.params := rfl

@[simp] theorem onSlot_linkA (i : Nat) (f : Slot → Slot) (s : State) : (onSlot i f s).linkA = s.linkA := rfl

@[simp] theorem onSlot_linkB (i : Nat) (f : Slot → Slot) (s : State) : (onSlot i f s).linkB = s.linkB := rfl

@[simp] theorem onSlot_freeCount (i : Nat) (f : Slot → Slot) (s : State) : (onSlot i f s).freeCount = s.freeCount := rfl

@[simp] theorem onSlot_todo (i : Nat) (f : Slot → Slot) (s : State) : (onSlot i f s).todo = s.todo := rfl

@[simp] theorem onSlot_pending (i : Nat) (f : Slot → Slot) (s : State) : (onSlot i f s).pending = s.pending := rfl

/-! ### `onMove` -/

@[simp] theorem onMove_tracker (f : Move → Move) (s : State) : (onMove f s).tracker = s.tracker := rfl

@[simp] theorem onMove_marks (f : Move → Move) (s : State) : (onMove f s).marks = s.marks := rfl

@[simp] theorem onMove_index (f : Move → Move) (s : State) : (onMove f s).index = s.index := rfl

@[simp] theorem onMove_transport (f : Move → Move) (s : State) : (onMove f s).transport = { s.transport with move := s.transport.move.map f } := rfl

@[simp] theorem onMove_lamp (f : Move → Move) (s : State) : (onMove f s).lamp = s.lamp := rfl

@[simp] theorem onMove_roll (f : Move → Move) (s : State) : (onMove f s).roll = s.roll := rfl

@[simp] theorem onMove_focus (f : Move → Move) (s : State) : (onMove f s).focus = s.focus := rfl

@[simp] theorem onMove_zones (f : Move → Move) (s : State) : (onMove f s).zones = s.zones := rfl

@[simp] theorem onMove_sweep (f : Move → Move) (s : State) : (onMove f s).sweep = s.sweep := rfl

@[simp] theorem onMove_slots (f : Move → Move) (s : State) : (onMove f s).slots = s.slots := rfl

@[simp] theorem onMove_sched (f : Move → Move) (s : State) : (onMove f s).sched = s.sched := rfl

@[simp] theorem onMove_pass (f : Move → Move) (s : State) : (onMove f s).pass = s.pass := rfl

@[simp] theorem onMove_tag (f : Move → Move) (s : State) : (onMove f s).tag = s.tag := rfl

@[simp] theorem onMove_poller (f : Move → Move) (s : State) : (onMove f s).poller = s.poller := rfl

@[simp] theorem onMove_bus (f : Move → Move) (s : State) : (onMove f s).bus = s.bus := rfl

@[simp] theorem onMove_params (f : Move → Move) (s : State) : (onMove f s).params = s.params := rfl

@[simp] theorem onMove_linkA (f : Move → Move) (s : State) : (onMove f s).linkA = s.linkA := rfl

@[simp] theorem onMove_linkB (f : Move → Move) (s : State) : (onMove f s).linkB = s.linkB := rfl

@[simp] theorem onMove_freeCount (f : Move → Move) (s : State) : (onMove f s).freeCount = s.freeCount := rfl

@[simp] theorem onMove_todo (f : Move → Move) (s : State) : (onMove f s).todo = s.todo := rfl

@[simp] theorem onMove_pending (f : Move → Move) (s : State) : (onMove f s).pending = s.pending := rfl

/-! ### `onSweep` -/

@[simp] theorem onSweep_tracker (f : SweepRecord → SweepRecord) (s : State) : (onSweep f s).tracker = s.tracker := rfl

@[simp] theorem onSweep_marks (f : SweepRecord → SweepRecord) (s : State) : (onSweep f s).marks = s.marks := rfl

@[simp] theorem onSweep_index (f : SweepRecord → SweepRecord) (s : State) : (onSweep f s).index = s.index := rfl

@[simp] theorem onSweep_transport (f : SweepRecord → SweepRecord) (s : State) : (onSweep f s).transport = s.transport := rfl

@[simp] theorem onSweep_lamp (f : SweepRecord → SweepRecord) (s : State) : (onSweep f s).lamp = s.lamp := rfl

@[simp] theorem onSweep_roll (f : SweepRecord → SweepRecord) (s : State) : (onSweep f s).roll = s.roll := rfl

@[simp] theorem onSweep_focus (f : SweepRecord → SweepRecord) (s : State) : (onSweep f s).focus = s.focus := rfl

@[simp] theorem onSweep_zones (f : SweepRecord → SweepRecord) (s : State) : (onSweep f s).zones = s.zones := rfl

@[simp] theorem onSweep_sweep (f : SweepRecord → SweepRecord) (s : State) : (onSweep f s).sweep = { s.sweep with active := s.sweep.active.map f } := rfl

@[simp] theorem onSweep_slots (f : SweepRecord → SweepRecord) (s : State) : (onSweep f s).slots = s.slots := rfl

@[simp] theorem onSweep_sched (f : SweepRecord → SweepRecord) (s : State) : (onSweep f s).sched = s.sched := rfl

@[simp] theorem onSweep_pass (f : SweepRecord → SweepRecord) (s : State) : (onSweep f s).pass = s.pass := rfl

@[simp] theorem onSweep_tag (f : SweepRecord → SweepRecord) (s : State) : (onSweep f s).tag = s.tag := rfl

@[simp] theorem onSweep_poller (f : SweepRecord → SweepRecord) (s : State) : (onSweep f s).poller = s.poller := rfl

@[simp] theorem onSweep_bus (f : SweepRecord → SweepRecord) (s : State) : (onSweep f s).bus = s.bus := rfl

@[simp] theorem onSweep_params (f : SweepRecord → SweepRecord) (s : State) : (onSweep f s).params = s.params := rfl

@[simp] theorem onSweep_linkA (f : SweepRecord → SweepRecord) (s : State) : (onSweep f s).linkA = s.linkA := rfl

@[simp] theorem onSweep_linkB (f : SweepRecord → SweepRecord) (s : State) : (onSweep f s).linkB = s.linkB := rfl

@[simp] theorem onSweep_freeCount (f : SweepRecord → SweepRecord) (s : State) : (onSweep f s).freeCount = s.freeCount := rfl

@[simp] theorem onSweep_todo (f : SweepRecord → SweepRecord) (s : State) : (onSweep f s).todo = s.todo := rfl

@[simp] theorem onSweep_pending (f : SweepRecord → SweepRecord) (s : State) : (onSweep f s).pending = s.pending := rfl

/-! ### `onOutcome` -/

@[simp] theorem onOutcome_tracker (i : Nat) (f : SegOutcome → SegOutcome) (s : State) : (onOutcome i f s).tracker = s.tracker := rfl

@[simp] theorem onOutcome_marks (i : Nat) (f : SegOutcome → SegOutcome) (s : State) : (onOutcome i f s).marks = s.marks := rfl

@[simp] theorem onOutcome_index (i : Nat) (f : SegOutcome → SegOutcome) (s : State) : (onOutcome i f s).index = s.index := rfl

@[simp] theorem onOutcome_transport (i : Nat) (f : SegOutcome → SegOutcome) (s : State) : (onOutcome i f s).transport = s.transport := rfl

@[simp] theorem onOutcome_lamp (i : Nat) (f : SegOutcome → SegOutcome) (s : State) : (onOutcome i f s).lamp = s.lamp := rfl

@[simp] theorem onOutcome_roll (i : Nat) (f : SegOutcome → SegOutcome) (s : State) : (onOutcome i f s).roll = s.roll := rfl

@[simp] theorem onOutcome_focus (i : Nat) (f : SegOutcome → SegOutcome) (s : State) : (onOutcome i f s).focus = s.focus := rfl

@[simp] theorem onOutcome_zones (i : Nat) (f : SegOutcome → SegOutcome) (s : State) : (onOutcome i f s).zones = s.zones := rfl

@[simp] theorem onOutcome_sweep (i : Nat) (f : SegOutcome → SegOutcome) (s : State) : (onOutcome i f s).sweep = s.sweep := rfl

@[simp] theorem onOutcome_slots (i : Nat) (f : SegOutcome → SegOutcome) (s : State) : (onOutcome i f s).slots = s.slots := rfl

@[simp] theorem onOutcome_sched (i : Nat) (f : SegOutcome → SegOutcome) (s : State) : (onOutcome i f s).sched = s.sched := rfl

@[simp] theorem onOutcome_pass (i : Nat) (f : SegOutcome → SegOutcome) (s : State) : (onOutcome i f s).pass = { s.pass with outcomes := s.pass.outcomes.modify i f } := rfl

@[simp] theorem onOutcome_tag (i : Nat) (f : SegOutcome → SegOutcome) (s : State) : (onOutcome i f s).tag = s.tag := rfl

@[simp] theorem onOutcome_poller (i : Nat) (f : SegOutcome → SegOutcome) (s : State) : (onOutcome i f s).poller = s.poller := rfl

@[simp] theorem onOutcome_bus (i : Nat) (f : SegOutcome → SegOutcome) (s : State) : (onOutcome i f s).bus = s.bus := rfl

@[simp] theorem onOutcome_params (i : Nat) (f : SegOutcome → SegOutcome) (s : State) : (onOutcome i f s).params = s.params := rfl

@[simp] theorem onOutcome_linkA (i : Nat) (f : SegOutcome → SegOutcome) (s : State) : (onOutcome i f s).linkA = s.linkA := rfl

@[simp] theorem onOutcome_linkB (i : Nat) (f : SegOutcome → SegOutcome) (s : State) : (onOutcome i f s).linkB = s.linkB := rfl

@[simp] theorem onOutcome_freeCount (i : Nat) (f : SegOutcome → SegOutcome) (s : State) : (onOutcome i f s).freeCount = s.freeCount := rfl

@[simp] theorem onOutcome_todo (i : Nat) (f : SegOutcome → SegOutcome) (s : State) : (onOutcome i f s).todo = s.todo := rfl

@[simp] theorem onOutcome_pending (i : Nat) (f : SegOutcome → SegOutcome) (s : State) : (onOutcome i f s).pending = s.pending := rfl

/-! ### `setPitch` -/

@[simp] theorem setPitch_tracker (n : Nat) (s : State) : (setPitch n s).tracker = s.tracker := rfl

@[simp] theorem setPitch_marks (n : Nat) (s : State) : (setPitch n s).marks = s.marks := rfl

@[simp] theorem setPitch_index (n : Nat) (s : State) : (setPitch n s).index = { s.index with pitchQ := 16 * n } := rfl

@[simp] theorem setPitch_transport (n : Nat) (s : State) : (setPitch n s).transport = s.transport := rfl

@[simp] theorem setPitch_lamp (n : Nat) (s : State) : (setPitch n s).lamp = s.lamp := rfl

@[simp] theorem setPitch_roll (n : Nat) (s : State) : (setPitch n s).roll = s.roll := rfl

@[simp] theorem setPitch_focus (n : Nat) (s : State) : (setPitch n s).focus = s.focus := rfl

@[simp] theorem setPitch_zones (n : Nat) (s : State) : (setPitch n s).zones = s.zones := rfl

@[simp] theorem setPitch_sweep (n : Nat) (s : State) : (setPitch n s).sweep = s.sweep := rfl

@[simp] theorem setPitch_slots (n : Nat) (s : State) : (setPitch n s).slots = s.slots := rfl

@[simp] theorem setPitch_sched (n : Nat) (s : State) : (setPitch n s).sched = s.sched := rfl

@[simp] theorem setPitch_pass (n : Nat) (s : State) : (setPitch n s).pass = s.pass := rfl

@[simp] theorem setPitch_tag (n : Nat) (s : State) : (setPitch n s).tag = s.tag := rfl

@[simp] theorem setPitch_poller (n : Nat) (s : State) : (setPitch n s).poller = s.poller := rfl

@[simp] theorem setPitch_bus (n : Nat) (s : State) : (setPitch n s).bus = s.bus := rfl

@[simp] theorem setPitch_params (n : Nat) (s : State) : (setPitch n s).params = s.params := rfl

@[simp] theorem setPitch_linkA (n : Nat) (s : State) : (setPitch n s).linkA = s.linkA := rfl

@[simp] theorem setPitch_linkB (n : Nat) (s : State) : (setPitch n s).linkB = s.linkB := rfl

@[simp] theorem setPitch_freeCount (n : Nat) (s : State) : (setPitch n s).freeCount = s.freeCount := rfl

@[simp] theorem setPitch_todo (n : Nat) (s : State) : (setPitch n s).todo = s.todo := rfl

@[simp] theorem setPitch_pending (n : Nat) (s : State) : (setPitch n s).pending = s.pending := rfl

/-! ### `setDirty` -/

@[simp] theorem setDirty_tracker  (s : State) : (setDirty s).tracker = s.tracker := rfl

@[simp] theorem setDirty_marks  (s : State) : (setDirty s).marks = s.marks := rfl

@[simp] theorem setDirty_index  (s : State) : (setDirty s).index = s.index := rfl

@[simp] theorem setDirty_transport  (s : State) : (setDirty s).transport = s.transport := rfl

@[simp] theorem setDirty_lamp  (s : State) : (setDirty s).lamp = s.lamp := rfl

@[simp] theorem setDirty_roll  (s : State) : (setDirty s).roll = s.roll := rfl

@[simp] theorem setDirty_focus  (s : State) : (setDirty s).focus = s.focus := rfl

@[simp] theorem setDirty_zones  (s : State) : (setDirty s).zones = s.zones := rfl

@[simp] theorem setDirty_sweep  (s : State) : (setDirty s).sweep = s.sweep := rfl

@[simp] theorem setDirty_slots  (s : State) : (setDirty s).slots = s.slots := rfl

@[simp] theorem setDirty_sched  (s : State) : (setDirty s).sched = s.sched := rfl

@[simp] theorem setDirty_pass  (s : State) : (setDirty s).pass = s.pass := rfl

@[simp] theorem setDirty_tag  (s : State) : (setDirty s).tag = { s.tag with dirty := true } := rfl

@[simp] theorem setDirty_poller  (s : State) : (setDirty s).poller = s.poller := rfl

@[simp] theorem setDirty_bus  (s : State) : (setDirty s).bus = s.bus := rfl

@[simp] theorem setDirty_params  (s : State) : (setDirty s).params = s.params := rfl

@[simp] theorem setDirty_linkA  (s : State) : (setDirty s).linkA = s.linkA := rfl

@[simp] theorem setDirty_linkB  (s : State) : (setDirty s).linkB = s.linkB := rfl

@[simp] theorem setDirty_freeCount  (s : State) : (setDirty s).freeCount = s.freeCount := rfl

@[simp] theorem setDirty_todo  (s : State) : (setDirty s).todo = s.todo := rfl

@[simp] theorem setDirty_pending  (s : State) : (setDirty s).pending = s.pending := rfl

/-! ### `discardMark` -/

@[simp] theorem discardMark_tracker  (s : State) : (discardMark s).tracker = s.tracker := rfl

@[simp] theorem discardMark_marks  (s : State) : (discardMark s).marks = { s.marks with inProgress := none } := rfl

@[simp] theorem discardMark_index  (s : State) : (discardMark s).index = s.index := rfl

@[simp] theorem discardMark_transport  (s : State) : (discardMark s).transport = s.transport := rfl

@[simp] theorem discardMark_lamp  (s : State) : (discardMark s).lamp = s.lamp := rfl

@[simp] theorem discardMark_roll  (s : State) : (discardMark s).roll = s.roll := rfl

@[simp] theorem discardMark_focus  (s : State) : (discardMark s).focus = s.focus := rfl

@[simp] theorem discardMark_zones  (s : State) : (discardMark s).zones = s.zones := rfl

@[simp] theorem discardMark_sweep  (s : State) : (discardMark s).sweep = s.sweep := rfl

@[simp] theorem discardMark_slots  (s : State) : (discardMark s).slots = s.slots := rfl

@[simp] theorem discardMark_sched  (s : State) : (discardMark s).sched = s.sched := rfl

@[simp] theorem discardMark_pass  (s : State) : (discardMark s).pass = s.pass := rfl

@[simp] theorem discardMark_tag  (s : State) : (discardMark s).tag = s.tag := rfl

@[simp] theorem discardMark_poller  (s : State) : (discardMark s).poller = s.poller := rfl

@[simp] theorem discardMark_bus  (s : State) : (discardMark s).bus = s.bus := rfl

@[simp] theorem discardMark_params  (s : State) : (discardMark s).params = s.params := rfl

@[simp] theorem discardMark_linkA  (s : State) : (discardMark s).linkA = s.linkA := rfl

@[simp] theorem discardMark_linkB  (s : State) : (discardMark s).linkB = s.linkB := rfl

@[simp] theorem discardMark_freeCount  (s : State) : (discardMark s).freeCount = s.freeCount := rfl

@[simp] theorem discardMark_todo  (s : State) : (discardMark s).todo = s.todo := rfl

@[simp] theorem discardMark_pending  (s : State) : (discardMark s).pending = s.pending := rfl

/-! ### `filmStill` -/

@[simp] theorem filmStill_tracker (s : State) : (filmStill s).tracker = { s.tracker with inMotion := false } := rfl

@[simp] theorem filmStill_marks (s : State) : (filmStill s).marks = s.marks := rfl

@[simp] theorem filmStill_index (s : State) : (filmStill s).index = s.index := rfl

@[simp] theorem filmStill_transport (s : State) : (filmStill s).transport = s.transport := rfl

@[simp] theorem filmStill_lamp (s : State) : (filmStill s).lamp = s.lamp := rfl

@[simp] theorem filmStill_roll (s : State) : (filmStill s).roll = s.roll := rfl

@[simp] theorem filmStill_focus (s : State) : (filmStill s).focus = s.focus := rfl

@[simp] theorem filmStill_zones (s : State) : (filmStill s).zones = s.zones := rfl

@[simp] theorem filmStill_sweep (s : State) : (filmStill s).sweep = s.sweep := rfl

@[simp] theorem filmStill_slots (s : State) : (filmStill s).slots = s.slots := rfl

@[simp] theorem filmStill_sched (s : State) : (filmStill s).sched = s.sched := rfl

@[simp] theorem filmStill_pass (s : State) : (filmStill s).pass = s.pass := rfl

@[simp] theorem filmStill_tag (s : State) : (filmStill s).tag = s.tag := rfl

@[simp] theorem filmStill_poller (s : State) : (filmStill s).poller = s.poller := rfl

@[simp] theorem filmStill_bus (s : State) : (filmStill s).bus = s.bus := rfl

@[simp] theorem filmStill_params (s : State) : (filmStill s).params = s.params := rfl

@[simp] theorem filmStill_linkA (s : State) : (filmStill s).linkA = s.linkA := rfl

@[simp] theorem filmStill_linkB (s : State) : (filmStill s).linkB = s.linkB := rfl

@[simp] theorem filmStill_freeCount (s : State) : (filmStill s).freeCount = s.freeCount := rfl

@[simp] theorem filmStill_todo (s : State) : (filmStill s).todo = s.todo := rfl

@[simp] theorem filmStill_pending (s : State) : (filmStill s).pending = s.pending := rfl

/-! ### `holdTension` -/

@[simp] theorem holdTension_tracker (s : State) : (holdTension s).tracker = s.tracker := rfl

@[simp] theorem holdTension_marks (s : State) : (holdTension s).marks = s.marks := rfl

@[simp] theorem holdTension_index (s : State) : (holdTension s).index = s.index := rfl

@[simp] theorem holdTension_transport (s : State) : (holdTension s).transport = { s.transport with reels := .tension } := rfl

@[simp] theorem holdTension_lamp (s : State) : (holdTension s).lamp = s.lamp := rfl

@[simp] theorem holdTension_roll (s : State) : (holdTension s).roll = s.roll := rfl

@[simp] theorem holdTension_focus (s : State) : (holdTension s).focus = s.focus := rfl

@[simp] theorem holdTension_zones (s : State) : (holdTension s).zones = s.zones := rfl

@[simp] theorem holdTension_sweep (s : State) : (holdTension s).sweep = s.sweep := rfl

@[simp] theorem holdTension_slots (s : State) : (holdTension s).slots = s.slots := rfl

@[simp] theorem holdTension_sched (s : State) : (holdTension s).sched = s.sched := rfl

@[simp] theorem holdTension_pass (s : State) : (holdTension s).pass = s.pass := rfl

@[simp] theorem holdTension_tag (s : State) : (holdTension s).tag = s.tag := rfl

@[simp] theorem holdTension_poller (s : State) : (holdTension s).poller = s.poller := rfl

@[simp] theorem holdTension_bus (s : State) : (holdTension s).bus = s.bus := rfl

@[simp] theorem holdTension_params (s : State) : (holdTension s).params = s.params := rfl

@[simp] theorem holdTension_linkA (s : State) : (holdTension s).linkA = s.linkA := rfl

@[simp] theorem holdTension_linkB (s : State) : (holdTension s).linkB = s.linkB := rfl

@[simp] theorem holdTension_freeCount (s : State) : (holdTension s).freeCount = s.freeCount := rfl

@[simp] theorem holdTension_todo (s : State) : (holdTension s).todo = s.todo := rfl

@[simp] theorem holdTension_pending (s : State) : (holdTension s).pending = s.pending := rfl

/-! ### `givePulse` -/

@[simp] theorem givePulse_tracker  (s : State) : (givePulse s).tracker = s.tracker := rfl

@[simp] theorem givePulse_marks  (s : State) : (givePulse s).marks = s.marks := rfl

@[simp] theorem givePulse_index  (s : State) : (givePulse s).index = s.index := rfl

@[simp] theorem givePulse_lamp  (s : State) : (givePulse s).lamp = s.lamp := rfl

@[simp] theorem givePulse_roll  (s : State) : (givePulse s).roll = s.roll := rfl

@[simp] theorem givePulse_focus  (s : State) : (givePulse s).focus = s.focus := rfl

@[simp] theorem givePulse_zones  (s : State) : (givePulse s).zones = s.zones := rfl

@[simp] theorem givePulse_sweep  (s : State) : (givePulse s).sweep = s.sweep := rfl

@[simp] theorem givePulse_slots  (s : State) : (givePulse s).slots = s.slots := rfl

@[simp] theorem givePulse_sched  (s : State) : (givePulse s).sched = s.sched := rfl

@[simp] theorem givePulse_pass  (s : State) : (givePulse s).pass = s.pass := rfl

@[simp] theorem givePulse_tag  (s : State) : (givePulse s).tag = s.tag := rfl

@[simp] theorem givePulse_poller  (s : State) : (givePulse s).poller = s.poller := rfl

@[simp] theorem givePulse_bus  (s : State) : (givePulse s).bus = s.bus := rfl

@[simp] theorem givePulse_params  (s : State) : (givePulse s).params = s.params := rfl

@[simp] theorem givePulse_linkA  (s : State) : (givePulse s).linkA = s.linkA := rfl

@[simp] theorem givePulse_linkB  (s : State) : (givePulse s).linkB = s.linkB := rfl

@[simp] theorem givePulse_freeCount  (s : State) : (givePulse s).freeCount = s.freeCount := rfl

@[simp] theorem givePulse_todo  (s : State) : (givePulse s).todo = s.todo := rfl

@[simp] theorem givePulse_pending  (s : State) : (givePulse s).pending = s.pending := rfl

/-! ### `countRegister` -/

@[simp] theorem countRegister_marks (d : Direction) (s : State) : (countRegister d s).marks = s.marks := rfl

@[simp] theorem countRegister_index (d : Direction) (s : State) : (countRegister d s).index = s.index := rfl

@[simp] theorem countRegister_transport (d : Direction) (s : State) : (countRegister d s).transport = s.transport := rfl

@[simp] theorem countRegister_lamp (d : Direction) (s : State) : (countRegister d s).lamp = s.lamp := rfl

@[simp] theorem countRegister_roll (d : Direction) (s : State) : (countRegister d s).roll = s.roll := rfl

@[simp] theorem countRegister_focus (d : Direction) (s : State) : (countRegister d s).focus = s.focus := rfl

@[simp] theorem countRegister_zones (d : Direction) (s : State) : (countRegister d s).zones = s.zones := rfl

@[simp] theorem countRegister_sweep (d : Direction) (s : State) : (countRegister d s).sweep = s.sweep := rfl

@[simp] theorem countRegister_slots (d : Direction) (s : State) : (countRegister d s).slots = s.slots := rfl

@[simp] theorem countRegister_sched (d : Direction) (s : State) : (countRegister d s).sched = s.sched := rfl

@[simp] theorem countRegister_pass (d : Direction) (s : State) : (countRegister d s).pass = s.pass := rfl

@[simp] theorem countRegister_tag (d : Direction) (s : State) : (countRegister d s).tag = s.tag := rfl

@[simp] theorem countRegister_poller (d : Direction) (s : State) : (countRegister d s).poller = s.poller := rfl

@[simp] theorem countRegister_bus (d : Direction) (s : State) : (countRegister d s).bus = s.bus := rfl

@[simp] theorem countRegister_params (d : Direction) (s : State) : (countRegister d s).params = s.params := rfl

@[simp] theorem countRegister_linkA (d : Direction) (s : State) : (countRegister d s).linkA = s.linkA := rfl

@[simp] theorem countRegister_linkB (d : Direction) (s : State) : (countRegister d s).linkB = s.linkB := rfl

@[simp] theorem countRegister_freeCount (d : Direction) (s : State) : (countRegister d s).freeCount = s.freeCount := rfl

@[simp] theorem countRegister_todo (d : Direction) (s : State) : (countRegister d s).todo = s.todo := rfl

@[simp] theorem countRegister_pending (d : Direction) (s : State) : (countRegister d s).pending = s.pending := rfl

/-! ### `markStale` -/

@[simp] theorem markStale_tracker (b : Nat) (s : State) : (markStale b s).tracker = s.tracker := rfl

@[simp] theorem markStale_marks (b : Nat) (s : State) : (markStale b s).marks = s.marks := rfl

@[simp] theorem markStale_index (b : Nat) (s : State) : (markStale b s).index = s.index := rfl

@[simp] theorem markStale_transport (b : Nat) (s : State) : (markStale b s).transport = s.transport := rfl

@[simp] theorem markStale_lamp (b : Nat) (s : State) : (markStale b s).lamp = s.lamp := rfl

@[simp] theorem markStale_roll (b : Nat) (s : State) : (markStale b s).roll = s.roll := rfl

@[simp] theorem markStale_focus (b : Nat) (s : State) : (markStale b s).focus = s.focus := rfl

@[simp] theorem markStale_zones (b : Nat) (s : State) : (markStale b s).zones = s.zones := rfl

@[simp] theorem markStale_sweep (b : Nat) (s : State) : (markStale b s).sweep = s.sweep := rfl

@[simp] theorem markStale_slots (b : Nat) (s : State) : (markStale b s).slots = s.slots := rfl

@[simp] theorem markStale_sched (b : Nat) (s : State) : (markStale b s).sched = s.sched := rfl

@[simp] theorem markStale_pass (b : Nat) (s : State) : (markStale b s).pass = s.pass := rfl

@[simp] theorem markStale_tag (b : Nat) (s : State) : (markStale b s).tag = s.tag := rfl

@[simp] theorem markStale_poller (b : Nat) (s : State) : (markStale b s).poller = { s.poller with stale := s.poller.stale ||| (1#8 <<< b) } := rfl

@[simp] theorem markStale_bus (b : Nat) (s : State) : (markStale b s).bus = s.bus := rfl

@[simp] theorem markStale_params (b : Nat) (s : State) : (markStale b s).params = s.params := rfl

@[simp] theorem markStale_linkA (b : Nat) (s : State) : (markStale b s).linkA = s.linkA := rfl

@[simp] theorem markStale_linkB (b : Nat) (s : State) : (markStale b s).linkB = s.linkB := rfl

@[simp] theorem markStale_freeCount (b : Nat) (s : State) : (markStale b s).freeCount = s.freeCount := rfl

@[simp] theorem markStale_todo (b : Nat) (s : State) : (markStale b s).todo = s.todo := rfl

@[simp] theorem markStale_pending (b : Nat) (s : State) : (markStale b s).pending = s.pending := rfl

/-! ### `takeByte` -/

@[simp] theorem takeByte_tracker (b : Nat) (v : Byte) (s : State) : (takeByte b v s).tracker = s.tracker := rfl

@[simp] theorem takeByte_marks (b : Nat) (v : Byte) (s : State) : (takeByte b v s).marks = s.marks := rfl

@[simp] theorem takeByte_index (b : Nat) (v : Byte) (s : State) : (takeByte b v s).index = s.index := rfl

@[simp] theorem takeByte_transport (b : Nat) (v : Byte) (s : State) : (takeByte b v s).transport = s.transport := rfl

@[simp] theorem takeByte_lamp (b : Nat) (v : Byte) (s : State) : (takeByte b v s).lamp = s.lamp := rfl

@[simp] theorem takeByte_roll (b : Nat) (v : Byte) (s : State) : (takeByte b v s).roll = s.roll := rfl

@[simp] theorem takeByte_focus (b : Nat) (v : Byte) (s : State) : (takeByte b v s).focus = s.focus := rfl

@[simp] theorem takeByte_zones (b : Nat) (v : Byte) (s : State) : (takeByte b v s).zones = s.zones := rfl

@[simp] theorem takeByte_sweep (b : Nat) (v : Byte) (s : State) : (takeByte b v s).sweep = s.sweep := rfl

@[simp] theorem takeByte_slots (b : Nat) (v : Byte) (s : State) : (takeByte b v s).slots = s.slots := rfl

@[simp] theorem takeByte_sched (b : Nat) (v : Byte) (s : State) : (takeByte b v s).sched = s.sched := rfl

@[simp] theorem takeByte_pass (b : Nat) (v : Byte) (s : State) : (takeByte b v s).pass = s.pass := rfl

@[simp] theorem takeByte_tag (b : Nat) (v : Byte) (s : State) : (takeByte b v s).tag = s.tag := rfl

@[simp] theorem takeByte_bus (b : Nat) (v : Byte) (s : State) : (takeByte b v s).bus = s.bus := rfl

@[simp] theorem takeByte_params (b : Nat) (v : Byte) (s : State) : (takeByte b v s).params = s.params := rfl

@[simp] theorem takeByte_linkA (b : Nat) (v : Byte) (s : State) : (takeByte b v s).linkA = s.linkA := rfl

@[simp] theorem takeByte_linkB (b : Nat) (v : Byte) (s : State) : (takeByte b v s).linkB = s.linkB := rfl

@[simp] theorem takeByte_freeCount (b : Nat) (v : Byte) (s : State) : (takeByte b v s).freeCount = s.freeCount := rfl

@[simp] theorem takeByte_todo (b : Nat) (v : Byte) (s : State) : (takeByte b v s).todo = s.todo := rfl

@[simp] theorem takeByte_pending (b : Nat) (v : Byte) (s : State) : (takeByte b v s).pending = s.pending := rfl

/-! ### `setLamp` -/

@[simp] theorem setLamp_tracker (x : LampState) (s : State) : (setLamp x s).tracker = s.tracker := rfl

@[simp] theorem setLamp_marks (x : LampState) (s : State) : (setLamp x s).marks = s.marks := rfl

@[simp] theorem setLamp_index (x : LampState) (s : State) : (setLamp x s).index = s.index := rfl

@[simp] theorem setLamp_lamp (x : LampState) (s : State) : (setLamp x s).lamp = { state := x, warmTimer := none } := rfl

@[simp] theorem setLamp_roll (x : LampState) (s : State) : (setLamp x s).roll = s.roll := rfl

@[simp] theorem setLamp_focus (x : LampState) (s : State) : (setLamp x s).focus = s.focus := rfl

@[simp] theorem setLamp_zones (x : LampState) (s : State) : (setLamp x s).zones = s.zones := rfl

@[simp] theorem setLamp_sweep (x : LampState) (s : State) : (setLamp x s).sweep = s.sweep := rfl

@[simp] theorem setLamp_slots (x : LampState) (s : State) : (setLamp x s).slots = s.slots := rfl

@[simp] theorem setLamp_sched (x : LampState) (s : State) : (setLamp x s).sched = s.sched := rfl

@[simp] theorem setLamp_pass (x : LampState) (s : State) : (setLamp x s).pass = s.pass := rfl

@[simp] theorem setLamp_tag (x : LampState) (s : State) : (setLamp x s).tag = s.tag := rfl

@[simp] theorem setLamp_poller (x : LampState) (s : State) : (setLamp x s).poller = s.poller := rfl

@[simp] theorem setLamp_bus (x : LampState) (s : State) : (setLamp x s).bus = s.bus := rfl

@[simp] theorem setLamp_params (x : LampState) (s : State) : (setLamp x s).params = s.params := rfl

@[simp] theorem setLamp_linkA (x : LampState) (s : State) : (setLamp x s).linkA = s.linkA := rfl

@[simp] theorem setLamp_linkB (x : LampState) (s : State) : (setLamp x s).linkB = s.linkB := rfl

@[simp] theorem setLamp_freeCount (x : LampState) (s : State) : (setLamp x s).freeCount = s.freeCount := rfl

@[simp] theorem setLamp_todo (x : LampState) (s : State) : (setLamp x s).todo = s.todo ++ [.lampChanged] := rfl

@[simp] theorem setLamp_pending (x : LampState) (s : State) : (setLamp x s).pending = s.pending := rfl

/-! ### `askRecord` -/

@[simp] theorem askRecord_tracker (k : RecordTransfer) (s : State) : (askRecord k s).tracker = s.tracker := rfl

@[simp] theorem askRecord_marks (k : RecordTransfer) (s : State) : (askRecord k s).marks = s.marks := rfl

@[simp] theorem askRecord_index (k : RecordTransfer) (s : State) : (askRecord k s).index = s.index := rfl

@[simp] theorem askRecord_transport (k : RecordTransfer) (s : State) : (askRecord k s).transport = s.transport := rfl

@[simp] theorem askRecord_lamp (k : RecordTransfer) (s : State) : (askRecord k s).lamp = s.lamp := rfl

@[simp] theorem askRecord_roll (k : RecordTransfer) (s : State) : (askRecord k s).roll = s.roll := rfl

@[simp] theorem askRecord_focus (k : RecordTransfer) (s : State) : (askRecord k s).focus = s.focus := rfl

@[simp] theorem askRecord_zones (k : RecordTransfer) (s : State) : (askRecord k s).zones = s.zones := rfl

@[simp] theorem askRecord_sweep (k : RecordTransfer) (s : State) : (askRecord k s).sweep = s.sweep := rfl

@[simp] theorem askRecord_slots (k : RecordTransfer) (s : State) : (askRecord k s).slots = s.slots := rfl

@[simp] theorem askRecord_sched (k : RecordTransfer) (s : State) : (askRecord k s).sched = s.sched := rfl

@[simp] theorem askRecord_pass (k : RecordTransfer) (s : State) : (askRecord k s).pass = s.pass := rfl

@[simp] theorem askRecord_tag (k : RecordTransfer) (s : State) : (askRecord k s).tag = s.tag := rfl

@[simp] theorem askRecord_poller (k : RecordTransfer) (s : State) : (askRecord k s).poller = s.poller := rfl

@[simp] theorem askRecord_bus (k : RecordTransfer) (s : State) : (askRecord k s).bus = { s.bus with waiting := some k } := rfl

@[simp] theorem askRecord_params (k : RecordTransfer) (s : State) : (askRecord k s).params = s.params := rfl

@[simp] theorem askRecord_linkA (k : RecordTransfer) (s : State) : (askRecord k s).linkA = s.linkA := rfl

@[simp] theorem askRecord_linkB (k : RecordTransfer) (s : State) : (askRecord k s).linkB = s.linkB := rfl

@[simp] theorem askRecord_freeCount (k : RecordTransfer) (s : State) : (askRecord k s).freeCount = s.freeCount := rfl

@[simp] theorem askRecord_todo (k : RecordTransfer) (s : State) : (askRecord k s).todo = s.todo := rfl

@[simp] theorem askRecord_pending (k : RecordTransfer) (s : State) : (askRecord k s).pending = s.pending := rfl

/-! ### `onLink` and what is made of it -/

@[simp] theorem onLink_tracker (l : Link) (f : LinkState → LinkState) (s : State) : (onLink l f s).tracker = s.tracker := by
  cases l <;> rfl

@[simp] theorem onLink_marks (l : Link) (f : LinkState → LinkState) (s : State) : (onLink l f s).marks = s.marks := by
  cases l <;> rfl

@[simp] theorem onLink_index (l : Link) (f : LinkState → LinkState) (s : State) : (onLink l f s).index = s.index := by
  cases l <;> rfl

@[simp] theorem onLink_transport (l : Link) (f : LinkState → LinkState) (s : State) : (onLink l f s).transport = s.transport := by
  cases l <;> rfl

@[simp] theorem onLink_lamp (l : Link) (f : LinkState → LinkState) (s : State) : (onLink l f s).lamp = s.lamp := by
  cases l <;> rfl

@[simp] theorem onLink_roll (l : Link) (f : LinkState → LinkState) (s : State) : (onLink l f s).roll = s.roll := by
  cases l <;> rfl

@[simp] theorem onLink_focus (l : Link) (f : LinkState → LinkState) (s : State) : (onLink l f s).focus = s.focus := by
  cases l <;> rfl

@[simp] theorem onLink_zones (l : Link) (f : LinkState → LinkState) (s : State) : (onLink l f s).zones = s.zones := by
  cases l <;> rfl

@[simp] theorem onLink_sweep (l : Link) (f : LinkState → LinkState) (s : State) : (onLink l f s).sweep = s.sweep := by
  cases l <;> rfl

@[simp] theorem onLink_slots (l : Link) (f : LinkState → LinkState) (s : State) : (onLink l f s).slots = s.slots := by
  cases l <;> rfl

@[simp] theorem onLink_sched (l : Link) (f : LinkState → LinkState) (s : State) : (onLink l f s).sched = s.sched := by
  cases l <;> rfl

@[simp] theorem onLink_pass (l : Link) (f : LinkState → LinkState) (s : State) : (onLink l f s).pass = s.pass := by
  cases l <;> rfl

@[simp] theorem onLink_tag (l : Link) (f : LinkState → LinkState) (s : State) : (onLink l f s).tag = s.tag := by
  cases l <;> rfl

@[simp] theorem onLink_poller (l : Link) (f : LinkState → LinkState) (s : State) : (onLink l f s).poller = s.poller := by
  cases l <;> rfl

@[simp] theorem onLink_bus (l : Link) (f : LinkState → LinkState) (s : State) : (onLink l f s).bus = s.bus := by
  cases l <;> rfl

@[simp] theorem onLink_params (l : Link) (f : LinkState → LinkState) (s : State) : (onLink l f s).params = s.params := by
  cases l <;> rfl

@[simp] theorem onLink_freeCount (l : Link) (f : LinkState → LinkState) (s : State) : (onLink l f s).freeCount = s.freeCount := by
  cases l <;> rfl

@[simp] theorem onLink_todo (l : Link) (f : LinkState → LinkState) (s : State) : (onLink l f s).todo = s.todo := by
  cases l <;> rfl

@[simp] theorem onLink_pending (l : Link) (f : LinkState → LinkState) (s : State) : (onLink l f s).pending = s.pending := by
  cases l <;> rfl

theorem onLink_a (f : LinkState → LinkState) (s : State) : onLink .a f s = { s with linkA := f s.linkA } := rfl

theorem onLink_b (f : LinkState → LinkState) (s : State) : onLink .b f s = { s with linkB := f s.linkB } := rfl

@[simp] theorem onLink_link (l : Link) (f : LinkState → LinkState) (s : State) :
    (onLink l f s).link l = f (s.link l) := by
  cases l <;> rfl

/-- One link's change leaves the other link as it is. -/
theorem onLink_other (l m : Link) (f : LinkState → LinkState) (s : State) (h : m ≠ l) :
    (onLink l f s).link m = s.link m := by
  cases l <;> cases m <;> first | rfl | exact absurd rfl h

/-- Two changes of one link are one. -/
theorem onLink_onLink (l : Link) (f g : LinkState → LinkState) (s : State) :
    onLink l f (onLink l g s) = onLink l (fun k => f (g k)) s := by
  cases l <;> rfl

/-! ### `setAnswer` -/

@[simp] theorem setAnswer_tracker (l : Link) (a : Answer) (s : State) : (setAnswer l a s).tracker = s.tracker := by
  cases l <;> rfl

@[simp] theorem setAnswer_marks (l : Link) (a : Answer) (s : State) : (setAnswer l a s).marks = s.marks := by
  cases l <;> rfl

@[simp] theorem setAnswer_index (l : Link) (a : Answer) (s : State) : (setAnswer l a s).index = s.index := by
  cases l <;> rfl

@[simp] theorem setAnswer_transport (l : Link) (a : Answer) (s : State) : (setAnswer l a s).transport = s.transport := by
  cases l <;> rfl

@[simp] theorem setAnswer_lamp (l : Link) (a : Answer) (s : State) : (setAnswer l a s).lamp = s.lamp := by
  cases l <;> rfl

@[simp] theorem setAnswer_roll (l : Link) (a : Answer) (s : State) : (setAnswer l a s).roll = s.roll := by
  cases l <;> rfl

@[simp] theorem setAnswer_focus (l : Link) (a : Answer) (s : State) : (setAnswer l a s).focus = s.focus := by
  cases l <;> rfl

@[simp] theorem setAnswer_zones (l : Link) (a : Answer) (s : State) : (setAnswer l a s).zones = s.zones := by
  cases l <;> rfl

@[simp] theorem setAnswer_sweep (l : Link) (a : Answer) (s : State) : (setAnswer l a s).sweep = s.sweep := by
  cases l <;> rfl

@[simp] theorem setAnswer_slots (l : Link) (a : Answer) (s : State) : (setAnswer l a s).slots = s.slots := by
  cases l <;> rfl

@[simp] theorem setAnswer_sched (l : Link) (a : Answer) (s : State) : (setAnswer l a s).sched = s.sched := by
  cases l <;> rfl

@[simp] theorem setAnswer_pass (l : Link) (a : Answer) (s : State) : (setAnswer l a s).pass = s.pass := by
  cases l <;> rfl

@[simp] theorem setAnswer_tag (l : Link) (a : Answer) (s : State) : (setAnswer l a s).tag = s.tag := by
  cases l <;> rfl

@[simp] theorem setAnswer_poller (l : Link) (a : Answer) (s : State) : (setAnswer l a s).poller = s.poller := by
  cases l <;> rfl

@[simp] theorem setAnswer_bus (l : Link) (a : Answer) (s : State) : (setAnswer l a s).bus = s.bus := by
  cases l <;> rfl

@[simp] theorem setAnswer_params (l : Link) (a : Answer) (s : State) : (setAnswer l a s).params = s.params := by
  cases l <;> rfl

@[simp] theorem setAnswer_freeCount (l : Link) (a : Answer) (s : State) : (setAnswer l a s).freeCount = s.freeCount := by
  cases l <;> rfl

@[simp] theorem setAnswer_todo (l : Link) (a : Answer) (s : State) : (setAnswer l a s).todo = s.todo := by
  cases l <;> rfl

@[simp] theorem setAnswer_pending (l : Link) (a : Answer) (s : State) : (setAnswer l a s).pending = s.pending := by
  cases l <;> rfl

/-! ### `closeStream` -/

@[simp] theorem closeStream_tracker (l : Link) (s : State) : (closeStream l s).tracker = s.tracker := by
  cases l <;> rfl

@[simp] theorem closeStream_marks (l : Link) (s : State) : (closeStream l s).marks = s.marks := by
  cases l <;> rfl

@[simp] theorem closeStream_index (l : Link) (s : State) : (closeStream l s).index = s.index := by
  cases l <;> rfl

@[simp] theorem closeStream_transport (l : Link) (s : State) : (closeStream l s).transport = s.transport := by
  cases l <;> rfl

@[simp] theorem closeStream_lamp (l : Link) (s : State) : (closeStream l s).lamp = s.lamp := by
  cases l <;> rfl

@[simp] theorem closeStream_roll (l : Link) (s : State) : (closeStream l s).roll = s.roll := by
  cases l <;> rfl

@[simp] theorem closeStream_focus (l : Link) (s : State) : (closeStream l s).focus = s.focus := by
  cases l <;> rfl

@[simp] theorem closeStream_zones (l : Link) (s : State) : (closeStream l s).zones = s.zones := by
  cases l <;> rfl

@[simp] theorem closeStream_sweep (l : Link) (s : State) : (closeStream l s).sweep = s.sweep := by
  cases l <;> rfl

@[simp] theorem closeStream_slots (l : Link) (s : State) : (closeStream l s).slots = s.slots := by
  cases l <;> rfl

@[simp] theorem closeStream_sched (l : Link) (s : State) : (closeStream l s).sched = s.sched := by
  cases l <;> rfl

@[simp] theorem closeStream_pass (l : Link) (s : State) : (closeStream l s).pass = s.pass := by
  cases l <;> rfl

@[simp] theorem closeStream_tag (l : Link) (s : State) : (closeStream l s).tag = s.tag := by
  cases l <;> rfl

@[simp] theorem closeStream_poller (l : Link) (s : State) : (closeStream l s).poller = s.poller := by
  cases l <;> rfl

@[simp] theorem closeStream_bus (l : Link) (s : State) : (closeStream l s).bus = s.bus := by
  cases l <;> rfl

@[simp] theorem closeStream_params (l : Link) (s : State) : (closeStream l s).params = s.params := by
  cases l <;> rfl

@[simp] theorem closeStream_freeCount (l : Link) (s : State) : (closeStream l s).freeCount = s.freeCount := by
  cases l <;> rfl

@[simp] theorem closeStream_todo (l : Link) (s : State) : (closeStream l s).todo = s.todo := by
  cases l <;> rfl

@[simp] theorem closeStream_pending (l : Link) (s : State) : (closeStream l s).pending = s.pending := by
  cases l <;> rfl

/-! ### `flagOne` -/

@[simp] theorem flagOne_tracker (l : Link) (f : Flags → Flags) (s : State) : (flagOne l f s).tracker = s.tracker := by
  cases l <;> rfl

@[simp] theorem flagOne_marks (l : Link) (f : Flags → Flags) (s : State) : (flagOne l f s).marks = s.marks := by
  cases l <;> rfl

@[simp] theorem flagOne_index (l : Link) (f : Flags → Flags) (s : State) : (flagOne l f s).index = s.index := by
  cases l <;> rfl

@[simp] theorem flagOne_transport (l : Link) (f : Flags → Flags) (s : State) : (flagOne l f s).transport = s.transport := by
  cases l <;> rfl

@[simp] theorem flagOne_lamp (l : Link) (f : Flags → Flags) (s : State) : (flagOne l f s).lamp = s.lamp := by
  cases l <;> rfl

@[simp] theorem flagOne_roll (l : Link) (f : Flags → Flags) (s : State) : (flagOne l f s).roll = s.roll := by
  cases l <;> rfl

@[simp] theorem flagOne_focus (l : Link) (f : Flags → Flags) (s : State) : (flagOne l f s).focus = s.focus := by
  cases l <;> rfl

@[simp] theorem flagOne_zones (l : Link) (f : Flags → Flags) (s : State) : (flagOne l f s).zones = s.zones := by
  cases l <;> rfl

@[simp] theorem flagOne_sweep (l : Link) (f : Flags → Flags) (s : State) : (flagOne l f s).sweep = s.sweep := by
  cases l <;> rfl

@[simp] theorem flagOne_slots (l : Link) (f : Flags → Flags) (s : State) : (flagOne l f s).slots = s.slots := by
  cases l <;> rfl

@[simp] theorem flagOne_sched (l : Link) (f : Flags → Flags) (s : State) : (flagOne l f s).sched = s.sched := by
  cases l <;> rfl

@[simp] theorem flagOne_pass (l : Link) (f : Flags → Flags) (s : State) : (flagOne l f s).pass = s.pass := by
  cases l <;> rfl

@[simp] theorem flagOne_tag (l : Link) (f : Flags → Flags) (s : State) : (flagOne l f s).tag = s.tag := by
  cases l <;> rfl

@[simp] theorem flagOne_poller (l : Link) (f : Flags → Flags) (s : State) : (flagOne l f s).poller = s.poller := by
  cases l <;> rfl

@[simp] theorem flagOne_bus (l : Link) (f : Flags → Flags) (s : State) : (flagOne l f s).bus = s.bus := by
  cases l <;> rfl

@[simp] theorem flagOne_params (l : Link) (f : Flags → Flags) (s : State) : (flagOne l f s).params = s.params := by
  cases l <;> rfl

@[simp] theorem flagOne_freeCount (l : Link) (f : Flags → Flags) (s : State) : (flagOne l f s).freeCount = s.freeCount := by
  cases l <;> rfl

@[simp] theorem flagOne_todo (l : Link) (f : Flags → Flags) (s : State) : (flagOne l f s).todo = s.todo := by
  cases l <;> rfl

@[simp] theorem flagOne_pending (l : Link) (f : Flags → Flags) (s : State) : (flagOne l f s).pending = s.pending := by
  cases l <;> rfl

/-! ### `flagPassEnd` -/

@[simp] theorem flagPassEnd_tracker (l : Link) (s : State) : (flagPassEnd l s).tracker = s.tracker := by
  cases l <;> rfl

@[simp] theorem flagPassEnd_marks (l : Link) (s : State) : (flagPassEnd l s).marks = s.marks := by
  cases l <;> rfl

@[simp] theorem flagPassEnd_index (l : Link) (s : State) : (flagPassEnd l s).index = s.index := by
  cases l <;> rfl

@[simp] theorem flagPassEnd_transport (l : Link) (s : State) : (flagPassEnd l s).transport = s.transport := by
  cases l <;> rfl

@[simp] theorem flagPassEnd_lamp (l : Link) (s : State) : (flagPassEnd l s).lamp = s.lamp := by
  cases l <;> rfl

@[simp] theorem flagPassEnd_roll (l : Link) (s : State) : (flagPassEnd l s).roll = s.roll := by
  cases l <;> rfl

@[simp] theorem flagPassEnd_focus (l : Link) (s : State) : (flagPassEnd l s).focus = s.focus := by
  cases l <;> rfl

@[simp] theorem flagPassEnd_zones (l : Link) (s : State) : (flagPassEnd l s).zones = s.zones := by
  cases l <;> rfl

@[simp] theorem flagPassEnd_sweep (l : Link) (s : State) : (flagPassEnd l s).sweep = s.sweep := by
  cases l <;> rfl

@[simp] theorem flagPassEnd_slots (l : Link) (s : State) : (flagPassEnd l s).slots = s.slots := by
  cases l <;> rfl

@[simp] theorem flagPassEnd_sched (l : Link) (s : State) : (flagPassEnd l s).sched = s.sched := by
  cases l <;> rfl

@[simp] theorem flagPassEnd_pass (l : Link) (s : State) : (flagPassEnd l s).pass = s.pass := by
  cases l <;> rfl

@[simp] theorem flagPassEnd_tag (l : Link) (s : State) : (flagPassEnd l s).tag = s.tag := by
  cases l <;> rfl

@[simp] theorem flagPassEnd_poller (l : Link) (s : State) : (flagPassEnd l s).poller = s.poller := by
  cases l <;> rfl

@[simp] theorem flagPassEnd_bus (l : Link) (s : State) : (flagPassEnd l s).bus = s.bus := by
  cases l <;> rfl

@[simp] theorem flagPassEnd_params (l : Link) (s : State) : (flagPassEnd l s).params = s.params := by
  cases l <;> rfl

@[simp] theorem flagPassEnd_freeCount (l : Link) (s : State) : (flagPassEnd l s).freeCount = s.freeCount := by
  cases l <;> rfl

@[simp] theorem flagPassEnd_todo (l : Link) (s : State) : (flagPassEnd l s).todo = s.todo := by
  cases l <;> rfl

@[simp] theorem flagPassEnd_pending (l : Link) (s : State) : (flagPassEnd l s).pending = s.pending := by
  cases l <;> rfl

/-! ### `flagFocus` -/

@[simp] theorem flagFocus_tracker (l : Link) (s : State) : (flagFocus l s).tracker = s.tracker := by
  cases l <;> rfl

@[simp] theorem flagFocus_marks (l : Link) (s : State) : (flagFocus l s).marks = s.marks := by
  cases l <;> rfl

@[simp] theorem flagFocus_index (l : Link) (s : State) : (flagFocus l s).index = s.index := by
  cases l <;> rfl

@[simp] theorem flagFocus_transport (l : Link) (s : State) : (flagFocus l s).transport = s.transport := by
  cases l <;> rfl

@[simp] theorem flagFocus_lamp (l : Link) (s : State) : (flagFocus l s).lamp = s.lamp := by
  cases l <;> rfl

@[simp] theorem flagFocus_roll (l : Link) (s : State) : (flagFocus l s).roll = s.roll := by
  cases l <;> rfl

@[simp] theorem flagFocus_focus (l : Link) (s : State) : (flagFocus l s).focus = s.focus := by
  cases l <;> rfl

@[simp] theorem flagFocus_zones (l : Link) (s : State) : (flagFocus l s).zones = s.zones := by
  cases l <;> rfl

@[simp] theorem flagFocus_sweep (l : Link) (s : State) : (flagFocus l s).sweep = s.sweep := by
  cases l <;> rfl

@[simp] theorem flagFocus_slots (l : Link) (s : State) : (flagFocus l s).slots = s.slots := by
  cases l <;> rfl

@[simp] theorem flagFocus_sched (l : Link) (s : State) : (flagFocus l s).sched = s.sched := by
  cases l <;> rfl

@[simp] theorem flagFocus_pass (l : Link) (s : State) : (flagFocus l s).pass = s.pass := by
  cases l <;> rfl

@[simp] theorem flagFocus_tag (l : Link) (s : State) : (flagFocus l s).tag = s.tag := by
  cases l <;> rfl

@[simp] theorem flagFocus_poller (l : Link) (s : State) : (flagFocus l s).poller = s.poller := by
  cases l <;> rfl

@[simp] theorem flagFocus_bus (l : Link) (s : State) : (flagFocus l s).bus = s.bus := by
  cases l <;> rfl

@[simp] theorem flagFocus_params (l : Link) (s : State) : (flagFocus l s).params = s.params := by
  cases l <;> rfl

@[simp] theorem flagFocus_freeCount (l : Link) (s : State) : (flagFocus l s).freeCount = s.freeCount := by
  cases l <;> rfl

@[simp] theorem flagFocus_todo (l : Link) (s : State) : (flagFocus l s).todo = s.todo := by
  cases l <;> rfl

@[simp] theorem flagFocus_pending (l : Link) (s : State) : (flagFocus l s).pending = s.pending := by
  cases l <;> rfl

/-! ### `clearLink` -/

@[simp] theorem clearLink_tracker (l : Link) (s : State) : (clearLink l s).tracker = s.tracker := by
  cases l <;> rfl

@[simp] theorem clearLink_marks (l : Link) (s : State) : (clearLink l s).marks = s.marks := by
  cases l <;> rfl

@[simp] theorem clearLink_index (l : Link) (s : State) : (clearLink l s).index = s.index := by
  cases l <;> rfl

@[simp] theorem clearLink_transport (l : Link) (s : State) : (clearLink l s).transport = s.transport := by
  cases l <;> rfl

@[simp] theorem clearLink_lamp (l : Link) (s : State) : (clearLink l s).lamp = s.lamp := by
  cases l <;> rfl

@[simp] theorem clearLink_roll (l : Link) (s : State) : (clearLink l s).roll = s.roll := by
  cases l <;> rfl

@[simp] theorem clearLink_focus (l : Link) (s : State) : (clearLink l s).focus = s.focus := by
  cases l <;> rfl

@[simp] theorem clearLink_zones (l : Link) (s : State) : (clearLink l s).zones = s.zones := by
  cases l <;> rfl

@[simp] theorem clearLink_sweep (l : Link) (s : State) : (clearLink l s).sweep = s.sweep := by
  cases l <;> rfl

@[simp] theorem clearLink_slots (l : Link) (s : State) : (clearLink l s).slots = s.slots := by
  cases l <;> rfl

@[simp] theorem clearLink_sched (l : Link) (s : State) : (clearLink l s).sched = s.sched := by
  cases l <;> rfl

@[simp] theorem clearLink_pass (l : Link) (s : State) : (clearLink l s).pass = s.pass := by
  cases l <;> rfl

@[simp] theorem clearLink_tag (l : Link) (s : State) : (clearLink l s).tag = s.tag := by
  cases l <;> rfl

@[simp] theorem clearLink_poller (l : Link) (s : State) : (clearLink l s).poller = s.poller := by
  cases l <;> rfl

@[simp] theorem clearLink_bus (l : Link) (s : State) : (clearLink l s).bus = s.bus := by
  cases l <;> rfl

@[simp] theorem clearLink_params (l : Link) (s : State) : (clearLink l s).params = s.params := by
  cases l <;> rfl

@[simp] theorem clearLink_freeCount (l : Link) (s : State) : (clearLink l s).freeCount = s.freeCount := by
  cases l <;> rfl

@[simp] theorem clearLink_todo (l : Link) (s : State) : (clearLink l s).todo = s.todo := by
  cases l <;> rfl

@[simp] theorem clearLink_pending (l : Link) (s : State) : (clearLink l s).pending = s.pending := by
  cases l <;> rfl

/-! ### `closeStreams` -/

@[simp] theorem closeStreams_tracker  (s : State) : (closeStreams s).tracker = s.tracker := rfl

@[simp] theorem closeStreams_marks  (s : State) : (closeStreams s).marks = s.marks := rfl

@[simp] theorem closeStreams_index  (s : State) : (closeStreams s).index = s.index := rfl

@[simp] theorem closeStreams_transport  (s : State) : (closeStreams s).transport = s.transport := rfl

@[simp] theorem closeStreams_lamp  (s : State) : (closeStreams s).lamp = s.lamp := rfl

@[simp] theorem closeStreams_roll  (s : State) : (closeStreams s).roll = s.roll := rfl

@[simp] theorem closeStreams_focus  (s : State) : (closeStreams s).focus = s.focus := rfl

@[simp] theorem closeStreams_zones  (s : State) : (closeStreams s).zones = s.zones := rfl

@[simp] theorem closeStreams_sweep  (s : State) : (closeStreams s).sweep = s.sweep := rfl

@[simp] theorem closeStreams_slots  (s : State) : (closeStreams s).slots = s.slots := rfl

@[simp] theorem closeStreams_sched  (s : State) : (closeStreams s).sched = s.sched := rfl

@[simp] theorem closeStreams_pass  (s : State) : (closeStreams s).pass = s.pass := rfl

@[simp] theorem closeStreams_tag  (s : State) : (closeStreams s).tag = s.tag := rfl

@[simp] theorem closeStreams_poller  (s : State) : (closeStreams s).poller = s.poller := rfl

@[simp] theorem closeStreams_bus  (s : State) : (closeStreams s).bus = s.bus := rfl

@[simp] theorem closeStreams_params  (s : State) : (closeStreams s).params = s.params := rfl

@[simp] theorem closeStreams_freeCount  (s : State) : (closeStreams s).freeCount = s.freeCount := rfl

@[simp] theorem closeStreams_todo  (s : State) : (closeStreams s).todo = s.todo := rfl

@[simp] theorem closeStreams_pending  (s : State) : (closeStreams s).pending = s.pending := rfl

/-! ### `flagBoth` -/

@[simp] theorem flagBoth_tracker (f : Flags → Flags) (s : State) : (flagBoth f s).tracker = s.tracker := rfl

@[simp] theorem flagBoth_marks (f : Flags → Flags) (s : State) : (flagBoth f s).marks = s.marks := rfl

@[simp] theorem flagBoth_index (f : Flags → Flags) (s : State) : (flagBoth f s).index = s.index := rfl

@[simp] theorem flagBoth_transport (f : Flags → Flags) (s : State) : (flagBoth f s).transport = s.transport := rfl

@[simp] theorem flagBoth_lamp (f : Flags → Flags) (s : State) : (flagBoth f s).lamp = s.lamp := rfl

@[simp] theorem flagBoth_roll (f : Flags → Flags) (s : State) : (flagBoth f s).roll = s.roll := rfl

@[simp] theorem flagBoth_focus (f : Flags → Flags) (s : State) : (flagBoth f s).focus = s.focus := rfl

@[simp] theorem flagBoth_zones (f : Flags → Flags) (s : State) : (flagBoth f s).zones = s.zones := rfl

@[simp] theorem flagBoth_sweep (f : Flags → Flags) (s : State) : (flagBoth f s).sweep = s.sweep := rfl

@[simp] theorem flagBoth_slots (f : Flags → Flags) (s : State) : (flagBoth f s).slots = s.slots := rfl

@[simp] theorem flagBoth_sched (f : Flags → Flags) (s : State) : (flagBoth f s).sched = s.sched := rfl

@[simp] theorem flagBoth_pass (f : Flags → Flags) (s : State) : (flagBoth f s).pass = s.pass := rfl

@[simp] theorem flagBoth_tag (f : Flags → Flags) (s : State) : (flagBoth f s).tag = s.tag := rfl

@[simp] theorem flagBoth_poller (f : Flags → Flags) (s : State) : (flagBoth f s).poller = s.poller := rfl

@[simp] theorem flagBoth_bus (f : Flags → Flags) (s : State) : (flagBoth f s).bus = s.bus := rfl

@[simp] theorem flagBoth_params (f : Flags → Flags) (s : State) : (flagBoth f s).params = s.params := rfl

@[simp] theorem flagBoth_freeCount (f : Flags → Flags) (s : State) : (flagBoth f s).freeCount = s.freeCount := rfl

@[simp] theorem flagBoth_todo (f : Flags → Flags) (s : State) : (flagBoth f s).todo = s.todo := rfl

@[simp] theorem flagBoth_pending (f : Flags → Flags) (s : State) : (flagBoth f s).pending = s.pending := rfl

/-! ### `flagTransport` -/

@[simp] theorem flagTransport_tracker (r : TransportReason) (s : State) : (flagTransport r s).tracker = s.tracker := rfl

@[simp] theorem flagTransport_marks (r : TransportReason) (s : State) : (flagTransport r s).marks = s.marks := rfl

@[simp] theorem flagTransport_index (r : TransportReason) (s : State) : (flagTransport r s).index = s.index := rfl

@[simp] theorem flagTransport_transport (r : TransportReason) (s : State) : (flagTransport r s).transport = s.transport := rfl

@[simp] theorem flagTransport_lamp (r : TransportReason) (s : State) : (flagTransport r s).lamp = s.lamp := rfl

@[simp] theorem flagTransport_roll (r : TransportReason) (s : State) : (flagTransport r s).roll = s.roll := rfl

@[simp] theorem flagTransport_focus (r : TransportReason) (s : State) : (flagTransport r s).focus = s.focus := rfl

@[simp] theorem flagTransport_zones (r : TransportReason) (s : State) : (flagTransport r s).zones = s.zones := rfl

@[simp] theorem flagTransport_sweep (r : TransportReason) (s : State) : (flagTransport r s).sweep = s.sweep := rfl

@[simp] theorem flagTransport_slots (r : TransportReason) (s : State) : (flagTransport r s).slots = s.slots := rfl

@[simp] theorem flagTransport_sched (r : TransportReason) (s : State) : (flagTransport r s).sched = s.sched := rfl

@[simp] theorem flagTransport_pass (r : TransportReason) (s : State) : (flagTransport r s).pass = s.pass := rfl

@[simp] theorem flagTransport_tag (r : TransportReason) (s : State) : (flagTransport r s).tag = s.tag := rfl

@[simp] theorem flagTransport_poller (r : TransportReason) (s : State) : (flagTransport r s).poller = s.poller := rfl

@[simp] theorem flagTransport_bus (r : TransportReason) (s : State) : (flagTransport r s).bus = s.bus := rfl

@[simp] theorem flagTransport_params (r : TransportReason) (s : State) : (flagTransport r s).params = s.params := rfl

@[simp] theorem flagTransport_freeCount (r : TransportReason) (s : State) : (flagTransport r s).freeCount = s.freeCount := rfl

@[simp] theorem flagTransport_todo (r : TransportReason) (s : State) : (flagTransport r s).todo = s.todo := rfl

@[simp] theorem flagTransport_pending (r : TransportReason) (s : State) : (flagTransport r s).pending = s.pending := rfl

/-! ### `flagIndex` -/

@[simp] theorem flagIndex_tracker (r : IndexReason) (s : State) : (flagIndex r s).tracker = s.tracker := rfl

@[simp] theorem flagIndex_marks (r : IndexReason) (s : State) : (flagIndex r s).marks = s.marks := rfl

@[simp] theorem flagIndex_index (r : IndexReason) (s : State) : (flagIndex r s).index = s.index := rfl

@[simp] theorem flagIndex_transport (r : IndexReason) (s : State) : (flagIndex r s).transport = s.transport := rfl

@[simp] theorem flagIndex_lamp (r : IndexReason) (s : State) : (flagIndex r s).lamp = s.lamp := rfl

@[simp] theorem flagIndex_roll (r : IndexReason) (s : State) : (flagIndex r s).roll = s.roll := rfl

@[simp] theorem flagIndex_focus (r : IndexReason) (s : State) : (flagIndex r s).focus = s.focus := rfl

@[simp] theorem flagIndex_zones (r : IndexReason) (s : State) : (flagIndex r s).zones = s.zones := rfl

@[simp] theorem flagIndex_sweep (r : IndexReason) (s : State) : (flagIndex r s).sweep = s.sweep := rfl

@[simp] theorem flagIndex_slots (r : IndexReason) (s : State) : (flagIndex r s).slots = s.slots := rfl

@[simp] theorem flagIndex_sched (r : IndexReason) (s : State) : (flagIndex r s).sched = s.sched := rfl

@[simp] theorem flagIndex_pass (r : IndexReason) (s : State) : (flagIndex r s).pass = s.pass := rfl

@[simp] theorem flagIndex_tag (r : IndexReason) (s : State) : (flagIndex r s).tag = s.tag := rfl

@[simp] theorem flagIndex_poller (r : IndexReason) (s : State) : (flagIndex r s).poller = s.poller := rfl

@[simp] theorem flagIndex_bus (r : IndexReason) (s : State) : (flagIndex r s).bus = s.bus := rfl

@[simp] theorem flagIndex_params (r : IndexReason) (s : State) : (flagIndex r s).params = s.params := rfl

@[simp] theorem flagIndex_freeCount (r : IndexReason) (s : State) : (flagIndex r s).freeCount = s.freeCount := rfl

@[simp] theorem flagIndex_todo (r : IndexReason) (s : State) : (flagIndex r s).todo = s.todo := rfl

@[simp] theorem flagIndex_pending (r : IndexReason) (s : State) : (flagIndex r s).pending = s.pending := rfl

/-! ### `flagTag` -/

@[simp] theorem flagTag_tracker (r : TagReason) (s : State) : (flagTag r s).tracker = s.tracker := rfl

@[simp] theorem flagTag_marks (r : TagReason) (s : State) : (flagTag r s).marks = s.marks := rfl

@[simp] theorem flagTag_index (r : TagReason) (s : State) : (flagTag r s).index = s.index := rfl

@[simp] theorem flagTag_transport (r : TagReason) (s : State) : (flagTag r s).transport = s.transport := rfl

@[simp] theorem flagTag_lamp (r : TagReason) (s : State) : (flagTag r s).lamp = s.lamp := rfl

@[simp] theorem flagTag_roll (r : TagReason) (s : State) : (flagTag r s).roll = s.roll := rfl

@[simp] theorem flagTag_focus (r : TagReason) (s : State) : (flagTag r s).focus = s.focus := rfl

@[simp] theorem flagTag_zones (r : TagReason) (s : State) : (flagTag r s).zones = s.zones := rfl

@[simp] theorem flagTag_sweep (r : TagReason) (s : State) : (flagTag r s).sweep = s.sweep := rfl

@[simp] theorem flagTag_slots (r : TagReason) (s : State) : (flagTag r s).slots = s.slots := rfl

@[simp] theorem flagTag_sched (r : TagReason) (s : State) : (flagTag r s).sched = s.sched := rfl

@[simp] theorem flagTag_pass (r : TagReason) (s : State) : (flagTag r s).pass = s.pass := rfl

@[simp] theorem flagTag_tag (r : TagReason) (s : State) : (flagTag r s).tag = s.tag := rfl

@[simp] theorem flagTag_poller (r : TagReason) (s : State) : (flagTag r s).poller = s.poller := rfl

@[simp] theorem flagTag_bus (r : TagReason) (s : State) : (flagTag r s).bus = s.bus := rfl

@[simp] theorem flagTag_params (r : TagReason) (s : State) : (flagTag r s).params = s.params := rfl

@[simp] theorem flagTag_freeCount (r : TagReason) (s : State) : (flagTag r s).freeCount = s.freeCount := rfl

@[simp] theorem flagTag_todo (r : TagReason) (s : State) : (flagTag r s).todo = s.todo := rfl

@[simp] theorem flagTag_pending (r : TagReason) (s : State) : (flagTag r s).pending = s.pending := rfl

/-! ### `flagRoll` -/

@[simp] theorem flagRoll_tracker  (s : State) : (flagRoll s).tracker = s.tracker := rfl

@[simp] theorem flagRoll_marks  (s : State) : (flagRoll s).marks = s.marks := rfl

@[simp] theorem flagRoll_index  (s : State) : (flagRoll s).index = s.index := rfl

@[simp] theorem flagRoll_transport  (s : State) : (flagRoll s).transport = s.transport := rfl

@[simp] theorem flagRoll_lamp  (s : State) : (flagRoll s).lamp = s.lamp := rfl

@[simp] theorem flagRoll_roll  (s : State) : (flagRoll s).roll = s.roll := rfl

@[simp] theorem flagRoll_focus  (s : State) : (flagRoll s).focus = s.focus := rfl

@[simp] theorem flagRoll_zones  (s : State) : (flagRoll s).zones = s.zones := rfl

@[simp] theorem flagRoll_sweep  (s : State) : (flagRoll s).sweep = s.sweep := rfl

@[simp] theorem flagRoll_slots  (s : State) : (flagRoll s).slots = s.slots := rfl

@[simp] theorem flagRoll_sched  (s : State) : (flagRoll s).sched = s.sched := rfl

@[simp] theorem flagRoll_pass  (s : State) : (flagRoll s).pass = s.pass := rfl

@[simp] theorem flagRoll_tag  (s : State) : (flagRoll s).tag = s.tag := rfl

@[simp] theorem flagRoll_poller  (s : State) : (flagRoll s).poller = s.poller := rfl

@[simp] theorem flagRoll_bus  (s : State) : (flagRoll s).bus = s.bus := rfl

@[simp] theorem flagRoll_params  (s : State) : (flagRoll s).params = s.params := rfl

@[simp] theorem flagRoll_freeCount  (s : State) : (flagRoll s).freeCount = s.freeCount := rfl

@[simp] theorem flagRoll_todo  (s : State) : (flagRoll s).todo = s.todo := rfl

@[simp] theorem flagRoll_pending  (s : State) : (flagRoll s).pending = s.pending := rfl

/-! ### `flagLamp` -/

@[simp] theorem flagLamp_tracker  (s : State) : (flagLamp s).tracker = s.tracker := rfl

@[simp] theorem flagLamp_marks  (s : State) : (flagLamp s).marks = s.marks := rfl

@[simp] theorem flagLamp_index  (s : State) : (flagLamp s).index = s.index := rfl

@[simp] theorem flagLamp_transport  (s : State) : (flagLamp s).transport = s.transport := rfl

@[simp] theorem flagLamp_lamp  (s : State) : (flagLamp s).lamp = s.lamp := rfl

@[simp] theorem flagLamp_roll  (s : State) : (flagLamp s).roll = s.roll := rfl

@[simp] theorem flagLamp_focus  (s : State) : (flagLamp s).focus = s.focus := rfl

@[simp] theorem flagLamp_zones  (s : State) : (flagLamp s).zones = s.zones := rfl

@[simp] theorem flagLamp_sweep  (s : State) : (flagLamp s).sweep = s.sweep := rfl

@[simp] theorem flagLamp_slots  (s : State) : (flagLamp s).slots = s.slots := rfl

@[simp] theorem flagLamp_sched  (s : State) : (flagLamp s).sched = s.sched := rfl

@[simp] theorem flagLamp_pass  (s : State) : (flagLamp s).pass = s.pass := rfl

@[simp] theorem flagLamp_tag  (s : State) : (flagLamp s).tag = s.tag := rfl

@[simp] theorem flagLamp_poller  (s : State) : (flagLamp s).poller = s.poller := rfl

@[simp] theorem flagLamp_bus  (s : State) : (flagLamp s).bus = s.bus := rfl

@[simp] theorem flagLamp_params  (s : State) : (flagLamp s).params = s.params := rfl

@[simp] theorem flagLamp_freeCount  (s : State) : (flagLamp s).freeCount = s.freeCount := rfl

@[simp] theorem flagLamp_todo  (s : State) : (flagLamp s).todo = s.todo := rfl

@[simp] theorem flagLamp_pending  (s : State) : (flagLamp s).pending = s.pending := rfl

/-! ### `latchBoth` -/

@[simp] theorem latchBoth_tracker (x : Inputs) (s : State) : (latchBoth x s).tracker = s.tracker := rfl

@[simp] theorem latchBoth_marks (x : Inputs) (s : State) : (latchBoth x s).marks = s.marks := rfl

@[simp] theorem latchBoth_index (x : Inputs) (s : State) : (latchBoth x s).index = s.index := rfl

@[simp] theorem latchBoth_transport (x : Inputs) (s : State) : (latchBoth x s).transport = s.transport := rfl

@[simp] theorem latchBoth_lamp (x : Inputs) (s : State) : (latchBoth x s).lamp = s.lamp := rfl

@[simp] theorem latchBoth_roll (x : Inputs) (s : State) : (latchBoth x s).roll = s.roll := rfl

@[simp] theorem latchBoth_focus (x : Inputs) (s : State) : (latchBoth x s).focus = s.focus := rfl

@[simp] theorem latchBoth_zones (x : Inputs) (s : State) : (latchBoth x s).zones = s.zones := rfl

@[simp] theorem latchBoth_sweep (x : Inputs) (s : State) : (latchBoth x s).sweep = s.sweep := rfl

@[simp] theorem latchBoth_slots (x : Inputs) (s : State) : (latchBoth x s).slots = s.slots := rfl

@[simp] theorem latchBoth_sched (x : Inputs) (s : State) : (latchBoth x s).sched = s.sched := rfl

@[simp] theorem latchBoth_pass (x : Inputs) (s : State) : (latchBoth x s).pass = s.pass := rfl

@[simp] theorem latchBoth_tag (x : Inputs) (s : State) : (latchBoth x s).tag = s.tag := rfl

@[simp] theorem latchBoth_poller (x : Inputs) (s : State) : (latchBoth x s).poller = s.poller := rfl

@[simp] theorem latchBoth_bus (x : Inputs) (s : State) : (latchBoth x s).bus = s.bus := rfl

@[simp] theorem latchBoth_params (x : Inputs) (s : State) : (latchBoth x s).params = s.params := rfl

@[simp] theorem latchBoth_freeCount (x : Inputs) (s : State) : (latchBoth x s).freeCount = s.freeCount := rfl

@[simp] theorem latchBoth_todo (x : Inputs) (s : State) : (latchBoth x s).todo = s.todo := rfl

@[simp] theorem latchBoth_pending (x : Inputs) (s : State) : (latchBoth x s).pending = s.pending := rfl

/-! ### `onEntry` -/

@[simp] theorem onEntry_tracker (k : Nat) (f : Entry → Entry) (s : State) : (onEntry k f s).tracker = s.tracker := by
  unfold onEntry; split <;> rfl

@[simp] theorem onEntry_marks (k : Nat) (f : Entry → Entry) (s : State) : (onEntry k f s).marks = s.marks := by
  unfold onEntry; split <;> rfl

@[simp] theorem onEntry_transport (k : Nat) (f : Entry → Entry) (s : State) : (onEntry k f s).transport = s.transport := by
  unfold onEntry; split <;> rfl

@[simp] theorem onEntry_lamp (k : Nat) (f : Entry → Entry) (s : State) : (onEntry k f s).lamp = s.lamp := by
  unfold onEntry; split <;> rfl

@[simp] theorem onEntry_roll (k : Nat) (f : Entry → Entry) (s : State) : (onEntry k f s).roll = s.roll := by
  unfold onEntry; split <;> rfl

@[simp] theorem onEntry_focus (k : Nat) (f : Entry → Entry) (s : State) : (onEntry k f s).focus = s.focus := by
  unfold onEntry; split <;> rfl

@[simp] theorem onEntry_zones (k : Nat) (f : Entry → Entry) (s : State) : (onEntry k f s).zones = s.zones := by
  unfold onEntry; split <;> rfl

@[simp] theorem onEntry_sweep (k : Nat) (f : Entry → Entry) (s : State) : (onEntry k f s).sweep = s.sweep := by
  unfold onEntry; split <;> rfl

@[simp] theorem onEntry_slots (k : Nat) (f : Entry → Entry) (s : State) : (onEntry k f s).slots = s.slots := by
  unfold onEntry; split <;> rfl

@[simp] theorem onEntry_sched (k : Nat) (f : Entry → Entry) (s : State) : (onEntry k f s).sched = s.sched := by
  unfold onEntry; split <;> rfl

@[simp] theorem onEntry_pass (k : Nat) (f : Entry → Entry) (s : State) : (onEntry k f s).pass = s.pass := by
  unfold onEntry; split <;> rfl

@[simp] theorem onEntry_tag (k : Nat) (f : Entry → Entry) (s : State) : (onEntry k f s).tag = s.tag := by
  unfold onEntry; split <;> rfl

@[simp] theorem onEntry_poller (k : Nat) (f : Entry → Entry) (s : State) : (onEntry k f s).poller = s.poller := by
  unfold onEntry; split <;> rfl

@[simp] theorem onEntry_bus (k : Nat) (f : Entry → Entry) (s : State) : (onEntry k f s).bus = s.bus := by
  unfold onEntry; split <;> rfl

@[simp] theorem onEntry_params (k : Nat) (f : Entry → Entry) (s : State) : (onEntry k f s).params = s.params := by
  unfold onEntry; split <;> rfl

@[simp] theorem onEntry_linkA (k : Nat) (f : Entry → Entry) (s : State) : (onEntry k f s).linkA = s.linkA := by
  unfold onEntry; split <;> rfl

@[simp] theorem onEntry_linkB (k : Nat) (f : Entry → Entry) (s : State) : (onEntry k f s).linkB = s.linkB := by
  unfold onEntry; split <;> rfl

@[simp] theorem onEntry_freeCount (k : Nat) (f : Entry → Entry) (s : State) : (onEntry k f s).freeCount = s.freeCount := by
  unfold onEntry; split <;> rfl

@[simp] theorem onEntry_todo (k : Nat) (f : Entry → Entry) (s : State) : (onEntry k f s).todo = s.todo := by
  unfold onEntry; split <;> rfl

@[simp] theorem onEntry_pending (k : Nat) (f : Entry → Entry) (s : State) : (onEntry k f s).pending = s.pending := by
  unfold onEntry; split <;> rfl

@[simp] theorem onEntry_extent (k : Nat) (f : Entry → Entry) (s : State) : (onEntry k f s).extent = s.extent := by
  unfold onEntry State.extent; split <;> simp

/-! ### `setLevel` -/

@[simp] theorem setLevel_index (x : Level) (s : State) : (setLevel x s).index = s.index := by
  unfold setLevel; dsimp only; split <;> rfl

@[simp] theorem setLevel_transport (x : Level) (s : State) : (setLevel x s).transport = s.transport := by
  unfold setLevel; dsimp only; split <;> rfl

@[simp] theorem setLevel_lamp (x : Level) (s : State) : (setLevel x s).lamp = s.lamp := by
  unfold setLevel; dsimp only; split <;> rfl

@[simp] theorem setLevel_roll (x : Level) (s : State) : (setLevel x s).roll = s.roll := by
  unfold setLevel; dsimp only; split <;> rfl

@[simp] theorem setLevel_focus (x : Level) (s : State) : (setLevel x s).focus = s.focus := by
  unfold setLevel; dsimp only; split <;> rfl

@[simp] theorem setLevel_zones (x : Level) (s : State) : (setLevel x s).zones = s.zones := by
  unfold setLevel; dsimp only; split <;> rfl

@[simp] theorem setLevel_sweep (x : Level) (s : State) : (setLevel x s).sweep = s.sweep := by
  unfold setLevel; dsimp only; split <;> rfl

@[simp] theorem setLevel_slots (x : Level) (s : State) : (setLevel x s).slots = s.slots := by
  unfold setLevel; dsimp only; split <;> rfl

@[simp] theorem setLevel_sched (x : Level) (s : State) : (setLevel x s).sched = s.sched := by
  unfold setLevel; dsimp only; split <;> rfl

@[simp] theorem setLevel_pass (x : Level) (s : State) : (setLevel x s).pass = s.pass := by
  unfold setLevel; dsimp only; split <;> rfl

@[simp] theorem setLevel_tag (x : Level) (s : State) : (setLevel x s).tag = s.tag := by
  unfold setLevel; dsimp only; split <;> rfl

@[simp] theorem setLevel_poller (x : Level) (s : State) : (setLevel x s).poller = s.poller := by
  unfold setLevel; dsimp only; split <;> rfl

@[simp] theorem setLevel_bus (x : Level) (s : State) : (setLevel x s).bus = s.bus := by
  unfold setLevel; dsimp only; split <;> rfl

@[simp] theorem setLevel_params (x : Level) (s : State) : (setLevel x s).params = s.params := by
  unfold setLevel; dsimp only; split <;> rfl

@[simp] theorem setLevel_linkA (x : Level) (s : State) : (setLevel x s).linkA = s.linkA := by
  unfold setLevel; dsimp only; split <;> rfl

@[simp] theorem setLevel_linkB (x : Level) (s : State) : (setLevel x s).linkB = s.linkB := by
  unfold setLevel; dsimp only; split <;> rfl

@[simp] theorem setLevel_freeCount (x : Level) (s : State) : (setLevel x s).freeCount = s.freeCount := by
  unfold setLevel; dsimp only; split <;> rfl

@[simp] theorem setLevel_todo (x : Level) (s : State) : (setLevel x s).todo = s.todo := by
  unfold setLevel; dsimp only; split <;> rfl

@[simp] theorem setLevel_pending (x : Level) (s : State) : (setLevel x s).pending = s.pending := by
  unfold setLevel; dsimp only; split <;> rfl

@[simp] theorem setLevel_tracker (x : Level) (s : State) :
    (setLevel x s).tracker = { s.tracker with level := x, good := 0, miss := 0 } := by
  unfold setLevel; dsimp only; split <;> rfl

/-! ### `yieldDue` -/

@[simp] theorem yieldDue_tracker (s : State) : (yieldDue s).tracker = s.tracker := rfl

@[simp] theorem yieldDue_marks (s : State) : (yieldDue s).marks = s.marks := rfl

@[simp] theorem yieldDue_index (s : State) : (yieldDue s).index = s.index := rfl

@[simp] theorem yieldDue_transport (s : State) : (yieldDue s).transport = s.transport := rfl

@[simp] theorem yieldDue_lamp (s : State) : (yieldDue s).lamp = s.lamp := rfl

@[simp] theorem yieldDue_roll (s : State) : (yieldDue s).roll = s.roll := rfl

@[simp] theorem yieldDue_focus (s : State) : (yieldDue s).focus = s.focus := rfl

@[simp] theorem yieldDue_zones (s : State) : (yieldDue s).zones = s.zones := rfl

@[simp] theorem yieldDue_sweep (s : State) : (yieldDue s).sweep = s.sweep := rfl

@[simp] theorem yieldDue_slots (s : State) : (yieldDue s).slots = s.slots := rfl

@[simp] theorem yieldDue_sched (s : State) : (yieldDue s).sched = s.sched := rfl

@[simp] theorem yieldDue_tag (s : State) : (yieldDue s).tag = s.tag := rfl

@[simp] theorem yieldDue_poller (s : State) : (yieldDue s).poller = s.poller := rfl

@[simp] theorem yieldDue_bus (s : State) : (yieldDue s).bus = s.bus := rfl

@[simp] theorem yieldDue_params (s : State) : (yieldDue s).params = s.params := rfl

@[simp] theorem yieldDue_linkA (s : State) : (yieldDue s).linkA = s.linkA := rfl

@[simp] theorem yieldDue_linkB (s : State) : (yieldDue s).linkB = s.linkB := rfl

@[simp] theorem yieldDue_freeCount (s : State) : (yieldDue s).freeCount = s.freeCount := rfl

@[simp] theorem yieldDue_todo (s : State) : (yieldDue s).todo = s.todo := rfl

@[simp] theorem yieldDue_pending (s : State) : (yieldDue s).pending = s.pending := rfl

@[simp] theorem yieldDue_pass (s : State) : (yieldDue s).pass =
    { s.pass with yieldAsked := s.pass.yieldAsked || s.pass.yieldLater, yieldLater := false } := rfl

/-! ### `sweepMade` -/

@[simp] theorem sweepMade_tracker (k : Nat) (s : State) : (sweepMade k s).tracker = s.tracker := rfl

@[simp] theorem sweepMade_marks (k : Nat) (s : State) : (sweepMade k s).marks = s.marks := rfl

@[simp] theorem sweepMade_index (k : Nat) (s : State) : (sweepMade k s).index = s.index := rfl

@[simp] theorem sweepMade_transport (k : Nat) (s : State) : (sweepMade k s).transport = s.transport := rfl

@[simp] theorem sweepMade_lamp (k : Nat) (s : State) : (sweepMade k s).lamp = s.lamp := rfl

@[simp] theorem sweepMade_roll (k : Nat) (s : State) : (sweepMade k s).roll = s.roll := rfl

@[simp] theorem sweepMade_focus (k : Nat) (s : State) : (sweepMade k s).focus = s.focus := rfl

@[simp] theorem sweepMade_zones (k : Nat) (s : State) : (sweepMade k s).zones = s.zones := rfl

@[simp] theorem sweepMade_sweep (k : Nat) (s : State) : (sweepMade k s).sweep = s.sweep := rfl

@[simp] theorem sweepMade_slots (k : Nat) (s : State) : (sweepMade k s).slots = s.slots := rfl

@[simp] theorem sweepMade_sched (k : Nat) (s : State) : (sweepMade k s).sched = s.sched := rfl

@[simp] theorem sweepMade_tag (k : Nat) (s : State) : (sweepMade k s).tag = s.tag := rfl

@[simp] theorem sweepMade_poller (k : Nat) (s : State) : (sweepMade k s).poller = s.poller := rfl

@[simp] theorem sweepMade_bus (k : Nat) (s : State) : (sweepMade k s).bus = s.bus := rfl

@[simp] theorem sweepMade_params (k : Nat) (s : State) : (sweepMade k s).params = s.params := rfl

@[simp] theorem sweepMade_linkA (k : Nat) (s : State) : (sweepMade k s).linkA = s.linkA := rfl

@[simp] theorem sweepMade_linkB (k : Nat) (s : State) : (sweepMade k s).linkB = s.linkB := rfl

@[simp] theorem sweepMade_freeCount (k : Nat) (s : State) : (sweepMade k s).freeCount = s.freeCount := rfl

@[simp] theorem sweepMade_todo (k : Nat) (s : State) : (sweepMade k s).todo = s.todo := rfl

@[simp] theorem sweepMade_pending (k : Nat) (s : State) : (sweepMade k s).pending = s.pending := rfl

@[simp] theorem sweepMade_pass (k : Nat) (s : State) : (sweepMade k s).pass =
    { s.pass with sweepOwed := s.pass.sweepOwed.erase k } := rfl

/-! ### `judgeAdded` -/

@[simp] theorem judgeAdded_tracker (g : Segment) (s : State) : (judgeAdded g s).tracker = s.tracker := rfl

@[simp] theorem judgeAdded_marks (g : Segment) (s : State) : (judgeAdded g s).marks = s.marks := rfl

@[simp] theorem judgeAdded_index (g : Segment) (s : State) : (judgeAdded g s).index = s.index := rfl

@[simp] theorem judgeAdded_transport (g : Segment) (s : State) : (judgeAdded g s).transport = s.transport := rfl

@[simp] theorem judgeAdded_lamp (g : Segment) (s : State) : (judgeAdded g s).lamp = s.lamp := rfl

@[simp] theorem judgeAdded_roll (g : Segment) (s : State) : (judgeAdded g s).roll = s.roll := rfl

@[simp] theorem judgeAdded_focus (g : Segment) (s : State) : (judgeAdded g s).focus = s.focus := rfl

@[simp] theorem judgeAdded_zones (g : Segment) (s : State) : (judgeAdded g s).zones = s.zones := rfl

@[simp] theorem judgeAdded_sweep (g : Segment) (s : State) : (judgeAdded g s).sweep = s.sweep := rfl

@[simp] theorem judgeAdded_slots (g : Segment) (s : State) : (judgeAdded g s).slots = s.slots := rfl

@[simp] theorem judgeAdded_sched (g : Segment) (s : State) : (judgeAdded g s).sched = s.sched := rfl

@[simp] theorem judgeAdded_tag (g : Segment) (s : State) : (judgeAdded g s).tag = s.tag := rfl

@[simp] theorem judgeAdded_poller (g : Segment) (s : State) : (judgeAdded g s).poller = s.poller := rfl

@[simp] theorem judgeAdded_bus (g : Segment) (s : State) : (judgeAdded g s).bus = s.bus := rfl

@[simp] theorem judgeAdded_params (g : Segment) (s : State) : (judgeAdded g s).params = s.params := rfl

@[simp] theorem judgeAdded_linkA (g : Segment) (s : State) : (judgeAdded g s).linkA = s.linkA := rfl

@[simp] theorem judgeAdded_linkB (g : Segment) (s : State) : (judgeAdded g s).linkB = s.linkB := rfl

@[simp] theorem judgeAdded_freeCount (g : Segment) (s : State) : (judgeAdded g s).freeCount = s.freeCount := rfl

@[simp] theorem judgeAdded_todo (g : Segment) (s : State) : (judgeAdded g s).todo = s.todo := rfl

@[simp] theorem judgeAdded_pending (g : Segment) (s : State) : (judgeAdded g s).pending = s.pending := rfl

/-! ### `judgeNext` -/

@[simp] theorem judgeNext_tracker (g : Segment) (s : State) : (judgeNext g s).tracker = s.tracker := by
  unfold judgeNext; (repeat' split) <;> rfl

@[simp] theorem judgeNext_marks (g : Segment) (s : State) : (judgeNext g s).marks = s.marks := by
  unfold judgeNext; (repeat' split) <;> rfl

@[simp] theorem judgeNext_index (g : Segment) (s : State) : (judgeNext g s).index = s.index := by
  unfold judgeNext; (repeat' split) <;> rfl

@[simp] theorem judgeNext_transport (g : Segment) (s : State) : (judgeNext g s).transport = s.transport := by
  unfold judgeNext; (repeat' split) <;> rfl

@[simp] theorem judgeNext_lamp (g : Segment) (s : State) : (judgeNext g s).lamp = s.lamp := by
  unfold judgeNext; (repeat' split) <;> rfl

@[simp] theorem judgeNext_roll (g : Segment) (s : State) : (judgeNext g s).roll = s.roll := by
  unfold judgeNext; (repeat' split) <;> rfl

@[simp] theorem judgeNext_focus (g : Segment) (s : State) : (judgeNext g s).focus = s.focus := by
  unfold judgeNext; (repeat' split) <;> rfl

@[simp] theorem judgeNext_zones (g : Segment) (s : State) : (judgeNext g s).zones = s.zones := by
  unfold judgeNext; (repeat' split) <;> rfl

@[simp] theorem judgeNext_sweep (g : Segment) (s : State) : (judgeNext g s).sweep = s.sweep := by
  unfold judgeNext; (repeat' split) <;> rfl

@[simp] theorem judgeNext_slots (g : Segment) (s : State) : (judgeNext g s).slots = s.slots := by
  unfold judgeNext; (repeat' split) <;> rfl

@[simp] theorem judgeNext_sched (g : Segment) (s : State) : (judgeNext g s).sched = s.sched := by
  unfold judgeNext; (repeat' split) <;> rfl

@[simp] theorem judgeNext_tag (g : Segment) (s : State) : (judgeNext g s).tag = s.tag := by
  unfold judgeNext; (repeat' split) <;> rfl

@[simp] theorem judgeNext_poller (g : Segment) (s : State) : (judgeNext g s).poller = s.poller := by
  unfold judgeNext; (repeat' split) <;> rfl

@[simp] theorem judgeNext_bus (g : Segment) (s : State) : (judgeNext g s).bus = s.bus := by
  unfold judgeNext; (repeat' split) <;> rfl

@[simp] theorem judgeNext_params (g : Segment) (s : State) : (judgeNext g s).params = s.params := by
  unfold judgeNext; (repeat' split) <;> rfl

@[simp] theorem judgeNext_linkA (g : Segment) (s : State) : (judgeNext g s).linkA = s.linkA := by
  unfold judgeNext; (repeat' split) <;> rfl

@[simp] theorem judgeNext_linkB (g : Segment) (s : State) : (judgeNext g s).linkB = s.linkB := by
  unfold judgeNext; (repeat' split) <;> rfl

@[simp] theorem judgeNext_freeCount (g : Segment) (s : State) : (judgeNext g s).freeCount = s.freeCount := by
  unfold judgeNext; (repeat' split) <;> rfl

@[simp] theorem judgeNext_todo (g : Segment) (s : State) : (judgeNext g s).todo = s.todo := by
  unfold judgeNext; (repeat' split) <;> rfl

@[simp] theorem judgeNext_pending (g : Segment) (s : State) : (judgeNext g s).pending = s.pending := by
  unfold judgeNext; (repeat' split) <;> rfl

/-! ### `judgeAgain` -/

@[simp] theorem judgeAgain_tracker (s : State) : (judgeAgain s).tracker = s.tracker := by
  unfold judgeAgain; split <;> rfl

@[simp] theorem judgeAgain_marks (s : State) : (judgeAgain s).marks = s.marks := by
  unfold judgeAgain; split <;> rfl

@[simp] theorem judgeAgain_index (s : State) : (judgeAgain s).index = s.index := by
  unfold judgeAgain; split <;> rfl

@[simp] theorem judgeAgain_transport (s : State) : (judgeAgain s).transport = s.transport := by
  unfold judgeAgain; split <;> rfl

@[simp] theorem judgeAgain_lamp (s : State) : (judgeAgain s).lamp = s.lamp := by
  unfold judgeAgain; split <;> rfl

@[simp] theorem judgeAgain_roll (s : State) : (judgeAgain s).roll = s.roll := by
  unfold judgeAgain; split <;> rfl

@[simp] theorem judgeAgain_focus (s : State) : (judgeAgain s).focus = s.focus := by
  unfold judgeAgain; split <;> rfl

@[simp] theorem judgeAgain_zones (s : State) : (judgeAgain s).zones = s.zones := by
  unfold judgeAgain; split <;> rfl

@[simp] theorem judgeAgain_sweep (s : State) : (judgeAgain s).sweep = s.sweep := by
  unfold judgeAgain; split <;> rfl

@[simp] theorem judgeAgain_slots (s : State) : (judgeAgain s).slots = s.slots := by
  unfold judgeAgain; split <;> rfl

@[simp] theorem judgeAgain_sched (s : State) : (judgeAgain s).sched = s.sched := by
  unfold judgeAgain; split <;> rfl

@[simp] theorem judgeAgain_tag (s : State) : (judgeAgain s).tag = s.tag := by
  unfold judgeAgain; split <;> rfl

@[simp] theorem judgeAgain_poller (s : State) : (judgeAgain s).poller = s.poller := by
  unfold judgeAgain; split <;> rfl

@[simp] theorem judgeAgain_bus (s : State) : (judgeAgain s).bus = s.bus := by
  unfold judgeAgain; split <;> rfl

@[simp] theorem judgeAgain_params (s : State) : (judgeAgain s).params = s.params := by
  unfold judgeAgain; split <;> rfl

@[simp] theorem judgeAgain_linkA (s : State) : (judgeAgain s).linkA = s.linkA := by
  unfold judgeAgain; split <;> rfl

@[simp] theorem judgeAgain_linkB (s : State) : (judgeAgain s).linkB = s.linkB := by
  unfold judgeAgain; split <;> rfl

@[simp] theorem judgeAgain_freeCount (s : State) : (judgeAgain s).freeCount = s.freeCount := by
  unfold judgeAgain; split <;> rfl

@[simp] theorem judgeAgain_todo (s : State) : (judgeAgain s).todo = s.todo := by
  unfold judgeAgain; split <;> rfl

@[simp] theorem judgeAgain_pending (s : State) : (judgeAgain s).pending = s.pending := by
  unfold judgeAgain; split <;> rfl

/-! ### `countOrdinal` -/

@[simp] theorem countOrdinal_tracker (g : Segment) (k : Nat) (s : State) : (countOrdinal g k s).tracker = s.tracker := by
  unfold countOrdinal; split <;> rfl

@[simp] theorem countOrdinal_marks (g : Segment) (k : Nat) (s : State) : (countOrdinal g k s).marks = s.marks := by
  unfold countOrdinal; split <;> rfl

@[simp] theorem countOrdinal_index (g : Segment) (k : Nat) (s : State) : (countOrdinal g k s).index = s.index := by
  unfold countOrdinal; split <;> rfl

@[simp] theorem countOrdinal_transport (g : Segment) (k : Nat) (s : State) : (countOrdinal g k s).transport = s.transport := by
  unfold countOrdinal; split <;> rfl

@[simp] theorem countOrdinal_lamp (g : Segment) (k : Nat) (s : State) : (countOrdinal g k s).lamp = s.lamp := by
  unfold countOrdinal; split <;> rfl

@[simp] theorem countOrdinal_roll (g : Segment) (k : Nat) (s : State) : (countOrdinal g k s).roll = s.roll := by
  unfold countOrdinal; split <;> rfl

@[simp] theorem countOrdinal_focus (g : Segment) (k : Nat) (s : State) : (countOrdinal g k s).focus = s.focus := by
  unfold countOrdinal; split <;> rfl

@[simp] theorem countOrdinal_zones (g : Segment) (k : Nat) (s : State) : (countOrdinal g k s).zones = s.zones := by
  unfold countOrdinal; split <;> rfl

@[simp] theorem countOrdinal_sweep (g : Segment) (k : Nat) (s : State) : (countOrdinal g k s).sweep = s.sweep := by
  unfold countOrdinal; split <;> rfl

@[simp] theorem countOrdinal_slots (g : Segment) (k : Nat) (s : State) : (countOrdinal g k s).slots = s.slots := by
  unfold countOrdinal; split <;> rfl

@[simp] theorem countOrdinal_sched (g : Segment) (k : Nat) (s : State) : (countOrdinal g k s).sched = s.sched := by
  unfold countOrdinal; split <;> rfl

@[simp] theorem countOrdinal_tag (g : Segment) (k : Nat) (s : State) : (countOrdinal g k s).tag = s.tag := by
  unfold countOrdinal; split <;> rfl

@[simp] theorem countOrdinal_poller (g : Segment) (k : Nat) (s : State) : (countOrdinal g k s).poller = s.poller := by
  unfold countOrdinal; split <;> rfl

@[simp] theorem countOrdinal_bus (g : Segment) (k : Nat) (s : State) : (countOrdinal g k s).bus = s.bus := by
  unfold countOrdinal; split <;> rfl

@[simp] theorem countOrdinal_params (g : Segment) (k : Nat) (s : State) : (countOrdinal g k s).params = s.params := by
  unfold countOrdinal; split <;> rfl

@[simp] theorem countOrdinal_linkA (g : Segment) (k : Nat) (s : State) : (countOrdinal g k s).linkA = s.linkA := by
  unfold countOrdinal; split <;> rfl

@[simp] theorem countOrdinal_linkB (g : Segment) (k : Nat) (s : State) : (countOrdinal g k s).linkB = s.linkB := by
  unfold countOrdinal; split <;> rfl

@[simp] theorem countOrdinal_freeCount (g : Segment) (k : Nat) (s : State) : (countOrdinal g k s).freeCount = s.freeCount := by
  unfold countOrdinal; split <;> rfl

@[simp] theorem countOrdinal_todo (g : Segment) (k : Nat) (s : State) : (countOrdinal g k s).todo = s.todo := by
  unfold countOrdinal; split <;> rfl

@[simp] theorem countOrdinal_pending (g : Segment) (k : Nat) (s : State) : (countOrdinal g k s).pending = s.pending := by
  unfold countOrdinal; split <;> rfl

end Sys2Proof.Machine
end

