-- ==== Sys2Proof/Laws/Still.lean ====
section
/-! SUPPORT. What no consequence inside a command changes: every operation that a consequence runs leaves `State.still`
as it is, so everything that follows from a command does. -/

namespace Sys2Proof.Machine

open Sys2Proof

/-- What no consequence inside a command changes. -/
structure Still where
  pending : List Instr
  params : Params
  register : Nat
  direction : Direction
  poller : Poller
  bus : Bus
  zones : List Zone
  freeCount : Nat
  cartridge : Bool
  tagLoad : TagLoad
  active : Profile
  default : Profile
  modified : Bool
  focusStatus : FocusStatus
  lens : Nat
  homingSteps : Nat
  leaderIn : LeaderLevel
  slotCounter : BitVec 32
  tagStatus : TagStatus
  rollValid : Bool
  load : Option LoadRecord
  writeState : WriteState
  writePlan : List (Nat × TagRecord)
  loadAfterWrite : Bool
  trailer : Option Nat
  linkA : LinkState
  linkB : LinkState

/-- What no consequence inside a command changes, as a state holds it; of a link, all but its latched flags. -/
def State.still (s : State) : Still :=
  { pending := s.pending
    params := s.params
    register := s.tracker.register
    direction := s.tracker.direction
    poller := s.poller
    bus := s.bus
    zones := s.zones
    freeCount := s.freeCount
    cartridge := s.roll.cartridge
    tagLoad := s.roll.tagLoad
    active := s.roll.active
    default := s.roll.default
    modified := s.roll.modified
    focusStatus := s.focus.status
    lens := s.focus.position
    homingSteps := s.focus.homingSteps
    leaderIn := s.transport.leaderIn
    slotCounter := s.sched.counter
    tagStatus := s.tag.status
    rollValid := s.tag.rollValid
    load := s.tag.load
    writeState := s.tag.writeState
    writePlan := s.tag.writePlan
    loadAfterWrite := s.tag.loadAfterWrite
    trailer := s.index.trailer
    linkA := { s.linkA with flags := Flags.clear }
    linkB := { s.linkB with flags := Flags.clear } }

/-- An update that keeps these parts keeps the still part. -/
@[simp] theorem still_update (x : State) (tr : Tracker) (mk : Marks) (ix : FrameIndex) (tp : Transport) (lp : Lamp)
    (ro : Roll) (fo : Focus) (sw : Sweep) (sl : List Slot) (sc : Sched) (pa : Pass) (tg : Tag) (td : List Signal)
    (h1 : tr.register = x.tracker.register) (h2 : tr.direction = x.tracker.direction)
    (h3 : ix.trailer = x.index.trailer) (h4 : tp.leaderIn = x.transport.leaderIn)
    (h5 : ro.cartridge = x.roll.cartridge) (h6 : ro.tagLoad = x.roll.tagLoad) (h7 : ro.active = x.roll.active)
    (h8 : ro.default = x.roll.default) (h9 : ro.modified = x.roll.modified)
    (h10 : fo.status = x.focus.status) (h11 : fo.position = x.focus.position)
    (h12 : fo.homingSteps = x.focus.homingSteps) (h13 : sc.counter = x.sched.counter)
    (h14 : { tg with dirty := false } = { x.tag with dirty := false }) :
    (State.mk tr mk ix tp lp ro fo x.zones sw sl sc pa tg x.poller x.bus x.params x.linkA x.linkB x.freeCount td
      x.pending).still = x.still := by
  cases tg
  simp only [Tag.mk.injEq] at h14
  simp only [State.still, h1, h2, h3, h4, h5, h6, h7, h8, h9, h10, h11, h12, h13, h14]

/-- A latched flag is no part of the still part. -/
@[simp] theorem flagBoth_still (f : Flags → Flags) (s : State) : (flagBoth f s).still = s.still := rfl

@[simp] theorem flagOne_still (l : Link) (f : Flags → Flags) (s : State) : (flagOne l f s).still = s.still := by
  cases l <;> rfl

@[simp] theorem flagTransport_still (r : TransportReason) (s : State) : (flagTransport r s).still = s.still := rfl

@[simp] theorem flagIndex_still (r : IndexReason) (s : State) : (flagIndex r s).still = s.still := rfl

@[simp] theorem flagTag_still (r : TagReason) (s : State) : (flagTag r s).still = s.still := rfl

@[simp] theorem flagRoll_still  (s : State) : (flagRoll  s).still = s.still := rfl

@[simp] theorem flagLamp_still  (s : State) : (flagLamp  s).still = s.still := rfl

@[simp] theorem flagPassEnd_still (l : Link) (s : State) : (flagPassEnd l s).still = s.still := by
  cases l <;> rfl

@[simp] theorem flagFocus_still (l : Link) (s : State) : (flagFocus l s).still = s.still := by
  cases l <;> rfl

@[simp] theorem emit_still (sig : Signal) (s : State) : (emit sig s).still = s.still := rfl

@[simp] theorem onEntry_still (k : Nat) (f : Entry → Entry) (s : State) : (onEntry k f s).still = s.still := by
  unfold onEntry; (repeat' split) <;> rfl

@[simp] theorem setDirty_still  (s : State) : (setDirty  s).still = s.still := by
  unfold setDirty; rfl

@[simp] theorem onSlot_still (i : Nat) (f : Slot → Slot) (s : State) : (onSlot i f s).still = s.still := by
  unfold onSlot; rfl

@[simp] theorem onMove_still (f : Move → Move) (s : State) : (onMove f s).still = s.still := by
  unfold onMove; rfl

@[simp] theorem discardMark_still  (s : State) : (discardMark  s).still = s.still := by
  unfold discardMark; rfl

/-! ### Drive -/

@[simp] theorem setLamp_still (x : LampState) (s : State) : (setLamp x s).still = s.still := by
  unfold setLamp
  (repeat' split) <;> simp

@[simp] theorem warmExpired_still  (s : State) : (warmExpired  s).still = s.still := by
  unfold warmExpired
  (repeat' split) <;> simp

@[simp] theorem enterWarming_still (s : State) : (enterWarming s).still = s.still := by
  unfold enterWarming
  split
  · simp
  · exact (still_update (setLamp .warming s) _ _ _ _ _ _ _ _ _ _ _ _ _ rfl rfl rfl rfl rfl rfl rfl rfl rfl rfl rfl rfl
      rfl rfl).trans (setLamp_still _ s)

@[simp] theorem lampOnEntering_still (t : TState) (s : State) : (lampOnEntering t s).still = s.still := by
  unfold lampOnEntering
  (repeat' split) <;> simp

@[simp] theorem enterState_still (t : TState) (s : State) : (enterState t s).still = s.still := by
  unfold enterState
  (repeat' split) <;> simp

@[simp] theorem holdTension_still (s : State) : (holdTension s).still = s.still := rfl

@[simp] theorem enterWaking_still  (s : State) : (enterWaking  s).still = s.still := by
  unfold enterWaking
  simp

@[simp] theorem enterStandby_still (count : Option Nat) (s : State) : (enterStandby count s).still = s.still := by
  unfold enterStandby
  simp

@[simp] theorem givePulse_still  (s : State) : (givePulse  s).still = s.still := by
  unfold givePulse
  (repeat' split) <;> simp

@[simp] theorem freeGate_still  (s : State) : (freeGate  s).still = s.still := by
  unfold freeGate
  simp

@[simp] theorem holdGate_still (h : Holder) (s : State) : (holdGate h s).still = s.still := by
  unfold holdGate
  simp

@[simp] theorem leaveGate_still  (s : State) : (leaveGate  s).still = s.still := by
  unfold leaveGate
  simp

@[simp] theorem endGrant_still  (s : State) : (endGrant  s).still = s.still := by
  unfold endGrant
  simp

/-! ### Lens -/

@[simp] theorem lensArrived_still  (s : State) : (lensArrived  s).still = s.still := by
  unfold lensArrived
  (repeat' split) <;> simp

@[simp] theorem planLens_still  (s : State) : (planLens  s).still = s.still := by
  unfold planLens
  (repeat' split) <;> simp

@[simp] theorem setFocusTarget_still (t : Nat) (r : Requester) (s : State) : (setFocusTarget t r s).still = s.still := by
  unfold setFocusTarget
  (repeat' split) <;> simp

/-! ### Endings -/

@[simp] theorem finishSweep_still (result : SweepResult) (step : Option Nat) (quality : Option Quality) (store : StoreOutcome) (s : State) : (finishSweep result step quality store s).still = s.still := by
  unfold finishSweep
  (repeat' split) <;> simp

@[simp] theorem finishSweepBare_still (result : SweepResult) (s : State) : (finishSweepBare result s).still = s.still := by
  unfold finishSweepBare
  (repeat' split) <;> simp

@[simp] theorem onOutcome_still (i : Nat) (f : SegOutcome → SegOutcome) (s : State) : (onOutcome i f s).still = s.still := by
  unfold onOutcome
  simp

@[simp] theorem countFault_still (i : Nat) (c : FaultClass) (k : Nat) (s : State) : (countFault i c k s).still = s.still := by
  unfold countFault
  simp

@[simp] theorem stopHolding_still (o : PassOutcome) (s : State) : (stopHolding o s).still = s.still := by
  unfold stopHolding
  (repeat' split) <;> simp

@[simp] theorem finishPass_still (o : PassOutcome) (s : State) : (finishPass o s).still = s.still := by
  unfold finishPass
  (repeat' split) <;> simp

@[simp] theorem enterFaulted_still (kind : FaultKind) (s : State) : (enterFaulted kind s).still = s.still := by
  unfold enterFaulted
  (repeat' split) <;> simp

/-! ### Motion -/

@[simp] theorem setLevel_still (x : Level) (s : State) : (setLevel x s).still = s.still := by
  unfold setLevel
  (repeat' split) <;> simp

@[simp] theorem retrySucceeded_still (m : Move) (s : State) : (retrySucceeded m s).still = s.still := by
  unfold retrySucceeded
  (repeat' split) <;> simp

@[simp] theorem pauseFor_still (a : RestAction) (s : State) : (pauseFor a s).still = s.still := by
  unfold pauseFor
  simp

@[simp] theorem stopFor_still (o : MoveOutcome) (s : State) : (stopFor o s).still = s.still := by
  unfold stopFor
  simp

@[simp] theorem finishMove_still (o : MoveOutcome) (s : State) : (finishMove o s).still = s.still := by
  unfold finishMove
  (repeat' split) <;> simp

@[simp] theorem arrive_still  (s : State) : (arrive  s).still = s.still := by
  unfold arrive
  (repeat' split) <;> simp

@[simp] theorem startFinal_still (prevForward : Bool) (s : State) :
    (startFinal prevForward s).still = s.still := by
  unfold startFinal
  split
  · rfl
  · dsimp only
    split
    · simp
    · rename_i m _ _ t c _
      generalize h1 : onMove _ s = s1
      have e1 : s1.still = s.still := by rw [← h1]; simp
      generalize h2 : setFocusTarget _ _ s1 = s2
      have e2 : s2.still = s.still := by rw [← h2]; simp [e1]
      (repeat' split) <;> simp [e2]

@[simp] theorem beginLeg_still (g : Leg) (rest : List Leg) (afterRest : Bool) (s : State) : (beginLeg g rest afterRest s).still = s.still := by
  unfold beginLeg
  (repeat' split) <;> simp

@[simp] theorem takeLeg_still (g : Leg) (rest : List Leg) (afterRest prevForward : Bool) (s : State) :
    (takeLeg g rest afterRest prevForward s).still = s.still := by
  unfold takeLeg
  extract_lets s1
  have h1 : s1.still = s.still := by simp +zetaDelta
  (repeat' split) <;> simp [h1]

@[simp] theorem nextLegAfterRest_still  (s : State) : (nextLegAfterRest  s).still = s.still := by
  unfold nextLegAfterRest
  (repeat' split) <;> simp

@[simp] theorem beginPlan_still (plan : List Leg) (s : State) : (beginPlan plan s).still = s.still := by
  unfold beginPlan
  (repeat' split) <;> simp

@[simp] theorem replan_still  (s : State) : (replan  s).still = s.still := by
  unfold replan
  (repeat' split) <;> simp

@[simp] theorem legEnded_still  (s : State) : (legEnded  s).still = s.still := by
  unfold legEnded
  (repeat' split) <;> simp

@[simp] theorem motionCheck_still (ev : Option Direction) (s : State) : (motionCheck ev s).still = s.still := by
  unfold motionCheck
  split
  · extract_lets r t
    (repeat' split) <;> first | rfl | simp
  · rfl

@[simp] theorem startMove_still (m : Move) (s : State) : (startMove m s).still = s.still := by
  unfold startMove
  (repeat' split) <;> simp

@[simp] theorem requestStop_still  (s : State) : (requestStop  s).still = s.still := by
  unfold requestStop
  (repeat' split) <;> simp

@[simp] theorem loseConfidence_still (s : State) : (loseConfidence s).still = s.still := by
  unfold loseConfidence
  extract_lets s1
  have h1 : s1.still = s.still := by simp +zetaDelta
  (repeat' split) <;> simp [h1]

@[simp] theorem stalled_still  (s : State) : (stalled  s).still = s.still := by
  unfold stalled
  (repeat' split) <;> simp

@[simp] theorem filmStill_still (s : State) : (filmStill s).still = s.still := rfl

@[simp] theorem restTaken_still (s : State) : (restTaken s).still = s.still := by
  unfold restTaken
  (repeat' split) <;> simp

@[simp] theorem filmRested_still (s : State) : (filmRested s).still = s.still := by
  unfold filmRested
  simp

@[simp] theorem countTravel_still (d : Direction) (s : State) : (countTravel d s).still = s.still := by
  unfold countTravel
  (repeat' split) <;> simp

@[simp] theorem closeIndex_still (c : Closure) (s : State) : (closeIndex c s).still = s.still := by
  unfold closeIndex
  (repeat' split) <;> simp

/-! ### Index -/

@[simp] theorem stopDiscover_still  (s : State) : (stopDiscover  s).still = s.still := by
  unfold stopDiscover
  (repeat' split) <;> simp

@[simp] theorem stopDiscoverIfDone_still  (s : State) : (stopDiscoverIfDone  s).still = s.still := by
  unfold stopDiscoverIfDone
  (repeat' split) <;> simp

@[simp] theorem reresolve_still  (s : State) : (reresolve  s).still = s.still := by
  unfold reresolve
  (repeat' split) <;> simp

@[simp] theorem appendEntry_still (e : Entry) (s : State) : (appendEntry e s).still = s.still := by
  unfold appendEntry
  simp

@[simp] theorem appendEntries_still (l : List Entry) (s : State) : (appendEntries l s).still = s.still := by
  induction l generalizing s with
  | nil => rfl
  | cons e es ih => simp [appendEntries, ih]

@[simp] theorem compareCheckpoint_still (k : Nat) (s : State) : (compareCheckpoint k s).still = s.still := by
  unfold compareCheckpoint
  split
  · extract_lets ok mark src s1
    have h1 : s1.still = s.still := by simp +zetaDelta
    (repeat' split) <;> simp [h1]
  · rfl

@[simp] theorem compareNew_still (n k : Nat) (s : State) : (compareNew n k s).still = s.still := by
  induction n generalizing k s with
  | zero => rfl
  | succ n ih => simp [compareNew, ih]

@[simp] theorem handOn_still (first : Nat) (s : State) : (handOn first s).still = s.still := by
  unfold handOn
  (repeat' split) <;> simp

@[simp] theorem storeEntries_still (es : List Entry) (s : State) : (storeEntries es s).still = s.still := by
  unfold storeEntries
  extract_lets first room s1 s2
  have h_s1 : s1.still = s.still := by
    simp only [s1]
    simp +zetaDelta
  have h_s2 : s2.still = s.still := by
    simp only [s2]
    (repeat' split) <;> simp +zetaDelta [h_s1]
  simp [h_s2]

@[simp] theorem renumberFrom_still (k : Nat) (s : State) : (renumberFrom k s).still = s.still := by
  unfold renumberFrom
  (repeat' split) <;> simp

@[simp] theorem strayMark_still  (s : State) : (strayMark  s).still = s.still := by
  unfold strayMark
  simp

@[simp] theorem firstFrame_still (m len : Nat) (cls : MarkClass) (s : State) : (firstFrame m len cls s).still = s.still := by
  unfold firstFrame
  simp

@[simp] theorem discoverMark_still (m len : Nat) (cls : MarkClass) (s : State) :
    (discoverMark m len cls s).still = s.still := by
  unfold discoverMark
  extract_lets widened src s0 delta j seen src2 src3 s1
  have h0 : s0.still = s.still := by simp [s0, src]
  have h1 : s1.still = s.still := by
    simp only [s1]
    split <;> simp [src3, h0]
  (repeat' split) <;> simp [h0, h1]

@[simp] theorem resightMiss_still  (s : State) : (resightMiss  s).still = s.still := by
  unfold resightMiss
  (repeat' split) <;> simp

@[simp] theorem resightAccepted_still  (s : State) : (resightAccepted  s).still = s.still := by
  unfold resightAccepted
  simp

@[simp] theorem goodResighting_still  (s : State) : (goodResighting  s).still = s.still := by
  unfold goodResighting
  (repeat' split) <;> simp

@[simp] theorem doubtClass_still (k : Nat) (cls : MarkClass) (s : State) : (doubtClass k cls s).still = s.still := by
  unfold doubtClass
  simp

@[simp] theorem convertEntry_still (k m len : Nat) (cls : MarkClass) (s : State) : (convertEntry k m len cls s).still = s.still := by
  unfold convertEntry
  extract_lets changed s1
  have h_s1 : s1.still = s.still := by
    simp only [s1]
    simp +zetaDelta
  (repeat' split) <;> simp [h_s1]

@[simp] theorem leadingEdge_still  (s : State) : (leadingEdge  s).still = s.still := by
  unfold leadingEdge
  (repeat' split) <;> simp

@[simp] theorem spliceFired_still (s : State) : (spliceFired s).still = s.still := by
  unfold spliceFired
  split
  · extract_lets c k src s1 s2 src2
    have h2 : s2.still = s.still := by simp [s2, s1, src]
    split <;> simp [h2, src2]
  · rfl

/-! ### Sweeping -/

@[simp] theorem onSweep_still (f : SweepRecord → SweepRecord) (s : State) : (onSweep f s).still = s.still := by
  unfold onSweep
  simp

@[simp] theorem endSweep_still (result : SweepResult) (step : Option Nat) (quality : Option Quality) (store : StoreOutcome) (s : State) : (endSweep result step quality store s).still = s.still := by
  unfold endSweep
  split
  · rfl
  · extract_lets s1 s2
    have h_s1 : s1.still = s.still := by
      simp only [s1]
      simp +zetaDelta
    have h_s2 : s2.still = s.still := by
      simp only [s2]
      (repeat' split) <;> simp +zetaDelta [h_s1]
    (repeat' split) <;> simp [h_s2]

@[simp] theorem endSweepBare_still (result : SweepResult) (s : State) : (endSweepBare result s).still = s.still := by
  unfold endSweepBare
  (repeat' split) <;> simp

@[simp] theorem cancelSweep_still (result : SweepResult) (s : State) : (cancelSweep result s).still = s.still := by
  unfold cancelSweep
  (repeat' split) <;> simp

@[simp] theorem sendToPoint_still  (s : State) : (sendToPoint  s).still = s.still := by
  unfold sendToPoint
  (repeat' split) <;> simp

@[simp] theorem placePoints_still  (s : State) : (placePoints  s).still = s.still := by
  unfold placePoints
  (repeat' split) <;> simp

@[simp] theorem offerSweep_still  (s : State) : (offerSweep  s).still = s.still := by
  unfold offerSweep
  (repeat' split) <;> simp

@[simp] theorem pointArrived_still (id point : Nat) (s : State) : (pointArrived id point s).still = s.still := by
  unfold pointArrived
  (repeat' split) <;> simp

/-! ### Passing -/

@[simp] theorem endPass_still (o : PassOutcome) (s : State) : (endPass o s).still = s.still := by
  unfold endPass
  split
  · rfl
  · extract_lets s1 s2 s3 s4
    have h1 : s1.still = s.still := by simp [s1]
    have h2 : s2.still = s.still := by
      simp only [s2]
      (repeat' split) <;> simp [h1]
    have h3 : s3.still = s.still := by
      simp only [s3]
      split <;> simp [h2]
    have h4 : s4.still = s.still := by
      simp only [s4]
      split <;> simp [h3]
    (repeat' split) <;> simp [h3, h4]

@[simp] theorem judgeNext_still (g : Segment) (s : State) : (judgeNext g s).still = s.still := by
  unfold judgeNext
  (repeat' split) <;> rfl

@[simp] theorem judgeAdded_still (g : Segment) (s : State) : (judgeAdded g s).still = s.still := rfl

@[simp] theorem judgeAgain_still (s : State) : (judgeAgain s).still = s.still := by
  unfold judgeAgain
  split <;> rfl

@[simp] theorem countOrdinal_still (g : Segment) (k : Nat) (s : State) : (countOrdinal g k s).still = s.still := by
  unfold countOrdinal
  split <;> rfl

@[simp] theorem sweepMade_still (k : Nat) (s : State) : (sweepMade k s).still = s.still := rfl

@[simp] theorem approachFrame_still (k : Nat) (s : State) : (approachFrame k s).still = s.still := by
  unfold approachFrame
  simp

@[simp] theorem travelSweep_still  (s : State) : (travelSweep  s).still = s.still := by
  unfold travelSweep
  (repeat' split) <;> simp

@[simp] theorem startPassSweep_still (g : Segment) (k : Nat) (s : State) : (startPassSweep g k s).still = s.still := by
  unfold startPassSweep
  (repeat' split) <;> simp

@[simp] theorem giveBack_still (kind : GiveUp) (s : State) : (giveBack kind s).still = s.still := by
  unfold giveBack
  extract_lets src p src2 s1
  have h1 : s1.still = s.still := by
    simp only [s1]
    split <;> simp +zetaDelta
  split <;> simp [h1]

@[simp] theorem stopThen_still (a : AfterStop) (s : State) : (stopThen a s).still = s.still := by
  unfold stopThen
  simp

@[simp] theorem afterVisits_still (s : State) : (afterVisits s).still = s.still := by
  unfold afterVisits
  (repeat' split) <;> rfl

@[simp] theorem leaveSweep_still (s : State) : (leaveSweep s).still = s.still := by
  unfold leaveSweep
  split <;> simp

@[simp] theorem yieldDue_still (s : State) : (yieldDue s).still = s.still := rfl

@[simp] theorem takeBoundary_still (g : State → State) (hg : ∀ x, (g x).still = x.still) (s : State) :
    (takeBoundary g s).still = s.still := by
  unfold takeBoundary
  split
  · simp
  · dsimp only
    split <;> simp
  · exact hg s

@[simp] theorem beginSegment_still  (s : State) : (beginSegment  s).still = s.still := by
  unfold beginSegment
  simp

@[simp] theorem endSegment_still (s : State) : (endSegment s).still = s.still := by
  unfold endSegment
  split
  · split
    · split
      · simp
      · extract_lets s1 src s2 s3
        have h2 : s2.still = s.still := by simp [s2, s1, src]
        have h3 : s3.still = s.still := by simp [s3, h2]
        split
        · simp [h3]
        · rw [takeBoundary_still _ (emit_still _), h3]
    · rfl
  · rfl

@[simp] theorem countFaults_still (i k : Nat) (l : List FaultClass) (s : State) :
    (countFaults i k l s).still = s.still := by
  induction l generalizing s with
  | nil => rfl
  | cons c cs ih => simp [countFaults, ih]

@[simp] theorem visitFrame_still (k : Nat) (selected : Bool) (s : State) : (visitFrame k selected s).still = s.still := by
  unfold visitFrame
  (repeat' split) <;> simp

@[simp] theorem workOnFrame_still (g : Segment) (k : Nat) (s : State) : (workOnFrame g k s).still = s.still := by
  unfold workOnFrame
  (repeat' split) <;> simp

@[simp] theorem stepNext_still (g : Segment) (s : State) : (stepNext g s).still = s.still := by
  unfold stepNext
  split
  · simp
  · extract_lets s1 src
    have h1 : s1.still = s.still := by simp [s1]
    split
    · simp [h1, src]
    · split <;> simp [h1, src]

@[simp] theorem offerPass_still (s : State) : (offerPass s).still = s.still := by
  unfold offerPass
  split
  · extract_lets first src s1 s2 src2
    have h1 : s1.still = s.still := by
      simp only [s1]
      split <;> simp [src]
    have h2 : s2.still = s.still := by simp [s2, h1]
    split
    · simp [h1]
    · split <;> simp [h1, h2, src2]
  · simp

@[simp] theorem finishFrame_still (k : Nat) (fault : Option FaultClass) (s : State) :
    (finishFrame k fault s).still = s.still := by
  unfold finishFrame
  extract_lets src s1
  have h1 : s1.still = s.still := by simp [s1, src]
  split
  · simp [h1]
  · rw [takeBoundary_still _ (emit_still _), h1]

@[simp] theorem flyStart_still (g : Segment) (s : State) : (flyStart g s).still = s.still := by
  unfold flyStart
  extract_lets r src s1 k0 src2
  have h1 : s1.still = s.still := by
    simp only [s1]
    split <;> simp [src]
  split <;> simp [h1, src2]

@[simp] theorem passTrigger_still (s : State) : (passTrigger s).still = s.still := by
  unfold passTrigger
  split
  · split
    · split
      · extract_lets s1 src s2
        have h1 : s1.still = s.still := by simp [s1]
        have h2 : s2.still = s.still := by simp [s2, src, h1]
        split
        · simp [h2]
        · rw [takeBoundary_still _ (by intro x; split <;> simp), h2]
      · simp
    · rfl
  · rfl

@[simp] theorem armNext_still (s : State) : (armNext s).still = s.still := by
  unfold armNext
  split
  · rfl
  · split
    · split
      · simp
      · extract_lets s1
        have h1 : s1.still = s.still := by simp [s1]
        split
        · simp [h1]
        · extract_lets s2 src s3
          have h2 : s2.still = s.still := by simp [s2, h1]
          have h3 : s3.still = s.still := by simp [s3, src, h2]
          split <;> simp [h2, h3, src]
    · rfl

@[simp] theorem tickPass_still  (s : State) : (tickPass  s).still = s.still := by
  unfold tickPass
  (repeat' split) <;> simp

@[simp] theorem checkRun_still (s : State) : (checkRun s).still = s.still := by
  unfold checkRun
  split
  · rfl
  · split
    · extract_lets k src s1
      have h1 : s1.still = s.still := by simp [s1, src]
      (repeat' split) <;> simp [h1]
    · rfl

@[simp] theorem goPass_still (s : State) : (goPass s).still = s.still := by
  unfold goPass
  split
  · split
    · simp
    · extract_lets s1
      have h1 : s1.still = s.still := by simp +zetaDelta
      (repeat' split) <;> simp [h1]
  · rfl

@[simp] theorem passSweepEnded_still (r : SweepResult) (s : State) : (passSweepEnded r s).still = s.still := by
  unfold passSweepEnded
  split
  · split
    · extract_lets onward src s1
      have ho : ∀ x, (onward x).still = x.still := by
        intro x
        dsimp only [onward]
        split <;> simp
      have h1 : s1.still = s.still := by simp [s1]
      (repeat' split) <;> simp [h1, ho, src]
    · rfl
  · rfl

@[simp] theorem passLost_still (s : State) : (passLost s).still = s.still := by
  unfold passLost
  extract_lets src s1
  have h1 : s1.still = s.still := by simp [s1, src]
  split <;> simp [h1]

@[simp] theorem passStopped_still (s : State) : (passStopped s).still = s.still := by
  unfold passStopped
  extract_lets src s0 src2
  have h0 : s0.still = s.still := by simp [s0, src]
  split
  · (repeat' split) <;> simp [h0, src2]
  · rw [takeBoundary_still _ (emit_still _)]
    simp [h0, src2]
  · split <;> simp [h0, src2]
  · rw [takeBoundary_still _ (emit_still _)]
    simp [h0, src2]
  · rw [takeBoundary_still _ (by intro x; split <;> simp)]
    simp [h0, src2]
  · simp [h0, src2]

@[simp] theorem passMoveDone_still (o : MoveOutcome) (s : State) : (passMoveDone o s).still = s.still := by
  unfold passMoveDone
  (repeat' split) <;> simp

@[simp] theorem passGrew_still (s : State) : (passGrew s).still = s.still := by
  unfold passGrew
  split
  · rfl
  · dsimp only
    (repeat' split) <;> simp

@[simp] theorem passClosed_still  (s : State) : (passClosed  s).still = s.still := by
  unfold passClosed
  (repeat' split) <;> simp

@[simp] theorem askYield_still (s : State) : (askYield s).still = s.still := by
  unfold askYield
  split
  · split
    · rfl
    · extract_lets src s1
      have h1 : s1.still = s.still := by simp [s1, src]
      split <;> simp [h1]
  · rfl

@[simp] theorem lookBoundary_still  (s : State) : (lookBoundary  s).still = s.still := by
  unfold lookBoundary
  (repeat' split) <;> simp

@[simp] theorem passLampOn_still  (s : State) : (passLampOn  s).still = s.still := by
  unfold passLampOn
  (repeat' split) <;> simp

/-! ### Scheduler -/

@[simp] theorem normalTaken_still (pick : Candidate) (s : State) : (normalTaken pick s).still = s.still := by
  unfold normalTaken
  simp

@[simp] theorem makeGrant_still (g : Grant) (s : State) : (makeGrant g s).still = s.still := by
  unfold makeGrant
  extract_lets src src2 s1
  have h1 : s1.still = s.still := by simp [s1, src, src2]
  (repeat' split) <;> simp [h1]

@[simp] theorem grantSlot_still (i : Nat) (s : State) : (grantSlot i s).still = s.still := by
  unfold grantSlot
  simp

@[simp] theorem grantSweep_still  (s : State) : (grantSweep  s).still = s.still := by
  unfold grantSweep
  (repeat' split) <;> simp

@[simp] theorem grantPass_still  (s : State) : (grantPass  s).still = s.still := by
  unfold grantPass
  (repeat' split) <;> simp

@[simp] theorem grantNormal_still  (s : State) : (grantNormal  s).still = s.still := by
  unfold grantNormal
  (repeat' split) <;> simp

@[simp] theorem chooseRow_still (s : State) : (chooseRow s).still = s.still := by
  unfold chooseRow
  extract_lets src s0
  have h0 : s0.still = s.still := by
    simp only [s0]
    split <;> simp [src]
  (repeat' split) <;> simp [h0]

@[simp] theorem choose_still  (s : State) : (choose  s).still = s.still := by
  unfold choose
  (repeat' split) <;> simp

@[simp] theorem beginGrant_still  (s : State) : (beginGrant  s).still = s.still := by
  unfold beginGrant
  (repeat' split) <;> simp

@[simp] theorem offerSlot_still (i : Nat) (s : State) : (offerSlot i s).still = s.still := by
  unfold offerSlot
  extract_lets s0 x
  have h0 : s0.still = s.still := by simp +zetaDelta
  (repeat' split) <;> simp [h0]

@[simp] theorem offerGate_still  (s : State) : (offerGate  s).still = s.still := by
  unfold offerGate
  (repeat' split) <;> simp

@[simp] theorem checkReady_still  (s : State) : (checkReady  s).still = s.still := by
  unfold checkReady
  (repeat' split) <;> simp

@[simp] theorem approachArrived_still (k : Nat) (s : State) : (approachArrived k s).still = s.still := by
  unfold approachArrived
  (repeat' split) <;> simp

@[simp] theorem sweepMoveDone_still (o : MoveOutcome) (s : State) : (sweepMoveDone o s).still = s.still := by
  unfold sweepMoveDone
  extract_lets s1
  have h1 : s1.still = s.still := by
    simp only [s1]
    split
    · split
      · cases o <;> simp
      · rfl
    · rfl
  split <;> simp [h1]

@[simp] theorem moveDone_still (o : MoveOutcome) (s : State) : (moveDone o s).still = s.still := by
  unfold moveDone
  (repeat' split) <;> simp

@[simp] theorem lampChanged_still (s : State) : (lampChanged s).still = s.still := by
  unfold lampChanged
  extract_lets s1 s2
  have h1 : s1.still = s.still := by
    simp only [s1]
    split <;> simp
  have h2 : s2.still = s.still := by
    simp only [s2]
    (repeat' split) <;> simp [h1]
  split
  · split <;> simp [h2]
  · simp [h1]
  · exact h1

/-! ### Cascade -/

@[simp] theorem corrected_still  (s : State) : (corrected  s).still = s.still := by
  unfold corrected
  simp

/-- No consequence changes the still part. -/
@[simp] theorem handle_still (sig : Signal) (s : State) : (handle sig s).still = s.still := by
  cases sig with
  | focusArrived r => cases r <;> simp [handle]
  | segmentEnd =>
    simp only [handle]
    split <;> simp
  | _ => simp [handle]

/-- The consequences of a command, one after another, leave the still part. -/
@[simp] theorem settle_still (n : Nat) (s : State) : (settle n s).still = s.still := by
  induction n generalizing s with
  | zero => rfl
  | succ n ih =>
    unfold settle
    split
    · rfl
    · rw [ih]
      exact handle_still _ _

/-- Everything that follows from a command leaves the still part. -/
@[simp] theorem finish_still (s : State) : (finish s).still = s.still := settle_still Config.cascadeFuel s

end Sys2Proof.Machine
end

