-- ==== Sys2Proof/Laws/Keys.lean ====
section
/-! SUPPORT. No consequence inside a command frees, fills or renames a retrieval slot: the names of the 16 slots are kept. -/

namespace Sys2Proof.Machine

open Sys2Proof

/-- An update that leaves the retrieval table keeps its names. -/
@[simp] theorem keys_update (x : State) (tr : Tracker) (mk : Marks) (ix : FrameIndex) (tp : Transport) (lp : Lamp)
    (ro : Roll) (fo : Focus) (zn : List Zone) (sw : Sweep) (sc : Sched) (pa : Pass) (tg : Tag) (po : Poller) (bu : Bus)
    (pr : Params) (lA lB : LinkState) (fc : Nat) (td : List Signal) (pe : List Instr) :
    (State.mk tr mk ix tp lp ro fo zn sw x.slots sc pa tg po bu pr lA lB fc td pe).slotKeys = x.slotKeys := rfl

/-- The names after a change of every slot that keeps each slot's name. -/
theorem map_keys (f : Slot → Slot) (h : ∀ x, (f x).key = x.key) (l : List Slot) :
    (l.map f).map Slot.key = l.map Slot.key := by
  simp [Function.comp_def, h]

/-- The names after a change of one slot that keeps its name. -/
theorem modify_keys (i : Nat) (f : Slot → Slot) (l : List Slot) (h : (f (l.getD i Slot.empty)).key = (l.getD i Slot.empty).key) :
    (l.modify i f).map Slot.key = l.map Slot.key := by
  apply List.ext_getElem?
  intro j
  simp only [List.getElem?_map, List.getElem?_modify]
  cases hj : l[j]? with
  | none => rfl
  | some y =>
    by_cases e : i = j
    · subst e
      have hy : l.getD i Slot.empty = y := by simp [List.getD, hj]
      rw [hy] at h; simpa using h
    · simp [e]

/-- A change of one slot that keeps its name keeps the names. -/
theorem onSlot_keys (i : Nat) (f : Slot → Slot) (s : State) (h : (f (s.slot i)).key = (s.slot i).key) :
    (onSlot i f s).slotKeys = s.slotKeys := modify_keys i f s.slots h

@[simp] theorem emit_keys (sig : Signal) (s : State) : (emit sig s).slotKeys = s.slotKeys := rfl

@[simp] theorem flagBoth_keys (f : Flags → Flags) (s : State) : (flagBoth f s).slotKeys = s.slotKeys := rfl

@[simp] theorem onLinks_keys (f : LinkState → LinkState) (s : State) : (onLinks f s).slotKeys = s.slotKeys := rfl

@[simp] theorem onLink_keys (l : Link) (f : LinkState → LinkState) (s : State) : (onLink l f s).slotKeys = s.slotKeys := by
  cases l <;> rfl

@[simp] theorem setAnswer_keys (l : Link) (a : Answer) (s : State) : (setAnswer l a s).slotKeys = s.slotKeys := by
  cases l <;> rfl

@[simp] theorem closeStream_keys (l : Link) (s : State) : (closeStream l s).slotKeys = s.slotKeys := by
  cases l <;> rfl

@[simp] theorem closeStreams_keys (s : State) : (closeStreams s).slotKeys = s.slotKeys := rfl

@[simp] theorem flagOne_keys (l : Link) (f : Flags → Flags) (s : State) : (flagOne l f s).slotKeys = s.slotKeys := by
  cases l <;> rfl

/-- The end of a slot keeps its name, unless it was FREE. -/
theorem ended_key (r : SlotResult) (x : Slot) (h : x.state ≠ .free) : (x.ended r).key = x.key := by
  simp [Slot.key, Slot.ended, h]

@[simp] theorem flagTransport_keys (r : TransportReason) (s : State) : (flagTransport r s).slotKeys = s.slotKeys := rfl

@[simp] theorem flagIndex_keys (r : IndexReason) (s : State) : (flagIndex r s).slotKeys = s.slotKeys := rfl

@[simp] theorem flagTag_keys (r : TagReason) (s : State) : (flagTag r s).slotKeys = s.slotKeys := rfl

@[simp] theorem flagRoll_keys  (s : State) : (flagRoll  s).slotKeys = s.slotKeys := rfl

@[simp] theorem flagLamp_keys  (s : State) : (flagLamp  s).slotKeys = s.slotKeys := rfl

@[simp] theorem flagPassEnd_keys (l : Link) (s : State) : (flagPassEnd l s).slotKeys = s.slotKeys := by
  cases l <;> rfl

@[simp] theorem flagFocus_keys (l : Link) (s : State) : (flagFocus l s).slotKeys = s.slotKeys := by
  cases l <;> rfl

@[simp] theorem onEntry_keys (k : Nat) (f : Entry → Entry) (s : State) : (onEntry k f s).slotKeys = s.slotKeys := by
  unfold onEntry; (repeat' split) <;> rfl

@[simp] theorem setPitch_keys (nominal : Nat) (s : State) : (setPitch nominal s).slotKeys = s.slotKeys := by
  unfold setPitch; rfl

@[simp] theorem setDirty_keys  (s : State) : (setDirty  s).slotKeys = s.slotKeys := by
  unfold setDirty; rfl

@[simp] theorem onMove_keys (f : Move → Move) (s : State) : (onMove f s).slotKeys = s.slotKeys := by
  unfold onMove; rfl

@[simp] theorem discardMark_keys  (s : State) : (discardMark  s).slotKeys = s.slotKeys := by
  unfold discardMark; rfl

/-! ### Drive -/

@[simp] theorem setLamp_keys (x : LampState) (s : State) : (setLamp x s).slotKeys = s.slotKeys := by
  unfold setLamp
  (repeat' split) <;> simp

@[simp] theorem warmExpired_keys  (s : State) : (warmExpired  s).slotKeys = s.slotKeys := by
  unfold warmExpired
  (repeat' split) <;> simp

@[simp] theorem enterWarming_keys (s : State) : (enterWarming s).slotKeys = s.slotKeys := by
  unfold enterWarming
  split
  · simp
  · rfl

@[simp] theorem lampOnEntering_keys (t : TState) (s : State) : (lampOnEntering t s).slotKeys = s.slotKeys := by
  unfold lampOnEntering
  (repeat' split) <;> simp

@[simp] theorem enterState_keys (t : TState) (s : State) : (enterState t s).slotKeys = s.slotKeys := by
  unfold enterState
  (repeat' split) <;> simp

@[simp] theorem holdTension_keys (s : State) : (holdTension s).slotKeys = s.slotKeys := rfl

@[simp] theorem enterWaking_keys  (s : State) : (enterWaking  s).slotKeys = s.slotKeys := by
  unfold enterWaking
  simp

@[simp] theorem enterStandby_keys (count : Option Nat) (s : State) : (enterStandby count s).slotKeys = s.slotKeys := by
  unfold enterStandby
  simp

@[simp] theorem givePulse_keys  (s : State) : (givePulse  s).slotKeys = s.slotKeys := by
  unfold givePulse
  (repeat' split) <;> simp

@[simp] theorem freeGate_keys  (s : State) : (freeGate  s).slotKeys = s.slotKeys := by
  unfold freeGate
  simp

@[simp] theorem holdGate_keys (h : Holder) (s : State) : (holdGate h s).slotKeys = s.slotKeys := by
  unfold holdGate
  simp

@[simp] theorem leaveGate_keys  (s : State) : (leaveGate  s).slotKeys = s.slotKeys := by
  unfold leaveGate
  simp

@[simp] theorem endGrant_keys  (s : State) : (endGrant  s).slotKeys = s.slotKeys := by
  unfold endGrant
  simp

/-! ### Lens -/

@[simp] theorem lensArrived_keys  (s : State) : (lensArrived  s).slotKeys = s.slotKeys := by
  unfold lensArrived
  (repeat' split) <;> simp

@[simp] theorem planLens_keys  (s : State) : (planLens  s).slotKeys = s.slotKeys := by
  unfold planLens
  (repeat' split) <;> simp

@[simp] theorem setFocusTarget_keys (t : Nat) (r : Requester) (s : State) : (setFocusTarget t r s).slotKeys = s.slotKeys := by
  unfold setFocusTarget
  (repeat' split) <;> simp

@[simp] theorem homeFound_keys  (s : State) : (homeFound  s).slotKeys = s.slotKeys := by
  unfold homeFound
  simp

@[simp] theorem homeNotFound_keys  (s : State) : (homeNotFound  s).slotKeys = s.slotKeys := by
  unfold homeNotFound
  simp

@[simp] theorem stepLens_keys (focHome : Bool) (s : State) : (stepLens focHome s).slotKeys = s.slotKeys := by
  unfold stepLens
  split
  · split
    · extract_lets src s1
      have h1 : s1.slotKeys = s.slotKeys := rfl
      split <;> simp [h1]
    · rfl
  · extract_lets p src s1
    have h1 : s1.slotKeys = s.slotKeys := rfl
    (repeat' split) <;> simp [h1]
  · extract_lets p src s1
    have h1 : s1.slotKeys = s.slotKeys := rfl
    split <;> simp [h1]
  · rfl

/-! ### Endings -/

@[simp] theorem finishSweep_keys (result : SweepResult) (step : Option Nat) (quality : Option Quality) (store : StoreOutcome) (s : State) : (finishSweep result step quality store s).slotKeys = s.slotKeys := by
  unfold finishSweep
  (repeat' split) <;> simp

@[simp] theorem finishSweepBare_keys (result : SweepResult) (s : State) : (finishSweepBare result s).slotKeys = s.slotKeys := by
  unfold finishSweepBare
  (repeat' split) <;> simp

@[simp] theorem onOutcome_keys (i : Nat) (f : SegOutcome → SegOutcome) (s : State) : (onOutcome i f s).slotKeys = s.slotKeys := by
  unfold onOutcome
  simp

@[simp] theorem countFault_keys (i : Nat) (c : FaultClass) (k : Nat) (s : State) : (countFault i c k s).slotKeys = s.slotKeys := by
  unfold countFault
  simp

@[simp] theorem stopHolding_keys (o : PassOutcome) (s : State) : (stopHolding o s).slotKeys = s.slotKeys := by
  unfold stopHolding
  (repeat' split) <;> simp

@[simp] theorem finishPass_keys (o : PassOutcome) (s : State) : (finishPass o s).slotKeys = s.slotKeys := by
  unfold finishPass
  (repeat' split) <;> simp

/-- A transport fault keeps the names of the slots. -/
theorem onFault_key (x : Slot) : x.onFault.key = x.key := by
  unfold Slot.onFault
  split <;> rename_i h <;> simp [Slot.key, Slot.endedBare, Slot.endedReached, Slot.ended, h]

@[simp] theorem enterFaulted_keys (kind : FaultKind) (s : State) : (enterFaulted kind s).slotKeys = s.slotKeys := by
  unfold enterFaulted
  split
  · rfl
  · extract_lets src src2 src3 s1 s2 s3
    have h1 : s1.slotKeys = s.slotKeys := map_keys Slot.onFault onFault_key s.slots
    have h2 : s2.slotKeys = s.slotKeys := by simp [s2, h1]
    have h3 : s3.slotKeys = s.slotKeys := by simp [s3, h2]
    simp [h3]

/-! ### Motion -/

@[simp] theorem setLevel_keys (x : Level) (s : State) : (setLevel x s).slotKeys = s.slotKeys := by
  unfold setLevel
  (repeat' split) <;> simp

@[simp] theorem retrySucceeded_keys (m : Move) (s : State) : (retrySucceeded m s).slotKeys = s.slotKeys := by
  unfold retrySucceeded
  (repeat' split) <;> simp

@[simp] theorem pauseFor_keys (a : RestAction) (s : State) : (pauseFor a s).slotKeys = s.slotKeys := by
  unfold pauseFor
  simp

@[simp] theorem stopFor_keys (o : MoveOutcome) (s : State) : (stopFor o s).slotKeys = s.slotKeys := by
  unfold stopFor
  simp

@[simp] theorem finishMove_keys (o : MoveOutcome) (s : State) : (finishMove o s).slotKeys = s.slotKeys := by
  unfold finishMove
  (repeat' split) <;> simp

@[simp] theorem arrive_keys  (s : State) : (arrive  s).slotKeys = s.slotKeys := by
  unfold arrive
  (repeat' split) <;> simp

@[simp] theorem startFinal_keys (prevForward : Bool) (s : State) :
    (startFinal prevForward s).slotKeys = s.slotKeys := by
  unfold startFinal
  split
  · rfl
  · dsimp only
    split
    · simp
    · rename_i m _ _ t c _
      generalize h1 : onMove _ s = s1
      have e1 : s1.slotKeys = s.slotKeys := by rw [← h1]; simp
      generalize h2 : setFocusTarget _ _ s1 = s2
      have e2 : s2.slotKeys = s.slotKeys := by rw [← h2]; simp [e1]
      (repeat' split) <;> simp [e2]

@[simp] theorem beginLeg_keys (g : Leg) (rest : List Leg) (afterRest : Bool) (s : State) : (beginLeg g rest afterRest s).slotKeys = s.slotKeys := by
  unfold beginLeg
  (repeat' split) <;> simp

@[simp] theorem takeLeg_keys (g : Leg) (rest : List Leg) (afterRest prevForward : Bool) (s : State) :
    (takeLeg g rest afterRest prevForward s).slotKeys = s.slotKeys := by
  unfold takeLeg
  extract_lets s1
  have h1 : s1.slotKeys = s.slotKeys := by simp +zetaDelta
  (repeat' split) <;> simp [h1]

@[simp] theorem nextLegAfterRest_keys  (s : State) : (nextLegAfterRest  s).slotKeys = s.slotKeys := by
  unfold nextLegAfterRest
  (repeat' split) <;> simp

@[simp] theorem beginPlan_keys (plan : List Leg) (s : State) : (beginPlan plan s).slotKeys = s.slotKeys := by
  unfold beginPlan
  (repeat' split) <;> simp

@[simp] theorem replan_keys  (s : State) : (replan  s).slotKeys = s.slotKeys := by
  unfold replan
  (repeat' split) <;> simp

@[simp] theorem legEnded_keys  (s : State) : (legEnded  s).slotKeys = s.slotKeys := by
  unfold legEnded
  (repeat' split) <;> simp

@[simp] theorem motionCheck_keys (ev : Option Direction) (s : State) : (motionCheck ev s).slotKeys = s.slotKeys := by
  unfold motionCheck
  split
  · extract_lets r t
    (repeat' split) <;> first | rfl | simp
  · rfl

@[simp] theorem startMove_keys (m : Move) (s : State) : (startMove m s).slotKeys = s.slotKeys := by
  unfold startMove
  (repeat' split) <;> simp

@[simp] theorem requestStop_keys  (s : State) : (requestStop  s).slotKeys = s.slotKeys := by
  unfold requestStop
  (repeat' split) <;> simp

@[simp] theorem loseConfidence_keys (s : State) : (loseConfidence s).slotKeys = s.slotKeys := by
  unfold loseConfidence
  extract_lets s1
  have h1 : s1.slotKeys = s.slotKeys := by simp +zetaDelta
  (repeat' split) <;> simp [h1]

@[simp] theorem stalled_keys  (s : State) : (stalled  s).slotKeys = s.slotKeys := by
  unfold stalled
  (repeat' split) <;> simp

@[simp] theorem filmStill_keys (s : State) : (filmStill s).slotKeys = s.slotKeys := rfl

@[simp] theorem restTaken_keys (s : State) : (restTaken s).slotKeys = s.slotKeys := by
  unfold restTaken
  (repeat' split) <;> simp

@[simp] theorem filmRested_keys (s : State) : (filmRested s).slotKeys = s.slotKeys := by
  unfold filmRested
  simp

@[simp] theorem countRegister_keys (d : Direction) (s : State) : (countRegister d s).slotKeys = s.slotKeys := by
  unfold countRegister
  (repeat' split) <;> simp

@[simp] theorem countTravel_keys (d : Direction) (s : State) : (countTravel d s).slotKeys = s.slotKeys := by
  unfold countTravel
  (repeat' split) <;> simp

@[simp] theorem countTaken_keys (d : Direction) (s : State) : (countTaken d s).slotKeys = s.slotKeys := by
  unfold countTaken
  extract_lets s1 s2 s3
  have h1 : s1.slotKeys = s.slotKeys := by simp [s1]
  have h2 : s2.slotKeys = s.slotKeys := by
    simp only [s2]
    split <;> simp [h1]
  have h3 : s3.slotKeys = s.slotKeys := by simp [s3, h2]
  split <;> simp [h3]

@[simp] theorem zeroAtLeader_keys  (s : State) : (zeroAtLeader  s).slotKeys = s.slotKeys := by
  unfold zeroAtLeader
  simp

@[simp] theorem leaderChangedInMove_keys (level : LeaderLevel) (s : State) : (leaderChangedInMove level s).slotKeys = s.slotKeys := by
  unfold leaderChangedInMove
  (repeat' split) <;> simp

@[simp] theorem closeIndex_keys (c : Closure) (s : State) : (closeIndex c s).slotKeys = s.slotKeys := by
  unfold closeIndex
  (repeat' split) <;> simp

@[simp] theorem trailerFired_keys (s : State) : (trailerFired s).slotKeys = s.slotKeys := by
  unfold trailerFired
  split
  · split
    · extract_lets src s1 s2
      have h1 : s1.slotKeys = s.slotKeys := by simp [s1]
      have h2 : s2.slotKeys = s.slotKeys := by
        simp only [s2]
        split <;> simp [h1]
      simp [h2]
    · rfl
  · rfl

/-! ### Index -/

@[simp] theorem stopDiscover_keys  (s : State) : (stopDiscover  s).slotKeys = s.slotKeys := by
  unfold stopDiscover
  (repeat' split) <;> simp

@[simp] theorem stopDiscoverIfDone_keys  (s : State) : (stopDiscoverIfDone  s).slotKeys = s.slotKeys := by
  unfold stopDiscoverIfDone
  (repeat' split) <;> simp

/-- A new resolution keeps a slot's name. -/
theorem reresolved_key (s : State) (x : Slot) : (x.reresolved s).key = x.key := by
  unfold Slot.reresolved
  split
  · rename_i h
    split <;> simp [Slot.key, Slot.endedBare, Slot.ended, h]
  · rfl

@[simp] theorem reresolve_keys (s : State) : (reresolve s).slotKeys = s.slotKeys := by
  unfold reresolve
  extract_lets s1 s2 s3 s4
  have h1 : s1.slotKeys = s.slotKeys := map_keys _ (reresolved_key s) s.slots
  have h2 : s2.slotKeys = s.slotKeys := by
    simp only [s2]
    (repeat' split) <;> simp [h1]
  have h3 : s3.slotKeys = s.slotKeys := by
    simp only [s3]
    split <;> simp [h2]
  have h4 : s4.slotKeys = s.slotKeys := by
    simp only [s4]
    split <;> simp [h3]
  simp [h4]

@[simp] theorem appendEntry_keys (e : Entry) (s : State) : (appendEntry e s).slotKeys = s.slotKeys := by
  unfold appendEntry
  simp

@[simp] theorem appendEntries_keys (l : List Entry) (s : State) : (appendEntries l s).slotKeys = s.slotKeys := by
  induction l generalizing s with
  | nil => rfl
  | cons e es ih => simp [appendEntries, ih]

@[simp] theorem compareCheckpoint_keys (k : Nat) (s : State) : (compareCheckpoint k s).slotKeys = s.slotKeys := by
  unfold compareCheckpoint
  split
  · extract_lets ok mark src s1
    have h1 : s1.slotKeys = s.slotKeys := by simp +zetaDelta
    (repeat' split) <;> simp [h1]
  · rfl

@[simp] theorem compareNew_keys (n k : Nat) (s : State) : (compareNew n k s).slotKeys = s.slotKeys := by
  induction n generalizing k s with
  | zero => rfl
  | succ n ih => simp [compareNew, ih]

@[simp] theorem handOn_keys (first : Nat) (s : State) : (handOn first s).slotKeys = s.slotKeys := by
  unfold handOn
  (repeat' split) <;> simp

@[simp] theorem storeEntries_keys (es : List Entry) (s : State) : (storeEntries es s).slotKeys = s.slotKeys := by
  unfold storeEntries
  extract_lets first room s1 s2
  have h_s1 : s1.slotKeys = s.slotKeys := by
    simp only [s1]
    simp +zetaDelta
  have h_s2 : s2.slotKeys = s.slotKeys := by
    simp only [s2]
    (repeat' split) <;> simp +zetaDelta [h_s1]
  simp [h_s2]

@[simp] theorem renumberFrom_keys (k : Nat) (s : State) : (renumberFrom k s).slotKeys = s.slotKeys := by
  unfold renumberFrom
  (repeat' split) <;> simp

@[simp] theorem strayMark_keys  (s : State) : (strayMark  s).slotKeys = s.slotKeys := by
  unfold strayMark
  simp

@[simp] theorem firstFrame_keys (m len : Nat) (cls : MarkClass) (s : State) : (firstFrame m len cls s).slotKeys = s.slotKeys := by
  unfold firstFrame
  simp

@[simp] theorem discoverMark_keys (m len : Nat) (cls : MarkClass) (s : State) :
    (discoverMark m len cls s).slotKeys = s.slotKeys := by
  unfold discoverMark
  extract_lets widened src s0 delta j seen src2 src3 s1
  have h0 : s0.slotKeys = s.slotKeys := by simp [s0, src]
  have h1 : s1.slotKeys = s.slotKeys := by
    simp only [s1]
    split <;> simp [src3, h0]
  (repeat' split) <;> simp [h0, h1]

@[simp] theorem slipCorrect_keys (e : Int) (s : State) : (slipCorrect e s).slotKeys = s.slotKeys := by
  unfold slipCorrect
  simp

@[simp] theorem resightMiss_keys  (s : State) : (resightMiss  s).slotKeys = s.slotKeys := by
  unfold resightMiss
  (repeat' split) <;> simp

@[simp] theorem resightAccepted_keys  (s : State) : (resightAccepted  s).slotKeys = s.slotKeys := by
  unfold resightAccepted
  simp

@[simp] theorem goodResighting_keys  (s : State) : (goodResighting  s).slotKeys = s.slotKeys := by
  unfold goodResighting
  (repeat' split) <;> simp

@[simp] theorem doubtClass_keys (k : Nat) (cls : MarkClass) (s : State) : (doubtClass k cls s).slotKeys = s.slotKeys := by
  unfold doubtClass
  simp

@[simp] theorem convertEntry_keys (k m len : Nat) (cls : MarkClass) (s : State) : (convertEntry k m len cls s).slotKeys = s.slotKeys := by
  unfold convertEntry
  extract_lets changed s1
  have h_s1 : s1.slotKeys = s.slotKeys := by
    simp only [s1]
    simp +zetaDelta
  (repeat' split) <;> simp [h_s1]

@[simp] theorem resight_keys (m len : Nat) (cls : MarkClass) (s : State) : (resight m len cls s).slotKeys = s.slotKeys := by
  unfold resight
  extract_lets k
  split
  · rfl
  · extract_lets err d
    (repeat' split) <;> simp

@[simp] theorem placeMark_keys (m len : Nat) (cls : MarkClass) (s : State) : (placeMark m len cls s).slotKeys = s.slotKeys := by
  unfold placeMark
  (repeat' split) <;> simp

@[simp] theorem leadingEdge_keys  (s : State) : (leadingEdge  s).slotKeys = s.slotKeys := by
  unfold leadingEdge
  (repeat' split) <;> simp

@[simp] theorem trailingEdge_keys (s : State) : (trailingEdge s).slotKeys = s.slotKeys := by
  unfold trailingEdge
  split
  · rfl
  · extract_lets len s1
    have h1 : s1.slotKeys = s.slotKeys := by simp [s1]
    (repeat' split) <;> simp [h1]

@[simp] theorem spliceFired_keys (s : State) : (spliceFired s).slotKeys = s.slotKeys := by
  unfold spliceFired
  split
  · extract_lets c k src s1 s2 src2
    have h2 : s2.slotKeys = s.slotKeys := by simp [s2, s1, src]
    split <;> simp [h2, src2]
  · rfl

/-! ### Sweeping -/

@[simp] theorem onSweep_keys (f : SweepRecord → SweepRecord) (s : State) : (onSweep f s).slotKeys = s.slotKeys := by
  unfold onSweep
  simp

@[simp] theorem endSweep_keys (result : SweepResult) (step : Option Nat) (quality : Option Quality) (store : StoreOutcome) (s : State) : (endSweep result step quality store s).slotKeys = s.slotKeys := by
  unfold endSweep
  split
  · rfl
  · extract_lets s1 s2
    have h_s1 : s1.slotKeys = s.slotKeys := by
      simp only [s1]
      simp +zetaDelta
    have h_s2 : s2.slotKeys = s.slotKeys := by
      simp only [s2]
      (repeat' split) <;> simp +zetaDelta [h_s1]
    (repeat' split) <;> simp [h_s2]

@[simp] theorem endSweepBare_keys (result : SweepResult) (s : State) : (endSweepBare result s).slotKeys = s.slotKeys := by
  unfold endSweepBare
  (repeat' split) <;> simp

@[simp] theorem cancelSweep_keys (result : SweepResult) (s : State) : (cancelSweep result s).slotKeys = s.slotKeys := by
  unfold cancelSweep
  (repeat' split) <;> simp

@[simp] theorem sendToPoint_keys  (s : State) : (sendToPoint  s).slotKeys = s.slotKeys := by
  unfold sendToPoint
  (repeat' split) <;> simp

@[simp] theorem placePoints_keys  (s : State) : (placePoints  s).slotKeys = s.slotKeys := by
  unfold placePoints
  (repeat' split) <;> simp

@[simp] theorem offerSweep_keys  (s : State) : (offerSweep  s).slotKeys = s.slotKeys := by
  unfold offerSweep
  (repeat' split) <;> simp

@[simp] theorem pointArrived_keys (id point : Nat) (s : State) : (pointArrived id point s).slotKeys = s.slotKeys := by
  unfold pointArrived
  (repeat' split) <;> simp

@[simp] theorem fitSweep_keys (s : State) : (fitSweep s).slotKeys = s.slotKeys := by
  unfold fitSweep
  split
  · rfl
  · extract_lets fit
    split
    · extract_lets s1
      have h1 : s1.slotKeys = s.slotKeys := by simp [s1]
      (repeat' split) <;> simp [h1]
    · simp

@[simp] theorem takeScore_keys (v : Nat) (s : State) : (takeScore v s).slotKeys = s.slotKeys := by
  unfold takeScore
  (repeat' split) <;> simp

/-! ### Passing -/

@[simp] theorem endPass_keys (o : PassOutcome) (s : State) : (endPass o s).slotKeys = s.slotKeys := by
  unfold endPass
  split
  · rfl
  · extract_lets s1 s2 s3 s4
    have h1 : s1.slotKeys = s.slotKeys := by simp [s1]
    have h2 : s2.slotKeys = s.slotKeys := by
      simp only [s2]
      (repeat' split) <;> simp [h1]
    have h3 : s3.slotKeys = s.slotKeys := by
      simp only [s3]
      split <;> simp [h2]
    have h4 : s4.slotKeys = s.slotKeys := by
      simp only [s4]
      split <;> simp [h3]
    (repeat' split) <;> simp [h3, h4]

@[simp] theorem judgeNext_keys (g : Segment) (s : State) : (judgeNext g s).slotKeys = s.slotKeys := by
  unfold judgeNext
  (repeat' split) <;> rfl

@[simp] theorem judgeAdded_keys (g : Segment) (s : State) : (judgeAdded g s).slotKeys = s.slotKeys := rfl

@[simp] theorem judgeAgain_keys (s : State) : (judgeAgain s).slotKeys = s.slotKeys := by
  unfold judgeAgain
  split <;> rfl

@[simp] theorem countOrdinal_keys (g : Segment) (k : Nat) (s : State) : (countOrdinal g k s).slotKeys = s.slotKeys := by
  unfold countOrdinal
  split <;> rfl

@[simp] theorem sweepMade_keys (k : Nat) (s : State) : (sweepMade k s).slotKeys = s.slotKeys := rfl

@[simp] theorem approachFrame_keys (k : Nat) (s : State) : (approachFrame k s).slotKeys = s.slotKeys := by
  unfold approachFrame
  simp

@[simp] theorem travelSweep_keys  (s : State) : (travelSweep  s).slotKeys = s.slotKeys := by
  unfold travelSweep
  (repeat' split) <;> simp

@[simp] theorem startPassSweep_keys (g : Segment) (k : Nat) (s : State) : (startPassSweep g k s).slotKeys = s.slotKeys := by
  unfold startPassSweep
  (repeat' split) <;> simp

@[simp] theorem giveBack_keys (kind : GiveUp) (s : State) : (giveBack kind s).slotKeys = s.slotKeys := by
  unfold giveBack
  extract_lets src p src2 s1
  have h1 : s1.slotKeys = s.slotKeys := by
    simp only [s1]
    split <;> simp +zetaDelta
  split <;> simp [h1]

@[simp] theorem stopThen_keys (a : AfterStop) (s : State) : (stopThen a s).slotKeys = s.slotKeys := by
  unfold stopThen
  simp

@[simp] theorem afterVisits_keys (s : State) : (afterVisits s).slotKeys = s.slotKeys := by
  unfold afterVisits
  (repeat' split) <;> rfl

@[simp] theorem leaveSweep_keys (s : State) : (leaveSweep s).slotKeys = s.slotKeys := by
  unfold leaveSweep
  split <;> simp

@[simp] theorem yieldDue_keys (s : State) : (yieldDue s).slotKeys = s.slotKeys := rfl

@[simp] theorem takeBoundary_keys (g : State → State) (hg : ∀ x, (g x).slotKeys = x.slotKeys) (s : State) :
    (takeBoundary g s).slotKeys = s.slotKeys := by
  unfold takeBoundary
  split
  · simp
  · dsimp only
    split <;> simp
  · exact hg s

@[simp] theorem beginSegment_keys  (s : State) : (beginSegment  s).slotKeys = s.slotKeys := by
  unfold beginSegment
  simp

@[simp] theorem endSegment_keys (s : State) : (endSegment s).slotKeys = s.slotKeys := by
  unfold endSegment
  split
  · split
    · split
      · simp
      · extract_lets s1 src s2 s3
        have h2 : s2.slotKeys = s.slotKeys := by simp [s2, s1, src]
        have h3 : s3.slotKeys = s.slotKeys := by simp [s3, h2]
        split
        · simp [h3]
        · rw [takeBoundary_keys _ (emit_keys _), h3]
    · rfl
  · rfl

@[simp] theorem countFaults_keys (i k : Nat) (l : List FaultClass) (s : State) :
    (countFaults i k l s).slotKeys = s.slotKeys := by
  induction l generalizing s with
  | nil => rfl
  | cons c cs ih => simp [countFaults, ih]

@[simp] theorem visitFrame_keys (k : Nat) (selected : Bool) (s : State) : (visitFrame k selected s).slotKeys = s.slotKeys := by
  unfold visitFrame
  (repeat' split) <;> simp

@[simp] theorem workOnFrame_keys (g : Segment) (k : Nat) (s : State) : (workOnFrame g k s).slotKeys = s.slotKeys := by
  unfold workOnFrame
  (repeat' split) <;> simp

@[simp] theorem stepNext_keys (g : Segment) (s : State) : (stepNext g s).slotKeys = s.slotKeys := by
  unfold stepNext
  split
  · simp
  · extract_lets s1 src
    have h1 : s1.slotKeys = s.slotKeys := by simp [s1]
    split
    · simp [h1, src]
    · split <;> simp [h1, src]

@[simp] theorem offerPass_keys (s : State) : (offerPass s).slotKeys = s.slotKeys := by
  unfold offerPass
  split
  · extract_lets first src s1 s2 src2
    have h1 : s1.slotKeys = s.slotKeys := by
      simp only [s1]
      split <;> simp [src]
    have h2 : s2.slotKeys = s.slotKeys := by simp [s2, h1]
    split
    · simp [h1]
    · split <;> simp [h1, h2, src2]
  · simp

@[simp] theorem finishFrame_keys (k : Nat) (fault : Option FaultClass) (s : State) :
    (finishFrame k fault s).slotKeys = s.slotKeys := by
  unfold finishFrame
  extract_lets src s1
  have h1 : s1.slotKeys = s.slotKeys := by simp [s1, src]
  split
  · simp [h1]
  · rw [takeBoundary_keys _ (emit_keys _), h1]

@[simp] theorem flyStart_keys (g : Segment) (s : State) : (flyStart g s).slotKeys = s.slotKeys := by
  unfold flyStart
  extract_lets r src s1 k0 src2
  have h1 : s1.slotKeys = s.slotKeys := by
    simp only [s1]
    split <;> simp [src]
  split <;> simp [h1, src2]

@[simp] theorem passTrigger_keys (s : State) : (passTrigger s).slotKeys = s.slotKeys := by
  unfold passTrigger
  split
  · split
    · split
      · extract_lets s1 src s2
        have h1 : s1.slotKeys = s.slotKeys := by simp [s1]
        have h2 : s2.slotKeys = s.slotKeys := by simp [s2, src, h1]
        split
        · simp [h2]
        · rw [takeBoundary_keys _ (by intro x; split <;> simp), h2]
      · simp
    · rfl
  · rfl

@[simp] theorem armNext_keys (s : State) : (armNext s).slotKeys = s.slotKeys := by
  unfold armNext
  split
  · rfl
  · split
    · split
      · simp
      · extract_lets s1
        have h1 : s1.slotKeys = s.slotKeys := by simp [s1]
        split
        · simp [h1]
        · extract_lets s2 src s3
          have h2 : s2.slotKeys = s.slotKeys := by simp [s2, h1]
          have h3 : s3.slotKeys = s.slotKeys := by simp [s3, src, h2]
          split <;> simp [h2, h3, src]
    · rfl

@[simp] theorem tickPass_keys  (s : State) : (tickPass  s).slotKeys = s.slotKeys := by
  unfold tickPass
  (repeat' split) <;> simp

@[simp] theorem checkRun_keys (s : State) : (checkRun s).slotKeys = s.slotKeys := by
  unfold checkRun
  split
  · rfl
  · split
    · extract_lets k src s1
      have h1 : s1.slotKeys = s.slotKeys := by simp [s1, src]
      (repeat' split) <;> simp [h1]
    · rfl

@[simp] theorem goPass_keys (s : State) : (goPass s).slotKeys = s.slotKeys := by
  unfold goPass
  split
  · split
    · simp
    · extract_lets s1
      have h1 : s1.slotKeys = s.slotKeys := by simp +zetaDelta
      (repeat' split) <;> simp [h1]
  · rfl

@[simp] theorem passSweepEnded_keys (r : SweepResult) (s : State) : (passSweepEnded r s).slotKeys = s.slotKeys := by
  unfold passSweepEnded
  split
  · split
    · extract_lets onward src s1
      have ho : ∀ x, (onward x).slotKeys = x.slotKeys := by
        intro x
        dsimp only [onward]
        split <;> simp
      have h1 : s1.slotKeys = s.slotKeys := by simp [s1]
      (repeat' split) <;> simp [h1, ho, src]
    · rfl
  · rfl

@[simp] theorem passLost_keys (s : State) : (passLost s).slotKeys = s.slotKeys := by
  unfold passLost
  extract_lets src s1
  have h1 : s1.slotKeys = s.slotKeys := by simp [s1, src]
  split <;> simp [h1]

@[simp] theorem passStopped_keys (s : State) : (passStopped s).slotKeys = s.slotKeys := by
  unfold passStopped
  extract_lets src s0 src2
  have h0 : s0.slotKeys = s.slotKeys := by simp [s0, src]
  split
  · (repeat' split) <;> simp [h0, src2]
  · rw [takeBoundary_keys _ (emit_keys _)]
    simp [h0, src2]
  · split <;> simp [h0, src2]
  · rw [takeBoundary_keys _ (emit_keys _)]
    simp [h0, src2]
  · rw [takeBoundary_keys _ (by intro x; split <;> simp)]
    simp [h0, src2]
  · simp [h0, src2]

@[simp] theorem passMoveDone_keys (o : MoveOutcome) (s : State) : (passMoveDone o s).slotKeys = s.slotKeys := by
  unfold passMoveDone
  (repeat' split) <;> simp

@[simp] theorem passGrew_keys (s : State) : (passGrew s).slotKeys = s.slotKeys := by
  unfold passGrew
  split
  · rfl
  · dsimp only
    (repeat' split) <;> simp

@[simp] theorem passClosed_keys  (s : State) : (passClosed  s).slotKeys = s.slotKeys := by
  unfold passClosed
  (repeat' split) <;> simp

@[simp] theorem askYield_keys (s : State) : (askYield s).slotKeys = s.slotKeys := by
  unfold askYield
  split
  · split
    · rfl
    · extract_lets src s1
      have h1 : s1.slotKeys = s.slotKeys := by simp [s1, src]
      split <;> simp [h1]
  · rfl

@[simp] theorem lookBoundary_keys  (s : State) : (lookBoundary  s).slotKeys = s.slotKeys := by
  unfold lookBoundary
  (repeat' split) <;> simp

@[simp] theorem passLampOn_keys  (s : State) : (passLampOn  s).slotKeys = s.slotKeys := by
  unfold passLampOn
  (repeat' split) <;> simp

/-! ### Scheduler -/

/-- A candidate stands in the table at its number, PENDING or RESOLVING. -/
theorem candidatesFrom_mem (s : State) (l : List Slot) (n : Nat) (c : Candidate) (h : c ∈ candidatesFrom s n l) :
    n ≤ c.number ∧ l[c.number - n]? = some c.slot ∧ (c.slot.state = .pending ∨ c.slot.state = .resolving) := by
  induction l generalizing n with
  | nil => simp [candidatesFrom] at h
  | cons x xs ih =>
    have tail : c ∈ candidatesFrom s (n + 1) xs →
        n ≤ c.number ∧ (x :: xs)[c.number - n]? = some c.slot ∧
          (c.slot.state = .pending ∨ c.slot.state = .resolving) := by
      intro h
      obtain ⟨a, b, d⟩ := ih (n + 1) h
      refine ⟨by omega, ?_, d⟩
      rw [show c.number - n = (c.number - (n + 1)) + 1 by omega]
      simpa using b
    unfold candidatesFrom at h
    split at h
    · rename_i y hy
      rcases List.mem_cons.mp h with rfl | h
      · unfold candidateOf at hy
        split at hy
        · split at hy
          · rename_i hs
            cases hy
            exact ⟨Nat.le_refl _, by simp, Or.inl hs⟩
          · rename_i hs
            split at hy
            · cases hy
            · cases hy
              exact ⟨Nat.le_refl _, by simp, Or.inr hs⟩
          · cases hy
        · cases hy
      · exact tail h
    · exact tail h

/-- The oldest candidate is one of the candidates. -/
theorem oldest_mem (l : List Candidate) (c : Candidate) (h : oldest l = some c) : c ∈ l := by
  induction l generalizing c with
  | nil => simp [oldest] at h
  | cons x xs ih =>
    unfold oldest at h
    split at h
    · cases h; simp
    · rename_i d hd
      split at h
      · cases h; exact List.mem_cons_of_mem _ (ih _ hd)
      · cases h; simp

/-- The nearest candidate is one of the candidates. -/
theorem nearest_mem (r : Nat) (l : List Candidate) (c : Candidate) (h : nearest r l = some c) : c ∈ l := by
  induction l generalizing c with
  | nil => simp [nearest] at h
  | cons x xs ih =>
    unfold nearest at h
    split at h
    · cases h; simp
    · rename_i d hd
      have hm := ih _ hd
      (repeat' split at h) <;> cases h <;> simp [hm]

/-- The NORMAL choice falls on a slot of the table that is PENDING or RESOLVING. -/
theorem normalPick_slot (s : State) (c : Candidate) (h : normalPick s = some c) :
    s.slots[c.number]? = some c.slot ∧ (c.slot.state = .pending ∨ c.slot.state = .resolving) := by
  have hm : c ∈ s.candidates := by
    unfold normalPick at h
    extract_lets cs r at h
    split at h
    · cases h
      exact (List.mem_filter.mp (oldest_mem _ _ ‹_›)).1
    · split at h
      · cases h
        exact (List.mem_filter.mp (nearest_mem _ _ _ ‹_›)).1
      · exact (List.mem_filter.mp (nearest_mem _ _ _ h)).1
  have := candidatesFrom_mem s s.slots 0 c hm
  exact ⟨by simpa using this.2.1, this.2.2⟩

/-- Skip counts are no part of a slot's name. -/
theorem skipped_key (s : State) (pick : Candidate) (i : Nat) (x : Slot) : (x.skipped s pick i).key = x.key := by
  unfold Slot.skipped
  (repeat' split) <;> rfl

/-- The names after a NORMAL choice's skip counts. -/
theorem skipFrom_keys (s : State) (pick : Candidate) (l : List Slot) (i : Nat) :
    (skipFrom s pick i l).map Slot.key = l.map Slot.key := by
  induction l generalizing i with
  | nil => rfl
  | cons x xs ih => simp [skipFrom, ih, skipped_key]

@[simp] theorem normalTaken_keys (pick : Candidate) (s : State) :
    (normalTaken pick s).slotKeys = s.slotKeys := skipFrom_keys s pick s.slots 0

/-- An URGENT candidate stands in the table at its number, PENDING or RESOLVING. -/
theorem urgentFrom_mem (s : State) (l : List Slot) (n : Nat) (c : Candidate) (h : c ∈ urgentFrom s n l) :
    n ≤ c.number ∧ l[c.number - n]? = some c.slot ∧ (c.slot.state = .pending ∨ c.slot.state = .resolving) := by
  induction l generalizing n with
  | nil => simp [urgentFrom] at h
  | cons x xs ih =>
    have tail : c ∈ urgentFrom s (n + 1) xs →
        n ≤ c.number ∧ (x :: xs)[c.number - n]? = some c.slot ∧
          (c.slot.state = .pending ∨ c.slot.state = .resolving) := by
      intro h
      obtain ⟨a, b, d⟩ := ih (n + 1) h
      refine ⟨by omega, ?_, d⟩
      rw [show c.number - n = (c.number - (n + 1)) + 1 by omega]
      simpa using b
    unfold urgentFrom at h
    split at h
    · rename_i hu
      rcases List.mem_cons.mp h with rfl | h
      · refine ⟨Nat.le_refl _, by simp, ?_⟩
        simp [urgentCandidate] at hu
        rcases hu.2 with hu | hu
        · exact Or.inl hu
        · exact Or.inr hu.1
      · exact tail h
    · exact tail h

/-- The URGENT choice falls on a slot of the table that is PENDING or RESOLVING. -/
theorem urgentPick_slot (s : State) (c : Candidate) (h : urgentPick s = some c) :
    s.slots[c.number]? = some c.slot ∧ (c.slot.state = .pending ∨ c.slot.state = .resolving) := by
  have := candidatesFrom_mem s
  have h2 := urgentFrom_mem s s.slots 0 c (oldest_mem _ _ h)
  exact ⟨by simpa using h2.2.1, h2.2.2⟩

@[simp] theorem makeGrant_keys (g : Grant) (s : State) : (makeGrant g s).slotKeys = s.slotKeys := by
  unfold makeGrant
  extract_lets src src2 s1
  have h1 : s1.slotKeys = s.slotKeys := by simp [s1, src, src2]
  (repeat' split) <;> simp [h1]

/-- A grant to a slot that is not FREE keeps the names. -/
theorem grantSlot_keys (i : Nat) (s : State) (h : (s.slot i).state ≠ .free) : (grantSlot i s).slotKeys = s.slotKeys := by
  unfold grantSlot
  rw [makeGrant_keys, onSlot_keys]
  simp [Slot.key, h]

@[simp] theorem grantSweep_keys  (s : State) : (grantSweep  s).slotKeys = s.slotKeys := by
  unfold grantSweep
  (repeat' split) <;> simp

@[simp] theorem grantPass_keys  (s : State) : (grantPass  s).slotKeys = s.slotKeys := by
  unfold grantPass
  (repeat' split) <;> simp

/-- A slot of the table, by its number. -/
theorem slot_eq (s : State) (i : Nat) (x : Slot) (h : s.slots[i]? = some x) : s.slot i = x := by
  simp [State.slot, List.getD, h]

/-- A slot with this name is FREE where the name is absent. -/
theorem slot_free_iff (s : State) (i : Nat) : (s.slot i).state = .free ↔ (s.slotKeys.getD i none) = none := by
  unfold State.slot State.slotKeys
  simp only [List.getD, List.getElem?_map]
  cases s.slots[i]? with
  | none => simp [Slot.empty]
  | some x => by_cases h : x.state = .free <;> simp [Slot.key, h]

@[simp] theorem grantNormal_keys (s : State) : (grantNormal s).slotKeys = s.slotKeys := by
  unfold grantNormal
  split
  · rfl
  · rename_i c hc
    extract_lets s1 src
    have h1 : s1.slotKeys = s.slotKeys := normalTaken_keys c s
    split
    · rename_i hp
      rw [grantSlot_keys]
      · simp [h1]
      · intro hf
        rw [slot_free_iff] at hf
        simp only [keys_update, h1] at hf
        rw [← slot_free_iff, slot_eq s _ _ (normalPick_slot s c hc).1, hp] at hf
        cases hf
    · simp [h1]

@[simp] theorem chooseRow_keys (s : State) : (chooseRow s).slotKeys = s.slotKeys := by
  unfold chooseRow
  extract_lets src s0
  have h0 : s0.slotKeys = s.slotKeys := by
    simp only [s0]
    split <;> simp
  split
  · simp [h0]
  · split
    · rename_i c hc
      split
      · rename_i hp
        rw [grantSlot_keys, h0]
        rw [slot_eq s0 _ _ (urgentPick_slot s0 c hc).1, hp]
        intro h
        cases h
      · simp [h0]
    · (repeat' split) <;> simp [h0]

@[simp] theorem choose_keys  (s : State) : (choose  s).slotKeys = s.slotKeys := by
  unfold choose
  (repeat' split) <;> simp

@[simp] theorem beginGrant_keys  (s : State) : (beginGrant  s).slotKeys = s.slotKeys := by
  unfold beginGrant
  (repeat' split) <;> simp

/-- What a TRAVELLING slot does with the ready gate keeps its name. -/
theorem offerSlot_keys (i : Nat) (s : State) (h : (s.slot i).state = .travelling) :
    (offerSlot i s).slotKeys = s.slotKeys := by
  have hin : i < s.slots.length := by
    by_contra hn
    rw [State.slot, List.getD, List.getElem?_eq_none (by omega)] at h
    cases h
  unfold offerSlot
  extract_lets s0 x
  have h0 : s0.slotKeys = s.slotKeys := onSlot_keys _ _ _ rfl
  have hx : x.state = .travelling := by
    simp only [x, s0, State.slot, onSlot, List.getD, List.getElem?_modify]
    simp only [State.slot, List.getD] at h
    rw [List.getElem?_eq_getElem hin] at h ⊢
    simpa [Slot.atGate] using h
  have hn : (s0.slot i).state ≠ .free := by
    intro hf
    have := hx.symm.trans hf
    cases this
  split
  · split
    · simp only [holdGate_keys]
      rw [onSlot_keys, h0]
      simp [Slot.key, hn]
    · simp only [endGrant_keys, leaveGate_keys]
      rw [onSlot_keys, givePulse_keys, h0]
      exact ended_key _ _ hn
  · simp only [endGrant_keys, leaveGate_keys]
    rw [onSlot_keys, h0]
    exact ended_key _ _ hn
  · exact h0

@[simp] theorem offerGate_keys (s : State) : (offerGate s).slotKeys = s.slotKeys := by
  unfold offerGate
  split
  · split
    · split
      · exact offerSlot_keys _ s ‹_›
      · simp
    · simp
    · split <;> simp
    · simp
  · rfl

@[simp] theorem checkReady_keys  (s : State) : (checkReady  s).slotKeys = s.slotKeys := by
  unfold checkReady
  (repeat' split) <;> simp

@[simp] theorem approachArrived_keys (k : Nat) (s : State) : (approachArrived k s).slotKeys = s.slotKeys := by
  unfold approachArrived
  (repeat' split) <;> simp

@[simp] theorem sweepMoveDone_keys (o : MoveOutcome) (s : State) : (sweepMoveDone o s).slotKeys = s.slotKeys := by
  unfold sweepMoveDone
  extract_lets s1
  have h1 : s1.slotKeys = s.slotKeys := by
    simp only [s1]
    split
    · split
      · cases o <;> simp
      · rfl
    · rfl
  split <;> simp [h1]

/-- The end of a DISCOVER move keeps a slot's name. -/
theorem onDiscoverEnd_key (x : Slot) : x.onDiscoverEnd.key = x.key := by
  unfold Slot.onDiscoverEnd
  split
  · rename_i h
    exact ended_key _ _ (by simp [h])
  · rfl

/-- The end of a move keeps a slot's name. -/
theorem onMoveEnd_key (o : MoveOutcome) (x : Slot) : (x.onMoveEnd o).key = x.key := by
  unfold Slot.onMoveEnd
  split
  · rename_i h
    split <;> simp [Slot.key, Slot.endedBare, Slot.ended, h]
  · rfl

@[simp] theorem moveDone_keys (o : MoveOutcome) (s : State) : (moveDone o s).slotKeys = s.slotKeys := by
  unfold moveDone
  split
  · rfl
  · split
    · rfl
    · simp
    · rw [endGrant_keys]
      split
      · exact map_keys _ onDiscoverEnd_key s.slots
      · rfl
    · rw [endGrant_keys, onSlot_keys _ _ _ (onMoveEnd_key o _)]
    · simp
    · simp

@[simp] theorem lampChanged_keys (s : State) : (lampChanged s).slotKeys = s.slotKeys := by
  unfold lampChanged
  extract_lets s1 s2
  have h1 : s1.slotKeys = s.slotKeys := by
    simp only [s1]
    split <;> simp
  have h2 : s2.slotKeys = s.slotKeys := by
    simp only [s2]
    (repeat' split) <;> simp [h1]
  split
  · split <;> simp [h2]
  · simp [h1]
  · exact h1

/-! ### Cascade -/

@[simp] theorem corrected_keys  (s : State) : (corrected  s).slotKeys = s.slotKeys := by
  unfold corrected
  simp

/-- No consequence changes the names of the slots. -/
@[simp] theorem handle_keys (sig : Signal) (s : State) : (handle sig s).slotKeys = s.slotKeys := by
  cases sig with
  | focusArrived r => cases r <;> simp [handle]
  | segmentEnd =>
    simp only [handle]
    split <;> simp
  | _ => simp [handle]

/-- The consequences of a command, one after another, leave the names of the slots. -/
@[simp] theorem settle_keys (n : Nat) (s : State) : (settle n s).slotKeys = s.slotKeys := by
  induction n generalizing s with
  | zero => rfl
  | succ n ih =>
    unfold settle
    split
    · rfl
    · rw [ih]
      exact handle_keys _ _

/-- Everything that follows from a command leaves the names of the slots. -/
@[simp] theorem finish_keys (s : State) : (finish s).slotKeys = s.slotKeys := settle_keys Config.cascadeFuel s

end Sys2Proof.Machine
end

