-- ==== Sys2Proof/Laws/Cascade.lean ====
section
/-! SUPPORT. How the consequences of one command run (log 4): once for every later proof. -/

namespace Sys2Proof.Machine

open Sys2Proof

/-- Nothing left to do is nothing done. -/
theorem settle_nil (n : Nat) (s : State) (h : s.todo = []) : settle n s = s := by
  cases n with
  | zero => rfl
  | succ n => simp [settle, h]

/-- The next consequence is carried out, and what it sets off comes before what waited. -/
theorem settle_cons (n : Nat) (s : State) (sig : Signal) (rest : List Signal) (h : s.todo = sig :: rest) :
    settle (n + 1) s =
      settle n { handle sig { s with todo := [] } with todo := (handle sig { s with todo := [] }).todo ++ rest } := by
  simp [settle, h]

/-- Where the consequences have ended, more fuel changes nothing. -/
theorem settle_more (n m : Nat) (s : State) (hle : n ≤ m) (h : (settle n s).todo = []) :
    settle m s = settle n s := by
  induction n generalizing m s with
  | zero => exact settle_nil m s h
  | succ n ih =>
    cases hs : s.todo with
    | nil => rw [settle_nil m s hs, settle_nil (n + 1) s hs]
    | cons sig rest =>
      obtain ⟨m, rfl⟩ : ∃ k, m = k + 1 := ⟨m - 1, by omega⟩
      rw [settle_cons n s sig rest hs] at h
      rw [settle_cons m s sig rest hs, settle_cons n s sig rest hs]
      exact ih m _ (by omega) h

/-- A command whose consequences end within `n` of them ends as they leave it. -/
theorem finish_of_settle (n : Nat) (s t : State) (hn : n ≤ Config.cascadeFuel) (h : settle n s = t)
    (ht : t.todo = []) : finish s = t := by
  have hq : (settle n s).todo = [] := by rw [h, ht]
  unfold finish
  rw [settle_more n _ s hn hq, h]
  cases t
  cases ht
  rfl

/-- A command that sets nothing off ends with its own effect. -/
theorem finish_quiet (s : State) (h : s.todo = []) : finish s = s :=
  finish_of_settle 0 s s (Nat.zero_le _) rfl h

/-- A command's one consequence is carried out, where that sets off nothing more. -/
theorem finish_one (s : State) (sig : Signal) (h : s.todo = [sig])
    (hq : (handle sig { s with todo := [] }).todo = []) : finish s = handle sig { s with todo := [] } := by
  refine finish_of_settle 1 s _ (by decide) ?_ hq
  rw [settle_cons 0 s sig [] h]
  cases hs : handle sig { s with todo := [] }
  rw [hs] at hq
  cases hq
  rfl

/-- Nothing is left over after a command (log 4). -/
@[simp] theorem finish_todo (s : State) : (finish s).todo = [] := rfl

/-- What every consequence keeps, everything that follows from a command keeps. -/
theorem settle_keeps (P : State → Prop) (htodo : ∀ s l, P s → P { s with todo := l })
    (h : ∀ sig s, P s → P (handle sig s)) (n : Nat) (s : State) (hs : P s) : P (settle n s) := by
  induction n generalizing s with
  | zero => exact hs
  | succ n ih =>
    cases ht : s.todo with
    | nil => rw [settle_nil _ s ht]; exact hs
    | cons sig rest =>
      rw [settle_cons n s sig rest ht]
      exact ih _ (htodo _ _ (h sig _ (htodo _ _ hs)))

/-- The same for the whole command. -/
theorem finish_keeps (P : State → Prop) (htodo : ∀ s l, P s → P { s with todo := l })
    (h : ∀ sig s, P s → P (handle sig s)) (s : State) (hs : P s) : P (finish s) :=
  htodo _ _ (settle_keeps P htodo h _ s hs)

end Sys2Proof.Machine
end

