-- ==== Sys2Proof/Laws/Wire.lean ====
section
/-! SUPPORT. What no command but the one named for it changes: the waiting commands, the parameters, the counter of
retrieval requests, and of each link all that its own requests alone set. -/

namespace Sys2Proof.Machine

open Sys2Proof

/-- The part of a link that only its own requests set: the answer, the masks, the clear mode and the program buffer (10). -/
structure Wire where
  answer : Answer
  flagMask : BitVec 11
  clearMode : ClearMode
  buffer : List (Option Segment)
  inputMask : Inputs

/-- The wire part of a link. -/
def LinkState.wire (k : LinkState) : Wire :=
  { answer := k.answer, flagMask := k.flagMask, clearMode := k.clearMode, buffer := k.buffer, inputMask := k.inputMask }

/-- What no event and no consequence changes. -/
structure Base where
  pending : List Instr
  params : Params
  freeCount : Nat
  slotCounter : BitVec 32
  wireA : Wire
  wireB : Wire

/-- The base of the still part. -/
def Still.base (x : Still) : Base :=
  { pending := x.pending, params := x.params, freeCount := x.freeCount, slotCounter := x.slotCounter,
    wireA := x.linkA.wire, wireB := x.linkB.wire }

/-- An update that keeps these parts keeps the base. -/
@[simp] theorem base_update (x : State) (tr : Tracker) (mk : Marks) (ix : FrameIndex) (tp : Transport) (lp : Lamp)
    (ro : Roll) (fo : Focus) (zn : List Zone) (sw : Sweep) (sl : List Slot) (sc : Sched) (pa : Pass) (tg : Tag)
    (po : Poller) (bu : Bus) (lA lB : LinkState) (td : List Signal)
    (h1 : sc.counter = x.sched.counter) (h2 : lA.wire = x.linkA.wire) (h3 : lB.wire = x.linkB.wire) :
    (State.mk tr mk ix tp lp ro fo zn sw sl sc pa tg po bu x.params lA lB x.freeCount td x.pending).still.base =
      x.still.base := by
  simp only [LinkState.wire, Wire.mk.injEq] at h2 h3
  simp only [State.still, Still.base, LinkState.wire, h1, h2, h3]

/-- A change of both links that keeps their wire parts keeps the base. -/
theorem onLinks_base (f : LinkState → LinkState) (s : State) (h : ∀ k, (f k).wire = k.wire) :
    (onLinks f s).still.base = s.still.base := base_update s _ _ _ _ _ _ _ _ _ _ _ _ _ _ _ _ _ _ rfl (h _) (h _)

/-- A change of one link that keeps its wire part keeps the base. -/
theorem onLink_base (l : Link) (f : LinkState → LinkState) (s : State) (h : ∀ k, (f k).wire = k.wire) :
    (onLink l f s).still.base = s.still.base := by
  cases l
  · exact base_update s _ _ _ _ _ _ _ _ _ _ _ _ _ _ _ _ _ _ rfl (h _) rfl
  · exact base_update s _ _ _ _ _ _ _ _ _ _ _ _ _ _ _ _ _ _ rfl rfl (h _)

@[simp] theorem closeStream_base (l : Link) (s : State) : (closeStream l s).still.base = s.still.base :=
  onLink_base l _ s (fun _ => rfl)

@[simp] theorem closeStreams_base (s : State) : (closeStreams s).still.base = s.still.base :=
  onLinks_base _ s (fun _ => rfl)

@[simp] theorem latchBoth_base (x : Inputs) (s : State) : (latchBoth x s).still.base = s.still.base :=
  onLinks_base _ s (fun _ => rfl)

@[simp] theorem endSuppression_base (s : State) : (endSuppression s).still.base = s.still.base := by
  apply onLinks_base
  intro k
  rfl

/-! ### Ops -/

@[simp] theorem setPitch_base (nominal : Nat) (s : State) : (setPitch nominal s).still.base = s.still.base := by
  unfold setPitch
  simp

/-! ### Lens -/

@[simp] theorem homeFound_base  (s : State) : (homeFound s).still.base = s.still.base := by
  unfold homeFound
  simp

@[simp] theorem homeNotFound_base  (s : State) : (homeNotFound s).still.base = s.still.base := by
  unfold homeNotFound
  simp

@[simp] theorem stepLens_base (focHome : Bool) (s : State) : (stepLens focHome s).still.base = s.still.base := by
  unfold stepLens
  split
  · split
    · extract_lets src s1
      have h1 : s1.still.base = s.still.base := by simp [s1, src]
      split <;> simp [h1]
    · rfl
  · extract_lets p src s1
    have h1 : s1.still.base = s.still.base := by simp [s1, src]
    (repeat' split) <;> simp [h1]
  · extract_lets p src s1
    have h1 : s1.still.base = s.still.base := by simp [s1, src]
    split <;> simp [h1]
  · rfl

/-! ### Motion -/

@[simp] theorem countRegister_base (d : Direction) (s : State) : (countRegister d s).still.base = s.still.base := by
  unfold countRegister
  (repeat' split) <;> simp

@[simp] theorem countTaken_base (d : Direction) (s : State) : (countTaken d s).still.base = s.still.base := by
  unfold countTaken
  extract_lets s1 s2 s3
  have h1 : s1.still.base = s.still.base := by simp [s1]
  have h2 : s2.still.base = s.still.base := by
    simp only [s2]
    split <;> simp [h1]
  have h3 : s3.still.base = s.still.base := by simp [s3, h2]
  split <;> simp [h3]

@[simp] theorem zeroAtLeader_base (s : State) : (zeroAtLeader s).still.base = s.still.base := by
  simp [zeroAtLeader]

@[simp] theorem leaderChangedInMove_base (level : LeaderLevel) (s : State) : (leaderChangedInMove level s).still.base = s.still.base := by
  unfold leaderChangedInMove
  (repeat' split) <;> simp

@[simp] theorem trailerFired_base (s : State) : (trailerFired s).still.base = s.still.base := by
  unfold trailerFired
  split
  · split
    · extract_lets src s1 s2
      have h1 : s1.still.base = s.still.base := by simp [s1]
      have h2 : s2.still.base = s.still.base := by
        simp only [s2]
        split <;> simp [h1]
      simp [h2]
    · rfl
  · rfl

/-! ### Index -/

@[simp] theorem slipCorrect_base (e : Int) (s : State) : (slipCorrect e s).still.base = s.still.base := by
  unfold slipCorrect
  simp

@[simp] theorem resight_base (m len : Nat) (cls : MarkClass) (s : State) : (resight m len cls s).still.base = s.still.base := by
  unfold resight
  extract_lets k
  split
  · rfl
  · extract_lets err d
    (repeat' split) <;> simp

@[simp] theorem placeMark_base (m len : Nat) (cls : MarkClass) (s : State) : (placeMark m len cls s).still.base = s.still.base := by
  unfold placeMark
  (repeat' split) <;> simp

@[simp] theorem trailingEdge_base (s : State) : (trailingEdge s).still.base = s.still.base := by
  unfold trailingEdge
  split
  · rfl
  · extract_lets len s1
    have h1 : s1.still.base = s.still.base := by simp [s1]
    (repeat' split) <;> simp [h1]

/-! ### Sweeping -/

@[simp] theorem fitSweep_base (s : State) : (fitSweep s).still.base = s.still.base := by
  unfold fitSweep
  split
  · rfl
  · extract_lets fit
    split
    · extract_lets s1
      have h1 : s1.still.base = s.still.base := by simp [s1]
      (repeat' split) <;> simp [h1]
    · simp

@[simp] theorem takeScore_base (v : Nat) (s : State) : (takeScore v s).still.base = s.still.base := by
  unfold takeScore
  (repeat' split) <;> simp

/-! ### Loading -/

@[simp] theorem applyProfile_base (p : Profile) (s : State) : (applyProfile p s).still.base = s.still.base := by
  unfold applyProfile
  simp

@[simp] theorem emptyIndex_base  (s : State) : (emptyIndex s).still.base = s.still.base := by
  unfold emptyIndex
  simp

@[simp] theorem enterEmpty_base  (s : State) : (enterEmpty s).still.base = s.still.base := by
  unfold enterEmpty
  simp

@[simp] theorem threadCheck_base  (s : State) : (threadCheck s).still.base = s.still.base := by
  unfold threadCheck
  (repeat' split) <;> simp

@[simp] theorem threadArrived_base  (s : State) : (threadArrived s).still.base = s.still.base := by
  unfold threadArrived
  simp

@[simp] theorem unloadComplete_base  (s : State) : (unloadComplete s).still.base = s.still.base := by
  unfold unloadComplete
  simp

@[simp] theorem unloadCheck_base  (s : State) : (unloadCheck s).still.base = s.still.base := by
  unfold unloadCheck
  (repeat' split) <;> simp

@[simp] theorem rewindEnd_base  (s : State) : (rewindEnd s).still.base = s.still.base := by
  unfold rewindEnd
  (repeat' split) <;> simp

@[simp] theorem rewindDrive_base  (s : State) : (rewindDrive s).still.base = s.still.base := by
  unfold rewindDrive
  simp

@[simp] theorem rewindStart_base (fromStandby : Bool) (s : State) : (rewindStart fromStandby s).still.base = s.still.base := by
  unfold rewindStart
  (repeat' split) <;> simp

@[simp] theorem askRecord_base (kind : RecordTransfer) (s : State) : (askRecord kind s).still.base = s.still.base := by
  unfold askRecord
  simp

@[simp] theorem writeReported_base  (s : State) :
    (writeReported s).still.base = s.still.base := by
  unfold writeReported
  extract_lets src s1
  have h_s1 : s1.still.base = s.still.base := by simp [s1, src]
  (repeat' split) <;> simp [h_s1]

@[simp] theorem writeFailed_base  (s : State) : (writeFailed s).still.base = s.still.base := by
  unfold writeFailed
  simp

@[simp] theorem decideWrite_base  (s : State) : (decideWrite s).still.base = s.still.base := by
  unfold decideWrite
  (repeat' split) <;> simp

@[simp] theorem writeStart_base  (s : State) : (writeStart s).still.base = s.still.base := by
  unfold writeStart
  (repeat' split) <;> simp

@[simp] theorem gaugeAndThread_base  (s : State) : (gaugeAndThread s).still.base = s.still.base := by
  unfold gaugeAndThread
  (repeat' split) <;> simp

@[simp] theorem completeLoad_base (e : LoadEnd) (l : LoadRecord) (s : State) :
    (completeLoad e l s).still.base = s.still.base := by
  unfold completeLoad
  extract_lets read fresh src src2 s1 s2 s3 src3 src4 s4 s5
  have h1 : s1.still.base = s.still.base := by simp [s1]
  have h2 : s2.still.base = s.still.base := by
    simp only [s2]
    split <;> simp [h1]
  have h3 : s3.still.base = s.still.base := by simp [s3, h2]
  have h4 : s4.still.base = s.still.base := by
    simp only [s4]
    split <;> simp [h3]
  have h5 : s5.still.base = s.still.base := by simp [s5, h4]
  split <;> simp [h5]

@[simp] theorem beginLoad_base  (s : State) :
    (beginLoad s).still.base = s.still.base := by
  unfold beginLoad
  extract_lets src s1
  have h_s1 : s1.still.base = s.still.base := by simp [s1, src]
  split <;> simp [h_s1]

@[simp] theorem startTagLoad_base  (s : State) :
    (startTagLoad s).still.base = s.still.base := by
  unfold startTagLoad
  extract_lets src s1 src2
  have h_s1 : s1.still.base = s.still.base := by simp [s1, src]
  (repeat' split) <;> simp [h_s1]

@[simp] theorem deferredLoad_base  (s : State) : (deferredLoad s).still.base = s.still.base := by
  unfold deferredLoad
  (repeat' split) <;> simp

@[simp] theorem takeRecord_base (x : TagItem) (l : LoadRecord) (s : State) : (takeRecord x l s).still.base = s.still.base := by
  unfold takeRecord
  (repeat' split) <;> simp

@[simp] theorem recordRead_base (acknowledged : Bool) (r : TagRecord) (s : State) : (recordRead acknowledged r s).still.base = s.still.base := by
  unfold recordRead
  (repeat' split) <;> simp

@[simp] theorem recordWritten_base (acknowledged : Bool) (s : State) : (recordWritten acknowledged s).still.base = s.still.base := by
  unfold recordWritten
  (repeat' split) <;> simp

@[simp] theorem tagBusFailed_base  (s : State) :
    (tagBusFailed s).still.base = s.still.base := by
  unfold tagBusFailed
  extract_lets s1
  have h_s1 : s1.still.base = s.still.base := by
    simp only [s1]
    (repeat' split) <;> simp []
  split <;> simp [h_s1]

@[simp] theorem cartridgeInserted_base  (s : State) : (cartridgeInserted s).still.base = s.still.base := by
  unfold cartridgeInserted
  simp

@[simp] theorem abandonTag_base  (s : State) :
    (abandonTag s).still.base = s.still.base := by
  unfold abandonTag
  extract_lets src src2 s1 src3
  have h_s1 : s1.still.base = s.still.base := by simp [s1]
  split <;> simp [h_s1]

@[simp] theorem cartridgeRemoved_base  (s : State) :
    (cartridgeRemoved s).still.base = s.still.base := by
  unfold cartridgeRemoved
  extract_lets src s1
  have h_s1 : s1.still.base = s.still.base := by simp [s1]
  (repeat' split) <;> simp [h_s1]

@[simp] theorem firstRoundComplete_base  (s : State) :
    (firstRoundComplete s).still.base = s.still.base := by
  unfold firstRoundComplete
  extract_lets src src2 s1 s2
  have h_s1 : s1.still.base = s.still.base := by simp [s1]
  have h_s2 : s2.still.base = s.still.base := by simp [s2, h_s1]
  (repeat' split) <;> simp [h_s1, h_s2]

/-! ### AuxBus -/

@[simp] theorem markStale_base (b : Nat) (s : State) : (markStale b s).still.base = s.still.base := by
  unfold markStale
  simp

@[simp] theorem takeByte_base (b : Nat) (v : Byte) (s : State) : (takeByte b v s).still.base = s.still.base := by
  unfold takeByte
  simp

@[simp] theorem doorOpened_base  (s : State) : (doorOpened s).still.base = s.still.base := by
  unfold doorOpened
  (repeat' split) <;> simp

@[simp] theorem tensionPassedOut_base  (s : State) : (tensionPassedOut s).still.base = s.still.base := by
  unfold tensionPassedOut
  (repeat' split) <;> simp

@[simp] theorem lampOkChanged_base (ok : Bool) (s : State) : (lampOkChanged ok s).still.base = s.still.base := by
  unfold lampOkChanged
  (repeat' split) <;> simp

@[simp] theorem deliver_base (x : Delivery) (s : State) : (deliver x s).still.base = s.still.base := by
  unfold deliver
  (repeat' split) <;> simp

@[simp] theorem deliverAll_base (l : List Delivery) (s : State) : (deliverAll l s).still.base = s.still.base := by
  unfold deliverAll
  induction l generalizing s with
  | nil => rfl
  | cons d ds ih => simp [ih]

@[simp] theorem beginTransfer_base (t : Transfer) (s : State) : (beginTransfer t s).still.base = s.still.base := by
  unfold beginTransfer
  extract_lets src s1
  have h1 : s1.still.base = s.still.base := by simp [s1]
  split
  · refine (onLinks_base _ _ ?_).trans h1
    intro k
    rfl
  · exact h1

@[simp] theorem afterPoll_base  (s : State) : (afterPoll s).still.base = s.still.base := by
  unfold afterPoll
  (repeat' split) <;> simp

@[simp] theorem byteAcknowledged_base (b : Nat) (v : Byte) (s : State) : (byteAcknowledged b v s).still.base = s.still.base := by
  unfold byteAcknowledged
  (repeat' split) <;> simp

@[simp] theorem pollEnded_base (acknowledged : Bool) (v : Byte) (s : State) :
    (pollEnded acknowledged v s).still.base = s.still.base := by
  unfold pollEnded
  extract_lets b src s1 s2 s3 s4
  have h1 : s1.still.base = s.still.base := by simp [s1]
  have h2 : s2.still.base = s.still.base := by
    simp only [s2]
    split <;> simp [h1]
  have h3 : s3.still.base = s.still.base := by
    simp only [s3]
    split <;> simp [h2]
  have h4 : s4.still.base = s.still.base := by
    simp only [s4]
    split <;> simp [h3]
  simp [h4]

theorem recordEnded_base (take : State → State) (s : State)
    (h : ∀ x, (take x).still.base = x.still.base) : (recordEnded take s).still.base = s.still.base := by
  unfold recordEnded
  simp [h]

@[simp] theorem busFailed_base (s : State) : (busFailed s).still.base = s.still.base := by
  unfold busFailed
  extract_lets src src2 s1 s2 s3
  have h1 : s1.still.base = s.still.base := by simp [s1]
  have h2 : s2.still.base = s.still.base := by
    simp only [s2]
    refine (onLinks_base _ _ ?_).trans ?_
    · intro k
      rfl
    · simp [h1]
  have h3 : s3.still.base = s.still.base := by simp [s3, h2]
  split <;> simp [h3]

@[simp] theorem busFault_base  (s : State) :
    (busFault s).still.base = s.still.base := by
  unfold busFault
  extract_lets s1 src
  have h_s1 : s1.still.base = s.still.base := by
    simp only [s1]
    (repeat' split) <;> simp []
  split <;> simp [h_s1]

@[simp] theorem recoveryEnded_base (high : Bool) (s : State) :
    (recoveryEnded high s).still.base = s.still.base := by
  unfold recoveryEnded
  extract_lets n
  (repeat' split) <;> simp

/-! ### Cascade -/

/-! ### LinkCommands -/

/-! ### RollCommands -/

@[simp] theorem startPull_base  (s : State) : (startPull s).still.base = s.still.base := by
  unfold startPull
  (repeat' split) <;> simp

@[simp] theorem loadAccepted_base  (s : State) :
    (loadAccepted s).still.base = s.still.base := by
  unfold loadAccepted
  extract_lets src s1
  have h_s1 : s1.still.base = s.still.base := by simp [s1]
  rw [startPull_base]
  split <;> simp [h_s1]

@[simp] theorem cancelQueued_base  (s : State) : (cancelQueued s).still.base = s.still.base := by
  unfold cancelQueued
  simp

@[simp] theorem unloadAccepted_base  (s : State) : (unloadAccepted s).still.base = s.still.base := by
  unfold unloadAccepted
  simp

@[simp] theorem clearIntoParked_base  (s : State) :
    (clearIntoParked s).still.base = s.still.base := by
  unfold clearIntoParked
  extract_lets src s1
  have h_s1 : s1.still.base = s.still.base := by simp [s1]
  rw [enterState_still]
  split <;> simp [h_s1]

@[simp] theorem clearIntoEmpty_base  (s : State) :
    (clearIntoEmpty s).still.base = s.still.base := by
  unfold clearIntoEmpty
  extract_lets src s1
  have h_s1 : s1.still.base = s.still.base := by simp [s1]
  split <;> simp [h_s1]

/-! ### IndexCommands -/

@[simp] theorem indexClear_base  (s : State) : (indexClear s).still.base = s.still.base := by
  unfold indexClear
  simp

/-! ### RetrievalCommands -/

@[simp] theorem slotTaken_base (x : Slot) (s : State) : (slotTaken x s).still.base = s.still.base := by
  unfold slotTaken
  (repeat' split) <;> simp

@[simp] theorem endPresenting_base (i : Nat) (code : ResultCode) (s : State) : (endPresenting i code s).still.base = s.still.base := by
  unfold endPresenting
  simp

/-! ### PassCommands -/

@[simp] theorem pendingMade_base (p : PendingRequest) (s : State) :
    (pendingMade p s).still.base = s.still.base := by
  unfold pendingMade
  extract_lets src s1
  have h_s1 : s1.still.base = s.still.base := by simp [s1]
  split <;> simp [h_s1]

@[simp] theorem stepCaptured_base (k : Nat) (ok : Bool) (s : State) : (stepCaptured k ok s).still.base = s.still.base := by
  unfold stepCaptured
  (repeat' split) <;> simp

@[simp] theorem flyCaptured_base (k i : Nat) (ok : Bool) (s : State) :
    (flyCaptured k i ok s).still.base = s.still.base := by
  unfold flyCaptured
  split
  · simp
  · extract_lets s1
    have h_s1 : s1.still.base = s.still.base := by simp [s1]
    split <;> simp [h_s1]

@[simp] theorem captureTimeout_base  (s : State) : (captureTimeout s).still.base = s.still.base := by
  unfold captureTimeout
  (repeat' split) <;> simp

/-! ### FocusCommands -/

/-! ### FilmEvents -/

@[simp] theorem encoderCount_base (d : Direction) (s : State) : (encoderCount d s).still.base = s.still.base := by
  unfold encoderCount
  (repeat' split) <;> simp

@[simp] theorem leaderChanged_base (level : LeaderLevel) (s : State) :
    (leaderChanged level s).still.base = s.still.base := by
  unfold leaderChanged
  split
  · rfl
  · extract_lets src s1
    have h_s1 : s1.still.base = s.still.base := by simp [s1]
    (repeat' split) <;> simp [h_s1]

@[simp] theorem settleExpired_base  (s : State) : (settleExpired s).still.base = s.still.base := by
  unfold settleExpired
  simp

/-! ### RollEvents -/

@[simp] theorem tensionExpired_base  (s : State) :
    (tensionExpired s).still.base = s.still.base := by
  unfold tensionExpired
  extract_lets src s1 s2
  have h_s1 : s1.still.base = s.still.base := by simp [s1]
  have h_s2 : s2.still.base = s.still.base := by simp [s2, h_s1]
  (repeat' split) <;> simp [h_s1, h_s2]

end Sys2Proof.Machine
end

