-- ==== Sys2Proof/Laws/Names.lean ====
section
/-! SUPPORT. The names of the retrieval slots through the roll's life, the auxiliary bus and the commands. -/

namespace Sys2Proof.Machine

open Sys2Proof

@[simp] theorem latchBoth_keys (x : Inputs) (s : State) : (latchBoth x s).slotKeys = s.slotKeys := rfl

@[simp] theorem endSuppression_keys (s : State) : (endSuppression s).slotKeys = s.slotKeys := rfl

/-! ### Loading -/

@[simp] theorem applyProfile_keys (p : Profile) (s : State) : (applyProfile p s).slotKeys = s.slotKeys := by
  unfold applyProfile
  simp

@[simp] theorem emptyIndex_keys  (s : State) : (emptyIndex s).slotKeys = s.slotKeys := by
  unfold emptyIndex
  simp

@[simp] theorem enterEmpty_keys  (s : State) : (enterEmpty s).slotKeys = s.slotKeys := by
  unfold enterEmpty
  simp

@[simp] theorem threadCheck_keys  (s : State) : (threadCheck s).slotKeys = s.slotKeys := by
  unfold threadCheck
  (repeat' split) <;> simp

@[simp] theorem threadArrived_keys  (s : State) : (threadArrived s).slotKeys = s.slotKeys := by
  unfold threadArrived
  simp

@[simp] theorem unloadComplete_keys  (s : State) : (unloadComplete s).slotKeys = s.slotKeys := by
  unfold unloadComplete
  simp

@[simp] theorem unloadCheck_keys  (s : State) : (unloadCheck s).slotKeys = s.slotKeys := by
  unfold unloadCheck
  (repeat' split) <;> simp

@[simp] theorem rewindEnd_keys  (s : State) : (rewindEnd s).slotKeys = s.slotKeys := by
  unfold rewindEnd
  (repeat' split) <;> simp

@[simp] theorem rewindDrive_keys  (s : State) : (rewindDrive s).slotKeys = s.slotKeys := by
  unfold rewindDrive
  simp

@[simp] theorem rewindStart_keys (fromStandby : Bool) (s : State) : (rewindStart fromStandby s).slotKeys = s.slotKeys := by
  unfold rewindStart
  (repeat' split) <;> simp

@[simp] theorem askRecord_keys (kind : RecordTransfer) (s : State) : (askRecord kind s).slotKeys = s.slotKeys := by
  unfold askRecord
  simp

@[simp] theorem writeReported_keys  (s : State) :
    (writeReported s).slotKeys = s.slotKeys := by
  unfold writeReported
  extract_lets src s1
  have h_s1 : s1.slotKeys = s.slotKeys := by simp [s1, src]
  (repeat' split) <;> simp [h_s1]

@[simp] theorem writeFailed_keys  (s : State) : (writeFailed s).slotKeys = s.slotKeys := by
  unfold writeFailed
  simp

@[simp] theorem decideWrite_keys  (s : State) : (decideWrite s).slotKeys = s.slotKeys := by
  unfold decideWrite
  (repeat' split) <;> simp

@[simp] theorem writeStart_keys  (s : State) : (writeStart s).slotKeys = s.slotKeys := by
  unfold writeStart
  (repeat' split) <;> simp

@[simp] theorem gaugeAndThread_keys  (s : State) : (gaugeAndThread s).slotKeys = s.slotKeys := by
  unfold gaugeAndThread
  (repeat' split) <;> simp

@[simp] theorem completeLoad_keys (e : LoadEnd) (l : LoadRecord) (s : State) :
    (completeLoad e l s).slotKeys = s.slotKeys := by
  unfold completeLoad
  extract_lets read fresh src src2 s1 s2 s3 src3 src4 s4 s5
  have h1 : s1.slotKeys = s.slotKeys := by simp [s1]
  have h2 : s2.slotKeys = s.slotKeys := by
    simp only [s2]
    split <;> simp [h1]
  have h3 : s3.slotKeys = s.slotKeys := by simp [s3, h2]
  have h4 : s4.slotKeys = s.slotKeys := by
    simp only [s4]
    split <;> simp [h3]
  have h5 : s5.slotKeys = s.slotKeys := by simp [s5, h4]
  split <;> simp [h5]

@[simp] theorem beginLoad_keys  (s : State) :
    (beginLoad s).slotKeys = s.slotKeys := by
  unfold beginLoad
  extract_lets src s1
  have h_s1 : s1.slotKeys = s.slotKeys := by simp [s1, src]
  split <;> simp [h_s1]

@[simp] theorem startTagLoad_keys  (s : State) :
    (startTagLoad s).slotKeys = s.slotKeys := by
  unfold startTagLoad
  extract_lets src s1 src2
  have h_s1 : s1.slotKeys = s.slotKeys := by simp [s1, src]
  (repeat' split) <;> simp [h_s1]

@[simp] theorem deferredLoad_keys  (s : State) : (deferredLoad s).slotKeys = s.slotKeys := by
  unfold deferredLoad
  (repeat' split) <;> simp

@[simp] theorem takeRecord_keys (x : TagItem) (l : LoadRecord) (s : State) : (takeRecord x l s).slotKeys = s.slotKeys := by
  unfold takeRecord
  (repeat' split) <;> simp

@[simp] theorem recordRead_keys (acknowledged : Bool) (r : TagRecord) (s : State) : (recordRead acknowledged r s).slotKeys = s.slotKeys := by
  unfold recordRead
  (repeat' split) <;> simp

@[simp] theorem recordWritten_keys (acknowledged : Bool) (s : State) : (recordWritten acknowledged s).slotKeys = s.slotKeys := by
  unfold recordWritten
  (repeat' split) <;> simp

@[simp] theorem tagBusFailed_keys  (s : State) :
    (tagBusFailed s).slotKeys = s.slotKeys := by
  unfold tagBusFailed
  extract_lets s1
  have h_s1 : s1.slotKeys = s.slotKeys := by
    simp only [s1]
    (repeat' split) <;> simp []
  split <;> simp [h_s1]

@[simp] theorem cartridgeInserted_keys  (s : State) : (cartridgeInserted s).slotKeys = s.slotKeys := by
  unfold cartridgeInserted
  simp

@[simp] theorem abandonTag_keys  (s : State) :
    (abandonTag s).slotKeys = s.slotKeys := by
  unfold abandonTag
  extract_lets src src2 s1 src3
  have h_s1 : s1.slotKeys = s.slotKeys := by simp [s1]
  split <;> simp [h_s1]

@[simp] theorem cartridgeRemoved_keys  (s : State) :
    (cartridgeRemoved s).slotKeys = s.slotKeys := by
  unfold cartridgeRemoved
  extract_lets src s1
  have h_s1 : s1.slotKeys = s.slotKeys := by simp [s1]
  (repeat' split) <;> simp [h_s1]

@[simp] theorem firstRoundComplete_keys  (s : State) :
    (firstRoundComplete s).slotKeys = s.slotKeys := by
  unfold firstRoundComplete
  extract_lets src src2 s1 s2
  have h_s1 : s1.slotKeys = s.slotKeys := by simp [s1]
  have h_s2 : s2.slotKeys = s.slotKeys := by simp [s2, h_s1]
  (repeat' split) <;> simp [h_s1, h_s2]

/-! ### AuxBus -/

@[simp] theorem markStale_keys (b : Nat) (s : State) : (markStale b s).slotKeys = s.slotKeys := by
  unfold markStale
  simp

@[simp] theorem takeByte_keys (b : Nat) (v : Byte) (s : State) : (takeByte b v s).slotKeys = s.slotKeys := by
  unfold takeByte
  simp

@[simp] theorem doorOpened_keys  (s : State) : (doorOpened s).slotKeys = s.slotKeys := by
  unfold doorOpened
  (repeat' split) <;> simp

@[simp] theorem tensionPassedOut_keys  (s : State) : (tensionPassedOut s).slotKeys = s.slotKeys := by
  unfold tensionPassedOut
  (repeat' split) <;> simp

@[simp] theorem lampOkChanged_keys (ok : Bool) (s : State) : (lampOkChanged ok s).slotKeys = s.slotKeys := by
  unfold lampOkChanged
  (repeat' split) <;> simp

@[simp] theorem deliver_keys (x : Delivery) (s : State) : (deliver x s).slotKeys = s.slotKeys := by
  unfold deliver
  (repeat' split) <;> simp

@[simp] theorem deliverAll_keys (l : List Delivery) (s : State) : (deliverAll l s).slotKeys = s.slotKeys := by
  unfold deliverAll
  induction l generalizing s with
  | nil => rfl
  | cons d ds ih => simp [ih]

@[simp] theorem beginTransfer_keys (t : Transfer) (s : State) : (beginTransfer t s).slotKeys = s.slotKeys := by
  unfold beginTransfer
  extract_lets src s1
  have h1 : s1.slotKeys = s.slotKeys := by simp [s1]
  split
  · exact h1
  · exact h1

@[simp] theorem afterPoll_keys  (s : State) : (afterPoll s).slotKeys = s.slotKeys := by
  unfold afterPoll
  (repeat' split) <;> simp

@[simp] theorem byteAcknowledged_keys (b : Nat) (v : Byte) (s : State) : (byteAcknowledged b v s).slotKeys = s.slotKeys := by
  unfold byteAcknowledged
  (repeat' split) <;> simp

@[simp] theorem pollEnded_keys (acknowledged : Bool) (v : Byte) (s : State) :
    (pollEnded acknowledged v s).slotKeys = s.slotKeys := by
  unfold pollEnded
  extract_lets b src s1 s2 s3 s4
  have h1 : s1.slotKeys = s.slotKeys := by simp [s1]
  have h2 : s2.slotKeys = s.slotKeys := by
    simp only [s2]
    split <;> simp [h1]
  have h3 : s3.slotKeys = s.slotKeys := by
    simp only [s3]
    split <;> simp [h2]
  have h4 : s4.slotKeys = s.slotKeys := by
    simp only [s4]
    split <;> simp [h3]
  simp [h4]

theorem recordEnded_keys (take : State → State) (s : State)
    (h : ∀ x, (take x).slotKeys = x.slotKeys) : (recordEnded take s).slotKeys = s.slotKeys := by
  unfold recordEnded
  simp [h]

@[simp] theorem busFailed_keys (s : State) : (busFailed s).slotKeys = s.slotKeys := by
  unfold busFailed
  extract_lets src src2 s1 s2 s3
  have h1 : s1.slotKeys = s.slotKeys := by simp [s1]
  have h2 : s2.slotKeys = s.slotKeys := by
    simp only [s2]
    simp [h1]
  have h3 : s3.slotKeys = s.slotKeys := by simp [s3, h2]
  split <;> simp [h3]

@[simp] theorem busFault_keys  (s : State) :
    (busFault s).slotKeys = s.slotKeys := by
  unfold busFault
  extract_lets s1 src
  have h_s1 : s1.slotKeys = s.slotKeys := by
    simp only [s1]
    (repeat' split) <;> simp []
  split <;> simp [h_s1]

@[simp] theorem recoveryEnded_keys (high : Bool) (s : State) :
    (recoveryEnded high s).slotKeys = s.slotKeys := by
  unfold recoveryEnded
  extract_lets n
  (repeat' split) <;> simp

/-! ### Cascade -/

/-! ### LinkCommands -/

/-! ### RollCommands -/

@[simp] theorem startPull_keys  (s : State) : (startPull s).slotKeys = s.slotKeys := by
  unfold startPull
  (repeat' split) <;> simp

@[simp] theorem loadAccepted_keys  (s : State) :
    (loadAccepted s).slotKeys = s.slotKeys := by
  unfold loadAccepted
  extract_lets src s1
  have h_s1 : s1.slotKeys = s.slotKeys := by simp [s1]
  rw [startPull_keys]
  split <;> simp [h_s1]

@[simp] theorem cancelQueued_keys  (s : State) : (cancelQueued s).slotKeys = s.slotKeys := by
  unfold cancelQueued
  simp

/-- An unload keeps the names of the slots. -/
theorem onUnload_key (x : Slot) : x.onUnload.key = x.key := by
  unfold Slot.onUnload
  split
  · rfl
  · rename_i h
    exact ended_key _ _ (fun e => h (Or.inl e))

@[simp] theorem unloadAccepted_keys (s : State) : (unloadAccepted s).slotKeys = s.slotKeys := by
  unfold unloadAccepted
  extract_lets fromStandby s1 src src2 src3 s2
  have h1 : s1.slotKeys = s.slotKeys := (cancelQueued_keys _).trans (map_keys _ onUnload_key s.slots)
  have h2 : s2.slotKeys = s.slotKeys := by simp [s2, h1]
  simp [h2]

@[simp] theorem clearIntoParked_keys  (s : State) :
    (clearIntoParked s).slotKeys = s.slotKeys := by
  unfold clearIntoParked
  extract_lets src s1
  have h_s1 : s1.slotKeys = s.slotKeys := by simp [s1]
  rw [enterState_keys]
  split <;> simp [h_s1]

@[simp] theorem clearIntoEmpty_keys (s : State) : (clearIntoEmpty s).slotKeys = s.slotKeys := by
  unfold clearIntoEmpty
  extract_lets src s1
  have h1 : s1.slotKeys = s.slotKeys := (enterEmpty_keys _).trans (map_keys _ onUnload_key s.slots)
  split <;> simp [h1]

/-! ### IndexCommands -/

@[simp] theorem indexClear_keys  (s : State) : (indexClear s).slotKeys = s.slotKeys := by
  unfold indexClear
  simp

/-! ### RetrievalCommands -/

@[simp] theorem slotTaken_keys (x : Slot) (s : State) : (slotTaken x s).slotKeys = s.slotKeys := by
  unfold slotTaken
  (repeat' split) <;> simp

/-- The end of a slot that is not FREE keeps the names. -/
theorem endPresenting_keys (i : Nat) (code : ResultCode) (s : State) (h : (s.slot i).state ≠ .free) :
    (endPresenting i code s).slotKeys = s.slotKeys := by
  unfold endPresenting
  rw [endGrant_keys, freeGate_keys]
  exact onSlot_keys _ _ _ (ended_key _ _ h)

/-! ### PassCommands -/

@[simp] theorem pendingMade_keys (p : PendingRequest) (s : State) :
    (pendingMade p s).slotKeys = s.slotKeys := by
  unfold pendingMade
  extract_lets src s1
  have h_s1 : s1.slotKeys = s.slotKeys := by simp [s1]
  split <;> simp [h_s1]

@[simp] theorem stepCaptured_keys (k : Nat) (ok : Bool) (s : State) : (stepCaptured k ok s).slotKeys = s.slotKeys := by
  unfold stepCaptured
  (repeat' split) <;> simp

@[simp] theorem flyCaptured_keys (k i : Nat) (ok : Bool) (s : State) :
    (flyCaptured k i ok s).slotKeys = s.slotKeys := by
  unfold flyCaptured
  split
  · simp
  · extract_lets s1
    have h_s1 : s1.slotKeys = s.slotKeys := by simp [s1]
    split <;> simp [h_s1]

@[simp] theorem captureTimeout_keys  (s : State) : (captureTimeout s).slotKeys = s.slotKeys := by
  unfold captureTimeout
  (repeat' split) <;> simp

/-! ### FocusCommands -/

/-! ### FilmEvents -/

@[simp] theorem encoderCount_keys (d : Direction) (s : State) : (encoderCount d s).slotKeys = s.slotKeys := by
  unfold encoderCount
  (repeat' split) <;> simp

@[simp] theorem leaderChanged_keys (level : LeaderLevel) (s : State) :
    (leaderChanged level s).slotKeys = s.slotKeys := by
  unfold leaderChanged
  split
  · rfl
  · extract_lets src s1
    have h_s1 : s1.slotKeys = s.slotKeys := by simp [s1]
    (repeat' split) <;> simp [h_s1]

@[simp] theorem settleExpired_keys  (s : State) : (settleExpired s).slotKeys = s.slotKeys := by
  unfold settleExpired
  simp

/-! ### RollEvents -/

@[simp] theorem tensionExpired_keys  (s : State) :
    (tensionExpired s).slotKeys = s.slotKeys := by
  unfold tensionExpired
  extract_lets src s1 s2
  have h_s1 : s1.slotKeys = s.slotKeys := by simp [s1]
  have h_s2 : s2.slotKeys = s.slotKeys := by simp [s2, h_s1]
  (repeat' split) <;> simp [h_s1, h_s2]

end Sys2Proof.Machine
end

