-- ==== Sys2Proof/Laws/Ease.lean ====
section
/-! SUPPORT. When a consequence changes nothing, and how a request that is only answered ends. -/

namespace Sys2Proof.Machine

open Sys2Proof

/-! ### Consequences that change nothing -/

/-- Where every consequence still to run changes nothing, a command ends as it stands. -/
theorem finish_still_consequences (s : State) (hl : s.todo.length ≤ Config.cascadeFuel)
    (h : ∀ sig ∈ s.todo, handle sig { s with todo := [] } = { s with todo := [] }) :
    finish s = { s with todo := [] } := by
  refine finish_of_settle s.todo.length s _ hl ?_ rfl
  generalize hn : s.todo.length = n
  clear hl
  induction n generalizing s with
  | zero =>
    have h0 : s.todo = [] := List.eq_nil_of_length_eq_zero hn
    rw [settle_nil 0 s h0]
    cases s
    cases h0
    rfl
  | succ n ih =>
    obtain ⟨sig, rest, hs⟩ : ∃ sig rest, s.todo = sig :: rest := by
      cases ht : s.todo with
      | nil => rw [ht] at hn; cases hn
      | cons a b => exact ⟨a, b, rfl⟩
    rw [settle_cons n s sig rest hs, h sig (by simp [hs])]
    exact ih { s with todo := rest } (fun x hx => h x (by rw [hs]; exact List.mem_cons_of_mem _ hx))
      (by rw [hs] at hn; exact Nat.succ.inj hn)

/-- A resting slot is no candidate of the NORMAL choice. -/
theorem candidateOf_resting (s : State) (i : Nat) (x : Slot) (h : x.resting = true) : candidateOf s i x = none := by
  simp only [Slot.resting, Bool.or_eq_true, beq_iff_eq] at h
  rcases h with h | h <;> simp [candidateOf, h]

/-- No slot waits, so the NORMAL choice has no candidate. -/
theorem candidates_resting (s : State) (h : ∀ x ∈ s.slots, x.resting = true) : s.candidates = [] := by
  unfold State.candidates
  generalize 0 = i
  revert h
  generalize s.slots = l
  intro h
  induction l generalizing i with
  | nil => rfl
  | cons x xs ih =>
    rw [candidatesFrom, candidateOf_resting s i x (h x (by simp))]
    exact ih (i + 1) (fun y hy => h y (List.mem_cons_of_mem _ hy))

/-- No slot waits, so no URGENT one does. -/
theorem urgentPick_resting (s : State) (h : ∀ x ∈ s.slots, x.resting = true) : urgentPick s = none := by
  unfold urgentPick
  generalize 0 = i
  revert h
  generalize s.slots = l
  intro h
  induction l generalizing i with
  | nil => rfl
  | cons x xs ih =>
    have hx : urgentCandidate s x = false := by
      have := h x (by simp)
      simp only [Slot.resting, Bool.or_eq_true, beq_iff_eq] at this
      rcases this with h | h <;> simp [urgentCandidate, h]
    rw [urgentFrom, hx]
    exact ih (i + 1) (fun y hy => h y (List.mem_cons_of_mem _ hy))

/-- No row has a candidate where there is no work. -/
theorem anyCandidate_noWork (s : State) (h : NoWork s) : anyCandidate s = false := by
  obtain ⟨h1, h2, h3, h4⟩ := h
  simp [anyCandidate, h1, urgentPick_resting s h2, candidates_resting s h2, h3, h4]

/-- The scheduler leaves the part as it is where it has no choice to make. -/
theorem choose_at_ease (s : State) (h : AtEase s) : choose s = s := by
  rcases h with h | h
  · simp [choose, h]
  · simp [choose, anyCandidate_noWork s h]

/-- The same where the transport is in no state in which the scheduler chooses. -/
theorem choose_barred (s : State) (h1 : s.transport.state ≠ .parked) (h2 : s.transport.state ≠ .standby)
    (h3 : s.transport.state ≠ .waking) : choose s = s := by
  simp [choose, h1, h2, h3]

/-- Without a move in flight there is no running leg. -/
theorem runningLeg_none (s : State) (h : s.transport.move = none) : s.runningLeg = none := by
  simp [State.runningLeg, h]

/-- Without a move in flight the pass runs no FLY-RUN. -/
theorem flyMoving_no_move (s : State) (h : s.transport.move = none) : flyMoving s = false := by
  simp [flyMoving, h]

/-- A move of another purpose is no FLY-RUN of the pass. -/
theorem flyMoving_purpose (s : State) (m : Move) (h : s.transport.move = some m) (hp : m.purpose ≠ .flyRun) :
    flyMoving s = false := by
  simp [flyMoving, h, hp]

/-- A pass that is not RUNNING runs no FLY-RUN. -/
theorem flyMoving_state (s : State) (h : s.pass.state ≠ .running) : flyMoving s = false := by
  simp [flyMoving, h]

/-- Outside a FLY-RUN of its own the pass is in no run. -/
theorem inRun_not_flying (s : State) (h : flyMoving s = false) : inRun s = false := by
  simp [inRun, h]

/-- Outside a FLY-RUN no trigger is taken. -/
theorem passTrigger_not_flying (s : State) (h : flyMoving s = false) : passTrigger s = s := by
  unfold passTrigger
  split <;> simp [h]

/-- Outside a run the pass arms nothing. -/
theorem armNext_no_run (s : State) (h : inRun s = false) : armNext s = s := by
  unfold armNext
  split <;> simp [h]

/-- Outside a run no frame is visited. -/
theorem checkRun_no_run (s : State) (h : inRun s = false) : checkRun s = s := by
  unfold checkRun
  split <;> simp [h]

/-- A frame that `findSelected` gives lies at or above the frame it looks from. -/
theorem findSelected_le (s : State) (g : Segment) (n k : Nat) (h : findSelected s g n = some k) : n ≤ k := by
  simp only [findSelected, Option.map_eq_some_iff] at h
  obtain ⟨i, _, rfl⟩ := h
  omega

/-- The next frame after a look is the one judged selected before, else the first that the look selects (R141). -/
theorem judgeNext_next (g : Segment) (s : State) : (judgeNext g s).pass.next =
    match s.pass.next with
    | some k => some k
    | none => findSelected s g s.pass.unjudged := by
  cases h : s.pass.next with
  | some k => simp [judgeNext, h]
  | none =>
    cases hk : findSelected s g s.pass.unjudged with
    | some k =>
      have hr : s.pass.resume.getD 1 ≤ k := Nat.le_trans (Nat.le_max_left _ _) (findSelected_le s g _ k hk)
      simp only [judgeNext, h, hk]
      simp [Pass.next, hr]
    | none =>
      simp only [judgeNext, h, hk]
      exact h

/-- A frame counted before is not counted again (R142). -/
theorem countOrdinal_counted (g : Segment) (k : Nat) (s : State) (h : k ∈ s.pass.counted) :
    countOrdinal g k s = s := by
  simp [countOrdinal, h]

/-- Without a move in flight no fill is due. -/
theorem fillDue_no_move (s : State) (g : Segment) (h : s.transport.move = none) : fillDue s g = false := by
  simp [fillDue, runningLeg_none s h]

/-- In a move that is not a FLY-RUN no fill is due. -/
theorem fillDue_purpose (s : State) (g : Segment) (m : Move) (h : s.transport.move = some m)
    (hp : m.purpose ≠ .flyRun) : fillDue s g = false := by
  simp only [fillDue, h]
  cases s.runningLeg <;> simp [hp]

/-- The pass, looking at the register outside a run, looks no further. -/
theorem tickPass_no_fill (s : State) (h : ∀ g, fillDue s g = false) :
    tickPass s = s ∨ tickPass s = emit .passCheck s := by
  unfold tickPass
  split
  · exact .inl rfl
  · split <;> simp [h]

/-! ### Film at rest -/

/-- With the film at rest no leg carries it. -/
@[simp] theorem carryingLeg_at_rest (s : State) (h : s.tracker.inMotion = false) : s.carryingLeg = none := by
  simp [State.carryingLeg, h]

/-- With the film in motion the leg in flight carries it. -/
@[simp] theorem carryingLeg_in_motion (s : State) (h : s.tracker.inMotion = true) : s.carryingLeg = s.motionLeg := by
  simp [State.carryingLeg, h]

/-- A leading edge with the film at rest begins no mark (R25). -/
theorem leadingEdge_at_rest (s : State) (h : s.tracker.inMotion = false) : leadingEdge s = s := by
  simp [leadingEdge, h]

/-- A splice with the film at rest is ignored (R30). -/
theorem spliceFired_at_rest (s : State) (h : s.tracker.inMotion = false) : spliceFired s = s := by
  simp [spliceFired, State.filmForward, h]

/-- A firing of TRAILER_IN with the film at rest is ignored (R11, R68). -/
theorem trailerFired_at_rest (s : State) (h : s.tracker.inMotion = false) : trailerFired s = s := by
  simp [trailerFired, h]

/-! ### Requests that are only answered -/

/-- An answer after the stream is closed is all of `answered`. -/
theorem setAnswer_closeStream (l : Link) (code : AnswerCode) (request : Byte) (contents : Contents) (s : State) :
    setAnswer l { code := code, request := request, contents := contents } (closeStream l s) =
      answered l code request contents s := by
  cases l <;> rfl

/-- A request whose owner changes nothing is only answered. -/
theorem quietRequest_answered (l : Link) (code : Byte) (owner : State → State × Reply) (s : State) (r : Reply)
    (h : owner (closeStream l s) = (closeStream l s, r)) :
    quietRequest l code owner s = .next (answered l r.code code r.contents s) := by
  simp only [quietRequest, h, setAnswer_closeStream]

/-- The same for a request that could have set work off. -/
theorem request_answered (l : Link) (code : Byte) (owner : State → State × Reply) (s : State) (r : Reply)
    (hq : Quiet s) (h : owner (closeStream l s) = (closeStream l s, r)) :
    request l code owner s = .next (answered l r.code code r.contents s) := by
  simp only [request, h, setAnswer_closeStream]
  rw [finish_quiet _ (by cases l <;> exact hq)]

end Sys2Proof.Machine
end

