-- ==== Sys2Proof/Laws/PerInstr.lean ====
section
/-! SUPPORT. Laws said of each command by itself. `Encoded`: a well-formed request has as many parameter bytes as the table of 11
gives its code, and an unknown code has none. -/

namespace Sys2Proof.Laws.Encoded

open Sys2Proof Sys2Proof.Machine

/-- The parameters of a well-formed request are as long as its code says (11, Request codes; R184). -/
def Statement (i : Instr) : Prop :=
  WellFormed i = true → ∀ (l : Link) (code : Byte) (ps : List Byte), requestParts i = some (l, code, ps) →
    requestLength code = some ps.length ∨ (requestLength code = none ∧ ps = [])

/-- From the parameters as they are. -/
theorem of_parts (i : Instr) (p : Link × Byte × List Byte) (h : requestParts i = some p)
    (hp : requestLength p.2.1 = some p.2.2.length) : Statement i := by
  intro _ l code ps hq
  rw [h] at hq
  cases hq
  exact .inl hp

theorem deviceReset (leaderIn : LeaderLevel) (focHome : Bool) : Statement (.deviceReset leaderIn focHome) :=
  fun _ _ _ _ h => nomatch h

theorem malformedFrame (link : Link) : Statement (.malformedFrame link) :=
  fun _ _ _ _ h => nomatch h

theorem unknownRequestCode (link : Link) (code : Byte) : Statement (.unknownRequestCode link code) := by
  intro hw _ _ _ h
  cases h
  exact .inr ⟨by simpa [WellFormed] using hw, rfl⟩

theorem nop (link : Link) : Statement (.nop link) :=
  of_parts _ _ rfl rfl

theorem status (link : Link) : Statement (.status link) :=
  of_parts _ _ rfl rfl

theorem setParameter (link : Link) (code : Byte) (value : Half) : Statement (.setParameter link code value) :=
  of_parts _ _ rfl rfl

theorem setProfileField (link : Link) (field : Byte) (value : Quad) : Statement (.setProfileField link field value) :=
  of_parts _ _ rfl rfl

theorem setDefaultProfileField (link : Link) (field : Byte) (value : Quad) :
    Statement (.setDefaultProfileField link field value) :=
  of_parts _ _ rfl rfl

theorem load (link : Link) : Statement (.load link) :=
  of_parts _ _ rfl rfl

theorem unload (link : Link) : Statement (.unload link) :=
  of_parts _ _ rfl rfl

theorem standby (link : Link) (count : Half) : Statement (.standby link count) :=
  of_parts _ _ rfl rfl

theorem wake (link : Link) : Statement (.wake link) :=
  of_parts _ _ rfl rfl

theorem clearFault (link : Link) : Statement (.clearFault link) :=
  of_parts _ _ rfl rfl

theorem readSensors (link : Link) : Statement (.readSensors link) :=
  of_parts _ _ rfl rfl

theorem linkReset (link : Link) : Statement (.linkReset link) :=
  of_parts _ _ rfl rfl

theorem indexWindow (link : Link) (first last : Half) (order : Byte) : Statement (.indexWindow link first last order) :=
  of_parts _ _ rfl rfl

theorem indexRead (link : Link) (count : Byte) : Statement (.indexRead link count) :=
  of_parts _ _ rfl rfl

theorem indexWrite (link : Link) (count : Byte) (d1 d2 d3 d4 : ImportDesc) :
    Statement (.indexWrite link count d1 d2 d3 d4) :=
  of_parts _ _ rfl rfl

theorem indexClear (link : Link) : Statement (.indexClear link) :=
  of_parts _ _ rfl rfl

theorem resolve (link : Link) (target : RawTarget) : Statement (.resolve link target) :=
  of_parts _ _ rfl rfl

theorem retrieve (link : Link) (tag : Byte) (target : RawTarget) (action priority hold : Byte) :
    Statement (.retrieve link tag target action priority hold) :=
  of_parts _ _ rfl rfl

theorem release (link : Link) (tag : Byte) : Statement (.release link tag) :=
  of_parts _ _ rfl rfl

theorem cancel (link : Link) (tag : Byte) : Statement (.cancel link tag) :=
  of_parts _ _ rfl rfl

theorem query (link : Link) (tag : Byte) : Statement (.query link tag) :=
  of_parts _ _ rfl rfl

theorem collect (link : Link) (selector tag : Byte) : Statement (.collect link selector tag) :=
  of_parts _ _ rfl rfl

theorem passSegment (link : Link) (place : Byte) (first last : Half) (action policy : Byte) (interval : Half) (halfWidth stepSize stopMask : Byte) :
    Statement (.passSegment link place first last action policy interval halfWidth stepSize stopMask) :=
  of_parts _ _ rfl rfl

theorem passStart (link : Link) (count mode yieldInterval : Byte) :
    Statement (.passStart link count mode yieldInterval) :=
  of_parts _ _ rfl rfl

theorem passSuspend (link : Link) : Statement (.passSuspend link) :=
  of_parts _ _ rfl rfl

theorem passResume (link : Link) : Statement (.passResume link) :=
  of_parts _ _ rfl rfl

theorem passAbort (link : Link) : Statement (.passAbort link) :=
  of_parts _ _ rfl rfl

theorem captured (link : Link) (frame : Half) (result : Byte) : Statement (.captured link frame result) :=
  of_parts _ _ rfl rfl

theorem passReport (link : Link) (segment : Byte) : Statement (.passReport link segment) :=
  of_parts _ _ rfl rfl

theorem focusSweep (link : Link) (frame : Half) (centreKind : Byte) (centre : Half) (halfWidth stepSize store : Byte) :
    Statement (.focusSweep link frame centreKind centre halfWidth stepSize store) :=
  of_parts _ _ rfl rfl

theorem score (link : Link) (sweepId point : Byte) (score : Half) : Statement (.score link sweepId point score) :=
  of_parts _ _ rfl rfl

theorem zoneSet (link : Link) (start step : Half) : Statement (.zoneSet link start step) :=
  of_parts _ _ rfl rfl

theorem zoneRemove (link : Link) (start : Half) : Statement (.zoneRemove link start) :=
  of_parts _ _ rfl rfl

theorem zoneRead (link : Link) (ordinal : Byte) : Statement (.zoneRead link ordinal) :=
  of_parts _ _ rfl rfl

theorem readFlags (link : Link) : Statement (.readFlags link) :=
  of_parts _ _ rfl rfl

theorem clearFlags (link : Link) (flags : Half) : Statement (.clearFlags link flags) :=
  of_parts _ _ rfl rfl

theorem setFlagMask (link : Link) (name : Byte) (bits : Half) : Statement (.setFlagMask link name bits) :=
  of_parts _ _ rfl rfl

theorem setInputMask (link : Link) (byte : Byte) (bits : Byte) : Statement (.setInputMask link byte bits) :=
  of_parts _ _ rfl rfl

theorem setClearMode (link : Link) (mode : Byte) : Statement (.setClearMode link mode) :=
  of_parts _ _ rfl rfl

theorem suppress (link : Link) : Statement (.suppress link) :=
  of_parts _ _ rfl rfl

theorem encoderCount (direction : Direction) : Statement (.encoderCount direction) :=
  fun _ _ _ _ h => nomatch h

theorem markLeadingEdge : Statement .markLeadingEdge :=
  fun _ _ _ _ h => nomatch h

theorem markTrailingEdge : Statement .markTrailingEdge :=
  fun _ _ _ _ h => nomatch h

theorem spliceIn : Statement .spliceIn :=
  fun _ _ _ _ h => nomatch h

theorem leaderInChange (level : LeaderLevel) : Statement (.leaderInChange level) :=
  fun _ _ _ _ h => nomatch h

theorem trailerIn : Statement .trailerIn :=
  fun _ _ _ _ h => nomatch h

theorem filmAtRest : Statement .filmAtRest :=
  fun _ _ _ _ h => nomatch h

theorem stallTimerExpiry : Statement .stallTimerExpiry :=
  fun _ _ _ _ h => nomatch h

theorem backOffComplete : Statement .backOffComplete :=
  fun _ _ _ _ h => nomatch h

theorem leaderLostCount : Statement .leaderLostCount :=
  fun _ _ _ _ h => nomatch h

theorem settleExpiry : Statement .settleExpiry :=
  fun _ _ _ _ h => nomatch h

theorem gatePulseEnd : Statement .gatePulseEnd :=
  fun _ _ _ _ h => nomatch h

theorem threadTimerExpiry : Statement .threadTimerExpiry :=
  fun _ _ _ _ h => nomatch h

theorem warmTimerExpiry : Statement .warmTimerExpiry :=
  fun _ _ _ _ h => nomatch h

theorem idleTimerExpiry : Statement .idleTimerExpiry :=
  fun _ _ _ _ h => nomatch h

theorem wakeCountTick : Statement .wakeCountTick :=
  fun _ _ _ _ h => nomatch h

theorem wakeCountExpiry : Statement .wakeCountExpiry :=
  fun _ _ _ _ h => nomatch h

theorem tensionTimerExpiry : Statement .tensionTimerExpiry :=
  fun _ _ _ _ h => nomatch h

theorem holdTimerExpiry : Statement .holdTimerExpiry :=
  fun _ _ _ _ h => nomatch h

theorem captureTimerExpiry : Statement .captureTimerExpiry :=
  fun _ _ _ _ h => nomatch h

theorem scoreTimerExpiry : Statement .scoreTimerExpiry :=
  fun _ _ _ _ h => nomatch h

theorem focusStep (focHome : Bool) : Statement (.focusStep focHome) :=
  fun _ _ _ _ h => nomatch h

theorem homingStepLimit : Statement .homingStepLimit :=
  fun _ _ _ _ h => nomatch h

theorem pollByteRead (acknowledged : Bool) (value : Byte) : Statement (.pollByteRead acknowledged value) :=
  fun _ _ _ _ h => nomatch h

theorem tagRecordRead (acknowledged : Bool) (record : TagRecord) : Statement (.tagRecordRead acknowledged record) :=
  fun _ _ _ _ h => nomatch h

theorem tagRecordWrite (acknowledged : Bool) : Statement (.tagRecordWrite acknowledged) :=
  fun _ _ _ _ h => nomatch h

theorem busTimerExpiry : Statement .busTimerExpiry :=
  fun _ _ _ _ h => nomatch h

theorem recoveryAttemptEnd (high : Bool) : Statement (.recoveryAttemptEnd high) :=
  fun _ _ _ _ h => nomatch h

end Sys2Proof.Laws.Encoded
end

