-- ==== Sys2Proof/Tests/Slice0.lean ====
section
/-! SUPPORT. Tests: small checks of the decoders and of single steps against the spec's words, and for every statement with
hypotheses a witness that meets them together. -/

namespace Sys2Proof.Tests

open Sys2Proof Sys2Proof.Machine

/-! ### States the tests start from -/

/-- The state after a command; the same state where it is not taken. -/
def after (c : Instr) (s : State) : State :=
  match exec c s with
  | .next t => t
  | _ => s

/-- The state after a step; the same state where there is none. -/
def next (s : State) : State :=
  match step s with
  | .next t => t
  | _ => s

/-- The first frame of a small index. -/
def frameOne : Entry :=
  { position := 250000, source := .observed, cls := .batch, length := some 900,
    triple := { batch := 1, document := 1, page := 1 }, flags := EntryFlags.clear, capture := .none, captureCount := 0,
    focusStep := none }

/-- The second frame of a small index. -/
def frameTwo : Entry :=
  { frameOne with position := 253000, cls := .image, length := some 100,
                  triple := { batch := 1, document := 1, page := 2 }, capture := .triggered }

/-- A threaded roll, parked with frame 2 in the gate: two frames known, the lamp ON, the door closed, the lens READY. -/
def parked : State :=
  { State.reset with
    tracker := { register := 262000, direction := .forward, inMotion := false, level := .locked, good := 0, miss := 0 }
    index := { State.reset.index with entries := [frameOne, frameTwo], counters := frameTwo.triple }
    transport := { State.reset.transport with
      state := .parked, gateFrame := some 2, reels := .tension, leaderIn := .film }
    lamp := { state := .on, warmTimer := none }
    roll := { State.reset.roll with cartridge := true, tagLoad := .complete, idleTimer := some 600 }
    focus := { State.reset.focus with status := .ready, phase := .idle, position := 100 }
    poller := { values := 0x107#64, stale := 0x00#8, firstRoundDone := true, faults := 0 }
    tag := { State.reset.tag with status := .valid, rollValid := true }
    bus := { State.reset.bus with nextByte := 3 } }

/-- The transport in another state. -/
def inState (x : TState) (s : State) : State := { s with transport := { s.transport with state := x } }

/-- The transport granted. -/
def granted (g : Grant) (s : State) : State := { s with sched := { s.sched with grant := g } }

/-- Slot 0 filled. -/
def withSlot (x : Slot) (s : State) : State := { s with slots := s.slots.set 0 x }

/-- The pass record changed. -/
def withPass (f : Pass → Pass) (s : State) : State := { s with pass := f s.pass }

/-- A move in flight. -/
def withMove (m : Move) (s : State) : State := { s with transport := { s.transport with move := some m, stallTimer := some 150 } }

/-- A sweep active. -/
def withSweep (x : SweepRecord) (s : State) : State := { s with sweep := { s.sweep with active := some x } }

/-- Commands waiting. -/
def waiting (cs : List Instr) (s : State) : State := { s with pending := cs }

/-- A slot of Link A with tag 7 that waits for frame 1. -/
def pendingSlot : Slot := { Slot.empty with state := .pending, tag := 7#8, target := .frame 1, frame := some 1 }

/-- The slot holding the gate, its hold timer running. -/
def presentingSlot : Slot :=
  { pendingSlot with state := .presenting, hold := 9, holdTimer := some 9, reached := some (250000, 100) }

/-- The slot ended by its hold timer. -/
def doneSlot : Slot :=
  { pendingSlot with
    state := .done
    result := some { code := .holdExpired, frame := some 1, position := some 250000, focusStep := some 100 } }

/-- A slot on the way to its frame. -/
def travellingSlot (a : SlotAction) : Slot := { pendingSlot with state := .travelling, action := a }

def queued : State := waiting [.encoderCount .forward] { parked with tracker := { parked.tracker with register := 16777215 } }
def moving : State := granted .home (inState .moving parked)
def busFailed : State := { parked with bus := { parked.bus with state := .failed } }
def bare : State := { parked with index := { parked.index with entries := [] } }
def empty : State := inState .empty parked
def standing : State := inState .standby { parked with lamp := { state := .off, warmTimer := none } }
def presenting : State :=
  let s := granted (.slot 0) (inState .settled (withSlot presentingSlot parked))
  { s with transport := { s.transport with holder := some (.retrieval .a 7#8) } }

/-- The only segment of a small program. -/
def segment : Segment := { first := 1, last := none, action := .all, policy := .table, stopMask := 0#6 }

/-- A STEP pass of Link A over one segment. -/
def stepping : Pass :=
  { idlePass with state := .running, owner := some .a, modeRequested := some .step, mode := some .step,
                  segmentCount := some 1, current := some 1, resume := some 1, program := [segment],
                  outcomes := List.replicate 8 SegOutcome.fresh }

/-- The pass holds frame 1 and awaits its capture, with a SUSPEND pending. -/
def capturing : State :=
  granted .pass (inState .settled (withPass (fun _ =>
    { stepping with work := .awaitingCapture, frameInHand := some 1, pending := .suspend, captureTimer := some 500 }) parked))

/-- The same with the fault's class in the stop mask. -/
def capturingMasked : State := withPass (fun p => { p with program := [{ segment with stopMask := 63#6 }] }) capturing

/-- A stand-alone sweep of Link A over three points that awaits a score. -/
def scoring (point : Nat) : SweepRecord :=
  { state := .awaitingScore, origin := .standAlone, id := 5, link := .a, frame := 2, centre := none, halfWidth := 1,
    stepSize := 10, store := true, points := [90, 100, 110], scores := [200, 700].take point, current := point }

/-- The sweep holds the gate. -/
def swept (point : Nat) : State :=
  let s := granted .sweep (inState .settled (withSweep (scoring point) parked))
  { s with transport := { s.transport with holder := some (.sweep .a 5) }
           sweep := { s.sweep with scoreTimer := some 300 } }

/-- A forward move to frame 2, with an end of its leg. -/
def frameMove (stop : LegEnd) (plan : List Leg) : Move :=
  { newMove .frame (some 2) 0 none with
    target := some 262000, leg := { direction := .forward, cls := .index, stop := stop }, plan := plan }

/-- A HOME move, with an end of its leg. -/
def homeMove (stop : LegEnd) : Move :=
  { newMove .home none 0 none with leg := { direction := .forward, cls := .creep, stop := stop } }

/-- A sensed lens: status, phase, position and target. -/
def lens (x : FocusStatus) (p : LensPhase) (at' : Nat) (t : Option Nat) (s : State) : State :=
  { s with focus := { s.focus with status := x, phase := p, position := at', target := t, requester := some .fly } }

/-- A RETRIEVE slot's raw target. -/
def target (kind : Byte) (v : Half) : RawTarget := { kind := kind, v0 := v, v1 := 0#16, v2 := 0#16 }

/-- A description of an entry after frame 2. -/
def description : ImportDesc := { position := 256000#24, cls := 0x02#8, lengthPresent := 0x01#8, length := 850#16 }

/-- The entry it describes. -/
def imported : Entry :=
  { frameOne with position := 256000, source := .imported, length := some 850, triple := { batch := 0, document := 0, page := 0 } }

/-- A profile with every field at a limit of its range. -/
def edgeProfile : Profile :=
  { rollId := 0xFFFFFFFF#32, gauge := 35, leader := 4194240, pitch := 500, gateOffset := 262140, minMark := 1020,
    tDoc := 65534, tBatch := 65535, defaultStep := 4095 }

def atEdge : State :=
  waiting [.encoderCount .forward] (inState .moving { parked with tracker := { parked.tracker with register := 16777214 } })
def risen : State := waiting [.focusStep false] (lens .ready .up 4094 (some 4095) parked)
def zone : Zone := { start := 1, step := 2010, source := .set, quality := .good }
def zoned : State := { parked with zones := [zone] }
def crowded : State := { parked with zones := (List.range 32).map (fun i => { zone with start := i + 1 }) }
def loadable : State := { empty with lamp := { state := .off, warmTimer := none }, index := State.reset.index }
def otherGauge : State := { loadable with roll := { loadable.roll with active := { loadable.roll.active with gauge := 35 } } }
def noRoll : State := { parked with roll := { parked.roll with cartridge := false } }
def counted : State := { standing with roll := { standing.roll with wakeCount := some 0 } }
def rewinding : State := { inState .rewinding parked with roll := { parked.roll with tensionTimer := some 500 } }
def waking : State := { inState .waking parked with roll := { parked.roll with tensionTimer := some 500 } }
def faultedIn : State := inState .faulted parked
def faultedOut : State := { inState .faulted noRoll with poller := { parked.poller with values := 0#64 } }
def threading : State :=
  { inState .threading parked with
    roll := { parked.roll with threadTimer := some 20 }
    transport := { parked.transport with state := .threading, capstan := some .forward, leaderIn := .leader } }
def threadingEarly : State := { threading with roll := { threading.roll with tagLoad := .running } }
def warming : State := { parked with lamp := { state := .warming, warmTimer := some 3 } }
def warmingBad : State := { warming with poller := { parked.poller with values := 0x007#64 } }
def streaming (w : Machine.Stream) : State := onLink .a (fun k => { k with stream := some w }) parked
def rising : Machine.Stream := { order := .ascending, first := 2, last := 16384, pointer := 2 }
def falling : Machine.Stream := { order := .descending, first := 1, last := 2, pointer := 2 }
def beyondEnd : Machine.Stream := { rising with pointer := 3 }
def full : State := { parked with slots := List.replicate 16 { pendingSlot with tag := 9#8 } }
def oneSlot (x : Slot) : State := withSlot x parked
def travelling : State := granted (.slot 0) (inState .moving (oneSlot (travellingSlot .present)))
def otherSlot : State := { parked with slots := [{ doneSlot with owner := .b }, Slot.empty] }
def stored : State := granted .home (onLink .a (fun k => { k with buffer := k.buffer.set 0 (some segment) }) parked)
def misordered : State :=
  onLink .a (fun k => { k with buffer := k.buffer.set 0 (some { segment with first := 5, last := some 4 }) }) parked
def passing (f : Pass → Pass) : State := withPass (fun _ => f stepping) parked
def running : State := passing (fun p => p)
def asked (r : PendingRequest) : State := passing (fun p => { p with pending := r })
def yielding : State := passing (fun p => { p with state := .yielding })
def suspended : State := granted .home (passing (fun p => { p with state := .suspended }))
def seekingPass (r : PendingRequest) : State := granted .pass (passing (fun p => { p with work := .approaching, pending := r }))
/-- A FLY pass that has triggered frame 2. -/
def flying : State :=
  passing (fun p => { p with mode := some .fly, work := .runningFly, lastTriggered := some 2 })
def timedOut : State := passing (fun p => { p with timedOut := some 2 })
/-- A sweep that ended by its score timer at a point, if any. -/
def endedSweep (x : Option Nat) : SweepReport :=
  { id := 5, frame := 2, link := .a, result := .timeout, step := none, quality := none, store := .notAsked,
    scores := [], timedOutPoint := x }
def reported (x : Option Nat) : State := { parked with sweep := { parked.sweep with last := some (endedSweep x) } }
def homing (n : Nat) (t : Option Nat) : State :=
  { parked with focus := { State.reset.focus with homingSteps := n, target := t } }
def sweepLens : State :=
  { lens .ready .up 109 (some 110) (withSweep { scoring 2 with state := .movingLens } parked) with
    focus := { (lens .ready .up 109 (some 110) parked).focus with requester := some (.sweep 5 2) } }
def downLens (p t d : Nat) : State :=
  { lens .ready .down p (some t) parked with focus := { (lens .ready .down p (some t) parked).focus with downEnd := d } }
/-- A FRAME move running at this register, in its final approach or not. -/
def atCount (register : Nat) (m : Move) : State :=
  withMove m (inState .moving { parked with tracker := { parked.tracker with register := register } })
def final : Move := { frameMove .target [] with finalApproach := true }
def index77 : Leg := { direction := .forward, cls := .index, stop := .coord 270000 }
def back77 : Leg := { direction := .reverse, cls := .index, stop := .coord 1000 }
def marking (c : Nat) (s : State) : State := { s with marks := { s.marks with inProgress := some c } }
def bareMark : State := marking 260000 { bare with tracker := { bare.tracker with register := 260050 } }
def shortMark : State := marking 260001 { bare with tracker := { bare.tracker with register := 260050 } }
def resighted : State := marking 253020 { parked with tracker := { parked.tracker with register := 253120 } }
/-- The film runs: a count has been taken since it last came to rest. -/
def rolling (s : State) : State := { s with tracker := { s.tracker with inMotion := true } }
def spliced (s : State) : State := rolling (withMove (frameMove (.coord 300000) []) (inState .moving s))
def homeRunning : State :=
  withMove (homeMove (.leaderReads .film)) (inState .moving
    { parked with transport := { parked.transport with leaderIn := .leader } })
def trailing (c : Option Closure) : State :=
  granted .home (spliced { parked with index := { parked.index with closure := c } })
def homeDone : Move := { homeMove (.leaderReads .film) with atRest := some (.finish .arrived), phase := .stopping }
def resting (x : RestAction) (plan : List Leg) : Move := { frameMove (.coord 300000) plan with atRest := some x }
def backing : Move := { frameMove (.travel 2000) [] with travel := 2000 }
def lostMove : Move := { homeMove (.leaderReads .leader) with travel := 16777215 }
def stuck : Move := { frameMove (.coord 300000) [] with attempts := 3 }
/-- A move to frame 1 in its settle, its focus arrival taken or not. -/
def settling (focus : Bool) : Move := { newMove .frame (some 1) 0 none with focusTaken := focus }
def settlingFor (a : SlotAction) : State :=
  let s := granted (.slot 0) (inState .settling (oneSlot (travellingSlot a)))
  { s with transport := { s.transport with move := some (settling true), settleTimer := some 40 } }
def settlingLate : State :=
  { settlingFor .present with transport := { (settlingFor .present).transport with move := some (settling false) } }
def polling (n : Nat) (w : Option RecordTransfer) : State :=
  { parked with bus := { parked.bus with nextByte := n, waiting := w } }
def loading (stage : TagStage) (next : Nat) : LoadRecord :=
  { next := next, stage := stage, profile := builtInProfile, zones := [], checks := [] }
def reading (l : LoadRecord) (s : State) : State :=
  { s with bus := { s.bus with transfer := some (.record .read) }, tag := { s.tag with load := some l } }
def writing (plan : List (Nat × TagRecord)) : State :=
  { parked with bus := { parked.bus with transfer := some (.record .write) }
                tag := { parked.tag with writeState := .writing, writePlan := plan, dirty := true } }
def faultyBus (x : BusState) (attempts : Nat) (t : Transfer) : State :=
  { parked with bus := { parked.bus with state := x, attempts := attempts, transfer := some t } }

/-- The end of this tag load has nothing else to do in THREADING. -/
def threadsAlone (st : TagStatus) (kept : Option LoadRecord) (s : State) : Bool := decide (ThreadsAlone (tagLoadEnded st kept s))

/-- The greatest zone a tag record can hold. -/
def topZone : Zone := { zone with start := 16384, step := 4095 }
def otherDone : Slot := { doneSlot with owner := .b }
/-- The sweep on its way to its last point. -/
def lastLens : SweepRecord := { scoring 2 with state := .movingLens }
/-- The result of the slot ended by its hold timer. -/
def heldOut : SlotResult := { code := .holdExpired, frame := some 1, position := some 250000, focusStep := some 100 }

/-- 02, discovery along a roll, before one of its steps: its last frame stands here as frame 1, and the leader length is 0,
since R34 ignores the worked marks below the leader length the sequence names (log 45). -/
def discovery (position pitchQ m length : Nat) : State :=
  let s := withMove (frameMove .unbounded []) (inState .moving (granted .discover parked))
  { s with
    tracker := { s.tracker with register := m + length }
    marks := { inProgress := some m, lastSplice := none }
    roll := { s.roll with active := { s.roll.active with leader := 0 } }
    index := { s.index with
      entries := [{ frameOne with position := position, cls := .image, triple := { batch := 2, document := 5, page := 3 } }]
      counters := { batch := 2, document := 5, page := 3 }, pitchQ := pitchQ } }

/-- The same state with this gate holder. -/
def held (h : Holder) (s : State) : State := { s with transport := { s.transport with holder := some h } }

/-- The next frame that a STEP pass takes is frame `k`. -/
abbrev stepsTo (k r : Nat) (g : Segment) (s : State) : Prop :=
  inSteps g s ∧ rememberedFrom r s = none ∧ selectedFrom r g s k ∧ ∀ j, j < k → ¬ selectedFrom r g s j

/-! ### Witnesses: for each statement, states and operands that meet its hypotheses -/

set_option maxRecDepth 4000

/-- A property of the entries of a list by their place, from its check place by place. -/
theorem places {α : Type} (l : List α) (P : Nat → α → Prop) (h : ∀ i, (hi : i < l.length) → P i l[i]) (j : Nat) (y : α)
    (hy : l[j]? = some y) : P j y := by
  obtain ⟨hj, rfl⟩ := List.getElem?_eq_some_iff.1 hy
  exact h j hj

/-- A property of the entries of a list in every place but one, from its check place by place. -/
theorem elsewhere {α : Type} (l : List α) (i : Nat) (P : α → Prop) (h : ∀ j, (hj : j < l.length) → j ≠ i → P l[j]) (j : Nat)
    (y : α) (hj : j ≠ i) (hy : l[j]? = some y) : P y :=
  places l (fun j y => j ≠ i → P y) h j y hy hj

/-- A count waits. -/
theorem test_witness_FrontCommandRuns :
    queued.pending = [Instr.encoderCount Direction.forward] ∧ parked.pending = [] := by
  decide

/-- A step from a quiet state. -/
theorem test_witness_QueueIsLeftAlone :
    Quiet queued ∧ step queued = .next (next queued) := by
  and_intros <;> rfl

/-- A forward count at the register's maximum. -/
theorem test_witness_StepKeepsRegister :
    RegisterLaw queued ∧ step queued = .next (next queued) := by
  and_intros <;> rfl

/-- Parameters at their defaults; a LINK RESET. -/
theorem test_witness_ParametersAreKept :
    queued.params.inRange ∧ step queued = .next (next queued) ∧
    exec (.linkReset Link.a) parked = .next (after (.linkReset Link.a) parked) ∧
    (∀ (l : Link) (code : Byte) (v : Half), Instr.linkReset Link.a ≠ .setParameter l code v) ∧
    (∀ (x : LeaderLevel) (h : Bool), Instr.linkReset Link.a ≠ .deviceReset x h) := by
  exact ⟨by decide, rfl, rfl, nofun, nofun⟩

/-- A COLLECT of a DONE slot. -/
theorem test_witness_StepKeepsSlots :
    SlotLaw (waiting [Instr.collect Link.a 0#8 7#8] (oneSlot doneSlot)) ∧
    step (waiting [Instr.collect Link.a 0#8 7#8] (oneSlot doneSlot)) = .next (next (waiting [Instr.collect Link.a 0#8 7#8]
    (oneSlot doneSlot))) := by
  and_intros <;> first | rfl | decide

/-- A RELEASE of the slot that holds the gate. -/
theorem test_witness_StepKeepsGate :
    let s := waiting [.release .a 7#8] presenting
    Quiet s ∧ GateLaw s ∧ step s = .next (next s) ∧ s.slots[0]? = some presentingSlot ∧
      (presentingSlot.state = .travelling ∨ presentingSlot.state = .presenting) := by
  and_intros <;> first
    | rfl
    | decide
    | exact ⟨0, rfl, presentingSlot, rfl, rfl, rfl, rfl⟩
    | exact places presenting.slots (fun i x =>
        (x.state = .travelling → presenting.sched.grant = .slot i) ∧
          (x.state = .presenting → presenting.sched.grant = .slot i ∧
            presenting.transport.holder = some (.retrieval x.owner x.tag))) (by decide)
    | exact nofun

/-- A ZONE SET with 32 zones; an INDEX CLEAR. -/
theorem test_witness_StepKeepsTables :
    ZoneLaw (waiting [Instr.zoneSet Link.a 32#16 4095#16] crowded) ∧
    step (waiting [Instr.zoneSet Link.a 32#16 4095#16] crowded) = .next (next (waiting [Instr.zoneSet Link.a 32#16
    4095#16] crowded)) ∧
    IndexLaw (waiting [Instr.indexClear Link.a] parked) ∧
    step (waiting [Instr.indexClear Link.a] parked) = .next (next (waiting [Instr.indexClear Link.a] parked)) := by
  and_intros <;> first | rfl | decide

/-- An INDEX WRITE of one entry after frame 2, a slot for frame 1 waiting. -/
theorem test_witness_StepKeepsOrder :
    let s := waiting [.indexWrite .a 1#8 description description description description] (oneSlot pendingSlot)
    PitchLaw s ∧ OrderLaw s ∧ NumberLaw s ∧ FrameLaw s ∧ step s = .next (next s) := by
  and_intros <;> first | rfl | decide

/-- The last step up to 4095. -/
theorem test_witness_StepKeepsLens :
    LensLaw risen ∧ step risen = .next (next risen) := by
  and_intros <;> first | rfl | decide

/-- A ZONE SET of frame 0. -/
theorem test_witness_RefusalChangesNothing :
    requestParts (Instr.zoneSet Link.a 0#16 0#16) = some (Link.a, 66#8, [0#8, 0#8, 0#8, 0#8]) ∧ Quiet parked ∧
    exec (.zoneSet Link.a 0#16 0#16) parked = .next (after (.zoneSet Link.a 0#16 0#16) parked) ∧
    ((after (.zoneSet Link.a 0#16 0#16) parked).link Link.a).answer.code ≠ .ok ∧
    ((after (.zoneSet Link.a 0#16 0#16) parked).link Link.a).answer.code ≠ .accepted ∧
    (∀ (m : Link) (n : Byte), Instr.zoneSet Link.a 0#16 0#16 ≠ .indexRead m n) ∧
    (((after (.zoneSet Link.a 0#16 0#16) parked).link Link.a).answer.code = .full → ∀ (m : Link) (n : Byte) (a b d e :
    ImportDesc), Instr.zoneSet Link.a 0#16 0#16 ≠ .indexWrite m n a b d e) := by
  exact ⟨by decide, rfl, rfl, by decide, by decide, nofun, nofun⟩

/-- A ZONE SET on Link A, seen by Link B. -/
theorem test_witness_LinksAreHeldApart :
    exec (.zoneSet Link.a 1#16 2#16) parked = .next (after (.zoneSet Link.a 1#16 2#16) parked) ∧
    linkOf (Instr.zoneSet Link.a 1#16 2#16) ≠ some Link.b ∧
    (∀ (x : LeaderLevel) (h : Bool), Instr.zoneSet Link.a 1#16 2#16 ≠ .deviceReset x h) := by
  exact ⟨rfl, by decide, nofun⟩

/-- A pulse that ends with slot 0 DONE. -/
theorem test_witness_DoneSlotsWait :
    exec .gatePulseEnd (oneSlot doneSlot) = .next (after .gatePulseEnd (oneSlot doneSlot)) ∧
    (oneSlot doneSlot).slots[0]? = some doneSlot ∧ doneSlot.state = .done ∧
    Instr.gatePulseEnd ≠ .linkReset doneSlot.owner ∧ (∀ (a b : Byte), Instr.gatePulseEnd ≠ .collect doneSlot.owner a b) ∧
    (∀ (a : LeaderLevel) (h : Bool), Instr.gatePulseEnd ≠ .deviceReset a h) := by
  exact ⟨rfl, rfl, rfl, nofun, nofun, nofun⟩

/-- Link A holds a PENDING slot, a TRAVELLING and a PRESENTING one, the last RESOLVING one and not the last, a pass with and without
the grant, a pass sweep, and a stand-alone one, in each state of the transport. -/
theorem test_witness_LinkResetFreesTheLink :
    let meets (s : State) : Prop := Quiet s ∧ s.slots.length = 16
    let aside (x : Slot) : Prop := x.owner = .a → x.state ≠ .travelling ∧ x.state ≠ .presenting
    let noPass (s : State) : Prop := s.pass.owner ≠ some Link.a
    let noSweep (s : State) : Prop := ∀ x ∈ s.sweep.active, x.link ≠ .a
    let alone (s : State) : Prop :=
      s.tracker.level ≠ .lost ∧ s.lamp.state ≠ .off ∧ ∀ x ∈ s.slots, x.owner = .a ∨ x.resting = true
    let flies (t : TState) (s : State) : State := withMove (frameMove (.coord 300000) []) (inState t s)
    let slotted (x : SlotState) : State := granted (.slot 0) (oneSlot { pendingSlot with state := x })
    let resolving : State := granted .discover (oneSlot { pendingSlot with state := .resolving, frame := none })
    let beside : State := { resolving with slots := resolving.slots.set 1 { pendingSlot with state := .resolving, owner := .b } }
    let owned : State := granted .pass running
    let moved (x : SweepOrigin) : SweepRecord := { scoring 0 with state := .travelling, origin := x, points := [], scores := [] }
    let passSweep (x : SweepRecord) : State := withSweep x owned
    let alike (s : State) : Prop := meets s ∧ alone s ∧ s.passActive = false
    (meets (oneSlot pendingSlot) ∧ (∀ x ∈ (oneSlot pendingSlot).slots, aside x) ∧ noPass (oneSlot pendingSlot) ∧
      noSweep (oneSlot pendingSlot) ∧ (oneSlot pendingSlot).sched.grant ≠ .discover) ∧
    (∀ t ∈ [.moving, .recovering], meets (flies t (slotted .travelling)) ∧ InFlight (flies t (slotted .travelling)) ∧
      meets (flies t resolving) ∧ InFlight (flies t resolving) ∧ meets (flies t owned) ∧ InFlight (flies t owned) ∧
      meets (flies t (passSweep (moved .pass))) ∧ InFlight (flies t (passSweep (moved .pass))) ∧
      InFlight (flies t (granted .sweep (withSweep (moved .standAlone) parked)))) ∧
    (∀ x ∈ [.travelling, .presenting], (slotted x).slots[0]? = some { pendingSlot with state := x } ∧
      (slotted x).sched.grant = .slot 0 ∧ noPass (slotted x) ∧ noSweep (slotted x) ∧ alike (slotted x) ∧
      (slotted x).sweep.active = none) ∧
    (∀ t ∈ [.settling, .waking, .settled], ∀ x ∈ [.travelling, .presenting], let s := inState t (slotted x);
      alike s ∧ s.transport.state = t ∧ s.sched.grant = .slot 0 ∧ noPass s ∧ noSweep s ∧ s.sweep.active = none) ∧
    (let s := inState .waking resolving;
      alike s ∧ s.transport.state = .waking ∧ s.sched.grant = .discover ∧ noPass s ∧ noSweep s ∧ s.sweep.active = none) ∧
    (∀ t ∈ [.settling, .waking, .parked], let s := inState t owned;
      meets s ∧ alone s ∧ s.transport.state = t ∧ s.sched.grant = .pass ∧ s.transport.holder = none ∧
        s.transport.move = none ∧ s.sweep.active = none ∧ (∀ y ∈ s.slots, aside y) ∧ s.pass.owner = some .a) ∧
    (let s := inState .settling (passSweep (moved .pass));
      meets s ∧ alone s ∧ s.sched.grant = .pass ∧ s.transport.holder = none ∧ (∀ y ∈ s.slots, aside y)) ∧
    (∀ j y, j ≠ 0 → (slotted .travelling).slots[j]? = some y → aside y) ∧
    (∀ j y, j ≠ 0 → (slotted .presenting).slots[j]? = some y → aside y) ∧
    ((∀ x ∈ resolving.slots, aside x) ∧ noPass resolving ∧ noSweep resolving ∧ resolving.sched.grant = .discover ∧
      (∀ x ∈ resolving.slots, x.state = .resolving → x.owner = .a) ∧ alike resolving ∧ resolving.sweep.active = none) ∧
    (meets beside ∧ (∀ x ∈ beside.slots, aside x) ∧ beside.sched.grant = .discover ∧
      ∃ x ∈ beside.slots, x.owner ≠ .a ∧ x.state = .resolving) ∧
    (meets running ∧ (∀ x ∈ running.slots, aside x) ∧ running.pass.owner = some Link.a ∧ running.sched.grant ≠ .discover ∧
      running.sched.grant ≠ .pass ∧ running.sweep.active = none ∧ running.transport.holder ≠ some (.pass .a)) ∧
    (meets owned ∧ alone owned ∧ owned.sched.grant = .pass ∧ owned.transport.holder = none ∧ owned.sweep.active = none ∧
      owned.transport.state = .parked ∧ owned.transport.move = none) ∧
    ((held (.pass .a) (inState .settled owned)).transport.holder = some (.pass .a) ∧ meets (held (.pass .a) (inState .settled owned))) ∧
    (meets (passSweep (moved .pass)) ∧ alone (passSweep (moved .pass)) ∧ (passSweep (moved .pass)).sweep.active = some (moved .pass) ∧
      (passSweep (moved .pass)).transport.holder = none ∧ (granted .none (passSweep (moved .pass))).sched.grant ≠ .pass) ∧
    (let s := held (.sweep .a 5) (inState .settled (passSweep { scoring 1 with origin := .pass }));
      meets s ∧ alone s ∧ s.sched.grant = .pass ∧ s.transport.move = none ∧ s.transport.state = .settled ∧
        s.transport.holder = some (.sweep .a 5) ∧ (scoring 1).state = .awaitingScore ∧ (scoring 1).points ≠ [] ∧
        (scoring 1).id = 5) ∧
    (let s := granted .home (withSweep { moved .standAlone with state := .queued } parked);
      meets s ∧ (∀ y ∈ s.slots, aside y) ∧ noPass s ∧ s.sched.grant ≠ .sweep ∧ s.sched.grant ≠ .discover ∧
        s.transport.holder ≠ some (.sweep .a 5)) ∧
    (∀ t ∈ [.settling, .waking], let s := inState t (granted .sweep (withSweep (moved .standAlone) parked));
      alike s ∧ (∀ y ∈ s.slots, aside y) ∧ noPass s ∧ s.sched.grant = .sweep ∧ s.transport.holder = none) ∧
    (alike (swept 1) ∧ (∀ y ∈ (swept 1).slots, aside y) ∧ noPass (swept 1) ∧ (swept 1).sweep.active = some (scoring 1) ∧
      (swept 1).sched.grant = .sweep ∧ (swept 1).transport.state = .settled ∧ (swept 1).transport.move = none ∧
      (swept 1).transport.holder = some (.sweep .a (scoring 1).id)) := by
  and_intros <;> first
    | decide
    | exact elsewhere _ _ _ (by decide)

/-- 99h names no request. -/
theorem test_witness_NonRequestsAndNop :
    requestLength 153#8 = none := by
  decide

/-- RELEASE of tag 7. -/
theorem test_witness_RequestFramesReadBack :
    WellFormed (Instr.release Link.a 7#8) = true ∧
    encodeFrame (Instr.release Link.a 7#8) = some (Link.a, [33#8, 1#8, 7#8, 215#8]) := by
  decide

/-- A transfer of two bytes; RELEASE without its check, with a wrong length, and with a wrong check. -/
theorem test_witness_FramesAreRead :
    [33#8, 1#8].length < 3 ∧ [7#8].length < (1#8).toNat + 1 ∧ requestLength 33#8 = some 1 ∧ (2#8).toNat ≠ 1 ∧
    [7#8].length = (1#8).toNat ∧ sumBytes (33#8 :: 1#8 :: ([7#8] ++ [216#8])) ≠ 0#8 := by
  decide

/-- Every field at a limit of its range. -/
theorem test_witness_TagRecordsReadBack :
    (∃ n, edgeProfile.leader = 64 * n ∧ n < 65536) ∧ 500 ≤ edgeProfile.pitch ∧ edgeProfile.pitch ≤ 16000 ∧
    (∃ n, edgeProfile.gateOffset = 4 * n ∧ n < 65536) ∧ (∃ n, edgeProfile.minMark = 4 * n ∧ 1 ≤ n ∧ n < 256) ∧
    (edgeProfile.gauge = 16 ∨ edgeProfile.gauge = 35) ∧ 1 ≤ edgeProfile.tDoc ∧ edgeProfile.tDoc < edgeProfile.tBatch ∧
    edgeProfile.tBatch < 65536 ∧ edgeProfile.defaultStep ≤ 4095 ∧ 1 ≤ topZone.start ∧ topZone.start ≤ 16384 ∧
    topZone.step ≤ 4095 ∧ 1 ≤ 16384 ∧ 16384 ≤ 16384 ∧ 16777215 < 16777216 := by
  and_intros <;> first
    | decide
    | exact ⟨65535, by decide⟩
    | exact ⟨255, by decide⟩

/-- 02h names no mode; the limits of the latched and the derived flags. -/
theorem test_witness_FlagsAreReadAndCleared :
    1#8 < 2#8 ∧ 127#16 < 128#16 ∧ 128#16 ≤ 128#16 ∧ 128#16 < 2048#16 ∧ 128#16 ≤ 2047#16 ∧ 2047#16 < 2048#16 := by
  decide

/-- The limits of each operand. -/
theorem test_witness_MasksAndSuppression :
    2047#16 < 2048#16 ∧ 2#8 ≠ 0#8 ∧ 2#8 ≠ 1#8 ∧ 7#8 < 8#8 ∧ 8#8 ≤ 8#8 ∧ 0#8 ≠ 1#8 ∧ 2048#16 ≤ 2048#16 ∧
    parked.bus.state ≠ .failed ∧ busFailed.bus.state = .failed := by
  decide

/-- A part that may not be told, an unknown code, a value just outside a range, a gauge that is not the station's, and the greatest
nominal pitch; the default profile's limits. -/
theorem test_witness_ProfileFieldsAreStored :
    let inRange (code : Byte) (v : Quad) (p : Profile) : Prop :=
      code = 0x00#8 ∨ (code = 0x01#8 ∧ (v = 16#32 ∨ v = 35#32)) ∨ (code = 0x02#8 ∧ v ≤ 4194240#32) ∨
        (code = 0x03#8 ∧ 500#32 ≤ v ∧ v ≤ 16000#32) ∨ (code = 0x04#8 ∧ v ≤ 262140#32) ∨
        (code = 0x05#8 ∧ 4#32 ≤ v ∧ v ≤ 1020#32) ∨
        (code = 0x06#8 ∧ 1#32 ≤ v ∧ v ≤ 65535#32 ∧ v.toNat < p.tBatch) ∨
        (code = 0x07#8 ∧ p.tDoc < v.toNat ∧ v ≤ 65535#32) ∨ (code = 0x08#8 ∧ v ≤ 4095#32)
    let barred (s : State) : Prop := s.index.entries ≠ [] ∨ s.transport.state = .moving ∨ s.transport.state = .settling ∨
      s.transport.state = .settled ∨ s.transport.state = .recovering ∨ s.transport.state = .rewinding
    barred parked ∧ barred (inState .rewinding bare) ∧ ¬ barred bare ∧ 8#8 < 9#8 ∧ 3#8 ≤ 8#8 ∧
    ¬ inRange 3#8 16001#32 bare.roll.active ∧ inRange 1#8 35#32 bare.roll.active ∧
    (35#32).toNat ≠ bare.params.stationGauge ∧ bare.transport.state ≠ .empty ∧ inRange 3#8 16000#32 bare.roll.active ∧
    3#8 ≠ 1#8 ∧ inRange 1#8 16#32 bare.roll.active ∧ (16#32).toNat = bare.params.stationGauge ∧ 6#8 ≤ 8#8 ∧
    ¬ inRange 6#8 800#32 bare.roll.default ∧ inRange 6#8 799#32 bare.roll.default := by
  and_intros <;> decide

/-- A roll in an EMPTY part; one with no tag load, the lamp timer at 0, the lamp dark and the reels slack in turn, one whose load waits
for a write, one that a load joins, and one on a FAILED bus; and each refusal. -/
theorem test_witness_LoadThreads :
    let fresh : State := { loadable with roll := { loadable.roll with tagLoad := .none } }
    let instant : State := { fresh with params := { fresh.params with lampWarm := 0 } }
    let sees (v : Inputs) (s : State) : State := { s with poller := { s.poller with values := v } }
    let tagged (f : Tag → Tag) : State := { fresh with tag := f fresh.tag }
    (∀ s ∈ [fresh, instant, sees 0x007#64 instant, sees 0x117#64 fresh, tagged (fun x => { x with writeState := .writing }),
        tagged (fun x => { x with status := .reading }), { fresh with bus := { fresh.bus with state := .failed } }],
      Quiet s ∧ s.transport.state = .empty ∧ s.poller.firstRoundDone = true ∧ s.roll.cartridge = true ∧ s.doorClosed = true ∧
        s.roll.tagLoad = .none ∧ (s.roll.tagLoad = .complete → s.roll.active.gauge = s.params.stationGauge) ∧
        NoPassNoSweep s) ∧
    ((sees 0x007#64 instant).lampOk = false ∧ instant.lampOk = true ∧ tensionOut (sees 0x117#64 fresh).poller.values = true) ∧
    Quiet loadable ∧ loadable.transport.state = .empty ∧ loadable.poller.firstRoundDone = true ∧
    loadable.roll.cartridge = true ∧ loadable.doorClosed = true ∧ loadable.roll.tagLoad ≠ .none ∧
    (loadable.roll.tagLoad = .complete → loadable.roll.active.gauge = loadable.params.stationGauge) ∧
    tensionOut loadable.poller.values = false ∧ loadable.params.lampWarm ≠ 0 ∧ Quiet State.reset ∧
    State.reset.poller.firstRoundDone = false ∧ Quiet noRoll ∧ noRoll.poller.firstRoundDone = true ∧
    noRoll.roll.cartridge = false ∧ Quiet parked ∧ parked.poller.firstRoundDone = true ∧ parked.roll.cartridge = true ∧
    (parked.transport.state ≠ .empty ∨ parked.doorClosed = false) ∧ Quiet otherGauge ∧
    otherGauge.poller.firstRoundDone = true ∧ otherGauge.roll.cartridge = true ∧ otherGauge.transport.state = .empty ∧
    otherGauge.doorClosed = true ∧ otherGauge.roll.tagLoad = .complete ∧
    otherGauge.roll.active.gauge ≠ otherGauge.params.stationGauge := by
  decide

/-- A parked roll, a faulted one, one whose tag is read, one that is dirty with and without a bus (its checkpoints fit once the
interval is doubled), one in STANDBY, one in motion, and one whose cartridge is gone. -/
theorem test_witness_UnloadRewinds :
    let free (s : State) : Prop :=
      s.pass.state = .idle ∧ (s.transport.state = .parked ∨ s.transport.state = .faulted) ∧ s.roll.cartridge = true ∧
        s.doorClosed = true ∧ tensionOut s.poller.values = false ∧ s.input 3 = false ∧ s.sweep.active = none ∧
        s.tag.writeState ≠ .writing
    let read : State := { parked with tag := { parked.tag with status := .reading } }
    let failed : State := { busFailed with tag := { parked.tag with dirty := true } }
    let check (i : Nat) : Checkpoint := { frame := 33 + i, position := 0, cls := .image, state := .unverified }
    let dirty : State :=
      { parked with
        tag := { parked.tag with dirty := true }
        params := { parked.params with checkInterval := 16 }
        index := { parked.index with entries := List.replicate 32 frameOne, checkpoints := (List.range 95).map check } }
    let fits (m : Nat) : Prop :=
      ((dirty.index.entries.mapIdx (fun j e => (j + 1, e))).filter (fun x =>
          x.2.source == .observed && x.1 % (dirty.params.checkInterval * 2 ^ m) == 0)).length +
        (dirty.index.checkpoints.filter (fun c =>
          decide (dirty.index.entries.length < c.frame) && c.state != .diverged)).length ≤ 96
    (Quiet parked ∧ free parked ∧ parked.tag.status ≠ .reading ∧ parked.tag.dirty = false) ∧
    (Quiet faultedIn ∧ free faultedIn ∧ faultedIn.tag.status ≠ .reading ∧ faultedIn.tag.dirty = false) ∧
    (Quiet read ∧ free read ∧ read.tag.status = .reading) ∧
    (Quiet failed ∧ free failed ∧ failed.tag.dirty = true ∧ failed.bus.state = .failed ∧ failed.tag.status = .valid) ∧
    (Quiet dirty ∧ free dirty ∧ dirty.tag.dirty = true ∧ dirty.bus.state ≠ .failed ∧ dirty.tag.status = .valid ∧
      dirty.index.entries.length ≤ 16384 ∧ fits 1 ∧ ∀ m, m < 1 → ¬ fits m) ∧
    (Quiet standing ∧ standing.pass.state = .idle ∧ standing.transport.state = .standby ∧ standing.roll.cartridge = true ∧
      standing.doorClosed = true ∧ tensionOut standing.poller.values = false ∧ standing.input 3 = false ∧
      standing.sweep.active = none ∧ standing.tag.writeState ≠ .writing ∧ standing.tag.status ≠ .reading ∧
      standing.tag.dirty = false) ∧
    (Quiet moving ∧ moving.transport.state ≠ .parked ∧ moving.transport.state ≠ .standby ∧
      moving.transport.state ≠ .faulted) ∧
    (Quiet noRoll ∧ noRoll.pass.state = .idle ∧ noRoll.transport.state = .parked ∧ noRoll.roll.cartridge = false) := by
  and_intros <;> decide

/-- The limits of the wake count; a part in STANDBY, with and without a wake count at 0. -/
theorem test_witness_StandbyAndWaking :
    Quiet parked ∧ parked.transport.state = .parked ∧ parked.sched.grant = .none ∧ 3600#16 ≤ 3600#16 ∧
    parked.lamp.state ≠ .off ∧ Quiet moving ∧ (moving.transport.state ≠ .parked ∨ moving.sched.grant ≠ .none) ∧
    3600#16 < 3601#16 ∧ parked.roll.idleTimer ≠ none ∧
    Quiet standing ∧ standing.transport.state = .standby ∧ standing.lamp.state = .off ∧ standing.params.lampWarm ≠ 0 ∧
    Quiet counted ∧ counted.transport.state = .standby ∧ counted.roll.wakeCount = some 0 ∧ counted.lamp.state = .off ∧
    counted.params.lampWarm ≠ 0 ∧
    (parked.transport.state = .parked ∨ parked.transport.state = .waking ∨ parked.transport.state = .moving ∨
      parked.transport.state = .settling ∨ parked.transport.state = .settled ∨ parked.transport.state = .recovering) ∧
    Quiet State.reset ∧
    (State.reset.transport.state = .empty ∨ State.reset.transport.state = .threading ∨
      State.reset.transport.state = .rewinding ∨ State.reset.transport.state = .faulted) := by
  decide

/-- A faulted part without film in the gate, with and without a cartridge, and with film in the gate, the door closed and open. -/
theorem test_witness_ClearFaultLeavesFaulted :
    let inserted : State := { faultedOut with roll := { faultedOut.roll with cartridge := true } }
    let opened : State := { faultedIn with poller := { parked.poller with values := 0x105#64 } }
    Quiet faultedOut ∧ faultedOut.transport.state = .faulted ∧ faultedOut.filmInGate = false ∧
    faultedOut.roll.cartridge = false ∧ faultedOut.lamp.state ≠ .off ∧
    Quiet inserted ∧ inserted.transport.state = .faulted ∧ inserted.filmInGate = false ∧ inserted.lamp.state ≠ .off ∧
    inserted.roll.cartridge = true ∧ inserted.tag.status ≠ .reading ∧ inserted.tag.writeState ≠ .writing ∧
    inserted.bus.state ≠ .failed ∧ Quiet faultedIn ∧
    faultedIn.transport.state = .faulted ∧ faultedIn.filmInGate = true ∧ faultedIn.doorClosed = true ∧
    tensionOut faultedIn.poller.values = false ∧ faultedIn.lamp.state ≠ .off ∧ faultedIn.transport.move = none ∧
    faultedIn.sched.grant = .none ∧ Quiet opened ∧ NoPassNoSweep opened ∧ opened.transport.state = .faulted ∧
    opened.filmInGate = true ∧ opened.doorClosed = false ∧ opened.lamp.state ≠ .off ∧ opened.transport.move = none ∧
    opened.sched.grant = .none ∧ opened.sched.yieldOwed = false ∧ Quiet parked ∧ parked.transport.state ≠ .faulted := by
  decide

/-- Each timer running in its state. -/
theorem test_witness_RollTimersExpire :
    Quiet threading ∧ NoPassNoSweep threading ∧ threading.transport.state = .threading ∧
    threading.roll.threadTimer ≠ none ∧ Quiet warming ∧ warming.lamp.state = .warming ∧ warming.lamp.warmTimer ≠ none ∧
    warming.lampOk = true ∧ warming.transport.gateReady = false ∧ warming.pass.state ≠ .running ∧ Quiet warmingBad ∧
    warmingBad.lamp.state = .warming ∧ warmingBad.lamp.warmTimer ≠ none ∧ warmingBad.lampOk = false ∧
    warmingBad.transport.gateReady = false ∧ warmingBad.pass.state = .idle ∧ warmingBad.sweep.active = none ∧
    Quiet waking ∧ waking.transport.state = .waking ∧ waking.roll.tensionTimer ≠ none ∧ waking.sched.grant = .none ∧
    NoWork waking ∧ waking.lamp.state ≠ .off ∧ Quiet rewinding ∧ rewinding.transport.state = .rewinding ∧
    rewinding.roll.tensionTimer ≠ none ∧ MayMove waking ∧ InReach 1 waking ∧
    (let s := granted (.slot 0) { waking with slots := waking.slots.set 0 (travellingSlot .present) };
      Quiet s ∧ MayMove s ∧ s.sched.grant = .slot 0 ∧ s.slots[0]? = some (travellingSlot .present)) ∧
    (travellingSlot .present).frame = some 1 ∧
    (let x : SweepRecord := { scoring 0 with state := .travelling, frame := 1 };
      let s := granted .sweep (withSweep x waking);
      Quiet s ∧ s.sweep.active = some x ∧ x.state = .travelling ∧ InReach x.frame s) ∧
    (granted .discover waking).sched.grant = .discover ∧
    ((granted .home waking).sched.grant = .home ∧ (granted .home waking).doorClosed = true) := by
  and_intros <;> decide

/-- Windows at the limits of the index, and reads at the limits of the count and of the stream. -/
theorem test_witness_IndexStreams :
    1#16 ≤ 1#16 ∧ 1#16 ≤ 16384#16 ∧ 16384#16 ≤ 16384#16 ∧ 1#8 ≤ 1#8 ∧
    (0#16 = 0#16 ∨ 16384#16 < 0#16 ∨ 16384#16 < 16384#16) ∧ 0#8 ≤ 1#8 ∧
    (1#16 = 0#16 ∨ 16385#16 < 1#16 ∨ 16384#16 < 16385#16) ∧ 1#8 < 2#8 ∧ (parked.link Link.a).stream = none ∧
    ((streaming rising).link Link.a).stream = some rising ∧ (0#8 = 0#8 ∨ 8#8 < 0#8) ∧ (9#8 = 0#8 ∨ 8#8 < 9#8) ∧
    rising.order = .ascending ∧ 1#8 ≤ 8#8 ∧ 8#8 ≤ 8#8 ∧ 1 ≤ rising.pointer ∧ rising.pointer ≤ rising.last ∧
    ((streaming falling).link Link.a).stream = some falling ∧ falling.order = .descending ∧ 1 ≤ falling.first ∧
    falling.first ≤ falling.pointer ∧ falling.pointer ≤ (streaming falling).extent ∧
    ((streaming beyondEnd).link Link.a).stream = some beyondEnd ∧ (streaming beyondEnd).extent < beyondEnd.pointer := by
  decide

/-- One entry after frame 2, one too near to it, one of an unknown class, one in a closed index, and one that no longer fits. -/
theorem test_witness_IndexWriteAppends :
    let near : ImportDesc := { description with position := 254499#24 }
    let unknown : ImportDesc := { description with cls := 0x03#8 }
    let closed : State := { parked with index := { parked.index with closure := some .trailer } }
    let spaced (s : State) (es : List Entry) : Prop :=
      (∀ e ∈ es.head?, if s.index.entries = [] then s.roll.active.leader ≤ e.position
        else s.pos s.index.entries.length + s.roll.active.pitch / 2 ≤ e.position) ∧
      (∀ x ∈ es.zip es.tail, x.1.position + s.roll.active.pitch / 2 ≤ x.2.position) ∧
      (∀ t ∈ s.index.trailer, ∀ e ∈ es, e.position ≤ t)
    let barred (s : State) : Prop := s.transport.state = .rewinding ∨ s.index.closure ≠ none ∨ s.discoveryActive = true
    Quiet State.reset ∧ State.reset.transport.state = .empty ∧ Quiet parked ∧ parked.transport.state ≠ .empty ∧
    parked.transport.state ≠ .threading ∧ (5#8 = 0#8 ∨ 4#8 < 5#8) ∧ 1#8 ≤ 1#8 ∧ 1#8 ≤ 4#8 ∧
    (∃ d ∈ [unknown, description, description, description].take (1#8).toNat, 0x02#8 < d.cls ∨ 0x01#8 < d.lengthPresent) ∧
    importEntries ([description, description, description, description].take (1#8).toNat) = some [imported] ∧
    importEntries ([near, description, description, description].take (1#8).toNat) =
      some [{ imported with position := 254499 }] ∧
    Quiet closed ∧ closed.transport.state ≠ .empty ∧ closed.transport.state ≠ .threading ∧ barred closed ∧
    ¬ barred parked ∧ ¬ spaced parked [{ imported with position := 254499 }] ∧ spaced parked [imported] ∧ AtEase parked ∧
    parked.index.checkpoints = [] ∧ (∀ x ∈ parked.slots, x.state ≠ .resolving) ∧ parked.pass.state ≠ .running ∧
    parked.index.entries.length + (1#8).toNat ≤ 16384 ∧ importEntry description = some imported := by
  and_intros <;> decide

/-- An index with room for no more of four entries than one. -/
theorem test_witness_IndexWriteAppends_full :
    let d (p : BitVec 24) : ImportDesc := { description with position := p }
    let e (p : Nat) : Entry := { imported with position := p }
    let s : State := { parked with index := { parked.index with entries := List.replicate 16383 frameTwo } }
    Quiet s ∧ s.transport.state ≠ .empty ∧ s.transport.state ≠ .threading ∧ 1#8 ≤ 4#8 ∧ 4#8 ≤ 4#8 ∧
    importEntries ([d 256000#24, d 259000#24, d 262000#24, d 265000#24].take (4#8).toNat) =
      some [e 256000, e 259000, e 262000, e 265000] ∧
    s.index.closure = none ∧ s.discoveryActive = false ∧ AtEase s ∧ s.index.checkpoints = [] ∧
    (∀ x ∈ s.slots, x.state ≠ .resolving) ∧ s.pass.state ≠ .running ∧
    s.index.entries ≠ [] ∧ s.pos s.index.entries.length + s.roll.active.pitch / 2 ≤ 256000 ∧
    s.index.trailer = none ∧ s.index.entries.length ≤ 16384 ∧ 16384 < s.index.entries.length + (4#8).toNat := by
  intro d e s
  have hl : s.index.entries.length = 16383 := List.length_replicate
  have hp : s.pos 16383 = 253000 := by
    simp only [State.pos, State.entry, s, List.getElem?_replicate]; decide
  rw [hl, hp]
  and_intros <;> decide

/-- A parked part; one in motion, one with a slot that waits, one with a pass. -/
theorem test_witness_IndexClearEmpties :
    (parked.transport.state = .parked ∨ parked.transport.state = .standby ∨ parked.transport.state = .empty) ∧
    (∀ x ∈ parked.slots, x.resting = true) ∧ parked.pass.state = .idle ∧
    (moving.transport.state ≠ .parked ∧ moving.transport.state ≠ .standby ∧ moving.transport.state ≠ .empty ∨ (∃ x ∈
    moving.slots, x.resting = false) ∨ moving.pass.state ≠ .idle) ∧
    ((oneSlot pendingSlot).transport.state ≠ .parked ∧ (oneSlot pendingSlot).transport.state ≠ .standby ∧ (oneSlot
    pendingSlot).transport.state ≠ .empty ∨ (∃ x ∈ (oneSlot pendingSlot).slots, x.resting = false) ∨ (oneSlot
    pendingSlot).pass.state ≠ .idle) ∧
    (yielding.transport.state ≠ .parked ∧ yielding.transport.state ≠ .standby ∧ yielding.transport.state ≠ .empty ∨ (∃ x ∈
    yielding.slots, x.resting = false) ∨ yielding.pass.state ≠ .idle) := by
  decide

/-- Each form of a target, in the index and beyond it. -/
theorem test_witness_ResolveAnswers :
    ((target 0#8 2#16).kind = 0#8 ∧ BitVec.toNat (target 0#8 2#16).v0 = 2 ∨ (target 0#8 2#16).kind = 2#8 ∧ -16383 ≤
    BitVec.toInt (target 0#8 2#16).v0 ∧ BitVec.toInt (target 0#8 2#16).v0 ≤ 16383 ∧ ↑2 = max 1
    (↑(parked.transport.gateFrame.getD 1) + BitVec.toInt (target 0#8 2#16).v0)) ∧
    1 ≤ 2 ∧ 2 ≤ 16384 ∧ parked.entry 2 = some frameTwo ∧
    ((target 2#8 65535#16).kind = 0#8 ∧ BitVec.toNat (target 2#8 65535#16).v0 = 1 ∨ (target 2#8 65535#16).kind = 2#8 ∧
    -16383 ≤ BitVec.toInt (target 2#8 65535#16).v0 ∧ BitVec.toInt (target 2#8 65535#16).v0 ≤ 16383 ∧ ↑1 = max 1
    (↑(parked.transport.gateFrame.getD 1) + BitVec.toInt (target 2#8 65535#16).v0)) ∧
    1 ≤ 1 ∧ 1 ≤ 16384 ∧ parked.entry 1 = some frameOne ∧
    ((target 0#8 16384#16).kind = 0#8 ∧ BitVec.toNat (target 0#8 16384#16).v0 = 16384 ∨ (target 0#8 16384#16).kind = 2#8 ∧
    -16383 ≤ BitVec.toInt (target 0#8 16384#16).v0 ∧ BitVec.toInt (target 0#8 16384#16).v0 ≤ 16383 ∧ ↑16384 = max 1
    (↑(parked.transport.gateFrame.getD 1) + BitVec.toInt (target 0#8 16384#16).v0)) ∧
    16384 ≤ 16384 ∧ parked.index.entries.length < 16384 ∧
    ((target 2#8 1#16).kind = 0#8 ∧ BitVec.toNat (target 2#8 1#16).v0 = 3 ∨ (target 2#8 1#16).kind = 2#8 ∧ -16383 ≤
    BitVec.toInt (target 2#8 1#16).v0 ∧ BitVec.toInt (target 2#8 1#16).v0 ≤ 16383 ∧ ↑3 = max 1
    (↑(parked.transport.gateFrame.getD 1) + BitVec.toInt (target 2#8 1#16).v0)) ∧
    1 ≤ 3 ∧ 3 ≤ 16384 ∧ parked.index.entries.length < 3 ∧ (target 1#8 1#16).kind = 1#8 ∧
    parked.index.entries[0]? = some frameOne ∧
    addressMatches (BitVec.toNat (target 1#8 1#16).v0) (BitVec.toNat (target 1#8 1#16).v1) (BitVec.toNat (target 1#8
    1#16).v2) frameOne = true ∧
    (∀ (j : Nat) (y : Entry), j < 0 → parked.index.entries[j]? = some y → addressMatches (BitVec.toNat (target 1#8
    1#16).v0) (BitVec.toNat (target 1#8 1#16).v1) (BitVec.toNat (target 1#8 1#16).v2) y = false) ∧
    (target 1#8 2#16).kind = 1#8 ∧
    (∀ e ∈ parked.index.entries, addressMatches (BitVec.toNat (target 1#8 2#16).v0) (BitVec.toNat (target 1#8 2#16).v1)
    (BitVec.toNat (target 1#8 2#16).v2) e = false) ∧
    (target 0#8 0#16).kind = 0#8 ∧ ((target 0#8 0#16).v0 = 0#16 ∨ 16384#16 < (target 0#8 0#16).v0) ∧
    (target 0#8 16385#16).kind = 0#8 ∧ ((target 0#8 16385#16).v0 = 0#16 ∨ 16384#16 < (target 0#8 16385#16).v0) ∧
    ((target 2#8 0#16).kind = 2#8 ∧ (target 2#8 0xC000#16).v0.toInt < -16383 ∧ 16383 < (target 2#8 16384#16).v0.toInt ∧
      (16384 : Int) < 2 + (target 2#8 16383#16).v0.toInt ∧ parked.transport.gateFrame.getD 1 = 2) ∧
    2#8 < (target 3#8 1#16).kind := by
  and_intros <;> first
    | decide
    | exact fun j y hj _ => absurd hj (Nat.not_lt_zero _)

/-- A target in the index and one beyond it; a free transport, one that discovers, a pass at its capture, in its sweep and at a
boundary with its yield due and not; a free slot under another grant; and each refusal. -/
theorem test_witness_RetrieveFillsASlot :
    let one : Target := .frame 1
    let three : Target := .frame 3
    let accepts (s : State) (t : Target) : Prop :=
      Quiet s ∧ s.transport.state ≠ .empty ∧ s.transport.state ≠ .threading ∧ s.transport.state ≠ .rewinding ∧
        targetInRange s t = true ∧ s.slotOf .a 7#8 = none ∧ s.held .a < 12 ∧ s.freeSlot = some 0
    let discovering : State := granted .discover (spliced parked)
    let sweeping : State := withPass (fun p => { p with work := .sweeping, pending := .none }) capturing
    let boundary (n : Nat) : State :=
      granted .pass { waking with pass := { stepping with yieldInterval := 2, framesSinceYield := n } }
    (parked.index.entries[1]? = some frameTwo ∧ addressMatches 1 1 2 frameTwo = true ∧
      ∀ j y, j < 1 → parked.index.entries[j]? = some y → addressMatches 1 1 2 y = false) ∧
    (∀ e ∈ parked.index.entries, addressMatches 2 0 0 e = false) ∧
    decodeAction 0#8 = some SlotAction.present ∧ decodePriority 1#8 = some Priority.urgent ∧
    decodePriority 0#8 = some Priority.normal ∧
    decodeTarget (target 0#8 1#16) = some one ∧ decodeTarget (target 0#8 3#16) = some three ∧
    decodeTarget (target 0#8 16384#16) = some (.frame 16384) ∧ accepts waking one ∧ accepts waking three ∧
    waking.transport.state = .waking ∧ waking.sched.grant = .none ∧ NoWork waking ∧
    resolveTarget waking (slotTarget waking one) = .found 1 ∧ resolveTarget waking (slotTarget waking three) = .beyond ∧
    (∀ t ∈ [one, three], accepts parked t) ∧ NoWork parked ∧ MayMove parked ∧ parked.transport.state = .parked ∧
    parked.sched.grant = .none ∧ resolveTarget parked (slotTarget parked one) = .found 1 ∧ InReach 1 parked ∧
    resolveTarget parked (slotTarget parked three) = .beyond ∧
    (let far : State := { parked with roll := { parked.roll with active := { parked.roll.active with gateOffset := 16600000 } } };
      accepts far one ∧ NoWork far ∧ MayMove far ∧ resolveTarget far (slotTarget far one) = .found 1 ∧
        16777215 - far.params.arriveTol < far.pos 1 + far.roll.active.gateOffset) ∧
    accepts discovering one ∧ discovering.transport.state = .moving ∧ discovering.sched.grant = .discover ∧
    discovering.transport.move = some (frameMove (.coord 300000) []) ∧ (frameMove (.coord 300000) []).phase = .running ∧
    resolveTarget discovering (slotTarget discovering one) = .found 1 ∧ accepts capturing one ∧
    capturing.sched.grant = .pass ∧ capturing.pass.state = .running ∧
    resolveTarget capturing (slotTarget capturing one) = .found 1 ∧ capturing.transport.state = .settled ∧
    capturing.pass.work = .awaitingCapture ∧
    (accepts sweeping one ∧ sweeping.sched.grant = .pass ∧ sweeping.pass.state = .running ∧
      resolveTarget sweeping (slotTarget sweeping one) = .found 1 ∧ sweeping.transport.state = .settled ∧
      sweeping.pass.work = .sweeping ∧ sweeping.pass.pending = .none) ∧
    (∀ n ∈ [1, 2], accepts (boundary n) one ∧ (boundary n).sched.grant = .pass ∧ (boundary n).pass.state = .running ∧
      resolveTarget (boundary n) (slotTarget (boundary n) one) = .found 1 ∧ (boundary n).transport.state = .waking ∧
      (boundary n).transport.move = none ∧ (boundary n).pass.work = .none ∧ (boundary n).pass.pending = .none ∧
      (boundary n).pass.yieldAsked = false ∧ (boundary n).pass.yieldLater = false ∧ (boundary n).tracker.level ≠ .lost ∧ (boundary n).sweep.active = none ∧
      (∀ x ∈ (boundary n).slots, x.resting = true) ∧ (boundary n).pass.yieldInterval ≠ 0) ∧
    (boundary 2).pass.yieldInterval ≤ (boundary 2).pass.framesSinceYield ∧
    ¬ (boundary 1).pass.yieldInterval ≤ (boundary 1).pass.framesSinceYield ∧
    accepts (granted .home parked) (.frame 16384) ∧
    (granted .home parked).sched.grant ≠ .none ∧ (granted .home parked).sched.grant ≠ .discover ∧
    (granted .home parked).sched.grant ≠ .pass ∧ Quiet State.reset ∧ State.reset.transport.state = .empty ∧
    Quiet rewinding ∧ rewinding.transport.state = .rewinding ∧ Quiet parked ∧ parked.transport.state = .parked ∧
    (1#8 < 2#8 ∨ 1#8 < 1#8 ∨ 2#8 < (target 0#8 1#16).kind) ∧ 0#8 ≤ 1#8 ∧ 1#8 ≤ 1#8 ∧
    decodeTarget (target 0#8 16385#16) = some (.frame 16385) ∧ targetInRange parked (.frame 16385) = false ∧
    Quiet (oneSlot pendingSlot) ∧ (oneSlot pendingSlot).transport.state = .parked ∧
    targetInRange (oneSlot pendingSlot) one = true ∧
    (∃ x ∈ (oneSlot pendingSlot).slots, x.state ≠ .free ∧ x.owner = .a ∧ x.tag = 7#8) ∧ Quiet full ∧
    full.transport.state = .parked ∧ targetInRange full one = true ∧
    (∀ x ∈ full.slots, x.state ≠ .free → x.owner = .a → x.tag ≠ 7#8) ∧
    (12 ≤ full.held .a ∨ ∀ x ∈ full.slots, x.state ≠ .free) := by
  and_intros <;> first
    | decide
    | exact fun j y hj hy =>
        places parked.index.entries (fun j y => j < 1 → addressMatches 1 1 2 y = false) (by decide) j y hy hj

/-- Slot 0 holds the gate, its hold timer running. -/
theorem test_witness_PresentingEnds :
    Quiet presenting ∧ presenting.slots[0]? = some presentingSlot ∧ presentingSlot.state = .presenting ∧
    presenting.tracker.level ≠ .lost ∧ presenting.sweep.active = none ∧ presenting.passActive = false ∧
    presenting.lamp.state ≠ .off ∧ (∀ (j : Nat) (y : Slot), j ≠ 0 → presenting.slots[j]? = some y → y.resting = true) ∧
    presenting.slotOf Link.a 7#8 = some 0 ∧ presentingSlot.holdTimer ≠ none := by
  and_intros <;> first
    | decide
    | exact elsewhere _ _ _ (by decide)

/-- No slot, a PENDING one, a RESOLVING one with and without another and under a DISCOVER grant in MOVING, RECOVERING and WAKING, a
TRAVELLING one in each state of its move, and one ended by its hold timer. -/
theorem test_witness_ReleaseAndCancelAreChecked :
    let resolving : Slot := { pendingSlot with state := .resolving, target := .frame 3, frame := none }
    let shared : State := { oneSlot resolving with slots := [resolving, { resolving with tag := 8#8 }] }
    let discovers (s : State) : State := granted .discover (withSlot resolving s)
    let travels (s : State) : State := granted (.slot 0) (withSlot (travellingSlot .present) s)
    let holds (s : State) : Prop := Quiet s ∧ s.slotOf .a 7#8 = some 0
    let alone (s : State) : Prop := s.tracker.level ≠ .lost ∧ s.sweep.active = none ∧ s.passActive = false
    (Quiet parked ∧ parked.slotOf .a 7#8 = none) ∧
    (holds (oneSlot pendingSlot) ∧ ((oneSlot pendingSlot).slot 0).state = .pending) ∧
    (holds (oneSlot resolving) ∧ ((oneSlot resolving).slot 0).state = .resolving ∧
      (oneSlot resolving).sched.grant ≠ .discover) ∧
    (holds (granted .discover shared) ∧ ((granted .discover shared).slot 0).state = .resolving ∧
      ∃ j y, j ≠ 0 ∧ (granted .discover shared).slots[j]? = some y ∧ y.state = .resolving) ∧
    (holds (discovers (spliced parked)) ∧ ((discovers (spliced parked)).slot 0).state = .resolving ∧
      (discovers (spliced parked)).sched.grant = .discover ∧ (discovers (spliced parked)).transport.state = .moving ∧
      (discovers (spliced parked)).transport.move = some (frameMove (.coord 300000) [])) ∧
    (holds (discovers (inState .recovering (spliced parked))) ∧
      ((discovers (inState .recovering (spliced parked))).slot 0).state = .resolving ∧
      (discovers (inState .recovering (spliced parked))).transport.state = .recovering ∧
      (discovers (inState .recovering (spliced parked))).transport.move = some (frameMove (.coord 300000) [])) ∧
    (∀ j y, j ≠ 0 → (discovers (spliced parked)).slots[j]? = some y → y.state ≠ .resolving) ∧
    (holds (discovers waking) ∧ ((discovers waking).slot 0).state = .resolving ∧
      (discovers waking).sched.grant = .discover ∧ (discovers waking).transport.state = .waking ∧ alone (discovers waking)) ∧
    (∀ j y, j ≠ 0 → (discovers waking).slots[j]? = some y → y.resting = true) ∧
    (∀ s ∈ [travels (spliced parked), travels (inState .recovering (spliced parked)), travels waking,
        settlingFor .present], holds s ∧ (s.slot 0).state = .travelling ∧ s.sched.grant = .slot 0 ∧ alone s ∧
        s.lamp.state ≠ .off) ∧
    (travels (spliced parked)).transport.move = some (frameMove (.coord 300000) []) ∧
    (travels (spliced parked)).transport.state = .moving ∧
    (travels (inState .recovering (spliced parked))).transport.state = .recovering ∧
    (travels waking).transport.state = .waking ∧ (settlingFor .present).transport.state = .settling ∧
    (∀ j y, j ≠ 0 → (travels waking).slots[j]? = some y → y.resting = true) ∧
    (∀ j y, j ≠ 0 → (settlingFor .present).slots[j]? = some y → y.resting = true) ∧
    (holds (oneSlot doneSlot) ∧ ((oneSlot doneSlot).slot 0).state = .done ∧
      ((oneSlot doneSlot).slot 0).result = some heldOut) := by
  intro resolving shared
  and_intros <;> first
    | decide
    | exact ⟨1, { resolving with tag := 8#8 }, by decide, rfl, rfl⟩
    | exact elsewhere _ _ _ (by decide)

/-- A CANCEL of the slot whose grant WAKING holds: with the level LOST; with an URGENT slot that waits beside another, and one that
resolves; with a sweep queued; with a pass active and its yield not owed, and owed; with NORMAL slots, one aged, one nearest in the
direction, two equally near, and none in the direction; and with nothing else. -/
theorem test_witness_SchedulerChooses :
    let wait (k n : Nat) (p : Priority) : Slot :=
      { pendingSlot with tag := 8#8, frame := some k, target := .frame k, priority := p, sequence := BitVec.ofNat 32 n }
    let resolve (n : Nat) (p : Priority) : Slot := { wait 3 n p with state := .resolving, frame := none }
    let held (xs : List Slot) (s : State) : State :=
      granted (.slot 0) { inState .waking s with slots := travellingSlot .present :: (xs ++ [Slot.empty]) }
    let older (x y : Slot) : Prop := (y.sequence - x.sequence).toNat < 2147483648 ∧ x.sequence ≠ y.sequence
    let urgent (s : State) (y : Slot) : Prop :=
      y.priority = .urgent ∧ (y.state = .pending ∨ (y.state = .resolving ∧ s.passActive = false))
    let normal (s : State) (y : Slot) : Prop :=
      y.priority = .normal ∧ (y.state = .pending ∨ (y.state = .resolving ∧ s.passActive = false))
    let coord (s : State) (y : Slot) : Nat :=
      if y.state = .pending then min 16777215 (s.pos (y.frame.getD 0) + s.roll.active.gateOffset)
      else if s.index.entries = [] then s.roll.active.leader
      else s.pos s.index.entries.length + s.roll.active.gateOffset
    let lies (s : State) (d : Direction) (y : Slot) : Prop :=
      (d = .forward ∧ s.tracker.register ≤ coord s y) ∨ (d = .reverse ∧ coord s y ≤ s.tracker.register)
    let nearer (s : State) (x y : Slot) : Prop :=
      distance (coord s x) s.tracker.register < distance (coord s y) s.tracker.register ∨
        (distance (coord s x) s.tracker.register = distance (coord s y) s.tracker.register ∧ older x y)
    let meets (s : State) : Prop := Quiet s ∧ s.transport.state = .waking ∧ s.slotOf .a 7#8 = some 0 ∧
      (s.slot 0).state = .travelling ∧ s.sched.grant = .slot 0
    let quietRows (s : State) : Prop := s.tracker.level ≠ .lost ∧ ∀ y ∈ s.slots, ¬ urgent s y
    let owed (s : State) : Bool := s.sched.yieldOwed && s.slots.any (fun y => y.state == .pending && y.priority == .normal)
    let owing (s : State) : State := { s with sched := { s.sched with yieldOwed := true } }
    let lost : State := held [] { parked with tracker := { parked.tracker with level := .lost } }
    let first : State := held [wait 1 1 .urgent, wait 2 0 .urgent] parked
    let looking : State := held [resolve 0 .urgent] parked
    let sweeping : State := held [] (withSweep { scoring 0 with state := .queued } parked)
    let passes : State := held [] running
    let yields : State := owing (held [wait 1 0 .normal] running)
    let aged : State := held [wait 2 1 .normal, { wait 1 0 .normal with skip := 8 }] parked
    let near : State := held [wait 2 1 .normal, resolve 2 .normal, wait 1 0 .normal]
      { parked with tracker := { parked.tracker with register := 261000 } }
    let between : State := held [wait 2 1 .normal, wait 1 0 .normal]
      { parked with tracker := { parked.tracker with register := 263000 } }
    let beyond : State := held [resolve 0 .normal] parked
    (meets lost ∧ lost.tracker.level = .lost) ∧
    (meets first ∧ first.tracker.level ≠ .lost ∧ first.slots[2]? = some (wait 2 0 .urgent) ∧
      urgent first (wait 2 0 .urgent)) ∧
    (∀ k y, k ≠ 2 → first.slots[k]? = some y → urgent first y → older (wait 2 0 .urgent) y) ∧
    (meets looking ∧ looking.tracker.level ≠ .lost ∧ looking.slots[1]? = some (resolve 0 .urgent) ∧
      urgent looking (resolve 0 .urgent)) ∧
    (∀ k y, k ≠ 1 → looking.slots[k]? = some y → urgent looking y → older (resolve 0 .urgent) y) ∧
    (meets sweeping ∧ quietRows sweeping ∧ sweeping.sweep.active = some { scoring 0 with state := .queued } ∧
      (scoring 0).frame ≤ sweeping.index.entries.length) ∧
    (meets passes ∧ quietRows passes ∧ (∀ x ∈ passes.sweep.active, x.state ≠ .queued) ∧ passes.passActive = true ∧
      owed passes = false ∧ passes.lamp.state ≠ .failed) ∧
    (meets yields ∧ quietRows yields ∧ (∀ x ∈ yields.sweep.active, x.state ≠ .queued) ∧ owed yields = true ∧
      yields.slots[1]? = some (wait 1 0 .normal) ∧ normal yields (wait 1 0 .normal)) ∧
    (∀ z ∈ yields.slots, normal yields z → z.skip < yields.params.agingLimit) ∧
    (∀ z ∈ yields.slots, normal yields z → ¬ lies yields yields.sched.direction z) ∧
    (∀ k y, k ≠ 1 → yields.slots[k]? = some y → normal yields y → nearer yields (wait 1 0 .normal) y) ∧
    (meets aged ∧ quietRows aged ∧ (∀ x ∈ aged.sweep.active, x.state ≠ .queued) ∧ aged.passActive = false ∧
      aged.slots[2]? = some { wait 1 0 .normal with skip := 8 } ∧ normal aged { wait 1 0 .normal with skip := 8 } ∧
      aged.params.agingLimit ≤ 8) ∧
    (∀ k y, k ≠ 2 → aged.slots[k]? = some y → normal aged y → aged.params.agingLimit ≤ y.skip →
      older { wait 1 0 .normal with skip := 8 } y) ∧
    (meets near ∧ quietRows near ∧ (∀ x ∈ near.sweep.active, x.state ≠ .queued) ∧ near.passActive = false ∧
      near.slots[1]? = some (wait 2 1 .normal) ∧ normal near (wait 2 1 .normal) ∧
      (∀ z ∈ near.slots, normal near z → z.skip < near.params.agingLimit) ∧
      lies near near.sched.direction (wait 2 1 .normal)) ∧
    (∀ k y, k ≠ 1 → near.slots[k]? = some y → normal near y → lies near near.sched.direction y →
      nearer near (wait 2 1 .normal) y) ∧
    (meets between ∧ quietRows between ∧ (∀ x ∈ between.sweep.active, x.state ≠ .queued) ∧ between.passActive = false ∧
      between.slots[1]? = some (wait 2 1 .normal) ∧ normal between (wait 2 1 .normal) ∧
      (∀ z ∈ between.slots, normal between z → z.skip < between.params.agingLimit ∧
        ¬ lies between between.sched.direction z)) ∧
    (∀ k y, k ≠ 1 → between.slots[k]? = some y → normal between y → nearer between (wait 2 1 .normal) y) ∧
    (meets beyond ∧ quietRows beyond ∧ (∀ x ∈ beyond.sweep.active, x.state ≠ .queued) ∧ beyond.passActive = false ∧
      beyond.slots[1]? = some (resolve 0 .normal) ∧ normal beyond (resolve 0 .normal) ∧
      (∀ z ∈ beyond.slots, normal beyond z → z.skip < beyond.params.agingLimit) ∧
      lies beyond beyond.sched.direction (resolve 0 .normal)) ∧
    (∀ k y, k ≠ 1 → beyond.slots[k]? = some y → normal beyond y → lies beyond beyond.sched.direction y →
      nearer beyond (resolve 0 .normal) y) ∧
    (meets (held [] parked) ∧ quietRows (held [] parked) ∧ (∀ x ∈ (held [] parked).sweep.active, x.state ≠ .queued) ∧
      (held [] parked).passActive = false ∧ ∀ y ∈ (held [] parked).slots, ¬ normal (held [] parked) y) := by
  and_intros <;> first
    | decide
    | exact elsewhere _ _ _ (by decide)

/-- No slot, one with its hold timer running, a DONE slot, a PENDING one, and one of the other link. -/
theorem test_witness_QueryAndCollect :
    parked.slotOf Link.a 7#8 = none ∧ presenting.slotOf Link.a 7#8 = some 0 ∧
    presenting.slots[0]? = some presentingSlot ∧ presentingSlot.holdTimer = some 9 ∧ 1 ≤ 9 ∧
    (oneSlot doneSlot).slotOf Link.a 7#8 = some 0 ∧ (oneSlot doneSlot).slots[0]? = some doneSlot ∧
    doneSlot.state = .done ∧ doneSlot.result = some heldOut ∧ otherSlot.slots[0]? = some otherDone ∧
    otherDone.state = .done ∧ otherDone.owner = .b ∧ otherDone.result = some heldOut ∧
    (∀ (j : Nat) (y : Slot), j ≠ 0 → otherSlot.slots[j]? = some y → y.state = .done → y.owner = .b → olderSeq
    otherDone.sequence y.sequence = true ∧ y.sequence ≠ otherDone.sequence) ∧
    (oneSlot pendingSlot).slotOf Link.a 7#8 = some 0 ∧ ((oneSlot pendingSlot).slot 0).state ≠ .done ∧
    (∀ x ∈ otherSlot.slots, x.state = .done → x.owner ≠ .a) ∧ 1#8 < 2#8 := by
  and_intros <;> first
    | decide
    | exact elsewhere _ _ _ (by decide)

/-- Fields at the limits of their ranges and just outside them. -/
theorem test_witness_SegmentsAreStored :
    (parked.pass.state = .idle ∨ parked.pass.owner ≠ some Link.a) ∧ decodeSegAction 3#8 = some SegAction.indexOnly ∧
    63#8 < 64#8 ∧ 1#8 ≤ 8#8 ∧ 8#8 ≤ 8#8 ∧ 1#16 ≤ 16384#16 ∧ 16384#16 ≤ 16384#16 ∧
    (1#16 ≤ 65535#16 ∧ 65535#16 ≤ 16384#16 ∨ 65535#16 = 65535#16) ∧ decodeSegAction 0#8 = some SegAction.all ∧ 1#8 ≤ 1#8 ∧
    1#16 ≤ 1#16 ∧ (1#16 ≤ 16384#16 ∧ 16384#16 ≤ 16384#16 ∨ 16384#16 = 65535#16) ∧ 1#16 ≤ 1023#16 ∧ 1023#16 ≤ 1023#16 ∧
    1#8 ≤ 64#8 ∧ 64#8 ≤ 64#8 ∧ running.pass.state ≠ .idle ∧ running.pass.owner = some Link.a ∧
    (3#8 < 4#8 ∨ 1#8 < 0#8 ∨ 64#8 ≤ 63#8) ∧ (3#8 < 0#8 ∨ 1#8 < 0#8 ∨ 64#8 ≤ 64#8) ∧ 0#8 ≤ 3#8 ∧ 0#8 ≤ 1#8 ∧
    (9#8 = 0#8 ∨ 8#8 < 9#8 ∨ 1#16 = 0#16 ∨ 16384#16 < 1#16 ∨ 16384#16 = 0#16 ∨ 16384#16 < 16384#16 ∧ 16384#16 ≠ 65535#16 ∨
    0#8 = 1#8 ∧ (1023#16 = 0#16 ∨ 1023#16 < 1023#16 ∨ 8#8 = 0#8 ∨ 8#8 < 8#8 ∨ 64#8 = 0#8 ∨ 64#8 < 64#8)) ∧
    (1#8 = 0#8 ∨ 8#8 < 1#8 ∨ 1#16 = 0#16 ∨ 16384#16 < 1#16 ∨ 16384#16 = 0#16 ∨ 16384#16 < 16384#16 ∧ 16384#16 ≠ 65535#16 ∨
    1#8 = 1#8 ∧ (1024#16 = 0#16 ∨ 1023#16 < 1024#16 ∨ 8#8 = 0#8 ∨ 8#8 < 8#8 ∨ 64#8 = 0#8 ∨ 64#8 < 64#8)) ∧
    (9#8 = 0#8 ∨ 8#8 < 9#8) := by
  and_intros <;> first | rfl | decide

/-- A program of one segment under another grant, in WAKING and under a DISCOVER move, and each refusal. -/
theorem test_witness_PassStarts :
    let buffered (s : State) : State := onLink .a (fun k => { k with buffer := k.buffer.set 0 (some segment) }) s
    let discovering : State := buffered (granted .discover (spliced parked))
    let programs (s : State) : Prop :=
      Quiet s ∧ s.pass.state = .idle ∧ programOf (1#8).toNat (s.link .a).buffer = some [segment]
    let threaded (s : State) : Prop := s.transport.state ≠ .empty ∧ s.transport.state ≠ .threading ∧
      s.transport.state ≠ .rewinding ∧ s.transport.state ≠ .faulted
    let refused (n : Byte) (s : State) : Prop :=
      n = 0#8 ∨ 8#8 < n ∨ programOf n.toNat (s.link .a).buffer = none ∨
        ∃ gs, programOf n.toNat (s.link .a).buffer = some gs ∧ programOrdered gs = false
    decodeMode 1#8 = some PassMode.fly ∧ 1#8 ≤ 1#8 ∧ 1#8 ≤ 8#8 ∧ programOrdered [segment] = true ∧
    programs (buffered waking) ∧ (buffered waking).transport.state = .waking ∧ (buffered waking).sched.grant = .none ∧
    NoWork (buffered waking) ∧ (buffered waking).lamp.state ≠ .failed ∧
    programs discovering ∧ discovering.transport.state = .moving ∧ discovering.sched.grant = .discover ∧
    discovering.transport.move = some (frameMove (.coord 300000) []) ∧ (frameMove (.coord 300000) []).phase = .running ∧
    programs stored ∧ threaded stored ∧ stored.sched.grant ≠ .none ∧ stored.sched.grant ≠ .discover ∧
    Quiet running ∧ running.pass.state ≠ .idle ∧ Quiet State.reset ∧ State.reset.pass.state = .idle ∧
    State.reset.transport.state = .empty ∧ Quiet faultedIn ∧ faultedIn.pass.state = .idle ∧
    faultedIn.transport.state = .faulted ∧ Quiet parked ∧ parked.pass.state = .idle ∧ threaded parked ∧ 1#8 < 2#8 ∧
    refused 9#8 parked ∧ Quiet misordered ∧ misordered.pass.state = .idle ∧ threaded misordered ∧ refused 1#8 misordered := by
  and_intros <;> decide

/-- In STEP, a frame to approach, one judged before, one at which a sweep is due, one whose sweep is still owed and one at which none is
due, the run to discover and the end; in FLY, a run to a frame, one beyond the index and the end; and a run for indexing. -/
theorem test_witness_PassFindsWork :
    let at' (g : Segment) (f : Pass → Pass) (s : State) : State :=
      granted .pass { s with pass := f { stepping with program := [g] } }
    let meets (g : Segment) (r : Nat) (s : State) : Prop :=
      Quiet s ∧ s.transport.state = .waking ∧ s.roll.tensionTimer ≠ none ∧ s.transport.move = none ∧
        s.sched.grant = .pass ∧ s.pass.state = .running ∧ s.pass.owner = some .a ∧ s.pass.frameInHand = none ∧
        s.pass.current = some 1 ∧ s.pass.program[1 - 1]? = some g ∧ s.pass.resume = some r ∧ 1 ≤ r ∧
        s.sweep.active = none ∧ s.tracker.level ≠ .lost ∧ s.doorClosed = true ∧ tensionOut s.poller.values = false ∧
        s.lamp.state ≠ .off ∧ s.pass.mode ≠ none ∧ s.transport.holder = none
    let selected (g : Segment) (r : Nat) (s : State) (k : Nat) : Prop :=
      k ≤ s.index.entries.length ∧ (∀ n ∈ g.last, k ≤ n) ∧ r ≤ k ∧ s.pass.judgedUpTo < k ∧ ∃ e ∈ s.entry k,
        g.action = .all ∨ (g.action = .docStarts ∧ e.cls ≠ .image) ∨ (g.action = .missing ∧ e.capture ≠ .captured)
    let remembered (r : Nat) (s : State) : Option Nat := s.pass.chosen.find? (fun k => decide (r ≤ k))
    let lowest (g : Segment) (r : Nat) (s : State) (k : Nat) : Prop :=
      remembered r s = none ∧ selected g r s k ∧ ∀ j, j < k → ¬ selected g r s j
    let exhausted (g : Segment) (r : Nat) (s : State) : Prop :=
      remembered r s = none ∧ ∀ j, j ≤ s.index.entries.length → ¬ selected g r s j
    let owed (s : State) (n : Nat) : List Nat :=
      if 1 ∉ s.pass.counted ∧ ((s.pass.ordinals.modify 0 (fun n => n + 1)).getD 0 0 - 1) % n = 0 then 1 :: s.pass.sweepOwed
      else s.pass.sweepOwed
    let steps (g : Segment) (s : State) : Prop := s.pass.mode = some .step ∧ g.action ≠ .indexOnly
    let ends (g : Segment) (r : Nat) (s : State) : Prop :=
      (steps g s ∧ exhausted g r s ∧
          ¬ ((∀ n ∈ g.last, s.index.entries.length < n ∧ r ≤ n) ∧ s.index.closure = none)) ∨
        (¬ steps g s ∧ ((∃ n ∈ g.last, n < r) ∨ (s.index.entries.length < g.first ∧ s.index.closure ≠ none)))
    let swept : Segment := { segment with policy := .sweep 1 1 10 }
    let upTo : Segment := { segment with last := some 2 }
    let indexing : Segment := { segment with action := .indexOnly }
    let first : State := at' segment (fun p => p) waking
    let due : State := at' swept (fun p => { p with ordinals := List.replicate 8 0 }) waking
    let judged (l : List Nat) : State :=
      at' swept (fun p => { p with judgedUpTo := 1, chosen := [1], counted := [1], sweepOwed := l }) waking
    let seeks : State := at' segment (fun p => { p with resume := some 3 }) waking
    let passed : State := at' upTo (fun p => { p with resume := some 3 }) waking
    let flies (g : Segment) (r : Nat) : State :=
      at' g (fun p => { p with modeRequested := some .fly, mode := some .fly, resume := some r }) waking
    let two (s : State) : State :=
      granted .pass { s with pass := { stepping with program := [upTo, segment], segmentCount := some 2, resume := some 3 } }
    let ending (o : MoveOutcome) (a : AfterStop) (w : Work) (s : State) : State :=
      let u := at' swept (fun p => { p with work := w, after := a }) s
      withMove { resting (.finish o) [] with phase := .stopping } (inState .moving u)
    let rested (o : MoveOutcome) (a : AfterStop) (w : Work) (s : State) : Prop :=
      let u := ending o a w s
      Quiet u ∧ u.transport.state = .moving ∧ (∃ m ∈ u.transport.move, m.attempts = 0 ∧ m.atRest = some (.finish o)) ∧
        u.sched.grant = .pass ∧ u.pass.state = .running ∧ u.pass.owner = some .a ∧ u.pass.current = some 1 ∧
        u.pass.program[1 - 1]? = some swept ∧ u.pass.mode ≠ none ∧ u.sweep.active = none ∧ u.lamp.state ≠ .off ∧
        u.transport.holder = none ∧ u.tracker.level ≠ .lost
    (meets segment 1 first ∧ steps segment first ∧ lowest segment 1 first 1 ∧
      first.pos 1 + first.roll.active.gateOffset ≤ 16777215 - first.params.arriveTol ∧ segment.policy = .table) ∧
    (meets swept 1 due ∧ steps swept due ∧ lowest swept 1 due 1 ∧ 1 ∈ owed due 1 ∧ due.focus.status = .ready) ∧
    (∀ l ∈ [[], [1]], meets swept 1 (judged l) ∧ steps swept (judged l) ∧ remembered 1 (judged l) = some 1 ∧
      owed (judged l) 1 = l ∧ (judged l).focus.status = .ready) ∧
    (meets segment 3 seeks ∧ steps segment seeks ∧ exhausted segment 3 seeks ∧ (∀ n ∈ segment.last, 2 < n ∧ 3 ≤ n) ∧
      seeks.index.closure = none) ∧
    (meets indexing 1 (flies indexing 1) ∧ ¬ steps indexing (flies indexing 1) ∧ ¬ ends indexing 1 (flies indexing 1)) ∧
    (meets segment 2 (flies segment 2) ∧ ¬ steps segment (flies segment 2) ∧ ¬ ends segment 2 (flies segment 2) ∧
      lowest segment 2 (flies segment 2) 2) ∧
    (meets segment 3 (flies segment 3) ∧ ¬ ends segment 3 (flies segment 3) ∧ exhausted segment 3 (flies segment 3)) ∧
    (meets upTo 3 passed ∧ ends upTo 3 passed ∧ passed.pass.segmentCount = some 1 ∧ ∀ x ∈ passed.slots, x.resting = true) ∧
    (meets upTo 3 (flies upTo 3) ∧ ¬ steps upTo (flies upTo 3) ∧ ends upTo 3 (flies upTo 3)) ∧
    ((lens .fault .idle 100 none due).focus.status ≠ .ready ∧ meets swept 1 (lens .fault .idle 100 none due) ∧
      HeldAlone 1 1 due ∧ swept.stopMask.getLsbD 4 = false ∧ ∀ x ∈ due.slots, x.resting = true) ∧
    (let masked : Segment := { swept with stopMask := 16#6 };
      meets masked 1 (lens .fault .idle 100 none (at' masked (fun p => p) waking)) ∧ masked.stopMask.getLsbD 4 = true) ∧
    (segmentEnds 3 upTo (two waking) ∧ meets upTo 3 (two waking) ∧ (two waking).pass.segmentCount = some 2 ∧
      (two waking).pass.program[1]? = some segment ∧ 1 ≤ segment.first ∧ Unasked (two waking) ∧ MayMove (two waking)) ∧
    (∀ a ∈ [.lookAgain, .goOn, .awaitLamp, .sweepAt 2, .giveUp .suspend], rested .stopped a .stopping parked) ∧
    (let s := ending .stopped .lookAgain .stopping parked;
      Unasked s ∧ MayMove (moveEnded s) ∧ s.pass.frameInHand = none ∧ s.pass.resume = some 1 ∧ s.lamp.state = .on ∧
        s.focus.status = .ready ∧ InReach 2 s ∧ ∀ y ∈ s.slots, y.resting = true) ∧
    (let s := withPass (fun p => { p with pending := .suspend }) (ending .stopped (.giveUp .suspend) .stopping parked);
      Quiet s ∧ s.pass.pending = .suspend ∧ s.pass.after = .giveUp .suspend ∧ ∀ y ∈ s.slots, y.resting = true) ∧
    (rested .stopped .awaitLamp .stopping warming ∧ warming.lamp.state ≠ .on) ∧
    ((two (ending .endOfFilm .nothing .seeking parked)).pass.segmentCount = some 2 ∧
      ∀ w ∈ [.seeking, .approaching, .runningFly, .stopping], rested .endOfFilm .nothing w parked) ∧
    (let s := ending .lost .nothing .seeking { parked with tracker := { parked.tracker with level := .lost } };
      Quiet s ∧ s.tracker.level = .lost ∧ s.doorClosed = true ∧ tensionOut s.poller.values = false ∧
        s.sched.yieldOwed = false ∧ s.pass.pending = .none) := by
  and_intros <;> decide

/-- In STEP, the ready gate with the lamp in each state and a masked class, and a gate that waits for the lamp; in FLY, a trigger
with each thing that follows it, with no mark in progress and no fill due, with a fill due and with a next frame to arm, one left
armed by a stop, a count before a prediction and beyond it, with a trigger armed and with none; and a count of a run for indexing. -/
theorem test_witness_PassServesFrames :
    let at' (g : Segment) (e : Entry) (f : Pass → Pass) (s : State) : State :=
      granted .pass { s with pass := f { stepping with program := [g] }
                             index := { s.index with entries := [frameOne, e], checkpoints := [] } }
    let meets (g : Segment) (e : Entry) (s : State) : Prop :=
      Quiet s ∧ s.sched.grant = .pass ∧ s.pass.state = .running ∧ s.pass.owner = some .a ∧ s.pass.current = some 1 ∧
        s.pass.program[1 - 1]? = some g ∧ s.sweep.active = none ∧ (∀ x ∈ s.slots, x.resting = true) ∧
        s.transport.holder = none ∧ s.entry 2 = some e
    let filled : Entry := { frameTwo with source := .filled }
    let masking : Segment := { segment with stopMask := 63#6 }
    let masked (g : Segment) (e : Entry) : Prop := e.source = .filled ∧ g.stopMask.getLsbD 2 = true
    let unmasked (g : Segment) (e : Entry) : Prop :=
      e.source ≠ .filled ∧ e.flags.gap = false ∧ e.flags.splice = false ∧ g.stopMask = 0#6
    let lit (x : LampState) (s : State) : State := { s with lamp := { state := x, warmTimer := some 3 } }
    let arriving : Move := { newMove .frame (some 2) 0 none with focusTaken := true }
    let gate (g : Segment) (e : Entry) : State :=
      let s := at' g e (fun p => { p with work := .approaching, frameInHand := some 2 }) (inState .settling parked)
      { s with transport := { s.transport with move := some arriving, settleTimer := some 40 } }
    let waits : State :=
      let s := at' segment frameTwo
        (fun p => { p with work := .approaching, frameInHand := some 2, visitedInHand := true }) (inState .settling warming)
      { s with transport := { s.transport with gateReady := true } }
    let run : Move :=
      { newMove .flyRun none 0 none with leg := { direction := .forward, cls := .index, stop := .unbounded } }
    let fly (g : Segment) (e : Entry) (register : Nat) (f : Pass → Pass) : State :=
      at' g e (fun p => f { p with modeRequested := some .fly, mode := some .fly, work := .runningFly })
        (withMove run (inState .moving { parked with tracker := { parked.tracker with register := register }
                                                     lamp := { state := .on, warmTimer := none } }))
    let runs (g : Segment) (s : State) : Prop :=
      s.transport.state = .moving ∧ s.transport.move = some run ∧ run.purpose = .flyRun ∧ run.phase = .running ∧
        run.atRest = none ∧ run.finalApproach = false ∧ run.plan = [] ∧
        run.leg = { direction := .forward, cls := .index, stop := .unbounded } ∧ s.transport.stallTimer = some 150 ∧
        s.tracker.register + 1 < 16777215 ∧ s.index.trailer = none ∧ s.index.closure = none ∧ (∀ n ∈ g.last, 2 ≤ n) ∧
        s.pass.work = .runningFly ∧ s.pass.yieldAsked = false ∧ s.pass.yieldLater = false ∧ s.pass.yieldInterval = 0
    let fires (g : Segment) (e : Entry) (f : Pass → Pass) : State :=
      marking 260000 (fly g e 261999 (fun p => f { p with armed := some (2, 262000) }))
    let coming (o : MoveOutcome) : Move := { run with phase := .stopping, atRest := some (.finish o) }
    let slowing (o : MoveOutcome) (x : LampState) (e : Entry) (g : Segment) : State :=
      let s := fires g e (fun p => p)
      { s with
        transport := { s.transport with move := some (coming o), stallTimer := none }
        tracker := { s.tracker with level := if o = .lost then .lost else .locked }
        lamp := { state := x, warmTimer := none } }
    let lastFrame : Segment := { segment with last := some 2 }
    let indexing : Segment := { segment with action := .indexOnly }
    let seeks (register : Nat) : State := fly segment frameTwo register (fun p => { p with armed := some (3, 999999) })
    let close (gate register : Nat) (f : Pass → Pass) : State :=
      let s := fly segment frameTwo register f
      { s with roll := { s.roll with active := { s.roll.active with gateOffset := gate } } }
    let opened : State := close 9000 256749 (fun p => { p with resume := some 3, judgedUpTo := 2 })
    let bound (s : State) : Nat := s.pos 2 + (s.index.pitchQ + 8) / 16 + max 40 (s.index.pitchQ / 64)
    let due (s : State) : Prop :=
      s.pass.mode = some .fly ∧ s.marks.inProgress = none ∧ s.index.entries.length = 2 ∧ segment.last = none ∧
        (s.index.entries.reverse.takeWhile (fun y => y.source == .filled)).length < s.params.maxFill ∧
        s.index.widening = false ∧ bound s ≤ s.tracker.register + 1
    let gated (k gate : Nat) (s : State) : Prop :=
      meets segment frameTwo s ∧ runs segment s ∧ s.pass.armed = some (k, s.tracker.register + 1) ∧ s.lamp.state = .on ∧
        s.pass.pending = .none ∧ s.index.checkpoints = [] ∧ s.pass.chosen = [] ∧ s.pass.judgedUpTo ≤ 2 ∧
        s.roll.active.gateOffset = gate ∧ s.marks.inProgress = none
    let visits (g : Segment) (e : Entry) (register : Nat) : State :=
      fly g e register (fun p => { p with resume := some 2, judgedUpTo := 1 })
    (∀ j x, j ≠ 1 - 1 → [segment][j]? = some x → ¬ (x.first ≤ 2 ∧ ∀ n ∈ x.last, 2 ≤ n)) ∧
    (∀ y ∈ [(segment, frameTwo), (masking, filled)],
      meets y.1 y.2 (gate y.1 y.2) ∧ (gate y.1 y.2).transport.state = .settling ∧ (gate y.1 y.2).transport.settleTimer ≠ none ∧
        (gate y.1 y.2).transport.gateReady = false ∧ (gate y.1 y.2).transport.move = some arriving ∧ arriving.frame = some 2 ∧
        arriving.focusTaken = true ∧ (gate y.1 y.2).pass.work = .approaching ∧ (gate y.1 y.2).pass.frameInHand = some 2 ∧
        (gate y.1 y.2).pass.visitedInHand = false) ∧
    (masked masking filled ∧ unmasked segment frameTwo ∧ (gate masking filled).lamp.state ≠ .off) ∧
    (∀ x ∈ [LampState.on, .warming, .failed], meets segment frameTwo (lit x (gate segment frameTwo)) ∧
      (lit x (gate segment frameTwo)).lamp.state = x) ∧
    (meets segment frameTwo waits ∧ waits.transport.state = .settling ∧ waits.transport.gateReady = true ∧
      waits.pass.work = .approaching ∧ waits.pass.frameInHand = some 2 ∧ waits.pass.visitedInHand = true ∧
      waits.lamp.state = .warming ∧ waits.lamp.warmTimer ≠ none ∧ waits.lampOk = true ∧ waits.pass.after = .nothing) ∧
    (∀ y ∈ [(segment, frameTwo), (lastFrame, frameTwo), (masking, filled)], ∀ q ∈ [PendingRequest.none, .suspend, .abort],
      let s := fires y.1 y.2 (fun p => { p with pending := q })
      meets y.1 y.2 s ∧ runs y.1 s ∧ s.pass.armed = some (2, s.tracker.register + 1) ∧ y.1.action ≠ .indexOnly ∧
        s.marks.inProgress ≠ none ∧ s.lamp.state = .on ∧ s.pass.pending = q) ∧
    (∀ o ∈ [MoveOutcome.lost, .endOfFilm], ∀ x ∈ [LampState.on, .warming],
      ∀ y ∈ [(segment, frameTwo), (masking, filled)],
        let s := slowing o x y.2 y.1
        meets y.1 y.2 s ∧ s.transport.state = .moving ∧ s.transport.move = some (coming o) ∧
          (coming o).purpose = .flyRun ∧ (coming o).phase = .stopping ∧ (coming o).atRest = some (.finish o) ∧
          (coming o).finalApproach = false ∧ (coming o).plan = [] ∧ (coming o).aside = [] ∧
          (coming o).leg.direction = .forward ∧ s.transport.stallTimer = none ∧ s.transport.capstan = none ∧
          s.tracker.register + 1 < 16777215 ∧ s.pass.work = .runningFly ∧ s.pass.yieldAsked = false ∧
          s.pass.yieldLater = false ∧ s.pass.yieldInterval = 0 ∧ s.pass.armed = some (2, s.tracker.register + 1) ∧
          s.pass.pending = .none ∧ s.lamp.state = x ∧ ∀ n ∈ y.1.last, 2 < n) ∧
    (∀ s ∈ [gate segment frameTwo, gate masking filled, fires segment frameTwo (fun p => p)], s.tracker.level ≠ .lost) ∧
    (lastFrame.last = some 2 ∧ stepping.segmentCount = some 1 ∧ (∀ n ∈ segment.last, 2 < n) ∧ segment.action = .all) ∧
    (∀ j ∈ (fires segment frameTwo (fun p => { p with chosen := [2] })).pass.chosen, j ≤ 2) ∧
    (∀ j y, 2 < j → (fires segment frameTwo (fun p => p)).entry j = some y → ¬ segment.action = .all) ∧
    (runs segment (lit .warming (fires segment frameTwo (fun p => p))) ∧
      (lit .warming (fires segment frameTwo (fun p => p))).lamp.state = .warming) ∧
    (∀ n ∈ [256748, 256749], meets segment frameTwo (seeks n) ∧ runs segment (seeks n) ∧
      (seeks n).pass.mode = some .fly ∧ (seeks n).pass.armed = some (3, 999999) ∧ n + 1 < 999999 ∧
      (seeks n).marks.inProgress = none ∧ (seeks n).index.checkpoints = [] ∧
      ((seeks n).index.entries.reverse.takeWhile (fun y => y.source == .filled)).length < (seeks n).params.maxFill) ∧
    (253000 + (48000 + 8) / 16 + 750 ≤ 256749 + 1 ∧ 256748 + 1 < 253000 + (48000 + 8) / 16 + 750) ∧
    (gated 2 3000 (close 3000 255999 (fun p => { p with armed := some (2, 256000) })) ∧
      255999 + 1 < bound (close 3000 255999 (fun p => p))) ∧
    (gated 2 3750 (close 3750 256749 (fun p => { p with armed := some (2, 256750) })) ∧
      due (close 3750 256749 (fun p => { p with armed := some (2, 256750) })) ∧
      256749 + 1 < 253000 + (48000 + 8) / 16 + 3750) ∧
    (gated 1 3000 (close 3000 252999 (fun p => { p with armed := some (1, 253000) })) ∧
      (close 3000 252999 (fun p => p)).entry 1 = some frameOne ∧ (close 3000 252999 (fun p => p)).pass.judgedUpTo = 0 ∧
      252999 + 1 < bound (close 3000 252999 (fun p => p)) ∧ 252999 + 1 < frameTwo.position + 3000) ∧
    (meets segment frameTwo opened ∧ runs segment opened ∧ due opened ∧ opened.pass.armed = none ∧
      opened.index.checkpoints = [] ∧ opened.pass.chosen = [] ∧ opened.pass.resume.getD 1 = 3 ∧ opened.pass.judgedUpTo = 2 ∧
      opened.entry 3 = none ∧ opened.tracker.register + 1 < 253000 + (48000 + 8) / 16 + 9000) ∧
    (∀ y ∈ [(indexing, frameTwo), ({ indexing with stopMask := 63#6 }, filled)], ∀ n ∈ [261998, 261999],
      meets y.1 y.2 (visits y.1 y.2 n) ∧ runs y.1 (visits y.1 y.2 n) ∧ y.1.action = .indexOnly ∧ (visits y.1 y.2 n).pass.armed = none ∧
        max ((visits y.1 y.2 n).pass.resume.getD 1) ((visits y.1 y.2 n).pass.judgedUpTo + 1) = 2 ∧ (∀ k ∈ y.1.last, 2 < k) ∧
        (visits y.1 y.2 n).entry 3 = none) ∧
    (261998 + 1 < frameTwo.position + parked.roll.active.gateOffset ∧
      frameTwo.position + parked.roll.active.gateOffset ≤ 261999 + 1) := by
  and_intros <;> first
    | decide
    | exact elsewhere [segment] 0 (fun x => ¬ (x.first ≤ 2 ∧ ∀ n ∈ x.last, 2 ≤ n)) (by decide)
    | exact fun
      | 0, _, h, _ => absurd h (by decide)
      | j + 1, y, hj, hy => places [frameOne, frameTwo] (fun j _ => 2 < j + 1 → ¬ SegAction.all = .all) (by decide) j y hy hj

/-- A pass in each of its states; RUNNING in an approach, at the gate and in a STEP sweep, stopping, seeking, in a run with a trigger
armed and with none, in a run for indexing, in a FLY sweep, and without the grant, a sweep of its own TRAVELLING or not. -/
theorem test_witness_PassRequests :
    let owned (s : State) : Prop := Quiet s ∧ s.pass.owner = some .a ∧ s.pass.state = .running
    let holds (s : State) : Prop := owned s ∧ s.sched.grant = .pass ∧ s.transport.holder = none
    let working (w : Work) (m : PassMode) (r : PendingRequest) : State :=
      withPass (fun p => { p with work := w, mode := some m }) (seekingPass r)
    let stopping : Move := { frameMove (.coord 300000) [] with phase := .stopping }
    let moving (m : Move) (w : Work) (x : PassMode) (r : PendingRequest) : State :=
      withMove m (inState .moving (working w x r))
    let travelling : SweepRecord := { scoring 0 with state := .travelling, origin := .pass, points := [], scores := [] }
    let sweeps (r : PendingRequest) : State := withSweep travelling (moving (frameMove (.coord 300000) []) .sweeping .fly r)
    let runs (s : State) : Prop :=
      holds s ∧ s.transport.state = .moving ∧ s.transport.move = some (frameMove (.coord 300000) []) ∧
        (frameMove (.coord 300000) []).phase = .running
    let armed (r : PendingRequest) : State :=
      withPass (fun p => { p with armed := some (2, 999999) }) (moving (frameMove (.coord 300000) []) .runningFly .fly r)
    let indexing : Segment := { segment with action := .indexOnly }
    let indexes (r : PendingRequest) : State :=
      withPass (fun p => { p with program := [indexing] }) (moving (frameMove (.coord 300000) []) .runningFly .fly r)
    let left (r : PendingRequest) : State := granted .home (withSweep travelling (asked r))
    Quiet parked ∧ parked.pass.state = .idle ∧ Quiet running ∧ running.pass.state ≠ .idle ∧
    running.pass.owner ≠ some Link.b ∧
    (∀ r ∈ [PendingRequest.none, .suspend], holds (armed r) ∧ (armed r).pass.work = .runningFly ∧ (armed r).pass.armed ≠ none ∧
      (armed r).pass.pending = r) ∧
    (∀ r ∈ [PendingRequest.none, .suspend], runs (indexes r) ∧ (indexes r).sweep.active = none ∧
      (indexes r).pass.work = .runningFly ∧ (indexes r).pass.armed = none ∧ (indexes r).pass.pending = r ∧
      (indexes r).segment = some indexing ∧ indexing.action = .indexOnly) ∧
    (∀ r ∈ [PendingRequest.none, .suspend], owned (left r) ∧ (left r).pass.pending ≠ .abort ∧ (left r).sched.grant ≠ .pass ∧
      (left r).sweep.active = some travelling ∧ travelling.origin = .pass ∧ travelling.link = .a ∧
      travelling.state = .travelling ∧ travelling.points = [] ∧ (left r).transport.holder = none) ∧
    (∀ r ∈ [PendingRequest.none, .suspend], (asked r).sched.grant ≠ .pass ∧ (asked r).sweep.active = none ∧
      (asked r).transport.holder ≠ some (Holder.pass Link.a)) ∧
    (∀ r ∈ [PendingRequest.none, .suspend], ∀ x ∈ [(Work.approaching, PassMode.step), (.awaitingCapture, .step), (.sweeping, .step)],
      holds (working x.1 x.2 r) ∧ (working x.1 x.2 r).pass.work = x.1 ∧ (working x.1 x.2 r).pass.mode ≠ some .fly ∧
        (working x.1 x.2 r).pass.pending = r) ∧
    (∀ r ∈ [PendingRequest.none, .suspend], ∀ x ∈ [PassMode.step, .fly],
      holds (moving stopping .stopping x r) ∧ (moving stopping .stopping x r).pass.work = .stopping ∧
        (moving stopping .stopping x r).pass.pending = r ∧ (moving stopping .stopping x r).transport.state = .moving ∧
        (moving stopping .stopping x r).transport.move = some stopping ∧ stopping.phase = .stopping ∧
        (moving stopping .stopping x r).sweep.active = none) ∧
    (∀ r ∈ [PendingRequest.none, .suspend], ∀ x ∈ [(Work.seeking, PassMode.step), (.runningFly, .fly)],
      let s := moving (frameMove (.coord 300000) []) x.1 x.2 r
      runs s ∧ s.sweep.active = none ∧ s.pass.work = x.1 ∧ s.pass.frameInHand = none ∧ s.pass.armed = none ∧
        s.pass.pending = r ∧ ∀ g ∈ s.segment, g.action ≠ .indexOnly) ∧
    (∀ r ∈ [PendingRequest.none, .suspend], runs (sweeps r) ∧ (sweeps r).pass.work = .sweeping ∧
      (sweeps r).pass.mode = some .fly ∧ (sweeps r).sweep.active = some travelling ∧ travelling.origin = .pass ∧
      travelling.link = .a ∧ travelling.state = .travelling ∧ travelling.points = [] ∧ (sweeps r).pass.pending = r) ∧
    (∀ r ∈ [PendingRequest.none, .suspend, .abort], owned (asked r) ∧ (asked r).pass.pending = r) ∧
    (owned running ∧ running.sched.grant ≠ .pass ∧ running.pass.pending = .none ∧ running.pass.work = .none) ∧
    Quiet yielding ∧ yielding.pass.owner = some Link.a ∧ yielding.pass.state = .yielding ∧ Quiet suspended ∧
    suspended.pass.owner = some Link.a ∧ suspended.pass.state = .suspended ∧ suspended.sched.grant ≠ .none ∧
    (suspended.pass.state = .yielding ∨ suspended.pass.state = .suspended) ∧ suspended.sweep.active = none ∧
    suspended.transport.holder ≠ some (Holder.pass Link.a) ∧ suspended.sched.grant ≠ .pass := by
  and_intros <;> decide

/-- Frame 1 awaits its capture; frame 2 is triggered; and each refusal. -/
theorem test_witness_CapturesAreTaken :
    let freely (r : PendingRequest) : State := withPass (fun p => { p with pending := r }) capturing
    let masking : State := withPass (fun p => { p with program := [{ segment with stopMask := 63#6 }] }) flying
    Quiet capturing ∧ capturing.pass.state = .running ∧ capturing.pass.work = .awaitingCapture ∧
    capturing.pass.owner = some Link.a ∧ capturing.pass.frameInHand = some (1#16).toNat ∧ 1#16 ≤ 1#16 ∧
    capturing.pass.pending = .suspend ∧ capturing.sched.grant = .pass ∧ capturing.transport.move = none ∧
    capturing.lamp.state ≠ .off ∧ capturing.tracker.level ≠ .lost ∧ capturing.sweep.active = none ∧
    (∀ x ∈ capturing.slots, x.resting = true) ∧
    capturing.masked (capturing.pass.current.getD 1 - 1) FaultClass.captureFail = false ∧
    capturing.masked (capturing.pass.current.getD 1 - 1) FaultClass.captureTimeout = false ∧
    capturing.pass.captureTimer ≠ none ∧ Quiet capturingMasked ∧ capturingMasked.pass.state = .running ∧
    capturingMasked.pass.work = .awaitingCapture ∧ capturingMasked.pass.owner = some Link.a ∧
    capturingMasked.pass.frameInHand = some (1#16).toNat ∧ capturingMasked.pass.pending = .suspend ∧
    capturingMasked.sched.grant = .pass ∧ capturingMasked.transport.move = none ∧ capturingMasked.lamp.state ≠ .off ∧
    capturingMasked.tracker.level ≠ .lost ∧ capturingMasked.sweep.active = none ∧
    (∀ x ∈ capturingMasked.slots, x.resting = true) ∧
    capturingMasked.masked (capturingMasked.pass.current.getD 1 - 1) FaultClass.captureFail = true ∧ Quiet flying ∧
    passOwner flying = some Link.a ∧ flying.pass.mode = some PassMode.fly ∧ 1#16 ≤ 2#16 ∧
    flying.entry (2#16).toNat = some frameTwo ∧ frameTwo.capture = .triggered ∧
    (∃ m, flying.pass.lastTriggered = some m ∧ (2#16).toNat ≤ m) ∧ flying.segmentHolding (2#16).toNat = some 0 ∧
    flying.pass.work ≠ .awaitingCapture ∧ flying.pass.timedOut ≠ some (2#16).toNat ∧
    (flying.masked 0 FaultClass.captureFail = false ∨ flying.pass.state = .idle) ∧
    HeldAlone (capturingMasked.pass.current.getD 1) (1#16).toNat capturingMasked ∧
    capturingMasked.masked (capturingMasked.pass.current.getD 1 - 1) FaultClass.captureTimeout = true ∧
    (∀ r ∈ [PendingRequest.none, .abort], (freely r).pass.pending = r ∧ (freely r).pass.work = .awaitingCapture ∧
      Quiet (freely r) ∧ ∀ x ∈ (freely r).slots, x.resting = true) ∧
    (Unasked (freely .none) ∧ MayMove (freely .none) ∧ (freely .none).pass.current = some 1 ∧
      (freely .none).pass.program[1 - 1]? = some segment ∧ (freely .none).pass.mode ≠ none ∧
      stepsTo 2 2 segment (freely .none)) ∧
    (let s := withPass (fun p => { p with yieldAsked := true })
        (withSlot { pendingSlot with priority := .urgent } (freely .none));
      Quiet s ∧ s.pass.yieldAsked = true ∧ s.pass.pending = .none ∧
        s.slots[0]? = some { pendingSlot with priority := .urgent } ∧ MayMove s ∧ InReach 1 s ∧
        ∀ y ∈ s.slots.tail, y.resting = true) ∧
    (∀ s ∈ [granted .home masking, granted .pass (spliced masking), granted .pass masking], Quiet s ∧
      passOwner s = some Link.a ∧ s.entry (2#16).toNat = some frameTwo ∧ s.masked 0 FaultClass.captureFail = true ∧
      s.pass.state ≠ .idle ∧ s.sweep.active = none ∧ s.transport.holder ≠ some (.pass .a)) ∧
    InFlight (granted .pass (spliced masking)) ∧ masking.transport.state = .parked ∧ masking.transport.move = none ∧
    masking.tracker.level ≠ .lost ∧ (∀ x ∈ masking.slots, x.resting = true) ∧ Quiet parked ∧ 1#8 < 2#8 ∧ 1#8 ≤ 1#8 ∧
    passOwner parked = none ∧ (∃ o, passOwner flying = some o ∧ o ≠ .b) ∧ Quiet timedOut ∧
    passOwner timedOut = some Link.a ∧
    (timedOut.pass.work ≠ .awaitingCapture ∨ timedOut.pass.frameInHand ≠ some (2#16).toNat) ∧
    timedOut.pass.timedOut = some (2#16).toNat ∧
    (flying.pass.work ≠ .awaitingCapture ∨ flying.pass.frameInHand ≠ some (1#16).toNat) ∧
    flying.pass.timedOut ≠ some (1#16).toNat ∧
    (flying.pass.mode ≠ some PassMode.fly ∨ (∀ (e : Entry), flying.entry (1#16).toNat = some e → e.capture ≠ .triggered) ∨
    flying.segmentHolding (1#16).toNat = none ∨ ∀ (m : Nat), flying.pass.lastTriggered = some m → m < (1#16).toNat) := by
  and_intros <;> first | rfl | decide

/-- Operands at the limits of their ranges under another grant, in WAKING and under a DISCOVER move, and each refusal. -/
theorem test_witness_SweepsAreQueued :
    let home : State := granted .home parked
    let discovering : State := granted .discover (spliced parked)
    let accepts (s : State) : Prop :=
      Quiet s ∧ s.focus.status = .ready ∧ s.sweep.active = none ∧ s.pass.state ≠ .running ∧ (2#16).toNat ≤ s.extent
    let barred (s : State) : Prop := s.focus.status ≠ .ready ∨ s.transport.state = .empty ∨ s.transport.state = .threading ∨
      s.transport.state = .rewinding ∨ s.transport.state = .faulted ∨ s.sweep.active ≠ none ∨ s.pass.state = .running
    let ranged (frame centre : Half) : Prop :=
      frame = 0#16 ∨ 16384#16 < frame ∨ parked.extent < frame.toNat ∨ 8#8 = 0#8 ∨ 8#8 < 8#8 ∨ 64#8 = 0#8 ∨ 64#8 < 64#8 ∨
        (0#8 = 0#8 ∧ 4095#16 < centre)
    (0#8 = 0#8 ∧ some 4095 = some (4095#16).toNat ∧ 4095#16 ≤ 4095#16 ∨ 0#8 = 1#8 ∧ some 4095 = none) ∧
    (1#8 = 0#8 ∧ none = some (0#16).toNat ∧ 0#16 ≤ 4095#16 ∨ 1#8 = 1#8 ∧ (none : Option Nat) = none) ∧
    (1#8 = 0#8 ∧ true = false ∨ 1#8 = 1#8 ∧ true = true) ∧ (0#8 = 0#8 ∧ false = false ∨ 0#8 = 1#8 ∧ false = true) ∧
    1#16 ≤ 2#16 ∧ 2#16 ≤ 16384#16 ∧ 1#8 ≤ 8#8 ∧ 8#8 ≤ 8#8 ∧ 1#8 ≤ 64#8 ∧ 64#8 ≤ 64#8 ∧ 1#8 ≤ 1#8 ∧
    accepts waking ∧ waking.transport.state = .waking ∧ waking.sched.grant = .none ∧ NoWork waking ∧
    (accepts parked ∧ parked.transport.state = .parked ∧ parked.sched.grant = .none ∧ NoWork parked ∧ MayMove parked ∧
      InReach (2#16).toNat parked) ∧
    accepts discovering ∧ discovering.transport.state = .moving ∧ discovering.sched.grant = .discover ∧
    discovering.transport.move = some (frameMove (.coord 300000) []) ∧ (frameMove (.coord 300000) []).phase = .running ∧
    accepts home ∧ home.sched.grant ≠ .none ∧ home.sched.grant ≠ .discover ∧ home.transport.state ≠ .empty ∧
    home.transport.state ≠ .threading ∧ home.transport.state ≠ .rewinding ∧ home.transport.state ≠ .faulted ∧
    Quiet State.reset ∧ barred State.reset ∧ Quiet parked ∧ ¬ barred parked ∧ (1#8 < 2#8 ∨ 1#8 < 1#8) ∧ 0#8 ≤ 1#8 ∧
    ranged 3#16 4095#16 ∧ ranged 2#16 4096#16 := by
  and_intros <;> first | rfl | decide

/-- A score before the last, the last one with room in the zone table and with a full one, a running score timer, and each
refusal. -/
theorem test_witness_ScoresAreTaken :
    let table (n : Nat) : State :=
      { swept 2 with zones := (List.range 32).map (fun i => { zone with start := n + 10 * i }) }
    let ofPass (m : PassMode) (g : Segment) (x : SweepRecord) : State :=
      granted .pass (withSweep x { swept 2 with pass :=
        { stepping with mode := some m, work := .sweeping, frameInHand := some 2, program := [g] } })
    Quiet (swept 1) ∧ (swept 1).sweep.active = some (scoring 1) ∧ (scoring 1).id = (5#8).toNat ∧ (scoring 1).link = .a ∧
    (scoring 1).state = .awaitingScore ∧ (scoring 1).current = (1#8).toNat ∧
    (scoring 1).current < 2 * (scoring 1).halfWidth ∧ (swept 1).focus.status = .ready ∧
    (scoring 1).points[(scoring 1).current + 1]? = some 110 ∧ 110 ≤ 4095 ∧ (swept 1).focus.position < 110 ∧
    Quiet (swept 2) ∧ (swept 2).sweep.active = some (scoring 2) ∧ (scoring 2).origin = .standAlone ∧
    (scoring 2).state = .awaitingScore ∧ (scoring 2).points ≠ [] ∧ (swept 2).transport.state = .settled ∧
    (swept 2).transport.holder = some (Holder.sweep (scoring 2).link (scoring 2).id) ∧ (swept 2).sched.grant = .sweep ∧
    (swept 2).tracker.level ≠ .lost ∧ (∀ y ∈ (swept 2).slots, y.resting = true) ∧ (swept 2).passActive = false ∧
    (swept 2).lamp.state ≠ .off ∧ (swept 2).sweep.scoreTimer ≠ none ∧ (scoring 2).id = (5#8).toNat ∧
    (scoring 2).current = (2#8).toNat ∧ (scoring 2).current = 2 * (scoring 2).halfWidth ∧
    (∀ x ∈ [(swept 2, true), (table 1, true), (table 5, false)],
      ((scoring 2).store && (fitScores x.1.params.minContrast (scoring 2).stepSize (scoring 2).points
        ((scoring 2).scores ++ [(300#16).toNat])).step.isSome &&
        (decide (x.1.zones.length < 32) || x.1.zones.any (fun z => decide (z.start ≤ (scoring 2).frame)))) = x.2) ∧
    ((∃ z ∈ (swept 2).zones, z.start = (scoring 2).frame) ∨ (swept 2).zones.length < 32) ∧
    (∀ s ∈ [table 1, table 5], ¬ ((∃ z ∈ s.zones, z.start = (scoring 2).frame) ∨ s.zones.length < 32)) ∧
    (zonesAscend (table 1).zones ∧ (table 1).zones = [] ++ zone :: (table 1).zones.tail ∧ zone.start < (scoring 2).frame ∧
      ∀ y ∈ (table 1).zones.tail, (scoring 2).frame < y.start) ∧
    (∀ m ∈ [PassMode.step, .fly], ∀ p ∈ [FocusPolicy.table, .sweep 1 1 10], ∀ b ∈ [0#6, 16#6], ∀ n ∈ [2, 100],
      let g : Segment := { segment with policy := p, stopMask := b };
      let s := ofPass m g { scoring 2 with origin := .pass, frame := n };
      Quiet s ∧ s.sweep.active = some { scoring 2 with origin := .pass, frame := n } ∧ s.sched.grant = .pass ∧
        s.pass.state = .running ∧ s.pass.work = .sweeping ∧ s.pass.owner = some .a ∧ s.pass.frameInHand = some 2 ∧
        s.pass.current = some 1 ∧ s.pass.program[1 - 1]? = some g ∧ s.pass.mode = some m ∧ s.pass.resume = some 1 ∧
        s.tracker.level ≠ .lost ∧ s.lamp.state ≠ .off ∧ s.transport.state = .settled ∧
        s.transport.holder = some (.sweep .a 5) ∧ s.transport.move = none ∧ s.sweep.scoreTimer ≠ none ∧ MayMove s ∧
        InReach 2 s ∧ HeldAlone 1 2 s ∧ ∀ y ∈ s.slots, y.resting = true) ∧
    ((fitScores 0 10 [90, 100, 110] [200, 700, 300]).step.isSome = true ∧
      (fitScores 5000 10 [90, 100, 110] [200, 700, 300]).step = none) ∧
    (∀ x ∈ [([zone], true), ((List.range 32).map (fun i => { zone with start := 5 + 10 * i }), false)],
      (storeResult 2 100 .good x.1).isSome = x.2) ∧
    (let x : SweepRecord := { scoring 0 with state := .travelling, origin := .pass, points := [] };
      let s := withMove (resting (.finish .endOfFilm) []) (inState .moving (ofPass .step segment x));
      let u : State := { s with transport := { s.transport with holder := none } };
      Quiet u ∧ u.sweep.active = some x ∧ x.state = .travelling ∧ u.transport.state = .moving ∧ u.transport.holder = none ∧
        u.pass.segmentCount = some 1 ∧ u.transport.move = some (resting (.finish .endOfFilm) [])) ∧
    (scoring 1).link ≠ .b ∧ ((scoring 1).state ≠ .awaitingScore ∨ (scoring 1).current ≠ (2#8).toNat) ∧
    Quiet (reported (some 2)) ∧ (∀ (x : SweepRecord), (reported (some 2)).sweep.active = some x → x.id ≠ (5#8).toNat) ∧
    (reported (some 2)).sweep.last = some (endedSweep (some 2)) ∧ (endedSweep (some 2)).id = (5#8).toNat ∧
    (endedSweep (some 2)).link ≠ .b ∧ (endedSweep (some 2)).link = .a ∧
    (endedSweep (some 2)).timedOutPoint = some (2#8).toNat ∧ Quiet (reported none) ∧
    (∀ (x : SweepRecord), (reported none).sweep.active = some x → x.id ≠ (5#8).toNat) ∧
    (reported none).sweep.last = some (endedSweep none) ∧ (endedSweep none).id = (5#8).toNat ∧
    (endedSweep none).link = .a ∧ (endedSweep none).timedOutPoint ≠ some (2#8).toNat ∧ Quiet parked ∧
    (∀ (x : SweepRecord), parked.sweep.active = some x → x.id ≠ (5#8).toNat) ∧
    (∀ (r : SweepReport), parked.sweep.last = some r → r.id ≠ (5#8).toNat) := by
  and_intros <;> decide

/-- A flat curve, a peak at an end, and a peak between two points. -/
theorem test_witness_FitFollowsThePeak :
    [10, 20, 73].length = [90, 100, 110].length ∧ (∀ x ∈ [10, 20, 73], x ≤ 65535) ∧ [10, 20, 73] ≠ [] ∧
    (∀ x ∈ [10, 20, 73], ∀ y ∈ [10, 20, 73], x < y + 64) ∧ [10, 20, 74].length = [90, 100, 110].length ∧
    (∀ x ∈ [10, 20, 74], x ≤ 65535) ∧ [10, 20, 74][2]? = some 74 ∧ [90, 100, 110][2]? = some 110 ∧
    (∀ y ∈ [10, 20, 74], y ≤ 74) ∧ (∀ (j y : Nat), j < 2 → [10, 20, 74][j]? = some y → y < 74) ∧
    (∃ y ∈ [10, 20, 74], y + 64 ≤ 74) ∧ (2 = 0 ∨ 2 + 1 = [90, 100, 110].length) ∧
    [200, 700, 300].length = [90, 100, 110].length ∧ (∀ x ∈ [200, 700, 300], x ≤ 65535) ∧ [200, 700, 300][1]? = some 700 ∧
    [90, 100, 110][1]? = some 100 ∧ (∀ y ∈ [200, 700, 300], y ≤ 700) ∧
    (∀ (j y : Nat), j < 1 → [200, 700, 300][j]? = some y → y < 700) ∧ (∃ y ∈ [200, 700, 300], y + 64 ≤ 700) ∧ 0 < 1 ∧
    [200, 700, 300][1 - 1]? = some 200 ∧ [200, 700, 300][1 + 1]? = some 300 ∧
    (2 * (3 * (2 * (2 * 700 - 200 - 700)) - (700 - 200) * 5 : Int).natAbs = 2 * (2 * 700 - 200 - 700)) := by
  and_intros <;> first
    | decide
    | exact fun j y hj hy => places _ (fun j y => j < 2 → y < 74) (by decide) j y hy hj
    | exact fun j y hj hy => places _ (fun j y => j < 1 → y < 700) (by decide) j y hy hj

/-- A new zone, the 32nd replaced, and each refusal. -/
theorem test_witness_ZoneSetStores :
    zonesAscend State.reset.zones ∧ (State.reset.transport.state = .empty ∨ State.reset.transport.state = .threading) ∧
    zonesAscend rewinding.zones ∧ rewinding.transport.state = .rewinding ∧ zonesAscend parked.zones ∧
    parked.transport.state ≠ .empty ∧ parked.transport.state ≠ .threading ∧ parked.transport.state ≠ .rewinding ∧
    (16385#16 = 0#16 ∨ 16384#16 < 16385#16) ∧ zonesAscend crowded.zones ∧ crowded.transport.state ≠ .empty ∧
    crowded.transport.state ≠ .threading ∧ crowded.transport.state ≠ .rewinding ∧ 1#16 ≤ 33#16 ∧ 33#16 ≤ 16384#16 ∧
    (∀ z ∈ crowded.zones, z.start ≠ (33#16).toNat) ∧ 32 ≤ crowded.zones.length ∧ zonesAscend zoned.zones ∧
    zoned.transport.state ≠ .empty ∧ zoned.transport.state ≠ .threading ∧ zoned.transport.state ≠ .rewinding ∧
    1#16 ≤ 16384#16 ∧ 16384#16 ≤ 16384#16 ∧ ((∃ z ∈ zoned.zones, z.start = (16384#16).toNat) ∨ zoned.zones.length < 32) ∧
    1#16 ≤ 32#16 ∧ 32#16 ≤ 16384#16 ∧ ((∃ z ∈ crowded.zones, z.start = (32#16).toNat) ∨ crowded.zones.length < 32) := by
  decide

/-- The only zone and the frames it covered, each refusal, and the limits of the ordinal. -/
theorem test_witness_ZoneRemoveAndRead :
    zonesAscend State.reset.zones ∧ (State.reset.transport.state = .empty ∨ State.reset.transport.state = .threading) ∧
    zonesAscend rewinding.zones ∧ rewinding.transport.state = .rewinding ∧ zonesAscend zoned.zones ∧
    zoned.transport.state ≠ .empty ∧ zoned.transport.state ≠ .threading ∧ zoned.transport.state ≠ .rewinding ∧
    ((∀ z ∈ zoned.zones, z.start ≠ (2#16).toNat) ∨ 2#16 = 0#16 ∨ 16384#16 < 2#16) ∧ 1#16 ≤ 1#16 ∧ 1#16 ≤ 16384#16 ∧
    zone.start = (1#16).toNat ∧ zoned.zones = [] ++ [zone] ∧ zone.start ≤ 16384 ∧
    (∀ y ∈ ([] : List Zone), 16384 < y.start) ∧
    (33#8 = 0#8 ∨ 32#8 < 33#8) ∧ 1#8 ≤ 32#8 ∧ 32#8 ≤ 32#8 ∧ 1#8 ≤ 1#8 := by
  decide

/-- A lens in each leg, before its end and at it, also in the approach to a frame, and a lens that homes. -/
theorem test_witness_LensSteps :
    let near (up : Bool) (s : State) : State :=
      { s with focus := { s.focus with
        status := .ready, target := some 90, requester := some (.approach 1), phase := if up then .up else .down
        position := if up then 89 else 91, downEnd := 90 } }
    let ready : State :=
      let s := near true (settlingFor .present)
      { s with transport := { s.transport with move := some { settling false with settleTaken := true } } }
    Quiet (downLens 100 80 80) ∧ (downLens 100 80 80).focus.status = .ready ∧ (downLens 100 80 80).focus.phase = .down ∧
    (downLens 100 80 80).focus.downEnd < (downLens 100 80 80).focus.position - 1 ∧ Quiet (downLens 81 90 80) ∧
    (downLens 81 90 80).focus.status = .ready ∧ (downLens 81 90 80).focus.phase = .down ∧
    (downLens 81 90 80).focus.position - 1 ≤ (downLens 81 90 80).focus.downEnd ∧
    (downLens 81 90 80).focus.target ≠ some ((downLens 81 90 80).focus.position - 1) ∧ Quiet (downLens 81 80 80) ∧
    (downLens 81 80 80).focus.status = .ready ∧ (downLens 81 80 80).focus.phase = .down ∧
    (downLens 81 80 80).focus.position - 1 ≤ (downLens 81 80 80).focus.downEnd ∧
    (downLens 81 80 80).focus.target = some ((downLens 81 80 80).focus.position - 1) ∧
    ((downLens 81 80 80).focus.requester = some Requester.fly ∨ (downLens 81 80 80).focus.requester = some Requester.back)
    ∧
    Quiet (lens FocusStatus.ready LensPhase.up 4093 (some 4095) parked) ∧
    (lens FocusStatus.ready LensPhase.up 4093 (some 4095) parked).focus.status = .ready ∧
    (lens FocusStatus.ready LensPhase.up 4093 (some 4095) parked).focus.phase = .up ∧
    (lens FocusStatus.ready LensPhase.up 4093 (some 4095) parked).focus.target ≠ some ((lens FocusStatus.ready
    LensPhase.up 4093 (some 4095) parked).focus.position + 1) ∧
    Quiet (lens FocusStatus.ready LensPhase.up 4094 (some 4095) parked) ∧
    (lens FocusStatus.ready LensPhase.up 4094 (some 4095) parked).focus.status = .ready ∧
    (lens FocusStatus.ready LensPhase.up 4094 (some 4095) parked).focus.phase = .up ∧
    (lens FocusStatus.ready LensPhase.up 4094 (some 4095) parked).focus.target = some ((lens FocusStatus.ready
    LensPhase.up 4094 (some 4095) parked).focus.position + 1) ∧
    ((lens FocusStatus.ready LensPhase.up 4094 (some 4095) parked).focus.requester = some Requester.fly ∨ (lens
    FocusStatus.ready LensPhase.up 4094 (some 4095) parked).focus.requester = some Requester.back) ∧
    Quiet sweepLens ∧ sweepLens.focus.status = .ready ∧ sweepLens.focus.phase = .up ∧
    sweepLens.focus.target = some (sweepLens.focus.position + 1) ∧ sweepLens.sweep.active = some lastLens ∧
    lastLens.state = .movingLens ∧ sweepLens.focus.requester = some (Requester.sweep lastLens.id lastLens.current) ∧
    Quiet (homing 4199 none) ∧ (homing 4199 none).focus.status = .homing ∧ (homing 4199 none).focus.phase = .down ∧
    (homing 4199 none).focus.homingSteps < 4200 ∧ (homing 4199 none).focus.target = none ∧ Quiet (homing 4199 (some 1)) ∧
    (homing 4199 (some 1)).focus.status = .homing ∧ (homing 4199 (some 1)).focus.phase = .down ∧
    (homing 4199 (some 1)).focus.homingSteps < 4200 ∧ (homing 4199 (some 1)).focus.target = some 1 ∧ 0 < 1 ∧
    Quiet (homing 4200 none) ∧ (homing 4200 none).focus.status = .homing ∧ 4200 ≤ (homing 4200 none).focus.homingSteps ∧
    (homing 4200 none).focus.requester = none ∧ Quiet parked ∧
    (parked.focus.phase = .idle ∨ parked.focus.status = .fault) ∧
    (∀ x ∈ [(settlingFor .present, true), (settlingFor .present, false), (parked, true)],
      let s := near x.2 x.1
      Quiet s ∧ s.focus.status = .ready ∧ s.focus.requester = some (.approach 1) ∧ s.focus.target = some 90 ∧
        ((s.focus.phase = .up ∧ 90 = s.focus.position + 1) ∨
          (s.focus.phase = .down ∧ 90 = s.focus.position - 1 ∧ 90 ≤ s.focus.downEnd))) ∧
    (near true parked).transport.move = none ∧
    ((near true (settlingFor .present)).transport.move = some (settling true) ∧ (settling true).purpose = .frame ∧
      (settling true).frame = some 1 ∧ (settling true).settleTaken = false) ∧
    (ready.transport.move = some { settling false with settleTaken := true } ∧ ready.transport.state = .settling ∧
      ready.transport.gateReady = false ∧ ready.sched.grant = .slot 0 ∧ Quiet ready ∧ ready.focus.status = .ready ∧
      ready.focus.requester = some (.approach 1) ∧ ready.focus.target = some 90 ∧ ready.focus.phase = .up ∧
      90 = ready.focus.position + 1 ∧ ready.slots[0]? = some (travellingSlot .present) ∧ ready.lamp.state = .on ∧
      (travellingSlot .present).reached = none ∧ (travellingSlot .present).action = .present ∧
      (travellingSlot .present).frame = some 1 ∧ (travellingSlot .present).state = .travelling) := by
  and_intros <;> decide

/-- A count with no move, below a leg's end, at it, into the band, past it, and to the register's maximum; the end of a leg before the
final one, its target the gate coordinate or the trailer; and with GATE_PREVIEW on, counts that meet a gate coordinate and that do
not, in a move that stops, one with no end, below an end, at one before a leg each way and at one before the final leg. -/
theorem test_witness_EncoderCounts :
    let creep : Leg := { direction := .forward, cls := .creep, stop := .target }
    let nearing (trailer : Option Nat) : State :=
      let s := atCount 260999 (frameMove (.coord 261000) [creep])
      { s with index := { s.index with trailer := trailer } }
    let seen (register : Nat) (m : Move) : State :=
      let s := atCount register m
      { s with params := { s.params with gatePreview := true } }
    let at' (stop : LegEnd) (plan : List Leg) (n : Nat) : State := seen n (frameMove stop plan)
    let previews (s : State) (m : Move) : Prop :=
      Quiet s ∧ s.transport.move = some m ∧ s.transport.state = .moving ∧ s.transport.stallTimer = some 150 ∧
        m.purpose = .frame ∧ s.params.gatePreview = true ∧ m.leg.direction = .forward ∧ m.finalApproach = false ∧
        s.tracker.register + 1 < 16777215
    let runs (m : Move) : Prop := m.phase = .running ∧ m.atRest = none
    (∀ n ∈ [261998, 261999], previews (seen n { frameMove .unbounded [] with phase := .stopping })
      { frameMove .unbounded [] with phase := .stopping }) ∧
    (∀ n ∈ [261998, 261999], ∀ x ∈ [(LegEnd.unbounded, []), (.coord 262001, []), (.coord 261999, [back77]),
        (.coord 261999, [index77])],
      previews (at' x.1 x.2 n) (frameMove x.1 x.2) ∧ runs (frameMove x.1 x.2)) ∧
    (frameTwo.position + parked.roll.active.gateOffset = 261999 + 1 ∧ parked.lamp.state = .on ∧
      (frameMove (.coord 258000) [creep]).leg.cls = .index) ∧
    (frameOne.position + parked.roll.active.gateOffset = 258999 + 1 ∧
      previews (at' (.coord 258000) [creep] 258999) (frameMove (.coord 258000) [creep]) ∧
      (at' (.coord 258000) [creep] 258999).tracker.register + 1 + parked.params.arriveTol < 262000 ∧
      (at' (.coord 258000) [creep] 258999).entry 2 = some frameTwo ∧ (frameMove (.coord 258000) [creep]).frame = some 2) ∧
    (261998 + 1 < 262001 ∧ 261999 ≤ 261998 + 1 ∧ 261999 ≤ 261999 + 1 ∧ index77.direction = .forward ∧ index77.cls = .index ∧
      index77.stop ≠ .target ∧ back77.direction = .reverse) ∧
    Quiet parked ∧ parked.transport.move = none ∧
    (parked.tracker.register + 1 ≠ 16777215 ∨ parked.transport.state.canOverrun = false) ∧
    Quiet (atCount 262000 (frameMove (LegEnd.coord 262002) [])) ∧
    (atCount 262000 (frameMove (LegEnd.coord 262002) [])).transport.move = some (frameMove (LegEnd.coord 262002) []) ∧
    (atCount 262000 (frameMove (LegEnd.coord 262002) [])).transport.state = .moving ∧
    (atCount 262000 (frameMove (LegEnd.coord 262002) [])).transport.stallTimer = some 150 ∧
    (frameMove (LegEnd.coord 262002) []).purpose = .frame ∧ (frameMove (LegEnd.coord 262002) []).phase = .running ∧
    (frameMove (LegEnd.coord 262002) []).atRest = none ∧
    (atCount 262000 (frameMove (LegEnd.coord 262002) [])).params.gatePreview = false ∧
    (frameMove (LegEnd.coord 262002) []).leg.direction = .forward ∧
    (atCount 262000 (frameMove (LegEnd.coord 262002) [])).tracker.register + 1 < 16777215 ∧
    (frameMove (LegEnd.coord 262002) []).finalApproach = false ∧
    (frameMove (LegEnd.coord 262002) []).leg.stop = .coord 262002 ∧
    (atCount 262000 (frameMove (LegEnd.coord 262002) [])).tracker.register + 1 < 262002 ∧
    Quiet (atCount 262000 (frameMove (LegEnd.coord 262001) [back77])) ∧
    (atCount 262000 (frameMove (LegEnd.coord 262001) [back77])).transport.move = some (frameMove (LegEnd.coord 262001)
    [back77]) ∧
    (atCount 262000 (frameMove (LegEnd.coord 262001) [back77])).transport.state = .moving ∧
    (atCount 262000 (frameMove (LegEnd.coord 262001) [back77])).transport.stallTimer = some 150 ∧
    (frameMove (LegEnd.coord 262001) [back77]).purpose = .frame ∧
    (frameMove (LegEnd.coord 262001) [back77]).phase = .running ∧
    (frameMove (LegEnd.coord 262001) [back77]).atRest = none ∧
    (atCount 262000 (frameMove (LegEnd.coord 262001) [back77])).params.gatePreview = false ∧
    (frameMove (LegEnd.coord 262001) [back77]).leg.direction = .forward ∧
    (atCount 262000 (frameMove (LegEnd.coord 262001) [back77])).tracker.register + 1 < 16777215 ∧
    (frameMove (LegEnd.coord 262001) [back77]).finalApproach = false ∧
    (frameMove (LegEnd.coord 262001) [back77]).leg.stop = .coord 262001 ∧
    262001 ≤ (atCount 262000 (frameMove (LegEnd.coord 262001) [back77])).tracker.register + 1 ∧
    (frameMove (LegEnd.coord 262001) [back77]).plan = [back77] ∧ back77.direction = .reverse ∧
    Quiet (atCount 262000 (frameMove (LegEnd.coord 262001) [index77])) ∧
    (atCount 262000 (frameMove (LegEnd.coord 262001) [index77])).transport.move = some (frameMove (LegEnd.coord 262001)
    [index77]) ∧
    (atCount 262000 (frameMove (LegEnd.coord 262001) [index77])).transport.state = .moving ∧
    (atCount 262000 (frameMove (LegEnd.coord 262001) [index77])).transport.stallTimer = some 150 ∧
    (frameMove (LegEnd.coord 262001) [index77]).purpose = .frame ∧
    (frameMove (LegEnd.coord 262001) [index77]).phase = .running ∧
    (frameMove (LegEnd.coord 262001) [index77]).atRest = none ∧
    (atCount 262000 (frameMove (LegEnd.coord 262001) [index77])).params.gatePreview = false ∧
    (frameMove (LegEnd.coord 262001) [index77]).leg.direction = .forward ∧
    (atCount 262000 (frameMove (LegEnd.coord 262001) [index77])).tracker.register + 1 < 16777215 ∧
    (frameMove (LegEnd.coord 262001) [index77]).finalApproach = false ∧
    (frameMove (LegEnd.coord 262001) [index77]).leg.stop = .coord 262001 ∧
    262001 ≤ (atCount 262000 (frameMove (LegEnd.coord 262001) [index77])).tracker.register + 1 ∧
    (frameMove (LegEnd.coord 262001) [index77]).plan = [index77] ∧ index77.direction = .forward ∧ index77.cls = .index ∧
    index77.stop ≠ .target ∧ Quiet (atCount 261990 final) ∧ (atCount 261990 final).transport.move = some final ∧
    (atCount 261990 final).transport.state = .moving ∧ (atCount 261990 final).transport.stallTimer = some 150 ∧
    final.purpose = .frame ∧ final.phase = .running ∧ final.atRest = none ∧
    (atCount 261990 final).params.gatePreview = false ∧ final.leg.direction = .forward ∧
    (atCount 261990 final).tracker.register + 1 < 16777215 ∧ final.finalApproach = true ∧ final.target = some 262000 ∧
    final.clamped = false ∧ final.attempts = 0 ∧
    (atCount 261990 final).tracker.register + 1 + (atCount 261990 final).params.arriveTol < 262000 ∧
    Quiet (atCount 261991 final) ∧ (atCount 261991 final).transport.move = some final ∧
    (atCount 261991 final).transport.state = .moving ∧ (atCount 261991 final).transport.stallTimer = some 150 ∧
    (atCount 261991 final).params.gatePreview = false ∧ (atCount 261991 final).tracker.register + 1 < 16777215 ∧
    262000 ≤ (atCount 261991 final).tracker.register + 1 + (atCount 261991 final).params.arriveTol ∧
    (atCount 261991 final).tracker.register + 1 ≤ 262000 + (atCount 261991 final).params.arriveTol ∧
    Quiet (atCount 262008 final) ∧ (atCount 262008 final).transport.move = some final ∧
    (atCount 262008 final).transport.state = .moving ∧ (atCount 262008 final).transport.stallTimer = some 150 ∧
    (atCount 262008 final).params.gatePreview = false ∧ (atCount 262008 final).tracker.register + 1 < 16777215 ∧
    262000 + (atCount 262008 final).params.arriveTol < (atCount 262008 final).tracker.register + 1 ∧
    (∀ t ∈ [none, some 261500],
      Quiet (nearing t) ∧ (nearing t).transport.move = some (frameMove (.coord 261000) [creep]) ∧
        (nearing t).transport.state = .moving ∧ (nearing t).transport.stallTimer = some 150 ∧
        (nearing t).params.gatePreview = false ∧ 261000 ≤ (nearing t).tracker.register + 1 ∧
        (nearing t).entry 2 = some frameTwo ∧
        frameTwo.position + (nearing t).roll.active.gateOffset ≤ 16777215 - (nearing t).params.arriveTol ∧
        (nearing t).tracker.register + 1 + (nearing t).params.arriveTol < 261500) ∧
    (frameMove (.coord 261000) [creep]).frame = some 2 ∧ Quiet atEdge ∧
    NoPassNoSweep atEdge ∧ atEdge.tracker.register = 16777214 ∧
    (atEdge.transport.state = .moving ∨ atEdge.transport.state = .recovering ∨ atEdge.transport.state = .threading ∨
    atEdge.transport.state = .settling ∨ atEdge.transport.state = .settled) := by
  and_intros <;> first | rfl | decide

/-- Marks and splices in and out of a leg that reads them; a splice before the first entry, at one, between two and at the last. -/
theorem test_witness_MarksAreRead :
    let at' (n : Nat) : State := spliced { parked with tracker := { parked.tracker with register := n } }
    (∀ n ∈ [249999, 250000, 252999, 253000], (at' n).filmForward = true ∧ OrderLaw (at' n)) ∧
    ((at' 249999).entry 1 = some frameOne ∧ (at' 249999).tracker.register < frameOne.position) ∧
    (∀ n ∈ [250000, 252999], (at' n).entry 1 = some frameOne ∧ frameOne.position ≤ (at' n).tracker.register ∧
      1 ≠ (at' n).index.entries.length ∧ ∀ y ∈ (at' n).entry (1 + 1), (at' n).tracker.register < y.position) ∧
    ((at' 253000).entry 2 = some frameTwo ∧ frameTwo.position ≤ (at' 253000).tracker.register ∧
      (at' 253000).tracker.register = frameTwo.position ∧ (at' 253000).entry (2 + 1) = none) ∧
    ((spliced parked).tracker.inMotion = true) ∧
    (spliced parked).transport.move = some (frameMove (LegEnd.coord 300000) []) ∧
    ((spliced parked).transport.state = .moving ∨ (spliced parked).transport.state = .recovering) ∧
    parked.transport.state ≠ .moving ∧ parked.transport.state ≠ .recovering ∧ Quiet parked ∧
    parked.marks.inProgress = none ∧ Quiet shortMark ∧ shortMark.marks.inProgress = some 260001 ∧
    min 65535 (shortMark.tracker.register - 260001) < shortMark.roll.active.minMark ∧ Quiet bareMark ∧ AtEase bareMark ∧
    bareMark.marks.inProgress = some 260000 ∧ bareMark.transport.state ≠ .faulted ∧ bareMark.tracker.level ≠ .lost ∧
    bareMark.index.entries = [] ∧ bareMark.index.closure = none ∧ bareMark.index.checkpoints = [] ∧
    bareMark.roll.active.leader ≤ 260000 ∧ bareMark.roll.active.minMark ≤ min 65535 (bareMark.tracker.register - 260000) ∧
    (∀ x ∈ bareMark.slots, x.state ≠ .resolving) ∧ bareMark.pass.state ≠ .running ∧ Quiet resighted ∧
    resighted.marks.inProgress = some 253020 ∧ resighted.transport.state ≠ .faulted ∧ resighted.transport.move = none ∧
    resighted.tracker.level ≠ .lost ∧ resighted.roll.active.leader ≤ 253020 ∧
    resighted.roll.active.minMark ≤ min 65535 (resighted.tracker.register - 253020) ∧
    253020 ≤ resighted.pos resighted.extent + resighted.w ∧ resighted.entry 2 = some frameTwo ∧
    frameTwo.source = .observed ∧ distance 253020 frameTwo.position ≤ resighted.w ∧
    frameTwo.cls = classOfLength resighted.roll.active (min 65535 (resighted.tracker.register - 253020)) ∧
    (∀ (j : Nat) (y : Entry), j ≠ 2 → resighted.entry j = some y → distance 253020 frameTwo.position < distance 253020
    y.position) ∧
    (spliced bare).filmForward = true ∧ (spliced bare).index.entries = [] ∧ (spliced parked).filmForward = true ∧
    (spliced parked).index.entries ≠ [] ∧
    (∀ e ∈ (spliced parked).index.entries, e.position < (spliced parked).tracker.register) ∧
    parked.filmForward = false := by
  and_intros <;> first
    | decide
    | exact fun
      | 0, _, _, h => nomatch h
      | n + 1, y, hj, hy => places resighted.index.entries
          (fun n y => n ≠ 1 → distance 253020 frameTwo.position < distance 253020 y.position)
          (by decide) n y hy (fun h => hj (congrArg (· + 1) h))

/-- A mark after frame 1 in a closed index, stray twice, after a gap, after none and two missed frames, and at a checkpoint; a mark
near an OBSERVED entry and further off, near a FILLED one in its class and another, and a first and a second miss. -/
theorem test_witness_DiscoveryAndResighting :
    let meets (c : Nat) (s : State) : Prop :=
      Quiet s ∧ AtEase s ∧ s.marks.inProgress = some c ∧ s.transport.state ≠ .faulted ∧ s.tracker.level ≠ .lost ∧
        s.roll.active.leader ≤ c ∧ s.roll.active.minMark ≤ min 65535 (s.tracker.register - c) ∧ 1 ≤ s.index.entries.length
    let E (s : State) : Nat := s.index.entries.length
    let w (s : State) : Nat := max 40 (s.index.pitchQ / 64)
    let finds (c : Nat) (s : State) : Prop :=
      meets c s ∧ s.pos (E s) + w s < c ∧ s.index.closure = none ∧ (∀ x ∈ s.slots, x.state ≠ .resolving) ∧
        s.pass.state ≠ .running
    let j (c : Nat) (s : State) : Nat := (16 * (c - s.pos (E s)) + s.index.pitchQ / 2) / s.index.pitchQ
    let off (c : Nat) (s : State) : Nat := distance c (s.pos (E s) + (j c s * s.index.pitchQ + 8) / 16)
    let at' (c : Nat) : State := discovery 130000 48160 c 120
    let gap : State := discovery 149020 48197 164080 120
    let check : Checkpoint := { frame := 2, position := 133000, cls := .image, state := .unverified }
    let checked : State := { at' 133020 with index := { (at' 133020).index with checkpoints := [check] } }
    let closed : State := { at' 133020 with index := { (at' 133020).index with closure := some .trailer } }
    let seen (c len : Nat) (x : Source) : State :=
      marking c { parked with tracker := { parked.tracker with register := c + len }
                              index := { parked.index with entries := [frameOne, { frameTwo with source := x }] } }
    let near (c : Nat) (s : State) : Prop :=
      meets c s ∧ c ≤ s.pos (E s) + w s ∧ (∃ e ∈ s.entry 2, e.position = 253000) ∧
        distance c 253000 < distance c frameOne.position ∧ s.transport.move = none
    let missed (n : Nat) (s : State) : State := { s with tracker := { s.tracker with miss := n } }
    (meets 133020 closed ∧ closed.pos (E closed) + w closed < 133020 ∧ closed.index.closure ≠ none) ∧
    (finds 131000 (at' 131000) ∧ j 131000 (at' 131000) = 0) ∧
    (finds 132000 (at' 132000) ∧ j 132000 (at' 132000) = 1 ∧ w (at' 132000) < off 132000 (at' 132000)) ∧
    (finds 164080 gap ∧ gap.index.checkpoints = [] ∧ gap.params.maxFill < j 164080 gap - 1 ∧ E gap < 16384) ∧
    (finds 133020 (at' 133020) ∧ (at' 133020).index.checkpoints = [] ∧ j 133020 (at' 133020) = 1 ∧
      off 133020 (at' 133020) ≤ w (at' 133020) ∧ E (at' 133020) + 1 ≤ 16384) ∧
    (finds 139040 (at' 139040) ∧ j 139040 (at' 139040) = 3 ∧ 3 - 1 ≤ (at' 139040).params.maxFill ∧
      off 139040 (at' 139040) ≤ w (at' 139040)) ∧
    (finds 133020 checked ∧ check ∈ checked.index.checkpoints ∧ check.frame = E checked + 1 ∧
      checksAscend checked.index.checkpoints ∧ j 133020 checked = 1 ∧ off 133020 checked ≤ w checked) ∧
    (near 253020 (seen 253020 100 .observed) ∧ distance 253020 253000 ≤ w (seen 253020 100 .observed)) ∧
    (near 252000 (seen 252000 100 .observed) ∧ w (seen 252000 100 .observed) < distance 252000 253000 ∧
      distance 252000 253000 ≤ 3 * w (seen 252000 100 .observed)) ∧
    (∀ len ∈ [100, 500], near 253020 (seen 253020 len .filled) ∧
      distance 253020 253000 ≤ w (seen 253020 len .filled) ∧
      (∀ y ∈ (seen 253020 len .filled).entry 1, y.position < 253020) ∧
      ∀ y ∈ (seen 253020 len .filled).entry 3, 253020 < y.position) ∧
    (classOfLength parked.roll.active 100 = frameTwo.cls ∧ classOfLength parked.roll.active 500 ≠ frameTwo.cls) ∧
    (near 252000 (seen 252000 100 .filled) ∧ w (seen 252000 100 .filled) < distance 252000 253000 ∧
      (seen 252000 100 .filled).tracker.miss = 0) ∧
    (∀ s ∈ [granted .home (missed 1 (seen 252000 100 .filled)), spliced (granted .home (missed 1 (seen 252000 100 .filled)))],
      meets 252000 s ∧ 252000 ≤ s.pos (E s) + w s ∧ s.tracker.miss ≠ 0 ∧ s.sched.grant ≠ .none ∧
        ∀ m ∈ s.transport.move, s.transport.state = .moving ∧ m.phase = .running ∧ m.purpose ≠ .home ∧
          m.purpose ≠ .rewind) := by
  and_intros <;> decide

/-- A mark after the last frame that the index holds. -/
theorem test_witness_DiscoveryAndResighting_full :
    let s (q p c : Nat) : State :=
      let d := discovery p q c 120
      { d with index := { d.index with entries := List.replicate 16384 { frameOne with position := p } } }
    let j (q p c : Nat) : Nat := (16 * (c - p) + q / 2) / q
    (∀ q p c, (q, p, c) ∈ [(48160, 130000, 133020), (48197, 149020, 164080)] →
      Quiet (s q p c) ∧ AtEase (s q p c) ∧ (s q p c).marks.inProgress = some c ∧ (s q p c).transport.state = .moving ∧
        (s q p c).tracker.level ≠ .lost ∧ (s q p c).roll.active.leader ≤ c ∧
        (s q p c).roll.active.minMark ≤ min 65535 ((s q p c).tracker.register - c) ∧
        (s q p c).index.closure = none ∧ (∀ x ∈ (s q p c).slots, x.state ≠ .resolving) ∧
        (s q p c).pass.state ≠ .running ∧ (s q p c).index.checkpoints = [] ∧ (s q p c).index.entries.length = 16384 ∧
        (s q p c).pos 16384 + max 40 (q / 64) < c) ∧
    (j 48160 130000 133020 = 1 ∧ distance 133020 (130000 + (48160 + 8) / 16) ≤ 48160 / 64) ∧
    parked.params.maxFill < j 48197 149020 164080 - 1 := by
  intro s j
  have hl : ∀ q p c, (s q p c).index.entries.length = 16384 := fun _ _ _ => List.length_replicate
  have hp : ∀ q p c, (s q p c).pos 16384 = p := fun q p c => by
    simp only [State.pos, State.entry, s, List.getElem?_replicate]; rfl
  refine ⟨fun q p c h => ?_, by decide, by decide⟩
  rw [hl, hp]
  rcases List.mem_cons.1 h with h | h
  · cases h; and_intros <;> decide
  · cases List.mem_singleton.1 h; and_intros <;> decide

/-- LEADER_IN at the end of a HOME move, of its reverse leg, of a reverse leg of another move and of a back-off, in a forward leg, with
the film coming to rest, and at the end of the thread pull; TRAILER_IN in a forward leg, in one that comes to rest, in a recovery,
with the film at rest in a leg and in none, and in a reverse leg. -/
theorem test_witness_LeaderAndTrailer :
    let home : Move := homeMove (.leaderReads .film)
    let leg : Move := frameMove (.coord 300000) []
    let coasting : State := granted .home (rolling (withMove (resting .replan []) (inState .moving parked)))
    let creep : Leg := { direction := .forward, cls := .creep, stop := .leaderReads .film }
    let back : Leg := { direction := .reverse, cls := .shuttle, stop := .leaderReads .leader }
    let out : Move := { home with leg := back, plan := [creep] }
    let other : Move := { leg with leg := back77, plan := [index77] }
    let retries : Move := { home with leg := { back with stop := .travel 2000 }, aside := [creep] }
    let held (x : TState) (m : Move) : State := granted .home (rolling (withMove m (inState x parked)))
    let reads (x : TState) (m : Move) : Prop :=
      Quiet (held x m) ∧ (held x m).transport.leaderIn = .film ∧ (held x m).transport.move = some m ∧ m.phase = .running ∧
        m.atRest = none ∧ (held x m).transport.state = x
    (reads .moving out ∧ out.purpose = .home ∧ out.leg.stop = .leaderReads .leader ∧ out.leg.direction = .reverse ∧
      out.plan = [creep]) ∧
    (reads .moving other ∧ other.purpose ≠ .home ∧ other.leg.direction = .reverse ∧ other.plan = [index77] ∧
      index77.direction = .forward) ∧
    (∀ m ∈ [retries, other], reads .recovering m ∧ m.leg.direction = .reverse) ∧ retries.purpose = .home ∧
    (∀ x ∈ [TState.moving, .recovering], ∀ y ∈ [LeaderLevel.film, .leader], reads x leg ∧ x ≠ .threading ∧
      leg.leg.direction = .forward ∧ leg.leg.stop ≠ .leaderReads y) ∧
    (Quiet (held .moving homeDone) ∧ (held .moving homeDone).transport.state ≠ .threading ∧
      (held .moving homeDone).transport.move = some homeDone ∧ homeDone.phase = .stopping) ∧
    (Quiet faultedIn ∧ faultedIn.transport.state ≠ .threading ∧ faultedIn.transport.move = none) ∧
    (held .moving other).motionLeg = some back77 ∧
    (∀ s ∈ [trailing (some .trailer), coasting, inState .recovering (trailing none)], s.tracker.inMotion = true) ∧
    (withMove leg (inState .moving parked)).tracker.inMotion = false ∧
    Quiet parked ∧ parked.transport.leaderIn = .film ∧ Quiet homeRunning ∧ homeRunning.transport.leaderIn = .leader ∧
    homeRunning.transport.state = .moving ∧ homeRunning.transport.move = some home ∧ home.purpose = .home ∧
    home.phase = .running ∧ home.atRest = none ∧ home.leg.stop = .leaderReads .film ∧ Quiet threadingEarly ∧
    threadingEarly.transport.leaderIn = .leader ∧ threadingEarly.transport.state = .threading ∧
    threadingEarly.transport.capstan = some Direction.forward ∧ threadingEarly.roll.tagLoad ≠ .complete ∧
    Quiet threading ∧ threading.transport.leaderIn = .leader ∧ threading.transport.state = .threading ∧
    threading.transport.capstan = some Direction.forward ∧ threading.roll.tagLoad = .complete ∧
    threading.sched.grant = .none ∧ threading.lamp.state ≠ .off ∧ (∀ x ∈ threading.slots, x.resting = true) ∧
    threading.sweep.active = none ∧ threading.passActive = false ∧
    (∀ s ∈ [trailing (some .trailer), inState .recovering (trailing (some .trailer))],
      Quiet s ∧ (s.transport.state = .moving ∨ s.transport.state = .recovering) ∧ s.transport.move = some leg ∧
        leg.leg.direction = .forward ∧ s.index.closure ≠ none) ∧
    (∀ s ∈ [trailing none, coasting, inState .recovering (trailing none)],
      Quiet s ∧ (s.transport.state = .moving ∨ s.transport.state = .recovering) ∧
        (∃ m ∈ s.transport.move, m.leg.direction = .forward) ∧ s.index.closure = none ∧ s.sched.grant ≠ .none ∧
        (∀ x ∈ s.slots, x.state ≠ .resolving) ∧ s.pass.state ≠ .running) ∧
    (∀ g, parked.motionLeg = some g → g.direction = .reverse) := by
  and_intros <;> decide

/-- A move in each way of stopping, and each holder at each end of its move. -/
theorem test_witness_RestsAndStalls :
    let creep : Leg := { direction := .forward, cls := .creep, stop := .target }
    let finishing (p : Purpose) (o : MoveOutcome) : Move :=
      { resting (.finish o) [] with purpose := p, phase := .stopping }
    let level (o : MoveOutcome) (s : State) : State :=
      { s with tracker := { s.tracker with level := if o = .lost then .lost else .locked } }
    let onWay : SweepRecord := { scoring 0 with state := .travelling, points := [] }
    let slotted (o : MoveOutcome) : State :=
      level o (granted (.slot 0) (withMove (finishing .frame o) (inState .moving (oneSlot (travellingSlot .snap)))))
    let sweeping (o : MoveOutcome) : State :=
      level o (granted .sweep (withMove (finishing .frame o) (inState .moving (withSweep onWay parked))))
    let discovering (o : MoveOutcome) : State :=
      granted .discover (withMove (finishing .discover o) (inState .moving
        (if o = .stopped then parked else oneSlot { pendingSlot with state := .resolving, frame := none })))
    let turning (t : Option Nat) : State :=
      let s := withMove (resting .nextLeg [creep]) (inState .moving parked)
      { s with index := { s.index with trailer := t } }
    let retrying (p : Purpose) : State :=
      withMove { resting .retry [] with purpose := p, attempts := 1 } (inState .recovering parked)
    let ends (m : Move) (s : State) : Prop :=
      Quiet s ∧ s.transport.state = .moving ∧ s.transport.move = some m ∧ s.lamp.state ≠ .off
    Quiet (granted .home (withMove homeDone (inState .moving parked))) ∧
    (granted .home (withMove homeDone (inState .moving parked))).transport.state = .moving ∧
    (granted .home (withMove homeDone (inState .moving parked))).transport.move = some homeDone ∧
    homeDone.purpose = .home ∧ homeDone.atRest = some (RestAction.finish MoveOutcome.arrived) ∧
    (granted .home (withMove homeDone (inState .moving parked))).sched.grant = .home ∧
    (granted .home (withMove homeDone (inState .moving parked))).lamp.state ≠ .off ∧
    NoWork (granted .home (withMove homeDone (inState .moving parked))) ∧
    Quiet (withMove (resting RestAction.nextLeg [back77]) (inState .moving parked)) ∧
    (withMove (resting RestAction.nextLeg [back77]) (inState .moving parked)).transport.state = .moving ∧
    (withMove (resting RestAction.nextLeg [back77]) (inState .moving parked)).transport.move = some (resting
    RestAction.nextLeg [back77]) ∧
    (resting RestAction.nextLeg [back77]).atRest = some RestAction.nextLeg ∧
    (resting RestAction.nextLeg [back77]).plan = [back77] ∧ back77.stop ≠ .target ∧
    (resting RestAction.nextLeg [back77]).purpose ≠ .flyRun ∧
    Quiet (withMove (resting RestAction.backOff []) (inState .recovering parked)) ∧
    (withMove (resting RestAction.backOff []) (inState .recovering parked)).transport.state = .recovering ∧
    (withMove (resting RestAction.backOff []) (inState .recovering parked)).transport.move = some (resting
    RestAction.backOff []) ∧
    (resting RestAction.backOff []).atRest = some RestAction.backOff ∧ Quiet (spliced parked) ∧
    (spliced parked).transport.state = .moving ∧ (spliced parked).transport.stallTimer ≠ none ∧
    (spliced parked).transport.move = some (frameMove (LegEnd.coord 300000) []) ∧
    (frameMove (LegEnd.coord 300000) []).attempts < (spliced parked).params.recoverTries ∧
    Quiet (withMove stuck (inState .moving parked)) ∧ NoPassNoSweep (withMove stuck (inState .moving parked)) ∧
    (withMove stuck (inState .moving parked)).transport.stallTimer ≠ none ∧
    (((withMove stuck (inState .moving parked)).transport.state = .moving ∧ ∃ m, (withMove stuck (inState .moving
    parked)).transport.move = some m ∧ (withMove stuck (inState .moving parked)).params.recoverTries ≤ m.attempts) ∨
    (withMove stuck (inState .moving parked)).transport.state = .recovering ∨ (withMove stuck (inState .moving
    parked)).transport.state = .rewinding) ∧
    Quiet (withMove backing (inState .recovering parked)) ∧
    (withMove backing (inState .recovering parked)).transport.state = .recovering ∧
    (withMove backing (inState .recovering parked)).transport.move = some backing ∧ backing.phase = .running ∧
    backing.atRest = none ∧ backing.leg.stop = .travel 2000 ∧ 2000 ≤ backing.travel ∧
    Quiet (withMove lostMove (inState .moving parked)) ∧ NoPassNoSweep (withMove lostMove (inState .moving parked)) ∧
    (withMove lostMove (inState .moving parked)).transport.state = .moving ∧
    (withMove lostMove (inState .moving parked)).transport.move = some lostMove ∧ lostMove.phase = .running ∧
    lostMove.atRest = none ∧ lostMove.leg.stop = .leaderReads LeaderLevel.leader ∧ 16777215 ≤ lostMove.travel ∧
    (∀ x ∈ [MoveOutcome.endOfFilm, .lost],
      (∀ p ∈ [Purpose.frame, .discover], (finishing p x).phase = .stopping ∧ (finishing p x).purpose = p ∧
        (finishing p x).atRest = some (.finish x) ∧ (finishing p x).attempts = 0) ∧
      (ends (finishing .frame x) (slotted x) ∧ (slotted x).sched.grant = .slot 0 ∧
        (slotted x).slots[0]? = some (travellingSlot .snap) ∧ (slotted x).sweep.active = none) ∧
      (ends (finishing .frame x) (sweeping x) ∧ (sweeping x).sched.grant = .sweep ∧
        (sweeping x).sweep.active = some onWay ∧ (sweeping x).transport.holder = none ∧
        ∀ y ∈ (sweeping x).slots, y.resting = true)) ∧
    (travellingSlot .snap).state = .travelling ∧ onWay.origin = .standAlone ∧ onWay.state = .travelling ∧ onWay.points = [] ∧
    (∀ s ∈ [slotted .endOfFilm, sweeping .endOfFilm], s.tracker.level ≠ .lost ∧ s.passActive = false) ∧
    (∀ s ∈ [slotted .lost, sweeping .lost], s.tracker.level = .lost ∧ s.doorClosed = true ∧
      tensionOut s.poller.values = false ∧ s.sched.yieldOwed = false) ∧
    (∀ j y, j ≠ 0 → (slotted .endOfFilm).slots[j]? = some y → y.resting = true) ∧
    (∀ x ∈ [MoveOutcome.endOfFilm, .stopped], ends (finishing .discover x) (discovering x) ∧
      (discovering x).sched.grant = .discover ∧ (discovering x).tracker.level ≠ .lost ∧
      (discovering x).passActive = false ∧ (discovering x).sweep.active = none) ∧
    (∀ y ∈ (discovering .endOfFilm).slots, y.resting = true ∨ y.state = .resolving) ∧
    (∀ y ∈ (discovering .stopped).slots, y.resting = true) ∧
    (∀ t ∈ [none, some 262000], let s := turning t
      Quiet s ∧ s.transport.state = .moving ∧ s.transport.move = some (resting .nextLeg [creep]) ∧
        (resting .nextLeg [creep]).purpose = .frame ∧ (resting .nextLeg [creep]).frame = some 2 ∧
        s.entry 2 = some frameTwo ∧ frameTwo.position + s.roll.active.gateOffset ≤ 16777215 - s.params.arriveTol ∧
        s.tracker.register ≤ 262000 + s.params.arriveTol) ∧
    (∀ p ∈ [Purpose.home, .discover, .flyRun, .frame], let s := retrying p
      Quiet s ∧ s.transport.state = .recovering ∧ ∃ m ∈ s.transport.move, m.atRest = some .retry ∧ m.purpose = p ∧
        m.frame = some 2 ∧ s.entry 2 = some frameTwo ∧
        frameTwo.position + s.roll.active.gateOffset ≤ 16777215 - s.params.arriveTol) := by
  and_intros <;> first
    | rfl
    | decide
    | exact elsewhere _ _ _ (by decide)

/-- The settle before and after the focus arrival, for each action and for a sweep, with the lamp ON and FAILED. -/
theorem test_witness_SettlesAndPulses :
    let dark (s : State) : State := { s with lamp := { state := .failed, warmTimer := none } }
    let offered (position : Nat) (o : SweepOrigin) : State :=
      let s := withSweep { scoring 0 with state := .travelling, origin := o, frame := 1, centre := some 100, points := [] }
        (inState .settling (passing (fun p => if o = .pass then { p with work := .sweeping } else idlePass)))
      { granted (if o = .pass then .pass else .sweep) s with
        focus := { s.focus with position := position }
        transport := { s.transport with move := some (settling true), settleTimer := some 40 } }
    Quiet settlingLate ∧ settlingLate.transport.settleTimer ≠ none ∧ settlingLate.transport.move = some (settling false) ∧
    (settling false).focusTaken = false ∧ Quiet (settlingFor SlotAction.present) ∧
    (settlingFor SlotAction.present).transport.state = .settling ∧
    (settlingFor SlotAction.present).transport.settleTimer ≠ none ∧
    (settlingFor SlotAction.present).transport.gateReady = false ∧
    (settlingFor SlotAction.present).transport.move = some (settling true) ∧ (settling true).focusTaken = true ∧
    (settling true).frame = some 1 ∧ (settlingFor SlotAction.present).sched.grant = .slot 0 ∧
    (settlingFor SlotAction.present).slots[0]? = some (travellingSlot SlotAction.present) ∧
    (travellingSlot SlotAction.present).state = .travelling ∧ (travellingSlot SlotAction.present).frame = some 1 ∧
    (travellingSlot SlotAction.present).reached = none ∧ (settlingFor SlotAction.present).lamp.state = .on ∧
    (travellingSlot SlotAction.present).action = .present ∧ Quiet (settlingFor SlotAction.snap) ∧
    (settlingFor SlotAction.snap).transport.state = .settling ∧
    (settlingFor SlotAction.snap).transport.settleTimer ≠ none ∧
    (settlingFor SlotAction.snap).transport.gateReady = false ∧
    (settlingFor SlotAction.snap).transport.move = some (settling true) ∧
    (settlingFor SlotAction.snap).sched.grant = .slot 0 ∧
    (settlingFor SlotAction.snap).slots[0]? = some (travellingSlot SlotAction.snap) ∧
    (travellingSlot SlotAction.snap).state = .travelling ∧ (travellingSlot SlotAction.snap).frame = some 1 ∧
    (travellingSlot SlotAction.snap).reached = none ∧ (settlingFor SlotAction.snap).lamp.state = .on ∧
    (travellingSlot SlotAction.snap).action = .snap ∧ (settlingFor SlotAction.snap).tracker.level ≠ .lost ∧
    (settlingFor SlotAction.snap).sweep.active = none ∧ (settlingFor SlotAction.snap).passActive = false ∧
    (∀ (j : Nat) (y : Slot), j ≠ 0 → (settlingFor SlotAction.snap).slots[j]? = some y → y.resting = true) ∧
    (dark (settlingFor .snap)).lamp.state = .failed ∧
    (∀ p ∈ [100, 90], ∀ s ∈ [offered p .standAlone, offered p .pass, dark (offered p .standAlone)],
      Quiet s ∧ s.transport.state = .settling ∧ s.transport.settleTimer ≠ none ∧ s.transport.gateReady = false ∧
        s.transport.move = some (settling true) ∧ (∃ x ∈ s.sweep.active, x.halfWidth * x.stepSize ≤ 2047 ∧ x.points = []) ∧
        s.transport.holder = none) ∧
    (∀ p ∈ [100, 90], (offered p .standAlone).lamp.state = .on ∧ (offered p .standAlone).sched.grant = .sweep ∧
      (offered p .pass).lamp.state = .on ∧ (offered p .pass).sched.grant = .pass ∧ (offered p .pass).pass.work = .sweeping) ∧
    (lensThere (100 - 1 * 10) (offered 100 .standAlone) = false ∧ lensThere (100 - 1 * 10) (offered 90 .standAlone) = true) ∧
    ((dark (offered 100 .standAlone)).lamp.state = .failed ∧ (dark (offered 100 .standAlone)).tracker.level ≠ .lost ∧
      (dark (offered 100 .standAlone)).passActive = false ∧ (dark (offered 100 .standAlone)).sched.grant = .sweep ∧
      ∀ y ∈ (dark (offered 100 .standAlone)).slots, y.resting = true) := by
  and_intros <;> first
    | decide
    | exact elsewhere _ _ _ (by decide)

/-- A byte not acknowledged; bytes that deliver nothing; byte 0 with each of its changes, a removal with nothing at the tag, with a
load, and with a write-back WAITING and WRITING; byte 1 with each of its changes, lamp-OK back also with LAMP_WARM 0; byte 7 in a
later round, and the first byte 7 without and with film in the gate. -/
theorem test_witness_PollBytesAreTaken :
    let polls (n : Nat) (vs : Inputs) (s : State) : State :=
      { s with bus := { (polling n none).bus with transfer := some .poll }, poller := { s.poller with values := vs } }
    let reads (s : State) (v : Byte) : Inputs :=
      (s.poller.values &&& ~~~(0xFF#64 <<< (8 * s.bus.nextByte))) ||| (v.zeroExtend 64 <<< (8 * s.bus.nextByte))
    let rose (s : State) (v : Byte) (n : Nat) : Prop :=
      s.poller.values.getLsbD n = false ∧ (reads s v).getLsbD n = true
    let fell (s : State) (v : Byte) (n : Nat) : Prop :=
      s.poller.values.getLsbD n = true ∧ (reads s v).getLsbD n = false
    let out (y : Inputs) : Prop := ∃ n ∈ [4, 5, 6, 7], y.getLsbD n = true
    let pulls (s : State) (v : Byte) : Prop := ¬ out s.poller.values ∧ out (reads s v)
    let driven (s : State) : Prop := s.transport.state = .moving ∨ s.transport.state = .settling ∨
      s.transport.state = .settled ∨ s.transport.state = .recovering ∨ s.transport.state = .threading ∨
      s.transport.state = .rewinding
    let meets (n : Nat) (s : State) : Prop :=
      Quiet s ∧ s.bus.state = .running ∧ s.bus.transfer = some .poll ∧ s.bus.nextByte = n ∧ n < 8
    let later (n : Nat) (s : State) : Prop := meets n s ∧ s.poller.firstRoundDone = true
    let first (vs : Inputs) : State :=
      let s := polls 7 vs empty
      { s with poller := { s.poller with firstRoundDone := false }, lamp := { state := .off, warmTimer := none } }
    let failed (s : State) : State := { s with lamp := { state := .failed, warmTimer := none } }
    let written : State := { rewinding with roll := { rewinding.roll with writeBackTaken := true } }
    let loads (u : State) : State :=
      let s := polls 0 0x107 u
      { s with roll := { s.roll with tagLoad := .running }
               tag := { s.tag with status := .reading, load := some (loading .zones 3) }
               bus := { s.bus with waiting := some .read } }
    let writesBack (w : WriteState) (u : State) : State :=
      let s := polls 0 0x107 u
      { s with tag := { s.tag with dirty := true, writeState := w, writePlan := [(4, endRecord)] }
               bus := { s.bus with waiting := some .write } }
    let unwarmed (s : State) : State := { s with params := { s.params with lampWarm := 0 } }
    (meets 6 (polls 6 0x107 parked) ∧ 6 < 7) ∧ (meets 2 (polls 2 0x107 parked) ∧ 2 ≤ 2) ∧
    (meets 0 (polls 0 0x107 (first 0x107)) ∧ (polls 0 0x107 (first 0x107)).poller.firstRoundDone = false) ∧
    (later 0 (polls 0 0x107 moving) ∧ ∀ n ∈ [0, 1, 3], ¬ rose (polls 0 0x107 moving) 0x03#8 n ∧
      ¬ fell (polls 0 0x107 moving) 0x03#8 n) ∧ ¬ pulls (polls 0 0x107 moving) 0x03#8 ∧
    (later 0 (polls 0 0x107 parked) ∧ ¬ rose (polls 0 0x107 parked) 0x3D#8 0 ∧ ¬ fell (polls 0 0x107 parked) 0x3D#8 0 ∧
      fell (polls 0 0x107 parked) 0x3D#8 1 ∧ ¬ driven (polls 0 0x107 parked)) ∧
    (later 0 (polls 0 0x106 empty) ∧ rose (polls 0 0x106 empty) 0x07#8 0 ∧ ¬ fell (polls 0 0x106 empty) 0x07#8 1 ∧
      ¬ rose (polls 0 0x106 empty) 0x07#8 3 ∧ ¬ pulls (polls 0 0x106 empty) 0x07#8 ∧
      (polls 0 0x106 empty).tag.status ≠ .reading ∧ (polls 0 0x106 empty).tag.writeState ≠ .writing) ∧
    (∀ s ∈ [polls 0 0x107 empty, polls 0 0x107 faultedIn, polls 0 0x107 parked], later 0 s ∧ fell s 0x06#8 0 ∧
      s.tag.load = none ∧ s.tag.writeState = .idle ∧ NoPassNoSweep s) ∧
    (polls 0 0x107 empty).transport.state = .empty ∧ (polls 0 0x107 faultedIn).transport.state = .faulted ∧
    (∀ u ∈ [empty, faultedIn, parked],
      (later 0 (loads u) ∧ fell (loads u) 0x06#8 0 ∧ NoPassNoSweep (loads u) ∧ (loads u).tag.load ≠ none ∧
        (loads u).transport.state = u.transport.state) ∧
      (∀ w ∈ [.waiting, .writing], later 0 (writesBack w u) ∧ fell (writesBack w u) 0x06#8 0 ∧
        NoPassNoSweep (writesBack w u) ∧ (writesBack w u).tag.writeState = w ∧
        (writesBack w u).transport.state = u.transport.state)) ∧
    (parked.transport.state ≠ .empty ∧ parked.transport.state ≠ .faulted) ∧
    (later 0 (polls 0 0x107 moving) ∧ driven (polls 0 0x107 moving) ∧ NoPassNoSweep (polls 0 0x107 moving) ∧
      fell (polls 0 0x107 moving) 0x05#8 1 ∧ ¬ fell (polls 0 0x107 moving) 0x87#8 1 ∧ pulls (polls 0 0x107 moving) 0x87#8 ∧
      (polls 0 0x107 moving).transport.state ≠ .rewinding) ∧
    (later 0 (polls 0 0x107 rewinding) ∧ pulls (polls 0 0x107 rewinding) 0x17#8 ∧ ¬ rose (polls 0 0x107 rewinding) 0x17#8 3) ∧
    (∀ s ∈ [polls 0 0x107 moving, polls 0 0x107 rewinding], later 0 s ∧ ¬ rose s 0x0F#8 0 ∧ ¬ fell s 0x0F#8 0 ∧
      ¬ fell s 0x0F#8 1 ∧ ¬ pulls s 0x0F#8 ∧ rose s 0x0F#8 3 ∧ s.roll.rewindTaken = false ∧
      s.roll.writeBackTaken = false) ∧
    (later 0 (polls 0 0x107 written) ∧ ¬ rose (polls 0 0x107 written) 0x0F#8 0 ∧ ¬ fell (polls 0 0x107 written) 0x0F#8 0 ∧
      ¬ fell (polls 0 0x107 written) 0x0F#8 1 ∧ ¬ pulls (polls 0 0x107 written) 0x0F#8 ∧
      rose (polls 0 0x107 written) 0x0F#8 3 ∧ (polls 0 0x107 written).transport.state = .rewinding ∧
      (polls 0 0x107 written).roll.rewindTaken = false ∧ (polls 0 0x107 written).roll.writeBackTaken = true) ∧
    (later 1 (polls 1 0x107 parked) ∧ ¬ rose (polls 1 0x107 parked) 0x01#8 8 ∧ ¬ fell (polls 1 0x107 parked) 0x01#8 8) ∧
    (later 1 (polls 1 0x007 parked) ∧ rose (polls 1 0x007 parked) 0x01#8 8 ∧ (polls 1 0x007 parked).lamp.state ≠ .failed) ∧
    (later 1 (failed (polls 1 0x007 parked)) ∧ rose (failed (polls 1 0x007 parked)) 0x01#8 8 ∧
      (failed (polls 1 0x007 parked)).lamp.state = .failed ∧ (failed (polls 1 0x007 parked)).params.lampWarm ≠ 0 ∧
      (failed (polls 1 0x007 parked)).transport.gateReady = false) ∧
    (later 1 (unwarmed (failed (polls 1 0x007 parked))) ∧ rose (unwarmed (failed (polls 1 0x007 parked))) 0x01#8 8 ∧
      (unwarmed (failed (polls 1 0x007 parked))).lamp.state = .failed ∧
      (unwarmed (failed (polls 1 0x007 parked))).params.lampWarm = 0 ∧
      (unwarmed (failed (polls 1 0x007 parked))).transport.gateReady = false ∧
      (unwarmed (failed (polls 1 0x007 parked))).pass.after ≠ .awaitLamp) ∧
    (later 1 (polls 1 0x107 standing) ∧ fell (polls 1 0x107 standing) 0x00#8 8 ∧
      (polls 1 0x107 standing).lamp.state = .off) ∧
    (later 1 (polls 1 0x107 parked) ∧ fell (polls 1 0x107 parked) 0x00#8 8 ∧ (polls 1 0x107 parked).lamp.state = .on ∧
      (polls 1 0x107 parked).transport.gateReady = false ∧ (polls 1 0x107 parked).pass.state = .idle ∧
      (polls 1 0x107 parked).sweep.active = none) ∧
    (later 7 (polls 7 0x107 parked)) ∧
    (meets 7 (first 0x103) ∧ (first 0x103).poller.firstRoundDone = false ∧ (first 0x103).bus.waiting = none ∧
      (first 0x103).transport.state = .empty ∧ (first 0x103).poller.values.getLsbD 2 = false) ∧
    (meets 7 (first 0x107) ∧ (first 0x107).poller.firstRoundDone = false ∧ (first 0x107).bus.waiting = none ∧
      (first 0x107).transport.state = .empty ∧ (first 0x107).poller.values.getLsbD 2 = true ∧
      (first 0x107).poller.values.getLsbD 1 = true ∧ ¬ out (first 0x107).poller.values ∧
      (first 0x107).sched.grant = .none ∧ (first 0x107).transport.move = none ∧ (first 0x107).lamp.state = .off ∧
      (first 0x107).poller.values.getLsbD 0 = true ∧ (first 0x107).tag.status ≠ .reading ∧
      (first 0x107).tag.writeState ≠ .writing) ∧
    (first 0x106).poller.values.getLsbD 0 = false := by
  and_intros <;> decide

/-- Each record in its stage, and out of it; record 255; END; record 0 and a later one not acknowledged; the end of a load in each
transport state; no load; and a write-back's last two records, also in an unload before and after its rewind end, with a load put
off and without. -/
theorem test_witness_TagRecordsAreTaken :
    let meets (l : LoadRecord) (s : State) : Prop :=
      Quiet s ∧ s.bus.state = .running ∧ s.bus.transfer = some (.record .read) ∧ s.tag.load = some l
    let stage (x : TagStage) : LoadRecord := loading x 0
    let kept : LoadRecord := { stage .checks with zones := [zone] }
    let threads (taken : Bool) : State :=
      { threading with roll := { threading.roll with threadTaken := taken, tagLoad := .running } }
    let wrong : State := { threads true with roll := { (threads true).roll with active := edgeProfile } }
    let noLoad : State :=
      { parked with bus := { parked.bus with transfer := some (.record .read) }, tag := { parked.tag with load := none } }
    let plan : List (Nat × TagRecord) := [(3, 0#64), (4, endRecord)]
    let unloading (p : List (Nat × TagRecord)) (after taken : Bool) : State :=
      let s := inState .rewinding (writing p)
      { s with tag := { s.tag with loadAfterWrite := after }, roll := { s.roll with rewindTaken := taken } }
    let rolled (l : LoadRecord) : Prop := l.stage = .zones ∨ l.stage = .checks
    let awaits (status : TagStatus) (s : State) : State :=
      reading (stage .zones) { s with tag := { s.tag with writeState := .waiting, dirty := true, status := status } }
    (∀ s ∈ [awaits .valid (inState .rewinding bare), awaits .absent parked], meets (stage .zones) s ∧
      s.tag.writeState = .waiting ∧ threadsAlone .valid (some (stage .zones)) s = true ∧
      threadsAlone .absent none s = true) ∧
    (∀ s ∈ [threads false, threads true, wrong, bare], ∀ y ∈ [(TagStatus.valid, some (stage .zones)), (.degraded, none)],
      threadsAlone y.1 y.2 (reading (stage .zones) s) = true) ∧
    (∀ x ∈ [TagStage.rollA, .rollB, .rollC, .zones, .checks],
      meets (stage x) (reading (stage x) bare) ∧ (stage x).next < 255) ∧
    (readRecord (rollARecord edgeProfile) = some (.rollA (4294967295#32) 4194240) ∧ (stage .rollA).stage = .rollA) ∧
    (readRecord (rollBRecord edgeProfile) = some (.rollB 500 262140 1020 35) ∧ (stage .rollB).stage = .rollB) ∧
    (readRecord (rollCRecord edgeProfile) = some (.rollC 65534 65535 4095) ∧ (stage .rollC).stage = .rollC) ∧
    (readRecord (zoneRecord topZone) = some (.zone 16384 4095 .set .good) ∧
      (∀ z ∈ (stage .zones).zones.getLast?, z.start < 16384) ∧ (stage .zones).zones.length < 32) ∧
    (readRecord (checkRecord 16384 1 .image) = some (.check 16384 1 .image) ∧ rolled kept ∧
      (∀ y ∈ kept.checks.getLast?, y.frame < 16384) ∧ kept.checks.length < 96) ∧
    255 ≤ (loading .zones 255).next ∧ meets (loading .zones 255) (reading (loading .zones 255) bare) ∧
    readRecord 0#64 = none ∧ ¬ readRecord 0#64 = some .endMark ∧ readRecord endRecord = some .endMark ∧
    rolled (stage .zones) ∧ ¬ rolled (stage .rollA) ∧ (stage .rollA).next = 0 ∧ (loading .zones 3).next ≠ 0 ∧
    (meets (stage .zones) (reading (stage .zones) bare) ∧ (reading (stage .zones) bare).tag.writeState ≠ .waiting ∧
      (reading (stage .zones) bare).transport.state ≠ .threading ∧ (reading (stage .zones) bare).index.entries = []) ∧
    (reading (stage .zones) parked).index.entries ≠ [] ∧
    (∀ b ∈ [false, true], meets (stage .zones) (reading (stage .zones) (threads b)) ∧
      (reading (stage .zones) (threads b)).transport.state = .threading ∧
      (threads b).roll.active.gauge = (threads b).params.stationGauge) ∧
    ((threads false).roll.threadTaken = false ∧ (threads true).roll.threadTaken = true ∧
      (threads true).sched.grant = .none ∧ NoWork (threads true) ∧ (threads true).lamp.state ≠ .off) ∧
    (meets (stage .zones) (reading (stage .zones) wrong) ∧ wrong.transport.state = .threading ∧
        wrong.index.entries ≠ [] ∧ wrong.roll.active.gauge ≠ wrong.params.stationGauge ∧ NoPassNoSweep wrong) ∧
    (Quiet noLoad ∧ noLoad.bus.state = .running ∧ noLoad.bus.transfer = some (.record .read) ∧ noLoad.tag.load = none) ∧
    (∀ p ∈ [plan, [(4, endRecord)]], Quiet (writing p) ∧ (writing p).bus.state = .running ∧
      (writing p).bus.transfer = some (.record .write) ∧ (writing p).tag.writeState = .writing ∧
      (writing p).transport.state ≠ .rewinding ∧ (writing p).tag.writePlan = p) ∧
    (∀ p ∈ [plan, [(4, endRecord)]], ∀ after ∈ [false, true], ∀ taken ∈ [false, true],
        Quiet (unloading p after taken) ∧ (unloading p after taken).bus.state = .running ∧
          (unloading p after taken).bus.transfer = some (.record .write) ∧
          (unloading p after taken).tag.writeState = .writing ∧ (unloading p after taken).tag.writePlan = p ∧
          (unloading p after taken).tag.loadAfterWrite = after ∧ (unloading p after taken).transport.state = .rewinding ∧
          (unloading p after taken).roll.rewindTaken = taken) ∧
    parked.bus.transfer ≠ some (.record .read) ∧ parked.bus.transfer ≠ some (.record .write) := by
  and_intros <;> decide

/-- A bus fault before and at the third attempt, in a poll and in a record transfer; with a load in progress, also in THREADING with a
wrong gauge and with a write-back that waits; with a write-back in progress, a load put off behind it or not; and before the first
round completes, with no film in the gate. -/
theorem test_witness_BusFaults :
    let failing (s : State) : State :=
      onLinks (fun k => { k with suppress := .none, flags := { k.flags with transport := some .aux } })
        { s with bus := { s.bus with state := .failed, transfer := none, waiting := none, attempts := 0, timer := none }
                 poller := { s.poller with stale := 0xFF#8 } }
    let low (s : State) : State := { s with bus := { s.bus with state := .recovering, attempts := 2 } }
    let third (s : State) : Prop := Quiet s ∧ s.bus.state = .recovering ∧ s.bus.attempts = 2
    let load : LoadRecord := loading .zones 3
    let wrong : State :=
      { threading with roll := { threading.roll with tagLoad := .running, threadTaken := true, active := edgeProfile } }
    let waits : State :=
      { inState .rewinding parked with tag := { parked.tag with writeState := .waiting, dirty := true } }
    let wrote (later : Bool) : State :=
      let s := low (inState .rewinding (writing [(4, endRecord)]))
      { s with tag := { s.tag with loadAfterWrite := later } }
    let retried : State :=
      let v := writeBackFailed (failing (wrote true))
      { v with tag := { v.tag with loadAfterWrite := false } }
    let early : State :=
      low { parked with poller := { values := 0#64, stale := 0xFF#8, firstRoundDone := false, faults := 0 } }
    (∀ s ∈ [parked, wrong, waits], third (low (reading load s)) ∧ (low (reading load s)).poller.firstRoundDone = true ∧
      (low (reading load s)).tag.load = some load ∧ (low (reading load s)).tag.writeState ≠ .writing ∧
      threadsAlone .failed none (failing (low (reading load s))) = true) ∧
    (∀ later ∈ [false, true], third (wrote later) ∧ (wrote later).poller.firstRoundDone = true ∧
      (wrote later).tag.load = none ∧ (wrote later).tag.writeState = .writing ∧ (wrote later).tag.loadAfterWrite = later) ∧
    threadsAlone .failed none retried = true ∧
    (third early ∧ early.tag.load = none ∧ early.tag.writeState ≠ .writing ∧ early.poller.firstRoundDone = false ∧
      early.filmInGate = false) ∧
    Quiet (faultyBus BusState.running 2 Transfer.poll) ∧
    (faultyBus BusState.running 2 Transfer.poll).bus.state = .running ∧
    (faultyBus BusState.running 2 Transfer.poll).bus.timer ≠ none ∧
    (faultyBus BusState.running 2 Transfer.poll).bus.attempts < 3 ∧
    (faultyBus BusState.running 2 Transfer.poll).bus.transfer = some Transfer.poll ∧
    Quiet (faultyBus BusState.running 2 (Transfer.record RecordTransfer.read)) ∧
    (faultyBus BusState.running 2 (Transfer.record RecordTransfer.read)).bus.state = .running ∧
    (faultyBus BusState.running 2 (Transfer.record RecordTransfer.read)).bus.timer ≠ none ∧
    (faultyBus BusState.running 2 (Transfer.record RecordTransfer.read)).bus.attempts < 3 ∧
    (faultyBus BusState.running 2 (Transfer.record RecordTransfer.read)).bus.transfer ≠ some Transfer.poll ∧
    Quiet (faultyBus BusState.running 3 Transfer.poll) ∧
    (faultyBus BusState.running 3 Transfer.poll).bus.state = .running ∧
    (faultyBus BusState.running 3 Transfer.poll).bus.timer ≠ none ∧
    3 ≤ (faultyBus BusState.running 3 Transfer.poll).bus.attempts ∧
    (faultyBus BusState.running 3 Transfer.poll).poller.firstRoundDone = true ∧
    (faultyBus BusState.running 3 Transfer.poll).tag.load = none ∧
    (faultyBus BusState.running 3 Transfer.poll).tag.writeState ≠ .writing ∧
    Quiet (faultyBus BusState.recovering 2 Transfer.poll) ∧
    (faultyBus BusState.recovering 2 Transfer.poll).bus.state = .recovering ∧
    Quiet (faultyBus BusState.recovering 1 Transfer.poll) ∧
    (faultyBus BusState.recovering 1 Transfer.poll).bus.state = .recovering ∧
    (faultyBus BusState.recovering 1 Transfer.poll).bus.attempts < 2 ∧
    (faultyBus BusState.recovering 2 Transfer.poll).bus.attempts = 2 ∧
    (faultyBus BusState.recovering 2 Transfer.poll).poller.firstRoundDone = true ∧
    (faultyBus BusState.recovering 2 Transfer.poll).tag.load = none ∧
    (faultyBus BusState.recovering 2 Transfer.poll).tag.writeState ≠ .writing := by
  and_intros <;> decide

/-! ### Ill-formed commands -/

theorem test_unknown_code_must_be_unknown : WellFormed (.unknownRequestCode .a 0x21#8) = false := by decide
theorem test_input_mask_has_its_own_command : WellFormed (.setFlagMask .a 0x01#8 0#16) = false := by decide
theorem test_well_formed_requests :
    WellFormed (.unknownRequestCode .a 0x99#8) = true ∧ WellFormed (.setFlagMask .a 0x02#8 0#16) = true ∧
      WellFormed (.release .a 7#8) = true := by decide

/-! ### Frames, one request of each family written out from the table of 11 -/

/-- RELEASE of tag 7: the frame R194 works out. -/
theorem test_release_frame : encodeFrame (.release .a 7#8) = some (.a, [0x21#8, 0x01#8, 0x07#8, 0xD7#8]) := by decide

/-- The zone record R196 works out: (200, 2010, TAG, GOOD). -/
theorem test_zone_record :
    recordBytes (zoneRecord { start := 200, step := 2010, source := .tag, quality := .good }) =
      [0x10#8, 0xC8#8, 0x00#8, 0xDA#8, 0x07#8, 0x00#8, 0x00#8, 0x47#8] := by decide

theorem test_frames_are_read :
    decodeFrame .a [0x02#8, 0x03#8, 0x0D#8, 0x05#8, 0x00#8, 0xE9#8] = .setParameter .a 0x0D#8 5#16 ∧
    decodeFrame .b [0x07#8, 0x02#8, 0x10#8, 0x0E#8, 0xD9#8] = .standby .b 3600#16 ∧
    decodeFrame .a [0x11#8, 0x01#8, 0x08#8, 0xE6#8] = .indexRead .a 8#8 ∧
    decodeFrame .a [0x20#8, 0x0B#8, 0x07#8, 0x00#8, 0xDC#8, 0x00#8, 0x00#8, 0x00#8, 0x00#8, 0x00#8, 0x01#8, 0x00#8, 0x05#8, 0xEC#8] =
      .retrieve .a 7#8 (target 0x00#8 220#16) 0x01#8 0x00#8 5#8 ∧
    decodeFrame .a [0x31#8, 0x03#8, 0x02#8, 0x00#8, 0x02#8, 0xC8#8] = .passStart .a 2#8 0x00#8 2#8 ∧
    decodeFrame .a [0x41#8, 0x04#8, 0x0F#8, 0x00#8, 0x9A#8, 0x01#8, 0x11#8] = .score .a 15#8 0#8 410#16 ∧
    decodeFrame .a [0x52#8, 0x03#8, 0x00#8, 0x01#8, 0x04#8, 0xA6#8] = .setFlagMask .a 0x00#8 0x401#16 := by decide

/-- The table gives no row any bits. -/
theorem test_no_word_spells_a_command : decodeTableWord 8 0x21 = none := by rfl

/-- A command put in front is the one the next step runs. -/
theorem test_front_command_runs :
    (next (waiting [.setParameter .a 0x0D#8 200#16, .nop .a] State.reset)).params.agingLimit = 15 ∧
    (next (waiting [.setParameter .a 0x0D#8 200#16, .nop .a] State.reset)).pending = [.nop .a] := by decide

/-! ### Worked sequences of the spec, single steps of them -/

/-- 02, discovery, step 1: the mark at 133,020 is the next frame and pitch_q becomes 48,180. -/
theorem test_discovery_adds_and_moves_the_pitch :
    let t := after .markTrailingEdge (discovery 130000 48160 133020 120)
    t.index.pitchQ = 48180 ∧ t.index.entries.map (·.position) = [130000, 133020] ∧
      t.index.counters = { batch := 2, document := 5, page := 4 } := by decide

/-- 02, discovery, step 2: the mark at 142,080 fills two frames and leaves the pitch. -/
theorem test_discovery_fills :
    let t := after .markTrailingEdge (discovery 133020 48180 142080 120)
    t.index.pitchQ = 48180 ∧ t.index.entries.map (·.position) = [133020, 136031, 139043, 142080] ∧
      t.index.entries.map (·.source) = [.observed, .filled, .filled, .observed] := by decide

/-- 02, discovery, step 3: the mark at 143,600 is stray. -/
theorem test_discovery_marks_a_stray :
    let t := after .markTrailingEdge (discovery 142080 48180 143600 120)
    t.index.entries.map (·.position) = [142080] ∧ t.index.entries.map (·.flags.strayNear) = [true] := by decide

/-- 02, discovery, step 7: after blank film the mark at 164,080 is the next frame with GAP. -/
theorem test_discovery_leaves_a_gap :
    let t := after .markTrailingEdge (discovery 149020 48197 164080 120)
    t.index.pitchQ = 48197 ∧ t.index.entries.map (·.position) = [149020, 164080] ∧
      t.index.entries.map (·.flags.gap) = [false, true] := by decide

/-- 02, resighting after slip, before step 1: frames 100 and 101 stand here as frames 1 and 2. -/
def slipped : State :=
  let s := discovery 400000 48000 401100 120
  { s with tracker := { s.tracker with register := 401220 }
           index := { s.index with entries := s.index.entries ++ [{ frameTwo with position := 403000 }] } }

/-- 02, resighting after slip, step 1: a large correction. -/
theorem test_slip_is_corrected :
    let t := after .markTrailingEdge slipped
    t.tracker.register = 400120 ∧ t.tracker.level = .drifting ∧ t.linkB.flags.transport = some .drift := by decide

/-- 03, a frame reached through a stall: the plan of step 1. -/
theorem test_near_frame_plan :
    framePlan { parked with tracker := { parked.tracker with register := 322400 } } 316100 =
      [{ direction := .reverse, cls := .shuttle, stop := .coord 310100 },
       { direction := .forward, cls := .creep, stop := .target }] := by decide

/-- 05, the worked sweep: its points and its fit. -/
theorem test_worked_sweep :
    fitScores 64 20 [1940, 1960, 1980, 2000, 2020, 2040, 2060] [410, 520, 690, 760, 740, 600, 450] =
      { result := .fitted, step := some 2006, quality := some .good } := by decide

/-- 05, fits at the limits: a tie goes to the lower point and a half rounds away from zero; a peak at an end is EDGE. -/
theorem test_fits_at_the_limits :
    fitScores 64 15 [970, 985, 1000, 1015, 1030] [200, 500, 800, 800, 300] =
      { result := .fitted, step := some 1008, quality := some .good } ∧
    fitScores 64 20 [1480, 1500, 1520] [800, 900, 500] = { result := .fitted, step := some 1494, quality := some .good } ∧
    fitScores 64 10 [1480, 1490, 1500, 1510, 1520] [900, 850, 700, 500, 400] =
      { result := .atLimit, step := some 1480, quality := some .edge } := by decide

/-- 07, the worked pass, step 7. -/
theorem test_worked_pass_sweep :
    fitScores 64 15 [1980, 1995, 2010, 2025, 2040] [300, 520, 610, 580, 400] =
      { result := .fitted, step := some 2014, quality := some .good } := by decide

/-- 08, the worked tag load: record 0, a zone, and a record with a wrong check byte. -/
theorem test_worked_tag_records :
    readRecord (rollARecord { builtInProfile with rollId := 40213#32, leader := 249984 }) = some (.rollA 40213#32 249984) ∧
    readRecord (zoneRecord { start := 200, step := 2010, source := .sweep, quality := .good }) =
      some (.zone 200 2010 .sweep .good) ∧
    readRecord (checkRecord 384 1322384 .document + 1#64) = none := by decide

/-- 09, step 1: input 0 newly asserted starts a tag load and both links' SENSOR. -/
theorem test_insertion :
    let s := { State.reset with poller := { values := 0#64, stale := 0#8, firstRoundDone := true, faults := 0 } }
    let t := after (.pollByteRead true 0x01#8) s
    t.roll.cartridge = true ∧ t.tag.status = .reading ∧ t.bus.transfer = some (.record .read) ∧
      t.sensorFlag .a = true ∧ t.sensorFlag .b = true ∧ t.notice .a = true := by decide

/-- 09, step 7: a third low line makes the bus FAILED. -/
theorem test_bus_fails :
    let t := after (.recoveryAttemptEnd false) (faultyBus .recovering 2 (.record .read))
    t.bus.state = .failed ∧ t.poller.stale = 0xFF#8 ∧ t.linkA.flags.transport = some .aux := by decide

/-! ### Single steps -/

theorem test_device_reset_keeps_the_queue :
    (after (.deviceReset .film true) queued).pending = [.encoderCount .forward] ∧
    (after (.deviceReset .film true) queued).focus.status = .ready := by decide

theorem test_status_answer_bytes :
    ((answerFrame (after (.status .a) State.reset).linkA.answer).take 4).length = 4 ∧
    (answerFrame (after (.nop .a) State.reset).linkA.answer).foldl (· + ·) 0#8 = 0#8 := by decide

theorem test_wake_count_stays_at_zero : (after .wakeCountTick counted).roll.wakeCount = some 0 := by decide

theorem test_retrieve_starts_a_move :
    let t := after (.retrieve .b 1#8 (target 0x00#8 1#16) 0x00#8 0x00#8 9#8) parked
    t.sched.grant = .slot 0 ∧ t.transport.state = .moving ∧ (t.slot 0).state = .travelling ∧
      t.linkB.answer.code = .accepted := by decide

theorem test_release_frees_the_gate :
    (after (.release .a 7#8) presenting).transport.state = .parked ∧ (after (.release .b 7#8) presenting).linkB.answer.code = .noTag := by
  decide

theorem test_unload_ends_slots :
    ((after (.unload .a) (oneSlot pendingSlot)).slot 0).result.map (·.code) = some .unloaded := by decide

theorem test_door_opened_in_motion_faults :
    let s := withMove (frameMove (.coord 300000) []) (inState .moving (polling 0 none))
    (after (.pollByteRead true 0x05#8) s).transport.fault = .door := by decide

theorem test_trailer_closes_the_index :
    (after .trailerIn (trailing none)).index.closure = some .trailer ∧
    (after .trailerIn (trailing none)).linkA.flags.index = some .closed := by decide

/-- R11, R68: a trailer firing with the film at rest is ignored, a forward leg to come or not. -/
theorem test_trailer_at_rest_is_ignored :
    let s := withMove (frameMove (.coord 300000) []) (inState .moving parked)
    exec .trailerIn s = .next s := by rfl

theorem test_register_stops_at_its_maximum : (next queued).tracker.register = 16777215 := by decide

theorem test_overrun_faults : (next atEdge).transport.fault = .overrun := by decide

theorem test_score_of_another_link : (after (.score .b 5#8 1#8 700#16) (swept 1)).linkB.answer.code = .owner := by decide

theorem test_gate_line :
    presenting.gateLine = true ∧ parked.gateLine = false ∧ (swept 1).gateLine = true ∧ capturing.gateLine = true := by decide

theorem test_set_parameter_statement_applies (h : Obligations.SetParameterClamps) :
    exec (.setParameter .a 0x00#8 9#16) parked = .next (after (.setParameter .a 0x00#8 9#16) parked) ∧
    ¬ (0x13#8 : Byte) < 0x13#8 ∧ (0x13#8 : Byte) < 0x14#8 :=
  ⟨h.1 0x00#8 10 2550 _ List.mem_cons_self .a 9#16 parked, by decide, by decide⟩

end Sys2Proof.Tests
end

section
/-! PROOFS. The zone table as a list in start order, and what ZONE SET, ZONE REMOVE and ZONE READ make of it (R101 to R104). -/

namespace Sys2Proof.Machine

open Sys2Proof

/-! ### The zone table as an ascending list -/

/-- In an ascending table `putZone` stands the zone between the zones before its start and the zones after it; a zone of the same
start goes. -/
theorem putZone_eq_filter (z : Zone) (zs : List Zone) (h : zonesAscend zs) :
    putZone z zs = zs.filter (fun y => y.start < z.start) ++ z :: zs.filter (fun y => z.start < y.start) := by
  induction zs with
  | nil => rfl
  | cons y ys ih =>
    obtain ⟨hy, hys⟩ := List.pairwise_cons.mp h
    by_cases hlt : y.start < z.start
    · simp [putZone, hlt, hlt.not_gt, hlt.ne', ih hys]
    · have below : ys.filter (fun x => x.start < z.start) = [] :=
        List.filter_eq_nil_iff.mpr fun x hx => by have := hy x hx; simp; omega
      have above : ys.filter (fun x => z.start < x.start) = ys :=
        List.filter_eq_self.mpr fun x hx => by have := hy x hx; simp; omega
      by_cases heq : y.start = z.start
      · simp [putZone, heq, below, above]
      · have hgt : z.start < y.start := by omega
        simp [putZone, hgt, hlt, below, above]

theorem mem_putZone (z : Zone) (zs : List Zone) (h : zonesAscend zs) (x : Zone) :
    x ∈ putZone z zs ↔ x = z ∨ (x ∈ zs ∧ x.start ≠ z.start) := by
  rw [putZone_eq_filter z zs h, ← lt_or_lt_iff_ne]
  simp only [List.mem_append, List.mem_cons, List.mem_filter, decide_eq_true_eq]
  tauto

theorem zonesAscend_putZone (z : Zone) (zs : List Zone) (h : zonesAscend zs) : zonesAscend (putZone z zs) := by
  rw [putZone_eq_filter z zs h, zonesAscend, List.pairwise_append, List.pairwise_cons]
  refine ⟨h.filter _, ⟨?_, h.filter _⟩, ?_⟩ <;>
    simp only [List.mem_cons, List.mem_filter, decide_eq_true_eq]
  · exact fun y hy => hy.2
  · rintro x ⟨-, hx⟩ y (rfl | ⟨-, hy⟩)
    · exact hx
    · exact hx.trans hy

/-- Taking the zone of a start out of an ascending table leaves the zones before it and after it. -/
theorem filter_start_ne (before after : List Zone) (z : Zone) (h : zonesAscend (before ++ z :: after)) :
    (before ++ z :: after).filter (fun y => y.start != z.start) = before ++ after := by
  obtain ⟨-, hz, hb⟩ := List.pairwise_append.mp h
  have keepBefore : before.filter (fun y => y.start != z.start) = before :=
    List.filter_eq_self.mpr fun y hy => by simpa using (hb y hy z List.mem_cons_self).ne
  have keepAfter : after.filter (fun y => y.start != z.start) = after :=
    List.filter_eq_self.mpr fun y hy => by simpa using (List.rel_of_pairwise_cons hz hy).ne'
  simp [keepBefore, keepAfter]

/-- Zones up to frame `k` and then zones beyond it: the last one before the cut covers `k` (R101). -/
theorem coveringZone_append (k : Nat) (before after : List Zone) (hb : ∀ y ∈ before, y.start ≤ k)
    (ha : ∀ y ∈ after, k < y.start) : coveringZone k (before ++ after) = before.getLast? := by
  have keepBefore : before.filter (fun y => y.start ≤ k) = before :=
    List.filter_eq_self.mpr fun y hy => by simpa using hb y hy
  have dropAfter : after.filter (fun y => y.start ≤ k) = [] :=
    List.filter_eq_nil_iff.mpr fun y hy => by simpa using ha y hy
  simp [coveringZone, keepBefore, dropAfter]

/-- A zone put into the table covers its own start. -/
theorem coveringZone_putZone (z : Zone) (zs : List Zone) (h : zonesAscend zs) :
    coveringZone z.start (putZone z zs) = some z := by
  rw [putZone_eq_filter z zs h, List.append_cons, coveringZone_append]
  · exact List.getLast?_concat
  · intro y hy
    obtain hy | rfl : y ∈ zs.filter (fun y => y.start < z.start) ∨ y = z := by simpa using hy
    · exact (of_decide_eq_true (List.mem_filter.mp hy).2).le
    · exact le_rfl
  · exact fun y hy => of_decide_eq_true (List.mem_filter.mp hy).2

/-- A frame that a zone covers has that zone's step (R101). -/
theorem zoneStep_of_some (s : State) {k : Nat} {z : Zone} (h : coveringZone k s.zones = some z) : s.zoneStep k = z.step := by
  rw [State.zoneStep, h]

/-- A frame before the first zone has the roll's default step (R101). -/
theorem zoneStep_of_none (s : State) {k : Nat} (h : coveringZone k s.zones = none) :
    s.zoneStep k = s.roll.active.defaultStep := by
  rw [State.zoneStep, h]

/-! ### How the requests on the zone table are answered -/

/-- The frames a request may name (R102, R103). -/
theorem frameInRange_toNat (k : Half) : frameInRange k.toNat = true ↔ 1#16 ≤ k ∧ k ≤ 16384#16 := by
  rw [frameInRange, Bool.and_eq_true, decide_eq_true_eq, decide_eq_true_eq, Config.maxFrames]
  bv_omega

theorem frameInRange_toNat_eq_false (k : Half) : frameInRange k.toNat = false ↔ k = 0#16 ∨ 16384#16 < k := by
  rw [← Bool.not_eq_true, frameInRange_toNat]
  bv_omega

/-- A request whose owner does the same with the link's stream closed is answered in the state its owner leaves. -/
theorem quietRequest_changed (l : Link) (code : Byte) (owner : State → State × Reply) (s : State)
    (h : owner (closeStream l s) = (closeStream l (owner s).1, (owner s).2)) :
    quietRequest l code owner s = .next (answered l (owner s).2.code code (owner s).2.contents (owner s).1) := by
  simp only [quietRequest, h, setAnswer_closeStream]

/-- A reply that the link's stream plays no part in is all that changes. -/
theorem answerOnly_eq (l : Link) (code : Byte) (owner : State → Reply) (s : State) (h : owner (closeStream l s) = owner s) :
    answerOnly l code owner s = .next (answered l (owner s).code code (owner s).contents s) :=
  quietRequest_answered l code _ s (owner s) (congrArg (Prod.mk _) h)

theorem zoneSet_closeStream (l : Link) (start step : Nat) (s : State) :
    zoneSet start step (closeStream l s) = (closeStream l (zoneSet start step s).1, (zoneSet start step s).2) := by
  simp only [zoneSet, closeStream_transport, closeStream_zones]
  split_ifs <;> cases l <;> rfl

theorem zoneRemove_closeStream (l : Link) (start : Nat) (s : State) :
    zoneRemove start (closeStream l s) = (closeStream l (zoneRemove start s).1, (zoneRemove start s).2) := by
  simp only [zoneRemove, closeStream_transport, closeStream_zones]
  split_ifs <;> cases l <;> rfl

theorem exec_zoneSet_of_eq {start step : Half} {s t : State} {r : Reply} (l : Link)
    (h : zoneSet start.toNat step.toNat s = (t, r)) :
    exec (.zoneSet l start step) s = .next (answered l r.code 0x42#8 r.contents t) := by
  have run := quietRequest_changed l 0x42#8 _ s (zoneSet_closeStream l start.toNat step.toNat s)
  rwa [h] at run

theorem exec_zoneRemove_of_eq {start : Half} {s t : State} {r : Reply} (l : Link)
    (h : zoneRemove start.toNat s = (t, r)) :
    exec (.zoneRemove l start) s = .next (answered l r.code 0x43#8 r.contents t) := by
  have run := quietRequest_changed l 0x43#8 _ s (zoneRemove_closeStream l start.toNat s)
  rwa [h] at run

/-- ZONE READ is only answered, in every transport state (R104). -/
theorem exec_zoneRead (l : Link) (n : Byte) (s : State) :
    exec (.zoneRead l n) s =
      if n = 0#8 ∨ 32#8 < n then .next (answered l .range 0x44#8 .empty s)
      else .next (answered l .ok 0x44#8
        (.zones s.zones.length ((s.zones.drop (n.toNat - 1)).take 4) s.sweep.last) s) := by
  have outside : (n.toNat = 0 ∨ Config.maxZones < n.toNat) ↔ (n = 0#8 ∨ 32#8 < n) := by
    simp only [Config.maxZones]
    bv_omega
  change execZoneRead l n s = _
  rw [execZoneRead, answerOnly_eq _ _ _ _ (by simp only [closeStream_zones, closeStream_sweep])]
  simp only [outside]
  split_ifs <;> rfl

/-! ### The checks of ZONE SET and ZONE REMOVE, in their order -/

/-- The zone that ZONE SET stores, its step within the lens's range (R102). -/
def zoneAsSet (start step : Nat) : Zone :=
  { start := start, step := min Config.maxStep step, source := .set, quality := .good }

theorem zoneSet_noRoll {s : State} (start step : Nat)
    (h : s.transport.state = .empty ∨ s.transport.state = .threading) : zoneSet start step s = (s, refuse .noRoll) :=
  if_pos h

theorem zoneSet_rewinding {s : State} (start step : Nat) (h : s.transport.state = .rewinding) :
    zoneSet start step s = (s, refuse .state) := by
  simp [zoneSet, h]

theorem zoneRemove_noRoll {s : State} (start : Nat)
    (h : s.transport.state = .empty ∨ s.transport.state = .threading) : zoneRemove start s = (s, refuse .noRoll) :=
  if_pos h

theorem zoneRemove_rewinding {s : State} (start : Nat) (h : s.transport.state = .rewinding) :
    zoneRemove start s = (s, refuse .state) := by
  simp [zoneRemove, h]

section RollInPlace

variable {s : State} (hempty : s.transport.state ≠ .empty) (hthreading : s.transport.state ≠ .threading)
  (hrewinding : s.transport.state ≠ .rewinding) {start : Nat}

include hempty hthreading hrewinding

theorem zoneSet_range (step : Nat) (h : frameInRange start = false) : zoneSet start step s = (s, refuse .range) := by
  simp [zoneSet, hempty, hthreading, hrewinding, h]

theorem zoneSet_full (step : Nat) (h : frameInRange start = true) (hnew : ∀ z ∈ s.zones, z.start ≠ start)
    (hfull : Config.maxZones ≤ s.zones.length) : zoneSet start step s = (s, refuse .full) := by
  have absent : s.zones.any (fun z => z.start == start) = false := by simpa using hnew
  simp [zoneSet, hempty, hthreading, hrewinding, h, hfull, absent]

theorem zoneSet_accepted (step : Nat) (h : frameInRange start = true)
    (hroom : (∃ z ∈ s.zones, z.start = start) ∨ s.zones.length < Config.maxZones) :
    zoneSet start step s =
      (setDirty { s with zones := putZone (zoneAsSet start step) s.zones },
        { code := .ok, contents := .number 2 (min Config.maxStep step) }) := by
  have notFull : ¬ (s.zones.any (fun z => z.start == start) = false ∧ Config.maxZones ≤ s.zones.length) := by
    rintro ⟨hnew, hfull⟩
    obtain ⟨z, hz, hstart⟩ | hlt := hroom
    · exact List.any_eq_false.mp hnew z hz (beq_iff_eq.mpr hstart)
    · omega
  simp only [zoneSet, hempty, hthreading, hrewinding, h, notFull, or_self, Bool.true_eq_false, if_false, zoneAsSet]

theorem zoneRemove_range (h : (∀ z ∈ s.zones, z.start ≠ start) ∨ frameInRange start = false) :
    zoneRemove start s = (s, refuse .range) := by
  have refused : frameInRange start = false ∨ s.zones.any (fun z => z.start == start) = false := by
    simpa [or_comm] using h
  simp only [zoneRemove, hempty, hthreading, hrewinding, refused, or_self, if_true, if_false]

/-- Accepted, ZONE REMOVE leaves the zones before and after the one of that start (R103). -/
theorem zoneRemove_accepted (hasc : zonesAscend s.zones) (h : frameInRange start = true) {before after : List Zone} {z : Zone}
    (hz : z.start = start) (hzones : s.zones = before ++ z :: after) :
    zoneRemove start s = (setDirty { s with zones := before ++ after }, okReply) := by
  rw [hzones] at hasc
  have taken : s.zones.filter (fun y => y.start != start) = before ++ after := by
    rw [hzones, ← hz, filter_start_ne before after z hasc]
  have found : s.zones.any (fun y => y.start == start) = true := by simp [hzones, hz]
  simp [zoneRemove, hempty, hthreading, hrewinding, h, found, taken]

end RollInPlace

/-! ### The obligations -/

/-- Settles O49: the accepted request puts the zone into an ascending table. -/
theorem zoneSetStores : Obligations.ZoneSetStores := by
  intro l start step s hasc
  refine ⟨fun h => exec_zoneSet_of_eq l (zoneSet_noRoll _ _ h), fun h => exec_zoneSet_of_eq l (zoneSet_rewinding _ _ h),
    fun hempty hthreading hrewinding => ⟨fun h => ?_, fun hlow hhigh => ?_⟩⟩
  · exact exec_zoneSet_of_eq l
      (zoneSet_range hempty hthreading hrewinding _ ((frameInRange_toNat_eq_false start).mpr h))
  have hstart : frameInRange start.toNat = true := (frameInRange_toNat start).mpr ⟨hlow, hhigh⟩
  refine ⟨fun hnew hfull => exec_zoneSet_of_eq l (zoneSet_full hempty hthreading hrewinding _ hstart hnew hfull),
    fun hroom => ?_⟩
  refine ⟨putZone (zoneAsSet start.toNat step.toNat) s.zones,
    exec_zoneSet_of_eq l (zoneSet_accepted hempty hthreading hrewinding _ hstart hroom),
    zonesAscend_putZone _ s.zones hasc, mem_putZone _ s.zones hasc, ?_⟩
  have covered : coveringZone start.toNat (putZone (zoneAsSet start.toNat step.toNat) s.zones) =
      some (zoneAsSet start.toNat step.toNat) :=
    coveringZone_putZone (zoneAsSet start.toNat step.toNat) s.zones hasc
  exact zoneStep_of_some { s with zones := _ } covered

/-- Settles O50: taking a zone out of an ascending table leaves its frames to the zone before; ZONE READ takes the rows off the
table by ordinal. -/
theorem zoneRemoveAndRead : Obligations.ZoneRemoveAndRead := by
  refine ⟨fun l start s hasc => ⟨fun h => exec_zoneRemove_of_eq l (zoneRemove_noRoll _ h),
    fun h => exec_zoneRemove_of_eq l (zoneRemove_rewinding _ h), fun hempty hthreading hrewinding => ⟨fun h => ?_, ?_⟩⟩,
    fun l n s => ⟨fun h => ?_, fun hlow hhigh => ?_⟩⟩
  · rw [← frameInRange_toNat_eq_false] at h
    exact exec_zoneRemove_of_eq l (zoneRemove_range hempty hthreading hrewinding h)
  · intro before after z hlow hhigh hz hzones
    have hstart : frameInRange start.toNat = true := (frameInRange_toNat start).mpr ⟨hlow, hhigh⟩
    refine ⟨exec_zoneRemove_of_eq l (zoneRemove_accepted hempty hthreading hrewinding hasc hstart hz hzones),
      fun k hk hafter => ?_⟩
    rw [hzones] at hasc
    obtain ⟨-, -, hbefore⟩ := List.pairwise_append.mp hasc
    have below : ∀ y ∈ before, y.start ≤ k := fun y hy => (hbefore y hy z List.mem_cons_self).le.trans hk
    have covered := coveringZone_append k before after below hafter
    cases hlast : before.getLast? with
    | none => exact zoneStep_of_none { s with zones := _ } (covered.trans hlast)
    | some y => exact zoneStep_of_some { s with zones := _ } (covered.trans hlast)
  · rw [exec_zoneRead, if_pos h]
  · refine ⟨(s.zones.drop (n.toNat - 1)).take 4, ?_, fun i => ?_, fun habove => ?_⟩
    · rw [exec_zoneRead, if_neg (by bv_omega)]
    · rw [List.getElem?_take, List.getElem?_drop]
    · rw [List.drop_eq_nil_of_le (by omega), List.take_nil]

end Sys2Proof.Machine
end

section
/-! PROOFS. What every command does to the state besides answering, said once for all commands; and what every command leaves alone:
the queue, the parameters, and what each link holds for itself. -/

namespace Sys2Proof.Machine

open Sys2Proof

/-- The FT-340 answers every command with a next state. -/
theorem exec_next (c : Instr) (s : State) : ∃ t, exec c s = .next t := by
  cases c <;> exact ⟨_, rfl⟩

/-! ### The effect of a command -/

/-- What a command does to the state, but for its answer, the closing of its link's stream and what follows from it. -/
def effect (c : Instr) (s : State) : State :=
  match c with
  | .deviceReset x h => { State.resetWith x h with pending := s.pending, freeCount := s.freeCount }
  | .malformedFrame _ | .unknownRequestCode _ _ | .nop _ | .status _ | .resolve _ _ | .passReport _ _ | .zoneRead _ _ => s
  | .setParameter _ code v =>
    match storeParameter code v.toNat s.params with
    | some (p, _) => { s with params := p }
    | none => s
  | .setProfileField _ field v => (setProfileField field v s).1
  | .setDefaultProfileField _ field v =>
    match decodeField field with
    | none => s
    | some f =>
      if fieldInRange s.roll.default v.toNat f = false then s
      else { s with roll := { s.roll with default := storeField s.roll.default v f } }
  | .load _ => (load s).1
  | .unload _ => (unload s).1
  | .standby _ n => (standby n.toNat s).1
  | .wake _ => (wake s).1
  | .clearFault _ => (clearFault s).1
  | .readSensors l => onLink l (fun k => { k with latches := 0#64 }) s
  | .linkReset l => linkReset l s
  | .indexWindow l first last order =>
    match decodeOrder order with
    | none => s
    | some o =>
      if frameInRange first.toNat && frameInRange last.toNat && decide (first.toNat ≤ last.toNat) then
        let w : Stream :=
          { order := o, first := first.toNat, last := last.toNat,
            pointer := match o with
              | .ascending => first.toNat
              | .descending => last.toNat }
        onLink l (fun k => { k with stream := some w }) s
      else s
  | .indexRead l n => (indexRead l n.toNat s).1
  | .indexWrite _ n d1 d2 d3 d4 => (indexWrite n.toNat [d1, d2, d3, d4] s).1
  | .indexClear _ => if clearAllowed s then indexClear s else s
  | .retrieve l tag target action priority hold => (retrieve l tag target action priority hold s).1
  | .release l tag => (release l tag s).1
  | .cancel l tag => (cancel l tag s).1
  | .query l tag => (query l tag s).1
  | .collect l x tag => (collect l x tag s).1
  | .passSegment l place first last action policy interval halfWidth stepSize stopMask =>
    (passSegment l place.toNat first last action policy interval halfWidth stepSize stopMask s).1
  | .passStart l n mode y => (passStart l n.toNat mode y.toNat s).1
  | .passSuspend l => (passSuspend l s).1
  | .passResume l => (passResume l s).1
  | .passAbort l => (passAbort l s).1
  | .captured l k r => (captured l k.toNat r s).1
  | .focusSweep l k x c h z store => (focusSweep l k.toNat x c h.toNat z.toNat store s).1
  | .score l n p v => (score l n.toNat p.toNat v.toNat s).1
  | .zoneSet _ start step => (zoneSet start.toNat step.toNat s).1
  | .zoneRemove _ start => (zoneRemove start.toNat s).1
  | .readFlags l => onLink l (fun k => if k.clearMode = .clearOnRead then { k with flags := Flags.clear } else k) s
  | .clearFlags l named =>
    if 0x80#16 ≤ named then s else onLink l (fun k => { k with flags := k.flags.without (named.setWidth 11) }) s
  | .setFlagMask l name bits =>
    if name ≠ 0x00#8 ∨ 0x800#16 ≤ bits then s else onLink l (fun k => { k with flagMask := bits.setWidth 11 }) s
  | .setInputMask l byte bits =>
    if 8 ≤ byte.toNat then s else onLink l (fun k => { k with inputMask := putByte byte.toNat bits k.inputMask }) s
  | .setClearMode l mode =>
    match decodeClearMode mode with
    | some m => onLink l (fun k => { k with clearMode := m }) s
    | none => s
  | .suppress l => if s.bus.state = .failed then s else onLink l (fun k => { k with suppress := .waiting }) s
  | .encoderCount d => encoderCount d s
  | .markLeadingEdge => leadingEdge s
  | .markTrailingEdge => trailingEdge s
  | .spliceIn => spliceFired s
  | .leaderInChange level => leaderChanged level s
  | .trailerIn => trailerFired s
  | .filmAtRest => filmRested s
  | .stallTimerExpiry => if s.transport.stallTimer.isSome then stalled s else s
  | .backOffComplete => if backOffDone s then pauseFor .retry s else s
  | .leaderLostCount => if leaderLost s then enterFaulted .leaderLost s else s
  | .settleExpiry => if s.transport.settleTimer.isSome then settleExpired s else s
  | .gatePulseEnd => { s with transport := { s.transport with pulse := none } }
  | .threadTimerExpiry =>
    if s.transport.state = .threading ∧ s.roll.threadTimer.isSome = true then enterFaulted .threadFail s else s
  | .warmTimerExpiry => if s.lamp.state = .warming ∧ s.lamp.warmTimer.isSome = true then warmExpired s else s
  | .idleTimerExpiry => if s.transport.state = .parked ∧ s.roll.idleTimer.isSome = true then enterStandby none s else s
  | .wakeCountTick => { s with roll := { s.roll with wakeCount := s.roll.wakeCount.map (· - 1) } }
  | .wakeCountExpiry => if s.transport.state = .standby ∧ s.roll.wakeCount = some 0 then enterWaking s else s
  | .tensionTimerExpiry => if s.roll.tensionTimer.isSome then tensionExpired s else s
  | .holdTimerExpiry =>
    match s.timedSlot with
    | some i => endPresenting i .holdExpired s
    | none => s
  | .captureTimerExpiry =>
    if s.pass.work = .awaitingCapture ∧ s.pass.captureTimer.isSome = true then captureTimeout s else s
  | .scoreTimerExpiry => if scoreAwaited s then endSweepBare .timeout s else s
  | .focusStep focHome => stepLens focHome s
  | .homingStepLimit =>
    if s.focus.status = .homing ∧ Config.homingLimit ≤ s.focus.homingSteps then homeNotFound s else s
  | .pollByteRead acknowledged value => if transferring .poll s then pollEnded acknowledged value s else s
  | .tagRecordRead acknowledged record =>
    if transferring (.record .read) s then recordEnded (recordRead acknowledged record) s else s
  | .tagRecordWrite acknowledged =>
    if transferring (.record .write) s then recordEnded (recordWritten acknowledged) s else s
  | .busTimerExpiry => if s.bus.state = .running ∧ s.bus.timer.isSome = true then busFault s else s
  | .recoveryAttemptEnd high => if s.bus.state = .recovering then recoveryEnded high s else s

/-- What the record of a command's own link, the command's effect and what follows from it keep, the command keeps. -/
theorem exec_keeps {P : State → Prop} {c : Instr} {s t : State}
    (hlink : ∀ l, linkOf c = some l → ∀ f x, P x → P (onLink l f x)) (hfinish : ∀ x, P x → P (finish x))
    (heffect : ∀ x, P x → P (effect c x)) (h : exec c s = .next t) (hs : P s) : P t := by
  have answered : ∀ l a u, linkOf c = some l → u = effect c (closeStream l s) → P (setAnswer l a u) :=
    fun l a u hl hu => hlink l hl _ _ (hu ▸ heffect _ (hlink l hl _ _ hs))
  cases c with
  | deviceReset | markLeadingEdge | spliceIn | gatePulseEnd | wakeCountTick => cases h; exact heffect _ hs
  | malformedFrame l => cases h; exact hlink l rfl _ _ (hlink l rfl _ _ hs)
  | indexRead l n => cases h; exact hlink l rfl _ _ (heffect _ hs)
  | load l | unload l | standby l | wake l | clearFault l | indexWrite l | retrieve l | release l | cancel l | passStart l
  | passSuspend l | passResume l | passAbort l | captured l | focusSweep l | score l =>
    cases h
    exact hfinish _ (answered l _ _ rfl rfl)
  | unknownRequestCode l | nop l | status l | setProfileField l | readSensors l | linkReset l | resolve l | query l
  | collect l | passSegment l | passReport l | zoneSet l | zoneRemove l | zoneRead l | readFlags l =>
    cases h
    exact answered l _ _ rfl rfl
  | setParameter l | setDefaultProfileField l | indexWindow l | indexClear l | setFlagMask l | setInputMask l
  | setClearMode l | suppress l =>
    cases h
    refine answered l _ _ rfl ?_
    simp only [effect]
    (repeat' split) <;> first | rfl | simp_all
  | clearFlags l named =>
    cases h
    refine answered l _ _ rfl ?_
    simp only [effect]
    (repeat' split) <;> first | rfl | (exfalso; bv_omega)
  | _ => cases h; exact hfinish _ (heffect _ hs)

/-! ### The base through the requests' owners -/

@[simp] theorem load_base (s : State) : (load s).1.still.base = s.still.base := by
  unfold load
  (repeat' split) <;> simp

@[simp] theorem unload_base (s : State) : (unload s).1.still.base = s.still.base := by
  unfold unload
  (repeat' split) <;> simp

@[simp] theorem standby_base (n : Nat) (s : State) : (standby n s).1.still.base = s.still.base := by
  unfold standby
  (repeat' split) <;> simp

@[simp] theorem wake_base (s : State) : (wake s).1.still.base = s.still.base := by
  unfold wake
  (repeat' split) <;> simp

@[simp] theorem clearFault_base (s : State) : (clearFault s).1.still.base = s.still.base := by
  unfold clearFault
  (repeat' split) <;> simp

@[simp] theorem setProfileField_base (c : Byte) (v : Quad) (s : State) : (setProfileField c v s).1.still.base = s.still.base := by
  unfold setProfileField
  (repeat' split) <;> simp

@[simp] theorem indexWrite_base (n : Nat) (ds : List ImportDesc) (s : State) : (indexWrite n ds s).1.still.base = s.still.base := by
  unfold indexWrite
  (repeat' split) <;> simp

@[simp] theorem release_base (l : Link) (tag : Byte) (s : State) : (release l tag s).1.still.base = s.still.base := by
  unfold release
  split
  · rfl
  · dsimp only
    (repeat' split) <;> simp

@[simp] theorem cancel_base (l : Link) (tag : Byte) (s : State) : (cancel l tag s).1.still.base = s.still.base := by
  unfold cancel
  (repeat' split) <;> simp

@[simp] theorem collectSlot_base (i : Nat) (s : State) : (collectSlot i s).1.still.base = s.still.base := by
  unfold collectSlot
  (repeat' split) <;> simp

@[simp] theorem collect_base (l : Link) (x tag : Byte) (s : State) : (collect l x tag s).1.still.base = s.still.base := by
  unfold collect
  (repeat' split) <;> simp

@[simp] theorem passStart_base (l : Link) (n : Nat) (m : Byte) (y : Nat) (s : State) : (passStart l n m y s).1.still.base = s.still.base := by
  unfold passStart
  (repeat' split) <;> simp

@[simp] theorem passSuspend_base (l : Link) (s : State) : (passSuspend l s).1.still.base = s.still.base := by
  unfold passSuspend
  (repeat' split) <;> simp

@[simp] theorem passResume_base (l : Link) (s : State) : (passResume l s).1.still.base = s.still.base := by
  unfold passResume
  (repeat' split) <;> simp

@[simp] theorem passAbort_base (l : Link) (s : State) : (passAbort l s).1.still.base = s.still.base := by
  unfold passAbort
  (repeat' split) <;> simp

@[simp] theorem captured_base (l : Link) (k : Nat) (r : Byte) (s : State) : (captured l k r s).1.still.base = s.still.base := by
  unfold captured
  (repeat' split) <;> simp

@[simp] theorem focusSweep_base (l : Link) (k : Nat) (c : Byte) (x : Half) (h z : Nat) (t : Byte) (s : State) : (focusSweep l k c x h z t s).1.still.base = s.still.base := by
  unfold focusSweep
  (repeat' split) <;> simp

@[simp] theorem score_base (l : Link) (n p v : Nat) (s : State) : (score l n p v s).1.still.base = s.still.base := by
  unfold score
  (repeat' split) <;> simp

@[simp] theorem zoneSet_base (a b : Nat) (s : State) : (zoneSet a b s).1.still.base = s.still.base := by
  unfold zoneSet
  (repeat' split) <;> simp

@[simp] theorem zoneRemove_base (a : Nat) (s : State) : (zoneRemove a s).1.still.base = s.still.base := by
  unfold zoneRemove
  (repeat' split) <;> simp

/-- The link's slots freed one after another leave the base. -/
@[simp] theorem freeSlots_base (l : Link) (n i : Nat) (s : State) : (freeSlots l n i s).still.base = s.still.base := by
  induction n generalizing i s with
  | zero => rfl
  | succ n ih =>
    rw [freeSlots]
    dsimp only
    rw [ih]
    (repeat' split) <;> simp

@[simp] theorem endLinkWork_base (l : Link) (s : State) : (endLinkWork l s).still.base = s.still.base := by
  unfold endLinkWork
  extract_lets s1 s2 s3
  have h1 : s1.still.base = s.still.base := by simp [s1]
  have h2 : s2.still.base = s.still.base := by
    simp only [s2]
    split <;> simp [h1]
  have h3 : s3.still.base = s.still.base := by
    simp only [s3]
    split <;> simp [h2]
  (repeat' split) <;> simp [h3]

/-! ### What a command on another link leaves -/

/-- The waiting commands, the parameters, and what the link `m` holds for itself. -/
def Base.outer (m : Link) (b : Base) : List Instr × Params × Wire :=
  (b.pending, b.params, match m with
    | .a => b.wireA
    | .b => b.wireB)

/-- The wire part of a link, the parameters and the queue are what `outer` shows. -/
theorem outer_eq (m : Link) (s : State) : s.still.base.outer m = (s.pending, s.params, (s.link m).wire) := by
  cases m <;> rfl

/-- A change of another link's record is not seen. -/
theorem onLink_outer {l m : Link} (hm : m ≠ l) (f : LinkState → LinkState) (s : State) :
    (onLink l f s).still.base.outer m = s.still.base.outer m := by
  rw [outer_eq, outer_eq, onLink_other l m f s hm, onLink_pending, onLink_params]

/-- The counter of retrieval requests is not seen. -/
theorem fillSlot_outer (m : Link) (i : Nat) (x : Slot) (s : State) :
    (fillSlot i x s).still.base.outer m = s.still.base.outer m := by
  rw [fillSlot, slotTaken_base]
  cases m <;> rfl

/-- The effect of a command on another link, and of every event, leaves the queue, the parameters and what the link `m` holds for
itself; SET PARAMETER and device reset are left out. -/
theorem effect_outer {c : Instr} {m : Link} (hm : linkOf c ≠ some m) (hparam : ∀ l code v, c ≠ .setParameter l code v)
    (hreset : ∀ x y, c ≠ .deviceReset x y) (s : State) : (effect c s).still.base.outer m = s.still.base.outer m := by
  have other : ∀ l, linkOf c = some l → m ≠ l := by
    rintro l hl rfl
    exact hm hl
  cases c with
  | deviceReset x y => exact absurd rfl (hreset x y)
  | setParameter l code v => exact absurd rfl (hparam l code v)
  | readSensors l | readFlags l => simp only [effect, onLink_outer (other l rfl)]
  | linkReset l => simp only [effect, linkReset, clearLink, onLink_outer (other l rfl), finish_still, endLinkWork_base]
  | indexRead l n =>
    simp only [effect, indexRead]
    (repeat' split) <;> simp [onLink_outer (other l rfl)]
  | retrieve l tag target action priority hold =>
    simp only [effect, retrieve]
    (repeat' split) <;> simp [fillSlot_outer]
  | query l tag =>
    simp only [effect, query]
    split <;> cases m <;> rfl
  | indexWindow l | clearFlags l | setFlagMask l | setInputMask l | setClearMode l | suppress l =>
    simp only [effect]
    (repeat' split) <;> simp only [onLink_outer (other l rfl)]
  | passSegment l =>
    simp only [effect, passSegment]
    (repeat' split) <;> simp only [onLink_outer (other l rfl)]
  | tagRecordRead | tagRecordWrite =>
    simp only [effect]
    split <;> simp [recordEnded_base]
  | malformedFrame | unknownRequestCode | nop | status | resolve | passReport | zoneRead => rfl
  | setDefaultProfileField | indexClear | stallTimerExpiry | backOffComplete | leaderLostCount | settleExpiry
  | threadTimerExpiry | warmTimerExpiry | idleTimerExpiry | wakeCountExpiry | tensionTimerExpiry | holdTimerExpiry
  | captureTimerExpiry | scoreTimerExpiry | homingStepLimit | pollByteRead | busTimerExpiry | recoveryAttemptEnd =>
    simp only [effect]
    (repeat' split) <;> simp
  | _ => simp [effect]

/-- What `effect_outer` leaves, the whole command leaves. -/
theorem exec_outer {c : Instr} {m : Link} {s t : State} (h : exec c s = .next t) (hm : linkOf c ≠ some m)
    (hparam : ∀ l code v, c ≠ .setParameter l code v) (hreset : ∀ x y, c ≠ .deviceReset x y) :
    t.still.base.outer m = s.still.base.outer m :=
  exec_keeps (P := fun x => x.still.base.outer m = s.still.base.outer m)
    (fun l hl f x hx => (onLink_outer (by rintro rfl; exact hm hl) f x).trans hx)
    (fun x hx => by rw [finish_still, hx]) (fun x hx => (effect_outer hm hparam hreset x).trans hx) h rfl

/-- Of the two links, one is not the one a command came on. -/
theorem exists_other_link (c : Instr) : ∃ m, linkOf c ≠ some m := by
  by_cases h : linkOf c = some .a
  · exact ⟨.b, by simp [h]⟩
  · exact ⟨.a, h⟩

/-- SET PARAMETER leaves the queue, and all that the other link holds. -/
theorem exec_setParameter_leaves {l m : Link} {code : Byte} {v : Half} {s t : State}
    (h : exec (.setParameter l code v) s = .next t) :
    t.pending = s.pending ∧ (m ≠ l → (t.link m).wire = (s.link m).wire) := by
  refine exec_keeps (P := fun x => x.pending = s.pending ∧ (m ≠ l → (x.link m).wire = (s.link m).wire)) ?_ ?_ ?_ h ⟨rfl, fun _ => rfl⟩
  · rintro k hk f x ⟨hp, hw⟩
    cases hk
    exact ⟨by simp [hp], fun hm => by rw [onLink_other l m f x hm, hw hm]⟩
  · rintro x ⟨hp, hw⟩
    have kept := congrArg (fun y => Base.outer m y.base) (finish_still x)
    simp only [outer_eq, Prod.mk.injEq] at kept
    exact ⟨kept.1.trans hp, fun hm => kept.2.2.trans (hw hm)⟩
  · rintro x ⟨hp, hw⟩
    simp only [effect]
    split
    · exact ⟨hp, fun hm => by rw [← hw hm]; cases m <;> rfl⟩
    · exact ⟨hp, hw⟩

/-! ### The obligations -/

/-- Settles O1: a step is `exec` on the front command. -/
theorem frontCommandRuns : Obligations.FrontCommandRuns := by
  refine ⟨fun c rest s h => ?_, fun s h => ?_⟩ <;> rw [step, h]

/-- No command touches the commands that wait behind it (log 2). -/
theorem exec_pending {c : Instr} {s t : State} (h : exec c s = .next t) : t.pending = s.pending := by
  obtain ⟨m, hm⟩ := exists_other_link c
  by_cases hp : ∃ l code v, c = .setParameter l code v
  · obtain ⟨l, code, v, rfl⟩ := hp
    exact (exec_setParameter_leaves (m := m) h).1
  by_cases hr : ∃ x y, c = .deviceReset x y
  · obtain ⟨x, y, rfl⟩ := hr
    cases h
    rfl
  · have kept := exec_outer h hm (fun l code v e => hp ⟨l, code, v, e⟩) (fun x y e => hr ⟨x, y, e⟩)
    simp only [outer_eq, Prod.mk.injEq] at kept
    exact kept.1

/-- What holds of both branches' values holds of the value of the choice. -/
theorem forall_mem_ite {α : Type} {R : α → Prop} {c : Prop} [Decidable c] {a b : Option α} (ha : ∀ y ∈ a, R y)
    (hb : ∀ y ∈ b, R y) : ∀ y ∈ (if c then a else b), R y := by
  split
  · exact ha
  · exact hb

/-- A value stored by SET PARAMETER lies in its parameter's range (R191). -/
theorem storeParameter_inRange (code : Byte) (v : Nat) {p : Params} (hp : p.inRange) :
    ∀ y ∈ storeParameter code v p, y.1.inRange := by
  unfold storeParameter
  repeat' refine forall_mem_ite ?_ ?_
  all_goals
    rintro _ ⟨⟩ <;> (simp only [Params.inRange, clampTo] at hp ⊢; (repeat' split) <;> omega)

/-- A command other than SET PARAMETER and device reset changes no parameter (R191). -/
theorem exec_params {c : Instr} {s t : State} (h : exec c s = .next t) (hparam : ∀ l code v, c ≠ .setParameter l code v)
    (hreset : ∀ x y, c ≠ .deviceReset x y) : t.params = s.params := by
  obtain ⟨m, hm⟩ := exists_other_link c
  have kept := exec_outer h hm hparam hreset
  simp only [outer_eq, Prod.mk.injEq] at kept
  exact kept.2.1

/-- Every command keeps the parameters in their ranges (R191). -/
theorem exec_params_inRange {c : Instr} {s t : State} (h : exec c s = .next t) (hs : s.params.inRange) : t.params.inRange := by
  by_cases hp : ∃ l code v, c = .setParameter l code v
  · obtain ⟨l, code, v, rfl⟩ := hp
    refine exec_keeps (P := fun x => x.params.inRange) (fun _ _ f x hx => by simpa using hx) (fun x hx => ?_) (fun x hx => ?_) h hs
    · have kept := congrArg Still.params (finish_still x)
      simpa only [show (finish x).params = x.params from kept] using hx
    · simp only [effect]
      split
      · next stored => exact storeParameter_inRange code v.toNat hx _ stored
      · exact hx
  by_cases hr : ∃ x y, c = .deviceReset x y
  · obtain ⟨x, y, rfl⟩ := hr
    cases h
    exact (by decide : defaultParams.inRange)
  · rwa [exec_params h (fun l code v e => hp ⟨l, code, v, e⟩) (fun x y e => hr ⟨x, y, e⟩)]

/-- A command from a quiet state leaves nothing undone: its consequences are carried out, or it has none (log 4). -/
theorem exec_quiet {c : Instr} {s t : State} (h : exec c s = .next t) (hs : Quiet s) : Quiet t := by
  have own (heffect : ∀ x, x.todo = [] → (effect c x).todo = []) : t.todo = [] :=
    exec_keeps (P := fun x => x.todo = []) (fun l _ f x hx => (onLink_todo l f x).trans hx) (fun x _ => finish_todo x) heffect h hs
  cases c with
  | deviceReset => exact own fun _ _ => rfl
  | malformedFrame | unknownRequestCode | nop | status | resolve | passReport | zoneRead | wakeCountTick | gatePulseEnd =>
    exact own fun _ hx => hx
  | readSensors | readFlags => exact own fun _ hx => (onLink_todo _ _ _).trans hx
  | linkReset => exact own fun x _ => by simp only [effect, linkReset, clearLink_todo, finish_todo]
  | setParameter | setDefaultProfileField | indexClear | indexWindow | clearFlags | setFlagMask | setInputMask
  | setClearMode | suppress =>
    refine own fun x hx => ?_
    simp only [effect, indexClear, emptyIndex]
    (repeat' split) <;> simpa using hx
  | setProfileField =>
    refine own fun x hx => ?_
    simp only [effect, setProfileField, setPitch]
    (repeat' split) <;> simpa using hx
  | indexRead =>
    refine own fun x hx => ?_
    simp only [effect, indexRead]
    (repeat' split) <;> simpa using hx
  | query =>
    refine own fun x hx => ?_
    simp only [effect, query]
    split <;> exact hx
  | collect =>
    refine own fun x hx => ?_
    simp only [effect, collect, collectSlot]
    (repeat' split) <;> simpa using hx
  | passSegment =>
    refine own fun x hx => ?_
    simp only [effect, passSegment]
    (repeat' split) <;> simpa using hx
  | zoneSet | zoneRemove =>
    refine own fun x hx => ?_
    simp only [effect, zoneSet, zoneRemove]
    (repeat' split) <;> simpa using hx
  | markLeadingEdge =>
    refine own fun x hx => ?_
    simp only [effect, leadingEdge]
    (repeat' split) <;> exact hx
  | spliceIn =>
    refine own fun x hx => ?_
    simp only [effect, spliceFired]
    (repeat' split) <;> simpa using hx
  | _ => cases h; exact finish_todo _

/-- A step takes the front command, or idles. -/
theorem step_cases {s t : State} (h : step s = .next t) :
    t = s ∨ ∃ c rest, s.pending = c :: rest ∧ exec c { s with pending := rest } = .next t := by
  unfold step at h
  split at h
  · cases h
    exact .inl rfl
  · next c rest hp => exact .inr ⟨c, rest, hp, h⟩

/-- Settles O4: the clamp of SET PARAMETER keeps every range, device reset gives the defaults, and no other command changes a
parameter. -/
theorem parametersAreKept : Obligations.ParametersAreKept := by
  refine ⟨fun s t hs h => ?_, fun c s t h hparam hreset => exec_params h hparam hreset⟩
  obtain rfl | ⟨c, rest, -, h⟩ := step_cases h
  · exact hs
  · exact exec_params_inRange h hs

/-- Settles O2: every command answers, leaves the queue, and carries out what follows from it. -/
theorem queueIsLeftAlone : Obligations.QueueIsLeftAlone := by
  refine ⟨fun c s => ?_, fun s t hs h => ?_⟩
  · obtain ⟨t, h⟩ := exec_next c s
    exact ⟨t, h, exec_pending h⟩
  · obtain rfl | ⟨c, rest, -, h⟩ := step_cases h
    · exact hs
    · exact exec_quiet h hs

/-- Settles O12: what a link holds for itself is its wire part. -/
theorem linksAreHeldApart : Obligations.LinksAreHeldApart := by
  intro c m s t h hm hreset
  have kept : (t.link m).wire = (s.link m).wire := by
    by_cases hp : ∃ l code v, c = .setParameter l code v
    · obtain ⟨l, code, v, rfl⟩ := hp
      exact (exec_setParameter_leaves h).2 (by rintro rfl; exact hm rfl)
    · have kept := exec_outer h hm (fun l code v e => hp ⟨l, code, v, e⟩) hreset
      simp only [outer_eq, Prod.mk.injEq] at kept
      exact kept.2.2
  simpa only [LinkState.wire, Wire.mk.injEq] using kept

end Sys2Proof.Machine
end

section
/-! PROOFS. The reset state, and the requests that only read or set what the part or the link holds: STATUS, the parameters, the
flags, the masks, the sensors (R183 to R193). -/

namespace Sys2Proof.Machine

open Sys2Proof

/-! ### The NOTICE line -/

/-- A flag set has an UNMASKED flag where one of its eleven bits is set and that of the mask is not. -/
theorem unmasked_iff (x m : BitVec 11) :
    ((x &&& ~~~m) != 0#11) = true ↔ ∃ i : Fin 11, x.getLsbD i = true ∧ m.getLsbD i = false := by
  rw [bne_iff_ne, ne_eq, ← not_iff_not, not_not, not_exists]
  constructor
  · intro h i ⟨hx, hm⟩
    have bit := congrArg (fun y => y.getLsbD i) h
    simp only [BitVec.getLsbD_and, BitVec.getLsbD_not, BitVec.getLsbD_zero, hx, hm, i.isLt] at bit
    cases bit
  · intro h
    refine BitVec.eq_of_getLsbD_eq fun i hi => ?_
    have := h ⟨i, hi⟩
    simp only [not_and, Bool.not_eq_false] at this
    rw [BitVec.getLsbD_and, BitVec.getLsbD_not, BitVec.getLsbD_zero]
    cases hx : x.getLsbD i
    · rfl
    · simp [this hx]

/-- A bit that stands for a condition is set where the condition holds. -/
theorem getLsbD_ite_zero (b : Bool) (c : BitVec 11) (i : Nat) :
    (if b = true then c else 0#11).getLsbD i = (b && c.getLsbD i) := by
  cases b <;> simp

/-- The NOTICE line (R187, R179). -/
theorem notice_iff (s : State) (l : Link) : s.notice l = true ↔
    ((s.link l).flags.passEnd = true ∧ (s.link l).flagMask.getLsbD 0 = false) ∨
    ((s.link l).flags.transport ≠ none ∧ (s.link l).flagMask.getLsbD 1 = false) ∨
    ((s.link l).flags.index ≠ none ∧ (s.link l).flagMask.getLsbD 2 = false) ∨
    ((s.link l).flags.tag ≠ none ∧ (s.link l).flagMask.getLsbD 3 = false) ∨
    ((s.link l).flags.focus = true ∧ (s.link l).flagMask.getLsbD 4 = false) ∨
    ((s.link l).flags.roll = true ∧ (s.link l).flagMask.getLsbD 5 = false) ∨
    ((s.link l).flags.lamp = true ∧ (s.link l).flagMask.getLsbD 6 = false) ∨
    (s.resultFlag l = true ∧ (s.link l).flagMask.getLsbD 7 = false) ∨
    (s.frameReady l = true ∧ (s.link l).flagMask.getLsbD 8 = false) ∨
    (s.scoreWanted l = true ∧ (s.link l).flagMask.getLsbD 9 = false) ∨
    (s.sensorFlag l = true ∧ (s.link l).flagMask.getLsbD 10 = false ∧ (s.link l).suppress = .none) := by
  rw [State.notice, unmasked_iff]
  simp only [Flags.bits, derivedBits, BitVec.getLsbD_or, getLsbD_ite_zero]
  simp [Fin.exists_fin_succ, Option.isSome_iff_ne_none]
  simp only [and_assoc, and_comm (a := (s.link l).suppress = Suppress.none)]

/-! ### The reset state -/

/-- The retrieval table after reset: every slot FREE. -/
theorem reset_slot_free {i : Nat} {x : Slot} (h : State.reset.slots[i]? = some x) : x.state = .free := by
  obtain rfl := List.eq_of_mem_replicate (List.mem_of_getElem? h)
  rfl

/-- Settles O10: every law holds of the empty tables and the FREE slots of the reset state. -/
theorem resetIsSound : Obligations.ResetIsSound := by
  have slotsFree : ∀ x ∈ State.reset.slots, x.state = .free := fun x hx => by
    obtain ⟨i, hi⟩ := List.mem_iff_getElem?.mp hx
    exact reset_slot_free hi
  refine ⟨rfl, by decide, by decide, by decide, by decide, by decide, ?_, by decide, by decide, by decide, ?_, ?_⟩
  · exact ⟨by decide, nofun, nofun, nofun⟩
  · refine ⟨fun x hx h => ?_, fun _ x hx => .inl (slotsFree x hx)⟩
    rw [slotsFree x hx] at h
    simp at h
  · refine ⟨by decide, nofun, ⟨fun i x hx => ?_, nofun, nofun, nofun⟩, ?_⟩
    · rw [reset_slot_free hx]
      exact ⟨nofun, nofun⟩
    · exact ⟨fun _ => rfl, nofun, fun h => absurd rfl h, fun h => absurd rfl h, nofun, by decide, fun h => absurd rfl h,
        fun h => by simp [State.reset, State.resetWith, idlePass] at h, nofun⟩

/-- Settles O14: the reset state, block by block. -/
theorem deviceResetClears : Obligations.DeviceResetClears := by
  intro x h s
  refine ⟨_, rfl, rfl, ?_⟩
  simp only [State.resetWith, defaultParams, builtInProfile, idlePass, true_and]
  refine ⟨by decide, rfl, ?_⟩
  rintro (_ | _) <;> exact ⟨rfl, rfl, rfl, rfl, rfl, rfl, rfl, rfl, rfl, rfl, rfl, rfl,
    by simp [State.sensorFlag, State.link, LinkState.cleared],
    Bool.eq_false_iff.mpr fun hn => by
      rw [notice_iff] at hn
      simp [State.link, LinkState.cleared, Flags.clear, State.resultFlag, State.frameReady, State.scoreWanted, State.sensorFlag, Slot.empty, Config.slotCount] at hn⟩

/-! ### Requests that are only answered -/

/-- A request that is carried out alike with the stream open and closed, by the state and the reply it gives. -/
theorem quietRequest_of {l : Link} {code : Byte} {owner : State → State × Reply} {s y : State} {r : Reply}
    (h : owner (closeStream l s) = (closeStream l y, r)) :
    quietRequest l code owner s = .next (answered l r.code code r.contents y) := by
  simp only [quietRequest, h, setAnswer_closeStream]

/-- The same with what it sets off, where it leaves nothing to carry out. -/
theorem request_of {l : Link} {code : Byte} {owner : State → State × Reply} {s y : State} {r : Reply} (hy : Quiet y)
    (h : owner (closeStream l s) = (closeStream l y, r)) :
    request l code owner s = .next (answered l r.code code r.contents y) := by
  simp only [request, h, setAnswer_closeStream]
  rw [finish_quiet _ (by cases l <;> exact hy)]

/-- Settles O16. -/
theorem nonRequestsAndNop : Obligations.NonRequestsAndNop :=
  ⟨fun l s => by cases l <;> rfl, fun l code s => by cases l <;> exact fun _ => rfl, fun l s => by cases l <;> rfl⟩

/-- The closing of a stream shows in no field of STATUS. -/
theorem statusReport_closeStream (l : Link) (s : State) : statusReport (closeStream l s) = statusReport s := by
  cases l <;> rfl

/-- Settles O20. -/
theorem statusReports : Obligations.StatusReports := by
  intro l s
  show execStatus l s = _
  rw [execStatus, answerOnly_eq _ _ _ _ (by rw [statusReport_closeStream])]
  simp only [statusReport]
  cases s.sweep.active <;> rfl

/-! ### Parameters -/

/-- A code beyond the list names no parameter (R195). -/
theorem storeParameter_beyond {code : Byte} (h : 0x13#8 < code) (v : Nat) (p : Params) : storeParameter code v p = none := by
  unfold storeParameter
  repeat rw [if_neg (by bv_omega)]

/-- Settles O21. -/
theorem setParameterClamps : Obligations.SetParameterClamps := by
  refine ⟨fun code lo hi put hmem l v s => ?_, fun l v s => ?_, fun l v s => ?_, fun l code v s h => ?_⟩
  · simp only [List.mem_cons, Prod.mk.injEq, List.not_mem_nil, or_false] at hmem
    rcases hmem with ⟨rfl, rfl, rfl, rfl⟩ | ⟨rfl, rfl, rfl, rfl⟩ | ⟨rfl, rfl, rfl, rfl⟩ | ⟨rfl, rfl, rfl, rfl⟩ | ⟨rfl, rfl, rfl, rfl⟩ |
      ⟨rfl, rfl, rfl, rfl⟩ | ⟨rfl, rfl, rfl, rfl⟩ | ⟨rfl, rfl, rfl, rfl⟩ | ⟨rfl, rfl, rfl, rfl⟩ | ⟨rfl, rfl, rfl, rfl⟩ |
      ⟨rfl, rfl, rfl, rfl⟩ | ⟨rfl, rfl, rfl, rfl⟩ | ⟨rfl, rfl, rfl, rfl⟩ | ⟨rfl, rfl, rfl, rfl⟩ | ⟨rfl, rfl, rfl, rfl⟩ |
      ⟨rfl, rfl, rfl, rfl⟩ | ⟨rfl, rfl, rfl, rfl⟩ | ⟨rfl, rfl, rfl, rfl⟩ <;> cases l <;> rfl
  · by_cases h : v = 0#16
    · subst h
      cases l <;> rfl
    · have hv : v.toNat ≠ 0 := by bv_omega
      cases l <;> simp [exec, execSetParameter, quietRequest, storeParameter, hv, h] <;> rfl
  · cases l <;> rfl
  · show execSetParameter l code v s = _
    exact quietRequest_of (r := refuse .malformed) (by rw [storeParameter_beyond h])

/-! ### Flags, masks and sensors -/

/-- What a request sets on its own link stands beside the closing of the stream. -/
theorem onLink_closeStream (l : Link) (f : LinkState → LinkState) (s : State)
    (hf : f { s.link l with stream := none } = { f (s.link l) with stream := none }) :
    onLink l f (closeStream l s) = closeStream l (onLink l f s) := by
  cases l
  · exact congrArg (fun x => { s with linkA := x }) hf
  · exact congrArg (fun x => { s with linkB := x }) hf

/-- A change that a link makes under a condition on it. -/
theorem onLink_ite (l : Link) (p : LinkState → Prop) [DecidablePred p] (f : LinkState → LinkState) (s : State) :
    onLink l (fun k => if p k then f k else k) s = if p (s.link l) then onLink l f s else s := by
  cases l
  · exact apply_ite (fun k => { s with linkA := k }) (p s.linkA) (f s.linkA) s.linkA
  · exact apply_ite (fun k => { s with linkB := k }) (p s.linkB) (f s.linkB) s.linkB

theorem flagReport_closeStream (l : Link) (s : State) : flagReport (closeStream l s) l = flagReport s l := by
  cases l <;> rfl

/-- A bit beyond the list names no clear mode (R195). -/
theorem decodeClearMode_beyond {mode : Byte} (h : 0x01#8 < mode) : decodeClearMode mode = none := by
  unfold decodeClearMode
  repeat rw [if_neg (by bv_omega)]

/-- Settles O22. -/
theorem flagsAreReadAndCleared : Obligations.FlagsAreReadAndCleared := by
  refine ⟨fun l s => ?_, fun l s => by cases l <;> rfl, fun l s => by cases l <;> rfl, fun l mode s h => ?_,
    fun l named s h => ?_, fun l named s hlow hhigh => ?_, notice_iff⟩
  · show execReadFlags l s = _
    rw [execReadFlags, quietRequest_of
      (y := onLink l (fun k => if k.clearMode = .clearOnRead then { k with flags := Flags.clear } else k) s)
      (r := { code := .ok, contents := .flags (flagReport s l) })
      (by rw [flagReport_closeStream, onLink_closeStream _ _ _ (by dsimp only; split_ifs <;> rfl)])]
    rw [onLink_ite l (fun k => k.clearMode = .clearOnRead)]
    rfl
  · show execSetClearMode l mode s = _
    exact quietRequest_of (r := refuse .malformed) (by rw [decodeClearMode_beyond h])
  · refine ⟨(s.link l).flags.without (named.setWidth 11), ?_, ?_⟩
    · show execClearFlags l named s = _
      rw [execClearFlags, quietRequest_of (y := onLink l (fun k => { k with flags := k.flags.without (named.setWidth 11) }) s)
        (r := { code := .ok, contents := .flagSet ((s.link l).flags.without (named.setWidth 11)) })
        (by rw [if_neg (by bv_omega), if_neg (by bv_omega)]; cases l <;> rfl)]
      cases l <;> rfl
    · simp [Flags.without]
  · show execClearFlags l named s = _
    exact quietRequest_of (r := refuse .range) (by rw [if_neg (by bv_omega), if_pos hlow])

/-- The inputs of one byte are its eight bits. -/
theorem byteMask_getLsbD {b n : Nat} (hn : n < 64) : (byteMask b).getLsbD n = decide (n / 8 = b) := by
  have h : (0xFF#64) = (BitVec.allOnes 8).setWidth 64 := by decide
  rw [byteMask, h, BitVec.getLsbD_shiftLeft, BitVec.getLsbD_setWidth, BitVec.getLsbD_allOnes]
  rw [Bool.eq_iff_iff]
  simp
  omega

/-- One byte of the inputs is replaced, and the others stand (R174, R177). -/
theorem putByte_getLsbD {b : Nat} (v : Byte) (x : Inputs) {n : Nat} (hn : n < 64) :
    (putByte b v x).getLsbD n = if n / 8 = b then v.getLsbD (n % 8) else x.getLsbD n := by
  have hbyte : (v.zeroExtend 64 <<< (8 * b)).getLsbD n = (decide (8 * b ≤ n) && v.getLsbD (n - 8 * b)) := by
    simp [hn, ← decide_not]
  rw [putByte, BitVec.getLsbD_or, BitVec.getLsbD_and, BitVec.getLsbD_not, byteMask_getLsbD hn, hbyte]
  by_cases h : n / 8 = b
  · have h8 : 8 * b ≤ n := by omega
    have hmod : n - 8 * b = n % 8 := by omega
    simp [h, h8, hmod]
  · have hout : (decide (8 * b ≤ n) && v.getLsbD (n - 8 * b)) = false := by
      by_cases h8 : 8 * b ≤ n
      · simp [BitVec.getLsbD_of_ge v (n - 8 * b) (by omega)]
      · simp [h8]
    simp [h, hn, hout]

/-- Settles O23. -/
theorem masksAndSuppression : Obligations.MasksAndSuppression := by
  refine ⟨fun l bits s h => ?_, fun l name bits s h0 h1 => ?_, fun l byte bits s h => ?_, fun l byte bits s h => ?_,
    fun l name bits s h1 h => ?_, fun l s h => ?_, fun l s h => ?_⟩
  · show execSetFlagMask l 0x00#8 bits s = _
    exact quietRequest_of (r := okReply) (by rw [if_neg (by simp; bv_omega), onLink_closeStream _ _ _ rfl])
  · show execSetFlagMask l name bits s = _
    exact quietRequest_of (r := refuse .malformed) (by rw [if_pos (.inl h0)])
  · refine ⟨putByte byte.toNat bits (s.link l).inputMask, ?_, fun n hn => putByte_getLsbD bits _ hn⟩
    show execSetInputMask l byte bits s = _
    exact quietRequest_of (r := okReply) (by rw [if_neg (by bv_omega)]; cases l <;> rfl)
  · show execSetInputMask l byte bits s = _
    exact quietRequest_of (r := refuse .range) (by rw [if_pos (by bv_omega)])
  · show execSetFlagMask l name bits s = _
    exact quietRequest_of (r := refuse .malformed) (by rw [if_pos (.inr h)])
  · show execSuppress l s = _
    exact quietRequest_of (r := okReply) (by rw [if_neg (by simpa using h), onLink_closeStream _ _ _ rfl])
  · show execSuppress l s = _
    exact quietRequest_of (r := refuse .state) (by rw [if_pos (by simpa using h)])

/-- Settles O24. -/
theorem readSensorsAnswersThenClears : Obligations.ReadSensorsAnswersThenClears := by
  intro l s
  refine ⟨_, ?_, rfl, ?_, ?_⟩
  · cases l <;> rfl
  · cases l <;> simp [State.sensorFlag, answered, onLink, State.link]
  · rintro (_ | _) hm <;> cases l <;> first | rfl | exact absurd rfl hm

end Sys2Proof.Machine
end

section
/-! PROOFS. The requests on the index, the targets, the profiles and the slots that are only checked and stored (R15 to R23, R80 to R83,
R134, R135, R137, R138, R157), and the frames that are not whole (R183, R194). -/

namespace Sys2Proof.Machine

open Sys2Proof

/-! ### Frames -/

/-- A frame that is short of its length or whose bytes do not sum to zero is not whole (R194). -/
theorem decodeFrame_malformed {l : Link} {code n : Byte} {rest : List Byte}
    (h : (code :: n :: rest).length < n.toNat + 3 ∨ sumBytes ((code :: n :: rest).take (n.toNat + 3)) ≠ 0#8) :
    decodeFrame l (code :: n :: rest) = .malformedFrame l := if_pos h

/-- Settles O18. -/
theorem framesAreRead : Obligations.FramesAreRead := by
  refine ⟨fun l bytes h => ?_, fun l code n rest h => decodeFrame_malformed (.inl (by simp; omega)),
    fun l code n m rest hm hn => ?_, fun l code n check ps fill hp h => decodeFrame_malformed (.inr ?_),
    by decide, by decide, by decide, by decide, by decide, by decide⟩
  · match bytes, h with
    | [], _ => rfl
    | [_], _ => rfl
    | [code, n], _ => exact decodeFrame_malformed (.inl (by simp))
  · simp [decodeFrame, hm, hn]
  · have htake : (code :: n :: (ps ++ [check] ++ fill)).take (n.toNat + 3) = code :: n :: (ps ++ [check]) := by
      simp [← hp, List.take_append]
    rwa [htake]

/-! ### INDEX CLEAR (R23) -/

/-- INDEX CLEAR's check (R23): the states it is taken in, no open slot, and no pass. -/
theorem clearAllowed_iff (s : State) : clearAllowed s = true ↔
    (s.transport.state = .parked ∨ s.transport.state = .standby ∨ s.transport.state = .empty) ∧
      (∀ x ∈ s.slots, x.resting = true) ∧ s.pass.state = .idle := by
  have hopen : ∀ x : Slot, x.isOpen = false ↔ x.resting = true := fun x => by
    simp only [Slot.isOpen, Slot.resting]
    cases x.state <;> decide
  simp [clearAllowed, hopen, or_assoc, and_assoc]

/-- Settles O33. -/
theorem indexClearEmpties : Obligations.IndexClearEmpties := by
  refine ⟨fun l s ht hslots hpass => ?_, fun l s h => ?_⟩
  · have hok : clearAllowed (closeStream l s) = true := by
      rw [clearAllowed_iff]
      exact ⟨by simpa using ht, by simpa using hslots, by simpa using hpass⟩
    show execIndexClear l s = _
    simp only [execIndexClear, quietRequest, hok, if_true]
    cases l <;> rfl
  · show execIndexClear l s = _
    refine quietRequest_of (r := refuse .state) (if_neg fun hok => ?_)
    obtain ⟨ht, hslots, hpass⟩ := (clearAllowed_iff _).mp hok
    simp only [closeStream_transport, closeStream_slots, closeStream_pass] at ht hslots hpass
    rcases h with ⟨h1, h2, h3⟩ | ⟨x, hx, h⟩ | h
    · rcases ht with ht | ht | ht <;> contradiction
    · rw [hslots x hx] at h
      cases h
    · exact h hpass

/-! ### Pass segments (R137, R138, R157) -/

/-- A segment is in range by its frames, its last frame END_OF_ROLL or a frame, and its sweep policy's three fields (R137). -/
theorem segment_inRange_iff (first last : Half) (a : SegAction) (m : BitVec 6) (p : FocusPolicy) :
    Segment.inRange { first := first.toNat, last := decodeLast last, action := a, policy := p, stopMask := m } = true ↔
      (1#16 ≤ first ∧ first ≤ 16384#16) ∧ ((1#16 ≤ last ∧ last ≤ 16384#16) ∨ last = 0xFFFF#16) ∧
        match p with
        | .table => True
        | .sweep n h z => 1 ≤ n ∧ n ≤ 1023 ∧ 1 ≤ h ∧ h ≤ 8 ∧ 1 ≤ z ∧ z ≤ 64 := by
  by_cases h : last = 0xFFFF#16 <;> cases p <;>
    simp [Segment.inRange, decodeLast, h, frameInRange_toNat, and_assoc]

/-- The link may store a segment (R138): it owns no pass that is not IDLE. -/
theorem passSegment_free {l : Link} {s : State} (h : s.pass.state = .idle ∨ s.pass.owner ≠ some l) :
    ¬ ((closeStream l s).pass.state ≠ .idle ∧ (closeStream l s).pass.owner = some l) := by
  rw [closeStream_pass]
  tauto

/-- The action and policy codes of the list (R195). -/
theorem decodeSegAction_isSome {b : Byte} (h : b ≤ 0x03#8) : ∃ a, decodeSegAction b = some a := by
  have : b = 0x00#8 ∨ b = 0x01#8 ∨ b = 0x02#8 ∨ b = 0x03#8 := by bv_omega
  rcases this with rfl | rfl | rfl | rfl <;> exact ⟨_, rfl⟩

theorem decodeSegAction_beyond {b : Byte} (h : 0x03#8 < b) : decodeSegAction b = none := by
  unfold decodeSegAction
  repeat rw [if_neg (by bv_omega)]

theorem decodePolicy_beyond {b : Byte} (h : 0x01#8 < b) (n x z : Nat) : decodePolicy b n x z = none := by
  unfold decodePolicy
  repeat rw [if_neg (by bv_omega)]

/-- A segment whose codes are known and whose fields are in range is stored in its place (R138). -/
theorem passSegment_stored {l : Link} {s : State} {place : Byte} {first last : Half} {action policy h z mask : Byte} {n : Half}
    {a : SegAction} {p : FocusPolicy} (hfree : s.pass.state = .idle ∨ s.pass.owner ≠ some l)
    (ha : decodeSegAction action = some a) (hp : decodePolicy policy n.toNat h.toNat z.toNat = some p) (hm : mask < 64#8)
    (h1 : 1#8 ≤ place) (h8 : place ≤ 8#8)
    (hg : Segment.inRange { first := first.toNat, last := decodeLast last, action := a, policy := p,
                            stopMask := mask.setWidth 6 } = true) :
    exec (.passSegment l place first last action policy n h z mask) s = .next (answered l .ok 0x30#8 .empty
      (onLink l (fun k => { k with buffer := k.buffer.set (place.toNat - 1) (some
        { first := first.toNat, last := if last = 0xFFFF#16 then none else some last.toNat, action := a, policy := p,
          stopMask := mask.setWidth 6 }) }) s)) := by
  have hmask : ¬ 64 ≤ mask.toNat := by bv_omega
  have hplace : ¬ (place.toNat = 0 ∨ 8 < place.toNat) := by bv_omega
  show execPassSegment l place first last action policy n h z mask s = _
  refine quietRequest_of (r := okReply) ?_
  simp only [passSegment, passSegment_free hfree, if_false, ha, hp, hmask, hg, Bool.true_eq_false, or_false, hplace]
  cases l <;> rfl

/-- Settles O40. -/
theorem segmentsAreStored : Obligations.SegmentsAreStored := by
  refine ⟨fun l place action h z mask first last n a s hfree ha hm h1 h8 hf1 hf2 hl => ⟨?_, fun hn1 hn2 hh1 hh2 hz1 hz2 => ?_⟩,
    fun l place action policy h z mask first last n s hpass howner => ?_,
    fun l place action policy h z mask first last n s hfree hbad => ?_,
    fun l place action policy h z mask first last n s hfree ha hp hm hbad => ?_,
    fun l n s h1 h8 => ?_, fun l n s h => ?_⟩
  · exact passSegment_stored hfree ha rfl hm h1 h8 ((segment_inRange_iff ..).mpr ⟨⟨hf1, hf2⟩, hl, trivial⟩)
  · refine passSegment_stored hfree ha rfl hm h1 h8 ((segment_inRange_iff ..).mpr ⟨⟨hf1, hf2⟩, hl, ?_⟩)
    refine ⟨?_, ?_, ?_, ?_, ?_, ?_⟩ <;> bv_omega
  · show execPassSegment l place first last action policy n h z mask s = _
    exact quietRequest_of (r := refuse .state) (if_pos ⟨by simpa using hpass, by simpa using howner⟩)
  · show execPassSegment l place first last action policy n h z mask s = _
    refine quietRequest_of (r := refuse .malformed) ?_
    rw [passSegment, if_neg (passSegment_free hfree)]
    rcases hbad with hbad | hbad | hbad
    · rw [decodeSegAction_beyond hbad]
    · rw [decodePolicy_beyond hbad]
      cases decodeSegAction action <;> rfl
    · have hmask : 64 ≤ mask.toNat := by bv_omega
      cases decodeSegAction action <;> cases decodePolicy policy n.toNat h.toNat z.toNat <;> simp [hmask]
  · show execPassSegment l place first last action policy n h z mask s = _
    refine quietRequest_of (r := refuse .range) ?_
    obtain ⟨a, ha⟩ := decodeSegAction_isSome ha
    have hmask : ¬ 64 ≤ mask.toNat := by bv_omega
    have hpolicy : ∃ p, decodePolicy policy n.toNat h.toNat z.toNat = some p ∧ (place.toNat = 0 ∨ 8 < place.toNat ∨
        Segment.inRange { first := first.toNat, last := decodeLast last, action := a, policy := p,
                          stopMask := mask.setWidth 6 } = false) := by
      have : policy = 0x00#8 ∨ policy = 0x01#8 := by bv_omega
      rcases this with rfl | rfl
      · refine ⟨.table, rfl, ?_⟩
        rw [← Bool.not_eq_true, segment_inRange_iff]
        bv_omega
      · refine ⟨.sweep n.toNat h.toNat z.toNat, rfl, ?_⟩
        rw [← Bool.not_eq_true, segment_inRange_iff]
        bv_omega
    obtain ⟨p, hp, hout⟩ := hpolicy
    simp only [passSegment, passSegment_free hfree, if_false, ha, hp, hmask]
    exact if_pos hout
  · show execPassReport l n s = _
    rw [execPassReport, answerOnly_eq _ _ _ _ (by cases l <;> rfl), if_neg (by bv_omega)]
    rfl
  · show execPassReport l n s = _
    rw [execPassReport, answerOnly_eq _ _ _ _ (by cases l <;> rfl), if_pos (by bv_omega)]
    rfl

end Sys2Proof.Machine
end

section
/-! PROOFS. The profile fields (R80, R82, R83), the index streams (R21, R22), the targets (R15 to R18), QUERY and COLLECT (R134,
R135), and the peak fit (R113). -/

namespace Sys2Proof.Machine

open Sys2Proof

/-! ### Profile fields (R80, R82, R83) -/

theorem decodeField_beyond {code : Byte} (h : 0x08#8 < code) : decodeField code = none := by
  unfold decodeField
  repeat rw [if_neg (by bv_omega)]

/-- The table of R80, by the field's code. -/
abbrev ProfileValueInRange (code : Byte) (v : Quad) (p : Profile) : Prop :=
  code = 0x00#8 ∨ (code = 0x01#8 ∧ (v = 16#32 ∨ v = 35#32)) ∨ (code = 0x02#8 ∧ v ≤ 4194240#32) ∨
    (code = 0x03#8 ∧ 500#32 ≤ v ∧ v ≤ 16000#32) ∨ (code = 0x04#8 ∧ v ≤ 262140#32) ∨
    (code = 0x05#8 ∧ 4#32 ≤ v ∧ v ≤ 1020#32) ∨
    (code = 0x06#8 ∧ 1#32 ≤ v ∧ v ≤ 65535#32 ∧ v.toNat < p.tBatch) ∨
    (code = 0x07#8 ∧ p.tDoc < v.toNat ∧ v ≤ 65535#32) ∨ (code = 0x08#8 ∧ v ≤ 4095#32)

/-- A profile with the field of a code replaced. -/
abbrev profileWith (code : Byte) (v : Quad) (p : Profile) : Profile :=
  { rollId := if code = 0x00#8 then v else p.rollId, gauge := if code = 0x01#8 then v.toNat else p.gauge,
    leader := if code = 0x02#8 then v.toNat else p.leader, pitch := if code = 0x03#8 then v.toNat else p.pitch,
    gateOffset := if code = 0x04#8 then v.toNat else p.gateOffset,
    minMark := if code = 0x05#8 then v.toNat else p.minMark, tDoc := if code = 0x06#8 then v.toNat else p.tDoc,
    tBatch := if code = 0x07#8 then v.toNat else p.tBatch,
    defaultStep := if code = 0x08#8 then v.toNat else p.defaultStep }

/-- Each code of the list names one field: its range is the one of the table, and it alone is replaced. -/
theorem decodeField_spec {code : Byte} (h : code ≤ 0x08#8) (v : Quad) : ∃ f, decodeField code = some f ∧
    (∀ p, fieldInRange p v.toNat f = true ↔ ProfileValueInRange code v p) ∧ (∀ p, storeField p v f = profileWith code v p) ∧
    (f = .gauge ↔ code = 0x01#8) ∧ (f = .pitch ↔ code = 0x03#8) := by
  have hv : (v.toNat = 16 ↔ v = 16#32) ∧ (v.toNat = 35 ↔ v = 35#32) := by constructor <;> bv_omega
  have hcode : code = 0x00#8 ∨ code = 0x01#8 ∨ code = 0x02#8 ∨ code = 0x03#8 ∨ code = 0x04#8 ∨ code = 0x05#8 ∨ code = 0x06#8 ∨
      code = 0x07#8 ∨ code = 0x08#8 := by bv_omega
  rcases hcode with rfl | rfl | rfl | rfl | rfl | rfl | rfl | rfl | rfl <;>
    exact ⟨_, rfl, fun p => by simp [fieldInRange, ProfileValueInRange, BitVec.le_def, hv, and_assoc] <;> exact Iff.rfl,
      fun p => rfl, by decide, by decide⟩

/-- A value in range belongs to a code of the list. -/
theorem le_of_inRange {code : Byte} {v : Quad} {p : Profile} (h : ProfileValueInRange code v p) : code ≤ 0x08#8 := by
  unfold ProfileValueInRange at h
  bv_omega

/-- SET PROFILE FIELD's first check (R82). -/
theorem profile_barred_iff (s : State) : (s.extent ≠ 0 ∨ s.transport.state.barsProfile = true) ↔
    (s.index.entries ≠ [] ∨ s.transport.state = .moving ∨ s.transport.state = .settling ∨
      s.transport.state = .settled ∨ s.transport.state = .recovering ∨ s.transport.state = .rewinding) := by
  have hstate : s.transport.state.barsProfile = true ↔ s.transport.state = .moving ∨ s.transport.state = .settling ∨
      s.transport.state = .settled ∨ s.transport.state = .recovering ∨ s.transport.state = .rewinding := by
    cases s.transport.state <;> decide
  rw [hstate]
  simp [State.extent]

/-- Settles O25. -/
theorem profileFieldsAreStored : Obligations.ProfileFieldsAreStored := by
  intro l code v s inRange stored barred set setDefault
  have hbar : (closeStream l s).extent ≠ 0 ∨ (closeStream l s).transport.state.barsProfile = true ↔ barred := by
    rw [profile_barred_iff, closeStream_index, closeStream_transport]
  have hset : set = quietRequest l 0x03#8 (setProfileField code v) s := rfl
  have hdef : setDefault = execSetDefaultProfileField l code v s := rfl
  refine ⟨fun hb => ?_, fun hb h => ?_, fun hb h hr => ?_, fun hb hr hg hv ht => ?_, fun hb hr hg => ?_, fun h => ?_, fun h hr => ?_,
    fun hr => ?_⟩
  · rw [hset]
    exact quietRequest_of (r := refuse .state) (if_pos (hbar.mpr hb))
  · rw [hset]
    refine quietRequest_of (r := refuse .malformed) ?_
    rw [setProfileField, if_neg (mt hbar.mp hb), decodeField_beyond h]
  · obtain ⟨f, hf, hrange, -⟩ := decodeField_spec h v
    rw [hset]
    refine quietRequest_of (r := refuse .range) ?_
    rw [setProfileField, if_neg (mt hbar.mp hb), hf]
    exact if_pos (by rwa [← Bool.not_eq_true, closeStream_roll, hrange])
  · obtain ⟨f, hf, hrange, -, hgauge, -⟩ := decodeField_spec (le_of_inRange hr) v
    rw [hset]
    refine quietRequest_of (r := refuse .mismatch) ?_
    rw [setProfileField, if_neg (mt hbar.mp hb), hf]
    have hin : ¬ fieldInRange (closeStream l s).roll.active v.toNat f = false := by simpa using (hrange _).mpr hr
    have hmis : f = .gauge ∧ v.toNat ≠ (closeStream l s).params.stationGauge ∧ (closeStream l s).transport.state ≠ .empty :=
      ⟨hgauge.mpr hg, by simpa using hv, by simpa using ht⟩
    dsimp only
    rw [if_neg hin, if_pos hmis]
  · obtain ⟨f, hf, hrange, hstored, hgauge, hpitch⟩ := decodeField_spec (le_of_inRange hr) v
    rw [hset]
    refine quietRequest_of (r := { code := .ok, contents := .number 4 v.toNat }) ?_
    rw [setProfileField, if_neg (mt hbar.mp hb), hf]
    have hin : ¬ fieldInRange (closeStream l s).roll.active v.toNat f = false := by simpa using (hrange _).mpr hr
    have hmis : ¬ (f = .gauge ∧ v.toNat ≠ (closeStream l s).params.stationGauge ∧ (closeStream l s).transport.state ≠ .empty) := by
      rintro ⟨h1, h2, h3⟩
      rcases hg with hg | hg | hg
      · exact hg (hgauge.mp h1)
      · exact h2 (by rwa [closeStream_params])
      · exact h3 (by rwa [closeStream_transport])
    dsimp only
    rw [if_neg hin, if_neg hmis]
    by_cases hc : code = 0x03#8
    · rw [if_pos (hpitch.mpr hc), if_pos hc, hstored]
      cases l <;> rfl
    · rw [if_neg (mt hpitch.mp hc), if_neg hc, hstored]
      cases l <;> rfl
  · rw [hdef]
    refine quietRequest_of (r := refuse .malformed) ?_
    rw [decodeField_beyond h]
  · obtain ⟨f, hf, hrange, -⟩ := decodeField_spec h v
    rw [hdef]
    refine quietRequest_of (r := refuse .range) ?_
    rw [hf]
    exact if_pos (by rwa [← Bool.not_eq_true, closeStream_roll, hrange])
  · obtain ⟨f, hf, hrange, hstored, -⟩ := decodeField_spec (le_of_inRange hr) v
    rw [hdef]
    refine quietRequest_of (r := { code := .ok, contents := .number 4 v.toNat }) ?_
    rw [hf]
    dsimp only
    rw [if_neg (by simpa using (hrange _).mpr hr), hstored]
    cases l <;> rfl

/-! ### Index streams (R21, R22) -/

/-- The rows of one more entry (R22). -/
theorem readRows_succ (s : State) (n : Nat) (w : Stream) {e : Entry} (he : s.entry w.pointer = some e) :
    readRows s (n + 1) w = if w.atEnd then ([(w.pointer, e)], none)
      else ((w.pointer, e) :: (readRows s n w.advance).1, (readRows s n w.advance).2) := by
  simp only [readRows, he]

/-- Where the pointer stands beyond the extent there is no row, and the stream has ended (R22). -/
theorem readRows_beyond (s : State) (n : Nat) (w : Stream) (h : s.extent < w.pointer) : readRows s n w = ([], none) := by
  cases n with
  | zero => exact if_pos h
  | succ n =>
    have hnone : s.entry w.pointer = none := by
      simp only [State.extent] at h
      simp [State.entry]
      omega
    simp only [readRows, hnone]

/-- An entry for every frame of the index. -/
theorem entry_isSome (s : State) {k : Nat} (h1 : 1 ≤ k) (h2 : k ≤ s.extent) : ∃ e, s.entry k = some e := by
  simp only [State.extent] at h2
  rw [State.entry, if_neg (by omega)]
  exact ⟨_, List.getElem?_eq_getElem (by omega)⟩

/-- Rows whose frames follow the pointer in steps of the order, each with its entry, headed by the pointer's own. -/
theorem rows_cons (s : State) (p : Nat) (e : Entry) (next : Nat → Nat) (rows : List (Nat × Entry)) (he : s.entry p = some e)
    (h0 : next 0 = p)
    (h : ∀ i, i < rows.length → (rows[i]?).map (·.1) = some (next (i + 1)) ∧ (rows[i]?).map (·.2) = s.entry (next (i + 1))) :
    ∀ i, i < ((p, e) :: rows).length → (((p, e) :: rows)[i]?).map (·.1) = some (next i) ∧
      (((p, e) :: rows)[i]?).map (·.2) = s.entry (next i)
  | 0, _ => by simp [h0, he]
  | i + 1, hi => by simpa using h i (by simpa using hi)

/-- Upwards, the rows are the entries from the pointer on, to the window's last frame, the extent or the count, and the stream stands
behind them, or has ended (R22). -/
theorem readRows_ascending (s : State) (n : Nat) (w : Stream) (ho : w.order = .ascending) (h1 : 1 ≤ w.pointer)
    (hl : w.pointer ≤ w.last) :
    (readRows s n w).1.length = min n (min (w.last + 1 - w.pointer) (s.extent + 1 - w.pointer)) ∧
    (∀ i, i < (readRows s n w).1.length → ((readRows s n w).1[i]?).map (·.1) = some (w.pointer + i) ∧
      ((readRows s n w).1[i]?).map (·.2) = s.entry (w.pointer + i)) ∧
    (readRows s n w).2 = if w.last < w.pointer + (readRows s n w).1.length ∨ s.extent < w.pointer + (readRows s n w).1.length
      then none else some { w with pointer := w.pointer + (readRows s n w).1.length } := by
  induction n generalizing w with
  | zero =>
    have hlast : ¬ w.last < w.pointer := by omega
    by_cases h : s.extent < w.pointer <;> simp [readRows, h, hlast]
  | succ n ih =>
    by_cases hx : s.extent < w.pointer
    · rw [readRows_beyond s _ w hx]
      have : s.extent + 1 - w.pointer = 0 := by omega
      simp [this, hx]
    · obtain ⟨e, he⟩ := entry_isSome s h1 (by omega)
      rw [readRows_succ s n w he]
      by_cases hend : w.pointer = w.last
      · rw [if_pos (by simp [Stream.atEnd, ho, hend])]
        refine ⟨by simp; omega, rows_cons s _ e _ [] he rfl (by simp), by simp [hend]⟩
      · rw [if_neg (by simp [Stream.atEnd, ho, hend])]
        have hadv : w.advance = { w with pointer := w.pointer + 1 } := by simp [Stream.advance, ho]
        obtain ⟨hlen, hrow, hend'⟩ := ih w.advance (by rw [hadv]; exact ho) (by rw [hadv]; simp) (by rw [hadv]; simp; omega)
        rw [hadv] at hlen hrow hend' ⊢
        dsimp only at hlen hrow hend' ⊢
        generalize readRows s n { w with pointer := w.pointer + 1 } = r at hlen hrow hend' ⊢
        refine ⟨by simp; omega, rows_cons s _ e (fun i => w.pointer + i) _ he rfl (fun i hi => ?_), ?_⟩
        · rw [show w.pointer + (i + 1) = w.pointer + 1 + i by omega]
          exact hrow i hi
        · rw [hend', List.length_cons, show w.pointer + (r.1.length + 1) = w.pointer + 1 + r.1.length by omega]

/-- Downwards, the same to the window's first frame (R22). -/
theorem readRows_descending (s : State) (n : Nat) (w : Stream) (ho : w.order = .descending) (h1 : 1 ≤ w.first)
    (hp : w.first ≤ w.pointer) (hx : w.pointer ≤ s.extent) :
    (readRows s n w).1.length = min n (w.pointer + 1 - w.first) ∧
    (∀ i, i < (readRows s n w).1.length → ((readRows s n w).1[i]?).map (·.1) = some (w.pointer - i) ∧
      ((readRows s n w).1[i]?).map (·.2) = s.entry (w.pointer - i)) ∧
    (readRows s n w).2 = if (readRows s n w).1.length = w.pointer + 1 - w.first then none
      else some { w with pointer := w.pointer - (readRows s n w).1.length } := by
  induction n generalizing w with
  | zero =>
    have hlast : 0 ≠ w.pointer + 1 - w.first := by omega
    have hext : ¬ s.extent < w.pointer := by omega
    simp [readRows, hext, hlast]
  | succ n ih =>
    obtain ⟨e, he⟩ := entry_isSome s (h1.trans hp) hx
    rw [readRows_succ s n w he]
    by_cases hend : w.pointer = w.first
    · rw [if_pos (by simp [Stream.atEnd, ho, hend])]
      refine ⟨by simp; omega, rows_cons s _ e (fun i => w.pointer - i) [] he rfl (by simp), by simp [hend]⟩
    · rw [if_neg (by simp [Stream.atEnd, ho, hend])]
      have hadv : w.advance = { w with pointer := w.pointer - 1 } := by simp [Stream.advance, ho]
      obtain ⟨hlen, hrow, hend'⟩ := ih w.advance (by rw [hadv]; exact ho) (by rw [hadv]; exact h1) (by rw [hadv]; simp; omega)
        (by rw [hadv]; simp; omega)
      rw [hadv] at hlen hrow hend' ⊢
      dsimp only at hlen hrow hend' ⊢
      generalize readRows s n { w with pointer := w.pointer - 1 } = r at hlen hrow hend' ⊢
      refine ⟨by simp; omega, rows_cons s _ e (fun i => w.pointer - i) _ he rfl (fun i hi => ?_), ?_⟩
      · rw [show w.pointer - (i + 1) = w.pointer - 1 - i by omega]
        exact hrow i hi
      · rw [hend', List.length_cons, show w.pointer - (r.1.length + 1) = w.pointer - 1 - r.1.length by omega]
        congr 1
        rw [eq_iff_iff]
        omega

/-- Two changes that agree on what the link holds. -/
theorem onLink_congr {l : Link} {f g : LinkState → LinkState} {s : State} (h : f (s.link l) = g (s.link l)) :
    onLink l f s = onLink l g s := by
  cases l
  · exact congrArg (fun k => { s with linkA := k }) h
  · exact congrArg (fun k => { s with linkB := k }) h

/-- INDEX READ with the stream open and a count in range: the rows and the stream after them (R22). -/
theorem exec_indexRead {l : Link} {n : Byte} {w : Stream} {s : State} (hw : (s.link l).stream = some w) (h1 : 1#8 ≤ n) (h8 : n ≤ 8#8) :
    exec (.indexRead l n) s = .next (onLink l (fun k => { k with
      stream := (readRows s n.toNat w).2
      answer := { code := .ok, request := 0x11#8,
                  contents := .entries (readRows s n.toNat w).2.isNone (readRows s n.toNat w).1 } }) s) := by
  have hcount : ¬ (n.toNat = 0 ∨ 8 < n.toNat) := by bv_omega
  show execIndexRead l n s = _
  simp only [execIndexRead, plainly, indexRead, hw, hcount, if_false]
  cases l <;> rfl

/-- Settles O31. -/
theorem indexStreams : Obligations.IndexStreams := by
  refine ⟨fun l a b s h1 hab h2 => ?_, fun l a b o s ho h => ?_, fun l a b o s ho => ?_, fun l n s hw => ?_, fun l n w s hw h => ?_,
    fun l n w s hw ho h1 h8 hp hl => ?_, fun l n w s hw ho h1 h8 hf hp hx => ?_, fun l n w s hw h1 h8 hx => ?_⟩
  · have hin : (frameInRange a.toNat && frameInRange b.toNat && decide (a.toNat ≤ b.toNat)) = true := by
      simp only [Bool.and_eq_true, frameInRange_toNat, decide_eq_true_eq]
      bv_omega
    constructor
    · show execIndexWindow l a b 0x00#8 s = _
      cases l <;> simp [execIndexWindow, quietRequest, decodeOrder, hin] <;> rfl
    · show execIndexWindow l a b 0x01#8 s = _
      cases l <;> simp [execIndexWindow, quietRequest, decodeOrder, hin] <;> rfl
  · have hin : ¬ (frameInRange a.toNat && frameInRange b.toNat && decide (a.toNat ≤ b.toNat)) = true := by
      simp only [Bool.and_eq_true, frameInRange_toNat, decide_eq_true_eq]
      bv_omega
    show execIndexWindow l a b o s = _
    refine quietRequest_of (r := refuse .range) ?_
    have : o = 0x00#8 ∨ o = 0x01#8 := by bv_omega
    rcases this with rfl | rfl <;> exact if_neg hin
  · have hcode : decodeOrder o = none := by
      unfold decodeOrder
      repeat rw [if_neg (by bv_omega)]
    show execIndexWindow l a b o s = _
    exact quietRequest_of (r := refuse .malformed) (by rw [hcode])
  · show execIndexRead l n s = _
    simp only [execIndexRead, plainly, indexRead, hw]
    exact congrArg _ (onLink_congr (by simp only [hw]; rfl))
  · have hcount : n.toNat = 0 ∨ 8 < n.toNat := by bv_omega
    show execIndexRead l n s = _
    simp only [execIndexRead, plainly, indexRead, hw, hcount, if_true]
    rfl
  · obtain ⟨hlen, hrow, hend⟩ := readRows_ascending s n.toNat w ho hp hl
    refine ⟨(readRows s n.toNat w).1, hlen, hrow, ?_⟩
    rw [exec_indexRead hw h1 h8, hend]
    by_cases h : w.last < w.pointer + (readRows s n.toNat w).1.length ∨ s.extent < w.pointer + (readRows s n.toNat w).1.length <;>
      simp only [h, if_true, if_false, Option.isNone_none, Option.isNone_some, decide_true, decide_false]
  · obtain ⟨hlen, hrow, hend⟩ := readRows_descending s n.toNat w ho hf hp hx
    refine ⟨(readRows s n.toNat w).1, hlen, hrow, ?_⟩
    rw [exec_indexRead hw h1 h8, hend]
    by_cases h : (readRows s n.toNat w).1.length = w.pointer + 1 - w.first <;>
      simp only [h, if_true, if_false, Option.isNone_none, Option.isNone_some, decide_true, decide_false]
  · rw [exec_indexRead hw h1 h8, readRows_beyond s _ w hx]
    rfl

end Sys2Proof.Machine
end

section
/-! PROOFS. The targets (R15 to R18), QUERY and COLLECT (R134, R135), and the peak fit (R113). -/

namespace Sys2Proof.Machine

open Sys2Proof

/-! ### Targets (R15 to R18) -/

theorem resolve_closeStream (l : Link) (t : RawTarget) (s : State) : resolve t (closeStream l s) = resolve t s := by
  cases l <;> rfl

/-- RESOLVE is answered with what its target resolves to (R18). -/
theorem exec_resolve (l : Link) (t : RawTarget) (s : State) :
    exec (.resolve l t) s = .next (answered l (resolve t s).code 0x14#8 (resolve t s).contents s) :=
  answerOnly_eq l 0x14#8 (resolve t) s (resolve_closeStream l t s)

/-- A FRAME target in range, and a RELATIVE one clamped at frame 1, are looked up by their frame (R15, R16). -/
theorem resolve_frame {t : RawTarget} {k : Nat} {s : State}
    (h : (t.kind = 0x00#8 ∧ t.v0.toNat = k) ∨
      (t.kind = 0x02#8 ∧ -16383 ≤ t.v0.toInt ∧ t.v0.toInt ≤ 16383 ∧
        (k : Int) = max 1 ((s.transport.gateFrame.getD 1 : Int) + t.v0.toInt))) (h1 : 1 ≤ k) (h2 : k ≤ 16384) :
    resolve t s = { code := .ok, contents := resolution s (resolveFrame s k) } := by
  rcases h with ⟨hk, rfl⟩ | ⟨hk, hlo, hhi, hmax⟩
  · simp [resolve, decodeTarget, hk, targetInRange, h1, Config.maxFrames, h2, slotTarget, resolveTarget]
  · have hk' : max 1 ((s.relativeBase : Int) + t.v0.toInt).toNat = k := by
      simp only [State.relativeBase]
      omega
    have hin : (s.relativeBase : Int) + t.v0.toInt ≤ 16384 := by
      simp only [State.relativeBase]
      omega
    simp [resolve, decodeTarget, hk, targetInRange, hlo, hhi, Config.maxFrames, hin, slotTarget, resolveTarget, hk']

/-- An ADDRESS target is always in range (R15). -/
theorem resolve_address {t : RawTarget} {s : State} (h : t.kind = 0x01#8) :
    resolve t s = { code := .ok, contents := resolution s (resolveAddress s t.v0.toNat t.v1.toNat t.v2.toNat) } := by
  simp [resolve, decodeTarget, h, targetInRange, slotTarget, resolveTarget]

/-- The answer for a frame of the index (R18). -/
theorem resolution_found {s : State} {k : Nat} {e : Entry} (he : s.entry k = some e) : resolution s (.found k) =
    .resolved k e.position (min 16777215 (e.position + s.roll.active.gateOffset)) e.cls e.triple := by
  have hpos : s.pos k = e.position := by simp [State.pos, he]
  simp only [resolution, he, State.gateCoord, hpos]
  rfl

/-- An entry of frame k: k counts from 1 to the extent. -/
theorem entry_some {s : State} {k : Nat} {e : Entry} (he : s.entry k = some e) : k ≤ s.extent ∧ 1 ≤ k := by
  rw [State.entry] at he
  split_ifs at he with h
  have := (List.getElem?_eq_some_iff.mp he).1
  simp only [State.extent]
  omega

/-- What is not found is beyond an OPEN index, and absent from a closed one (R16, R18). -/
theorem resolution_notYet (s : State) :
    resolution s (notYet s) = .resolution (if s.index.closure = none then .beyond else .absent) := by
  by_cases h : s.index.closure = none <;> simp [notYet, State.indexOpen, h, resolution]

/-- Settles O34. -/
theorem resolveAnswers : Obligations.ResolveAnswers := by
  refine ⟨fun b d p e => by simp [addressMatches], fun b d p t => ?_, fun l t k e s h h1 h2 he => ?_, fun l t k s h h1 h2 hx => ?_,
    fun l t i e s hk he hm hfirst => ?_, fun l t s hk hnone => ?_, fun l t s hk h => ?_, fun l t s hk h => ?_, fun l t s h => ?_⟩
  · simp [addressBeyond, and_assoc]
  · obtain ⟨hx, -⟩ := entry_some he
    rw [exec_resolve, resolve_frame h h1 h2, resolveFrame, if_pos hx, resolution_found he]
  · rw [exec_resolve, resolve_frame h h1 h2, resolveFrame, if_neg (by simp only [State.extent]; omega), resolution_notYet]
  · have hfind : s.index.entries.findIdx? (addressMatches t.v0.toNat t.v1.toNat t.v2.toNat) = some i := by
      rw [List.findIdx?_eq_some_iff_getElem]
      obtain ⟨hi, hget⟩ := List.getElem?_eq_some_iff.mp he
      refine ⟨hi, by rwa [hget], fun j hj => ?_⟩
      simp [hfirst j _ hj (List.getElem?_eq_getElem (hj.trans hi))]
    rw [exec_resolve, resolve_address hk, resolveAddress, hfind, resolution_found (by simpa [State.entry] using he)]
  · have hfind : s.index.entries.findIdx? (addressMatches t.v0.toNat t.v1.toNat t.v2.toNat) = none := by
      simpa using hnone
    rw [exec_resolve, resolve_address hk, resolveAddress, hfind]
    cases hlast : s.index.entries.getLast? with
    | none => simp [resolution_notYet]
    | some e =>
      cases hb : addressBeyond t.v0.toNat t.v1.toNat t.v2.toNat e.triple
      · simp only [Bool.false_eq_true, if_false, Option.mem_some_iff, forall_eq', hb, and_false]
        rfl
      · simp only [if_true, Option.mem_some_iff, forall_eq', hb, and_true, resolution_notYet]
  · have hout : targetInRange s (.frame t.v0.toNat) = false := by
      simp only [targetInRange, Bool.and_eq_false_iff, decide_eq_false_iff_not]
      simp only [Config.maxFrames]
      bv_omega
    rw [exec_resolve, show resolve t s = refuse .range by simp [resolve, decodeTarget, hk, hout]]
    rfl
  · have hout : targetInRange s (.relative t.v0.toInt) = false := by
      simp only [targetInRange, Bool.and_eq_false_iff, decide_eq_false_iff_not]
      simp only [Config.maxFrames, State.relativeBase]
      omega
    rw [exec_resolve, show resolve t s = refuse .range by simp [resolve, decodeTarget, hk, hout]]
    rfl
  · have hkind : decodeTarget t = none := by
      unfold decodeTarget
      repeat rw [if_neg (by bv_omega)]
    rw [exec_resolve, show resolve t s = refuse .malformed by rw [resolve, hkind]]
    rfl

/-! ### QUERY and COLLECT (R134, R135) -/

@[simp] theorem closeStream_slotOf (l m : Link) (tag : Byte) (s : State) : (closeStream l s).slotOf m tag = s.slotOf m tag := by
  cases l <;> rfl

@[simp] theorem closeStream_slot (l : Link) (i : Nat) (s : State) : (closeStream l s).slot i = s.slot i := by
  cases l <;> rfl

/-- What is found is a DONE slot of the link. -/
theorem oldestDone_mem {l : Link} {xs : List Slot} {base j : Nat} {y : Slot} (h : oldestDone l base xs = some (j, y)) :
    ∃ k : Nat, base + k = j ∧ xs[k]? = some y ∧ y.state = .done ∧ y.owner = l := by
  induction xs generalizing base with
  | nil => cases h
  | cons w ws ih =>
    have tail : oldestDone l (base + 1) ws = some (j, y) →
        ∃ k : Nat, base + k = j ∧ (w :: ws)[k]? = some y ∧ y.state = .done ∧ y.owner = l := fun h => by
      obtain ⟨k, hj, hk, hy⟩ := ih h
      exact ⟨k + 1, by omega, by simpa using hk, hy⟩
    rw [oldestDone] at h
    split_ifs at h with hw
    · have head : some (base, w) = some (j, y) →
          ∃ k : Nat, base + k = j ∧ (w :: ws)[k]? = some y ∧ y.state = .done ∧ y.owner = l := fun h => by
        obtain ⟨rfl, rfl⟩ := Prod.mk.inj (Option.some.inj h)
        exact ⟨0, rfl, rfl, hw⟩
      cases htail : oldestDone l (base + 1) ws with
      | none => exact head (by simpa only [htail] using h)
      | some p =>
        simp only [htail] at h
        split_ifs at h
        · exact tail (htail.trans h)
        · exact head h
    · exact tail h

/-- The oldest DONE slot of a link is the one that every other DONE slot of the link is younger than (R135). -/
theorem oldestDone_eq_some {l : Link} {x : Slot} (hx : x.state = .done) (ho : x.owner = l) {xs : List Slot} {base i : Nat}
    (hi : xs[i]? = some x)
    (hall : ∀ j y, j ≠ i → xs[j]? = some y → y.state = .done → y.owner = l →
      olderSeq x.sequence y.sequence = true ∧ y.sequence ≠ x.sequence) :
    oldestDone l base xs = some (base + i, x) := by
  induction xs generalizing base i with
  | nil => cases hi
  | cons w ws ih =>
    rw [oldestDone]
    cases i with
    | zero =>
      obtain rfl : w = x := by simpa using hi
      rw [if_pos ⟨hx, ho⟩]
      cases htail : oldestDone l (base + 1) ws with
      | none => rfl
      | some p =>
        obtain ⟨k, -, hk, hy, hyo⟩ := oldestDone_mem htail
        obtain ⟨hold, hne⟩ := hall (k + 1) p.2 (by omega) (by simpa using hk) hy hyo
        have hnot : ¬ (olderSeq p.2.sequence w.sequence = true ∧ p.2.sequence ≠ w.sequence) := by
          simp only [olderSeq, decide_eq_true_eq] at hold ⊢
          bv_omega
        exact if_neg hnot
    | succ i =>
      have htail := ih (base := base + 1) (i := i) (by simpa using hi) (fun j y hj hy => hall (j + 1) y (by omega) (by simpa using hy))
      rw [htail, show base + 1 + i = base + (i + 1) by omega]
      by_cases hw : w.state = .done ∧ w.owner = l
      · obtain ⟨hold, hne⟩ := hall 0 w (by omega) rfl hw.1 hw.2
        rw [if_pos hw]
        exact if_pos ⟨hold, hne.symm⟩
      · rw [if_neg hw]

/-- No DONE slot of the link (R135). -/
theorem oldestDone_eq_none {l : Link} : ∀ (xs : List Slot) (base : Nat), (∀ x ∈ xs, x.state = .done → x.owner ≠ l) →
    oldestDone l base xs = none
  | [], _, _ => rfl
  | w :: ws, base, h => by
    rw [oldestDone, if_neg fun hw => h w (by simp) hw.1 hw.2]
    exact oldestDone_eq_none ws (base + 1) fun x hx => h x (by simp [hx])

/-- A DONE slot with its result is handed over and freed (R135). -/
theorem collectSlot_closeStream {l : Link} {i : Nat} {x : Slot} {r : SlotResult} {s : State} (hi : s.slots[i]? = some x)
    (hr : x.result = some r) : collectSlot i (closeStream l s) =
      (closeStream l { s with slots := s.slots.modify i (fun _ => Slot.empty) },
        { code := .ok, contents := .result x.tag r }) := by
  simp only [collectSlot, closeStream_slot, slot_eq s i x hi, hr]
  cases l <;> rfl

/-- Settles O39. -/
theorem queryAndCollect : Obligations.QueryAndCollect := by
  refine ⟨fun l tag s h => ?_, fun l tag i x s h hi => ?_, fun l tag i x r s h hi hx hr => ?_, fun l tag i x r s hi hx ho hr hold => ?_,
    fun l tag i s h hx => ?_, fun l tag s h => ?_, fun l tag s h => ?_, fun l selector tag s h => ?_⟩
  · show execQuery l tag s = _
    exact quietRequest_of (r := refuse .noTag) (by rw [query, closeStream_slotOf, h])
  · refine ⟨holdRemaining x s.freeCount, ?_, fun ht => by rw [holdRemaining, ht], fun n ht hn => ?_⟩
    · show execQuery l tag s = _
      refine quietRequest_of (r := { code := .ok, contents := .slot (slotReport x s.freeCount) }) ?_
      simp only [query, closeStream_slotOf, h, closeStream_slot, slot_eq s i x hi]
      cases ht : x.holdTimer <;> cases l <;> rfl
    · have hlt := Nat.mod_lt (Config.holdElapsed s.freeCount) hn
      exact ⟨_, by rw [holdRemaining, ht], by omega, by omega⟩
  · have htag : x.tag = tag := by
      obtain ⟨_, hp, -⟩ := List.findIdx?_eq_some_iff_getElem.mp h
      rw [(List.getElem?_eq_some_iff.mp hi).2] at hp
      simp only [Bool.and_eq_true, beq_iff_eq] at hp
      exact hp.2
    show execCollect l 0x00#8 tag s = _
    refine quietRequest_of (r := { code := .ok, contents := .result tag r }) ?_
    simp only [collect, if_true, closeStream_slotOf, h, closeStream_slot, slot_eq s i x hi, hx,
      collectSlot_closeStream hi hr, htag]
  · have hfind : oldestDone l 0 s.slots = some (0 + i, x) := oldestDone_eq_some hx ho hi hold
    rw [Nat.zero_add] at hfind
    show execCollect l 0x01#8 tag s = _
    refine quietRequest_of (r := { code := .ok, contents := .result x.tag r }) ?_
    rw [collect, if_neg (by decide), if_pos rfl, closeStream_slots, hfind]
    exact collectSlot_closeStream hi hr
  · show execCollect l 0x00#8 tag s = _
    refine quietRequest_of (r := refuse .state) ?_
    simp only [collect, if_true, closeStream_slotOf, h, closeStream_slot, hx, if_false]
  · show execCollect l 0x00#8 tag s = _
    exact quietRequest_of (r := refuse .noTag) (by simp only [collect, if_true, closeStream_slotOf, h])
  · show execCollect l 0x01#8 tag s = _
    refine quietRequest_of (r := refuse .state) ?_
    rw [collect, if_neg (by decide), if_pos rfl, closeStream_slots, oldestDone_eq_none _ _ h]
  · show execCollect l selector tag s = _
    exact quietRequest_of (r := refuse .malformed) (by rw [collect, if_neg (by bv_omega), if_neg (by bv_omega)])

end Sys2Proof.Machine
end

section
/-! PROOFS. The peak fit (R113). -/

namespace Sys2Proof.Machine

open Sys2Proof

/-! ### The greatest and the least score -/

/-- Folding `max` gives the greatest of the list and the start. -/
theorem foldl_max_spec (l : List Nat) (a : Nat) :
    a ≤ l.foldl max a ∧ (∀ x ∈ l, x ≤ l.foldl max a) ∧ (l.foldl max a = a ∨ l.foldl max a ∈ l) := by
  induction l generalizing a with
  | nil => simp
  | cons x xs ih =>
    obtain ⟨hstart, hall, hmem⟩ := ih (max a x)
    simp only [List.foldl_cons, List.mem_cons, forall_eq_or_imp]
    refine ⟨by omega, ⟨by omega, hall⟩, ?_⟩
    rcases hmem with h | h
    · rw [h]
      rcases max_choice a x with hc | hc
      · exact .inl hc
      · exact .inr (.inl hc)
    · exact .inr (.inr h)

/-- Folding `min` gives the least of the list and the start. -/
theorem foldl_min_spec (l : List Nat) (a : Nat) :
    l.foldl min a ≤ a ∧ (∀ x ∈ l, l.foldl min a ≤ x) ∧ (l.foldl min a = a ∨ l.foldl min a ∈ l) := by
  induction l generalizing a with
  | nil => simp
  | cons x xs ih =>
    obtain ⟨hstart, hall, hmem⟩ := ih (min a x)
    simp only [List.foldl_cons, List.mem_cons, forall_eq_or_imp]
    refine ⟨by omega, ⟨by omega, hall⟩, ?_⟩
    rcases hmem with h | h
    · rw [h]
      rcases min_choice a x with hc | hc
      · exact .inl hc
      · exact .inr (.inl hc)
    · exact .inr (.inr h)

/-- The greatest score is the one that no score exceeds. -/
theorem maxScore_eq {scores : List Nat} {best : Nat} (hmem : best ∈ scores) (hall : ∀ y ∈ scores, y ≤ best) :
    maxScore scores = best := by
  obtain ⟨-, hle, hmax⟩ := foldl_max_spec scores 0
  have := hle best hmem
  rcases hmax with h | h
  · simp only [maxScore]
    omega
  · exact le_antisymm (hall _ h) this

theorem maxScore_mem {scores : List Nat} (h : scores ≠ []) : maxScore scores ∈ scores := by
  obtain ⟨-, hle, h0 | hmem⟩ := foldl_max_spec scores 0
  · obtain ⟨x, hx⟩ := List.exists_mem_of_ne_nil scores h
    have := hle x hx
    have hx0 : x = maxScore scores := by
      simp only [maxScore]
      omega
    exact hx0 ▸ hx
  · exact hmem

theorem minScore_mem {scores : List Nat} (h : scores ≠ []) (hall : ∀ x ∈ scores, x ≤ 65535) : minScore scores ∈ scores := by
  obtain ⟨-, hle, h0 | hmem⟩ := foldl_min_spec scores 65535
  · obtain ⟨x, hx⟩ := List.exists_mem_of_ne_nil scores h
    have h1 := hle x hx
    have h2 := hall x hx
    have hx0 : x = minScore scores := by
      simp only [minScore]
      omega
    exact hx0 ▸ hx
  · exact hmem

/-! ### The rounded quotient -/

/-- The quotient is the nearest whole number, a half away from zero, with the sign of the numerator (R113). -/
theorem roundedQuotient_spec (num : Int) {den : Nat} (hden : 0 < den) :
    2 * (roundedQuotient num den * den - num).natAbs ≤ den ∧
    (2 * (roundedQuotient num den * den - num).natAbs = den → num.natAbs < (roundedQuotient num den * den).natAbs) ∧
    (0 ≤ num → 0 ≤ roundedQuotient num den) ∧ (num ≤ 0 → roundedQuotient num den ≤ 0) ∧
    (roundedQuotient num den).natAbs = (2 * num.natAbs + den) / (2 * den) := by
  obtain ⟨q, hq⟩ : ∃ q, q = (2 * num.natAbs + den) / (2 * den) := ⟨_, rfl⟩
  have hlo : 2 * (q * den) ≤ 2 * num.natAbs + den := by
    have := Nat.div_mul_le_self (2 * num.natAbs + den) (2 * den)
    rw [← hq] at this
    linarith
  have hhi : 2 * num.natAbs + den < 2 * (q * den) + 2 * den := by
    have := Nat.lt_div_mul_add (a := 2 * num.natAbs + den) (b := 2 * den) (by omega)
    rw [← hq] at this
    linarith
  have hoff : roundedQuotient num den = if num < 0 then -(q : Int) else (q : Int) := by
    rw [roundedQuotient, if_neg (by omega), hq]
  have hprod : ((q * den : Nat) : Int) = (q : Int) * den := by push_cast; rfl
  have hzero : num = 0 → q = 0 := by
    rintro rfl
    rw [hq]
    exact Nat.div_eq_of_lt (by simp; omega)
  rw [hoff]
  split_ifs with hneg
  · have : -(q : Int) * den = -((q * den : Nat) : Int) := by rw [hprod]; ring
    rw [this, ← hq]
    omega
  · rw [← hprod, ← hq]
    omega

/-- The quotient of a numerator that vanishes. -/
theorem roundedQuotient_zero (den : Nat) : roundedQuotient 0 den = 0 := by
  rcases Nat.eq_zero_or_pos den with rfl | h
  · rfl
  · obtain ⟨-, -, hup, hdown, -⟩ := roundedQuotient_spec 0 h
    exact le_antisymm (hdown le_rfl) (hup le_rfl)

/-! ### The fit -/

/-- Settles O48. -/
theorem fitFollowsThePeak : Obligations.FitFollowsThePeak := by
  intro contrast z points scores hlen hrange
  refine ⟨fun hne hflat => ?_, fun i best p hi hp hbest hfirst hsteep => ?_⟩
  · have hpos := hflat _ (maxScore_mem hne) _ (maxScore_mem hne)
    have hdiff := hflat _ (maxScore_mem hne) _ (minScore_mem hne hrange)
    exact if_pos (show maxScore scores - minScore scores < contrast by omega)
  · have hmem : best ∈ scores := List.mem_of_getElem? hi
    have hmax : maxScore scores = best := maxScore_eq hmem hbest
    have hidx : scores.findIdx (fun x => x == best) = i := by
      obtain ⟨hlt, hget⟩ := List.getElem?_eq_some_iff.mp hi
      rw [List.findIdx_eq hlt]
      refine ⟨by simp [hget], fun j hj => ?_⟩
      have := hfirst j _ hj (List.getElem?_eq_getElem (hj.trans hlt))
      simp
      omega
    have hcontrast : ¬ best - minScore scores < contrast := by
      obtain ⟨y, hy, hyc⟩ := hsteep
      have := (foldl_min_spec scores 65535).2.1 y hy
      simp only [minScore]
      omega
    have hpi : points.getD i 0 = p := by simp [List.getD, hp]
    refine ⟨fun hend => ?_, fun a b hpos ha hb => ?_⟩
    · simp only [fitScores, hmax, hidx, hcontrast, if_false, hend, if_true, hpi]
    · have hinner : ¬ (i = 0 ∨ i + 1 = points.length) := by
        have := (List.getElem?_eq_some_iff.mp hb).1
        omega
      have ha' : scores.getD (i - 1) 0 = a := by simp [List.getD, ha]
      have hb' : scores.getD (i + 1) 0 = b := by simp [List.getD, hb]
      have halt : a < best := hfirst (i - 1) a (by omega) ha
      have hble : b ≤ best := hbest b (List.mem_of_getElem? hb)
      have hfit : fitScores contrast z points scores =
          { result := .fitted, step := some (min 4095 ((p : Int) + peakOffset a best b z).toNat), quality := some .good } := by
        simp only [fitScores, hmax, hidx, hcontrast, if_false, hinner, hpi, ha', hb', Config.maxStep]
      obtain ⟨hnear, hhalf, hup, hdown, habs⟩ :=
        roundedQuotient_spec (((b : Int) - a) * z) (den := 2 * (2 * best - a - b)) (by omega)
      have hden : ((2 * (2 * best - a - b) : Nat) : Int) = 2 * (2 * (best : Int) - a - b) := by omega
      rw [hden] at hnear hhalf
      refine ⟨peakOffset a best b z, hfit, hnear, hhalf, fun h => hup ?_, fun h => hdown ?_, fun h => ?_, ?_⟩
      · exact mul_nonneg (by omega) (by omega)
      · exact mul_nonpos_of_nonpos_of_nonneg (by omega) (by omega)
      · rw [peakOffset, h, sub_self, zero_mul, roundedQuotient_zero]
      · have hdist : ((b : Int) - a).natAbs ≤ 2 * best - a - b := by omega
        have hnum : (((b : Int) - a) * z).natAbs ≤ (2 * best - a - b) * z := by
          rw [Int.natAbs_mul, Int.natAbs_natCast]
          exact Nat.mul_le_mul_right z hdist
        have hfloor := Nat.div_mul_le_self (2 * (((b : Int) - a) * z).natAbs + 2 * (2 * best - a - b)) (2 * (2 * (2 * best - a - b)))
        rw [← habs] at hfloor
        refine Nat.le_of_mul_le_mul_left (c := 2 * (2 * best - a - b)) ?_ (by omega)
        calc 2 * (2 * best - a - b) * (2 * (peakOffset a best b z).natAbs)
            = (peakOffset a best b z).natAbs * (2 * (2 * (2 * best - a - b))) := by ring
          _ ≤ 2 * ((2 * best - a - b) * z) + 2 * (2 * best - a - b) := hfloor.trans (by omega)
          _ = 2 * (2 * best - a - b) * (z + 1) := by ring

end Sys2Proof.Machine
end

section
/-! PROOFS. Request frames and tag records are read back (R158, R183, R184, R194 to R196). -/

namespace Sys2Proof.Machine

open Sys2Proof

/-! ### Operands of several bytes (R195) -/

theorem half_join (v : Half) : v.extractLsb' 8 8 ++ v.extractLsb' 0 8 = v := by
  rw [BitVec.extractLsb'_append_extractLsb'_eq_extractLsb' (by rfl)]
  exact BitVec.extractLsb'_eq_self

theorem triple_join (v : BitVec 24) : v.extractLsb' 16 8 ++ v.extractLsb' 8 8 ++ v.extractLsb' 0 8 = v := by
  rw [BitVec.extractLsb'_append_extractLsb'_eq_extractLsb' (by rfl), BitVec.extractLsb'_append_extractLsb'_eq_extractLsb' (by rfl)]
  exact BitVec.extractLsb'_eq_self

theorem quad_join (v : Quad) : v.extractLsb' 24 8 ++ v.extractLsb' 16 8 ++ v.extractLsb' 8 8 ++ v.extractLsb' 0 8 = v := by
  rw [BitVec.extractLsb'_append_extractLsb'_eq_extractLsb' (by rfl), BitVec.extractLsb'_append_extractLsb'_eq_extractLsb' (by rfl),
    BitVec.extractLsb'_append_extractLsb'_eq_extractLsb' (by rfl)]
  exact BitVec.extractLsb'_eq_self

/-! ### The frame around the parameters (R194) -/

theorem sumBytes_append (xs ys : List Byte) : sumBytes (xs ++ ys) = sumBytes xs + sumBytes ys := by
  induction xs with
  | nil => exact (BitVec.zero_add _).symm
  | cons x xs ih => simp only [List.cons_append, sumBytes, ih, BitVec.add_assoc]

/-- The check byte makes the byte sum zero. -/
theorem sumBytes_frameOf (code : Byte) (ps : List Byte) : sumBytes (frameOf code ps) = 0#8 := by
  simp only [frameOf, sumBytes_append, frameCheck]
  generalize sumBytes _ = x
  simp only [sumBytes]
  bv_omega

/-- A frame as it is sent is whole: what is left is to read its code and its parameters. -/
theorem decodeFrame_frameOf (l : Link) (code : Byte) (ps : List Byte) (h : ps.length < 256) :
    (requestLength code = some ps.length → decodeFrame l (frameOf code ps) = requestOf l code ps) ∧
    (requestLength code = none → decodeFrame l (frameOf code ps) = .unknownRequestCode l code) := by
  have hlen : (BitVec.ofNat 8 ps.length).toNat = ps.length := by
    rw [BitVec.toNat_ofNat]
    exact Nat.mod_eq_of_lt h
  have hsum := sumBytes_frameOf code ps
  have htake : ∀ x, List.take (ps.length + 3) (code :: BitVec.ofNat 8 ps.length :: (ps ++ [x])) =
      code :: BitVec.ofNat 8 ps.length :: (ps ++ [x]) := fun x => List.take_of_length_le (by simp)
  simp only [frameOf, List.cons_append] at hsum ⊢
  constructor <;> intro hcode <;> simp [decodeFrame, hlen, htake, hsum, hcode]

/-- The parameters of a well-formed request are read back as its operands (R195). -/
theorem requestOf_parts {i : Instr} {l : Link} {code : Byte} {ps : List Byte} (hw : WellFormed i = true)
    (h : requestParts i = some (l, code, ps)) (hlen : requestLength code ≠ none) : requestOf l code ps = i := by
  cases i <;> cases h
  case unknownRequestCode => exact absurd (by simpa [WellFormed] using hw) hlen
  case setFlagMask name bits =>
    have hname : name ≠ 0x01#8 := by simpa [WellFormed] using hw
    simp [requestOf, paramByte, paramHalf, halfBytes, hname, half_join]
  all_goals
    simp [requestOf, paramByte, paramHalf, paramTriple, paramQuad, paramTarget, paramImport, halfBytes, tripleBytes, quadBytes,
      targetBytes, importBytes, half_join, triple_join, quad_join]

/-- The parameters of a well-formed request are as long as the table of 11 says. -/
theorem parts_length {i : Instr} {l : Link} {code : Byte} {ps : List Byte} (hw : WellFormed i = true)
    (h : requestParts i = some (l, code, ps)) : ps.length < 256 ∧
      (requestLength code = some ps.length ∨ (requestLength code = none ∧ i = .unknownRequestCode l code)) := by
  cases i <;> cases h
  case unknownRequestCode => exact ⟨by simp, .inr ⟨by simpa [WellFormed] using hw, rfl⟩⟩
  all_goals exact ⟨Nat.le_of_ble_eq_true rfl, .inl rfl⟩

/-- Settles O17. -/
theorem requestFramesReadBack : Obligations.RequestFramesReadBack := by
  intro i l bytes hw h
  cases hp : requestParts i with
  | none => simp [encodeFrame, hp] at h
  | some p =>
    obtain ⟨m, code, ps⟩ := p
    simp only [encodeFrame, hp, Option.some.injEq, Prod.mk.injEq] at h
    obtain ⟨rfl, rfl⟩ := h
    obtain ⟨hlt, hlen | ⟨hnone, rfl⟩⟩ := parts_length hw hp
    · exact ((decodeFrame_frameOf _ _ _ hlt).1 hlen).trans (requestOf_parts hw hp (by simp [hlen]))
    · exact (decodeFrame_frameOf _ _ _ hlt).2 hnone

/-! ### Tag records (R158, R196) -/

theorem byteSum_append (xs ys : List Byte) : byteSum (xs ++ ys) = byteSum xs + byteSum ys := by
  induction xs with
  | nil => exact (BitVec.zero_add _).symm
  | cons x xs ih => simp only [List.cons_append, byteSum, ih, BitVec.add_assoc]

/-- The check byte makes the byte sum zero (R196). -/
theorem byteSum_withCheck (bytes : List Byte) : byteSum (withCheck bytes) = 0#8 := by
  simp only [withCheck, checkByte, byteSum_append]
  generalize byteSum _ = x
  simp only [byteSum]
  bv_omega

theorem fromLE_lt (bytes : List Byte) : fromLE bytes < 256 ^ bytes.length := by
  induction bytes with
  | nil => simp [fromLE]
  | cons b bs ih =>
    have := b.isLt
    rw [fromLE, List.length_cons, pow_succ]
    omega

/-- Place `i` of a number written in bytes. -/
theorem fromLE_digit (bytes : List Byte) (i : Nat) : fromLE bytes / 256 ^ i % 256 = (bytes.getD i 0#8).toNat := by
  induction bytes generalizing i with
  | nil => simp [fromLE]
  | cons b bs ih =>
    have hb := b.isLt
    cases i with
    | zero =>
      rw [fromLE, pow_zero, Nat.div_one, Nat.add_mul_mod_self_left]
      exact Nat.mod_eq_of_lt hb
    | succ i =>
      have hdiv : (b.toNat + 256 * fromLE bs) / 256 = fromLE bs := by omega
      rw [fromLE, pow_succ', ← Nat.div_div_eq_div_mul, hdiv, ih]
      rfl

theorem recordOf_toNat {bytes : List Byte} (h : bytes.length = 8) : (recordOf bytes).toNat = fromLE bytes := by
  have hlt := fromLE_lt bytes
  rw [h] at hlt
  rw [recordOf, BitVec.toNat_ofNat]
  exact Nat.mod_eq_of_lt hlt

/-- Byte `i` of the record of eight bytes is the one at place `i`. -/
theorem recordByte_recordOf {bytes : List Byte} (h : bytes.length = 8) (i : Nat) :
    recordByte (recordOf bytes) i = bytes.getD i 0#8 := by
  refine BitVec.eq_of_toNat_eq ?_
  rw [recordByte, BitVec.extractLsb'_toNat, recordOf_toNat h, Nat.shiftRight_eq_div_pow, pow_mul, ← fromLE_digit]
  rfl

/-- The bytes of the record of eight bytes (R196). -/
theorem recordBytes_recordOf {bytes : List Byte} (h : bytes.length = 8) : recordBytes (recordOf bytes) = bytes := by
  match bytes, h with
  | [b0, b1, b2, b3, b4, b5, b6, b7], h =>
    simp [recordBytes, recordByte_recordOf h, List.range, List.range.loop]

/-- A record that ends in its check byte is read by the places of its bytes, as its kind says (R158, R196). -/
theorem readRecord_withCheck (b0 b1 b2 b3 b4 b5 b6 : Byte) (h0 : b0 ≠ 0xFF#8) :
    readRecord (recordOf (withCheck [b0, b1, b2, b3, b4, b5, b6])) =
      if b0 = 0x01#8 then some (.rollA (BitVec.ofNat 32 (fromLE [b1, b2, b3, b4])) (64 * fromLE [b5, b6]))
      else if b0 = 0x02#8 then readRollB (fromLE [b1, b2]) (fromLE [b3, b4]) b5.toNat b6.toNat
      else if b0 = 0x03#8 then readRollC (fromLE [b1, b2]) (fromLE [b3, b4]) (fromLE [b5, b6])
      else if b0 = 0x10#8 then readZone (fromLE [b1, b2]) (fromLE [b3, b4]) b5 b6
      else if b0 = 0x20#8 then readCheck (fromLE [b1, b2]) (fromLE [b3, b4, b5]) b6
      else none := by
  have hlen : (withCheck [b0, b1, b2, b3, b4, b5, b6]).length = 8 := rfl
  have hbyte := recordByte_recordOf hlen
  have hsum : byteSum (recordBytes (recordOf (withCheck [b0, b1, b2, b3, b4, b5, b6]))) = 0#8 := by
    rw [recordBytes_recordOf hlen, byteSum_withCheck]
  have hquad : (recordOf (withCheck [b0, b1, b2, b3, b4, b5, b6])).extractLsb' 8 32 =
      BitVec.ofNat 32 (fromLE [b1, b2, b3, b4]) := by
    refine BitVec.eq_of_toNat_eq ?_
    rw [BitVec.extractLsb'_toNat, recordOf_toNat hlen, Nat.shiftRight_eq_div_pow, BitVec.toNat_ofNat]
    simp only [withCheck, List.cons_append, List.nil_append, fromLE]
    have := b0.isLt
    omega
  simp only [readRecord, hbyte, hsum, hquad]
  simp only [withCheck, List.cons_append, List.nil_append, List.getD_cons_zero,
    List.getD_cons_succ, h0, if_false, ne_eq, not_true_eq_false]

theorem toNat_le1 {n : Nat} (h : n < 256) : (BitVec.ofNat 8 n).toNat = n := by
  rw [BitVec.toNat_ofNat]
  exact Nat.mod_eq_of_lt h

theorem fromLE_le2 {n : Nat} (h : n < 65536) : fromLE [BitVec.ofNat 8 n, BitVec.ofNat 8 (n / 256)] = n := by
  simp only [fromLE, BitVec.toNat_ofNat]
  omega

theorem fromLE_le3 {n : Nat} (h : n < 16777216) :
    fromLE [BitVec.ofNat 8 n, BitVec.ofNat 8 (n / 256), BitVec.ofNat 8 (n / 65536)] = n := by
  simp only [fromLE, BitVec.toNat_ofNat]
  omega

theorem fromLE_le4 {n : Nat} (h : n < 4294967296) :
    fromLE [BitVec.ofNat 8 n, BitVec.ofNat 8 (n / 256), BitVec.ofNat 8 (n / 65536), BitVec.ofNat 8 (n / 16777216)] = n := by
  simp only [fromLE, BitVec.toNat_ofNat]
  omega

/-- Settles O19. -/
theorem tagRecordsReadBack : Obligations.TagRecordsReadBack := by
  refine ⟨fun p ⟨n, hp, hn⟩ => ?_, fun p h1 h2 ⟨g, hg, hg'⟩ ⟨m, hm, hm1, hm2⟩ hgauge => ?_, fun p h1 h2 h3 h4 => ?_,
    fun z h1 h2 h3 => ?_, fun k p c h1 h2 h3 => ?_, by decide⟩
  · refine (readRecord_withCheck 0x01#8 _ _ _ _ _ _ (by decide)).trans ?_
    rw [if_pos rfl, fromLE_le4 p.rollId.isLt, fromLE_le2 (by omega), BitVec.ofNat_toNat, BitVec.setWidth_eq]
    congr 2
    omega
  · refine (readRecord_withCheck 0x02#8 _ _ _ _ _ _ (by decide)).trans ?_
    rw [if_neg (by decide), if_pos rfl, fromLE_le2 (by omega), fromLE_le2 (by omega), toNat_le1 (by omega), toNat_le1 (by omega),
      readRollB, if_pos ⟨h1, h2, by omega, hgauge⟩]
    congr 2 <;> omega
  · refine (readRecord_withCheck 0x03#8 _ _ _ _ _ _ (by decide)).trans ?_
    rw [if_neg (by decide), if_neg (by decide), if_pos rfl, fromLE_le2 (by omega), fromLE_le2 (by omega), fromLE_le2 (by omega)]
    exact if_pos ⟨h1, h2, h4⟩
  · refine (readRecord_withCheck 0x10#8 _ _ _ _ _ _ (by decide)).trans ?_
    rw [if_neg (by decide), if_neg (by decide), if_neg (by decide), if_pos rfl, fromLE_le2 (by omega), fromLE_le2 (by omega)]
    have hin : 1 ≤ z.start ∧ z.start ≤ Config.maxFrames ∧ z.step ≤ Config.maxStep := ⟨h1, h2, h3⟩
    have hsource : ∀ x, decodeZoneSource (zoneSourceCode x) = some x := by rintro (_ | _ | _) <;> rfl
    have hquality : ∀ x, decodeQuality (qualityCode x) = some x := by rintro (_ | _) <;> rfl
    simp only [readZone, hsource, hquality, hin, and_self, if_true]
  · refine (readRecord_withCheck 0x20#8 _ _ _ _ _ _ (by decide)).trans ?_
    rw [if_neg (by decide), if_neg (by decide), if_neg (by decide), if_neg (by decide), if_pos rfl, fromLE_le2 (by omega),
      fromLE_le3 (by omega)]
    have hin : 1 ≤ k ∧ k ≤ Config.maxFrames := ⟨h1, h2⟩
    have hclass : ∀ x, decodeClass (classCode x) = some x := by rintro (_ | _ | _) <;> rfl
    simp only [readCheck, hclass, hin, and_self, if_true]

end Sys2Proof.Machine
end

section
/-! PROOFS. What every operation keeps: the bounds of the register, the tables, the index, the lens and the slots (R1, R9, R13, R31,
R96, R98, R100, R117, R121, R165), as one relation between the state a command began in and the state an operation has reached. -/

namespace Sys2Proof.Machine

open Sys2Proof

/-! ### The relation -/

/-- The states in which there is no roll in the gate and no slot is open (R24). -/
@[simp] def TState.rollLess : TState → Bool
  | .empty | .threading | .rewinding => true
  | .parked | .standby | .waking | .moving | .settling | .settled | .recovering | .faulted => false

/-- No slot is open. -/
abbrev slotsClosed (s : State) : Prop := ∀ x ∈ s.slots, x.state = .free ∨ x.state = .done

/-- The laws that held in `a` hold in `s`, and the DONE slots of `a` stand in `s`, those of the link `l` aside, whose slots
may have been freed. -/
structure Keeps (l : Option Link) (a s : State) : Prop where
  register : RegisterLaw a → RegisterLaw s
  zones : ZoneLaw a → ZoneLaw s
  index : IndexLaw a → IndexLaw s
  lens : LensLaw a → LensLaw s
  pitch : PitchLaw a → PitchLaw s
  order : PitchLaw a → OrderLaw a → OrderLaw s
  number : NumberLaw a → NumberLaw s
  frames : FrameLaw a → FrameLaw s
  done : ∀ (i : Nat) (x : Slot), a.slots[i]? = some x → x.state = .done → l ≠ some x.owner → s.slots[i]? = some x

theorem Keeps.refl (l : Option Link) (s : State) : Keeps l s s :=
  ⟨id, id, id, id, id, fun _ => id, id, id, fun _ _ h _ _ => h⟩

section
variable {l : Option Link} {a : State}

/-- The parts of the state the laws speak of. -/
structure LawParts where
  register : Nat
  entries : List Entry
  counters : Triple
  pitchQ : Nat
  checkpoints : List Checkpoint
  zones : List Zone
  status : FocusStatus
  position : Nat
  target : Option Nat
  phase : LensPhase
  downEnd : Nat
  slots : List Slot
  active : Profile
  default : Profile
  load : Option LoadRecord

/-- The parts of the state the laws speak of, the transport state aside. -/
def State.lawParts (s : State) : LawParts :=
  { register := s.tracker.register, entries := s.index.entries, counters := s.index.counters, pitchQ := s.index.pitchQ,
    checkpoints := s.index.checkpoints, zones := s.zones, status := s.focus.status, position := s.focus.position,
    target := s.focus.target, phase := s.focus.phase, downEnd := s.focus.downEnd, slots := s.slots, active := s.roll.active,
    default := s.roll.default, load := s.tag.load }

/-- The laws are laws of these parts and, for the open slots, of the transport state, which is free to go to a state with a roll. -/
theorem Keeps.of_parts {s t : State} (h : Keeps l a s) (hcore : t.lawParts = s.lawParts)
    (hstate : t.transport.state.rollLess = false ∨ t.transport.state = s.transport.state) : Keeps l a t := by
  simp only [State.lawParts, LawParts.mk.injEq] at hcore
  obtain ⟨hreg, hent, hcount, hpitch, hcheck, hzone, hstat, hpos, htar, hphase, hdown, hslot, hact, hdef, hload⟩ := hcore
  constructor
  · simpa only [RegisterLaw, hreg] using h.register
  · simpa only [ZoneLaw, hzone, hload] using h.zones
  · simpa only [IndexLaw, hent, hcheck, hload] using h.index
  · simpa only [LensLaw, hstat, hpos, htar, hphase, hdown] using h.lens
  · simpa only [PitchLaw, hact, hdef, hload, hpitch] using h.pitch
  · simpa only [OrderLaw, hent] using h.order
  · simpa only [NumberLaw, hent, hcount] using h.number
  · intro ha
    obtain ⟨hframe, hclosed⟩ := h.frames ha
    refine ⟨by simpa only [hslot, hent] using hframe, fun hless => ?_⟩
    rcases hstate with hs | hs
    · rcases hless with e | e | e <;> rw [e] at hs <;> cases hs
    · rw [hs] at hless
      simpa only [hslot] using hclosed hless
  · simpa only [hslot] using h.done

/-- An update that keeps these parts keeps the laws. -/
@[simp] theorem keeps_update (x : State) (tr : Tracker) (mk : Marks) (ix : FrameIndex) (tp : Transport) (lp : Lamp)
    (ro : Roll) (fo : Focus) (sw : Sweep) (sc : Sched) (pa : Pass) (tg : Tag) (po : Poller) (bu : Bus)
    (pr : Params) (lA lB : LinkState) (fc : Nat) (td : List Signal) (pe : List Instr)
    (h1 : tr.register = x.tracker.register) (h2 : ix.entries = x.index.entries) (h3 : ix.counters = x.index.counters)
    (h4 : ix.pitchQ = x.index.pitchQ) (h5 : ix.checkpoints = x.index.checkpoints)
    (h6 : tp.state = x.transport.state) (h7 : ro.active = x.roll.active)
    (h8 : ro.default = x.roll.default) (h9 : fo.status = x.focus.status) (h10 : fo.position = x.focus.position)
    (h11 : fo.target = x.focus.target) (h12 : fo.phase = x.focus.phase) (h13 : fo.downEnd = x.focus.downEnd)
    (h14 : tg.load = x.tag.load) (h : Keeps l a x) :
    Keeps l a (State.mk tr mk ix tp lp ro fo x.zones sw x.slots sc pa tg po bu pr lA lB fc td pe) :=
  h.of_parts (by simp only [State.lawParts, h1, h2, h3, h4, h5, h7, h8, h9, h10, h11, h12, h13, h14]) (.inr h6)

/-- The laws where the lens alone has changed, and what waits to be carried out. -/
theorem Keeps.of_lens {s t : State} (h : Keeps l a s) (ht : t = { s with focus := t.focus, todo := t.todo })
    (hlens : LensLaw s → LensLaw t) : Keeps l a t := by
  rw [ht] at hlens ⊢
  have hother : Keeps l a { s with todo := t.todo } := h.of_parts rfl (.inr rfl)
  exact { hother with lens := fun ha => hlens (h.lens ha) }

/-! ### The lens (R96 to R99) -/

theorem lensArrived_eq (s : State) :
    lensArrived s = { s with focus := (lensArrived s).focus, todo := (lensArrived s).todo } := by
  unfold lensArrived
  (repeat' split) <;> rfl

theorem planLens_eq (s : State) : planLens s = { s with focus := (planLens s).focus, todo := (planLens s).todo } := by
  unfold planLens lensArrived
  (repeat' split) <;> rfl

theorem setFocusTarget_eq (t : Nat) (r : Requester) (s : State) : setFocusTarget t r s =
    { s with focus := (setFocusTarget t r s).focus, todo := (setFocusTarget t r s).todo } := by
  unfold setFocusTarget
  split
  · rfl
  · exact planLens_eq _
  · exact lensArrived_eq _

theorem stepLens_eq (focHome : Bool) (s : State) :
    stepLens focHome s = { s with focus := (stepLens focHome s).focus, todo := (stepLens focHome s).todo } := by
  unfold stepLens homeFound
  split
  · split
    · dsimp only
      split
      · exact planLens_eq _
      · rfl
    · rfl
  · dsimp only
    split_ifs
    · exact lensArrived_eq _
    · rfl
    · rfl
  · dsimp only
    split_ifs
    · exact lensArrived_eq _
    · rfl
  · rfl

/-- A lens at rest is within the law where its position and its target are in range. -/
theorem lensArrived_law {s : State} (h1 : s.focus.position ≤ Config.maxStep) (h2 : ∀ t ∈ s.focus.target, t ≤ Config.maxStep) :
    LensLaw (lensArrived s) := by
  unfold lensArrived
  (repeat' split) <;> exact ⟨h1, h2, by simp [emit], by simp [emit]⟩

/-- A move of the lens is planned within the law. -/
theorem planLens_law {s : State} (h1 : s.focus.position ≤ Config.maxStep) (h2 : ∀ t ∈ s.focus.target, t ≤ Config.maxStep)
    (hr : s.focus.status = .ready) : LensLaw (planLens s) := by
  unfold planLens
  split
  · exact ⟨h1, h2, by simp, by simp⟩
  · rename_i t ht
    split_ifs with hlt heq
    · exact ⟨h1, h2, by simp, by simp [ht]⟩
    · exact lensArrived_law h1 h2
    · exact ⟨h1, h2, by simp [ht, hr]; omega, by simp⟩

@[simp] theorem lensArrived_keeps {s : State} (h : Keeps l a s) : Keeps l a (lensArrived s) :=
  h.of_lens (lensArrived_eq s) fun hs => lensArrived_law hs.1 hs.2.1

/-- A target is taken, and the lens planned for it, within the law (R98, R100). -/
@[simp] theorem setFocusTarget_keeps (t : Nat) (r : Requester) {s : State} (h : Keeps l a s) :
    Keeps l a (setFocusTarget t r s) := by
  refine h.of_lens (setFocusTarget_eq t r s) fun ⟨hpos, _, hup, _⟩ => ?_
  unfold setFocusTarget
  split
  · rename_i hstatus
    refine ⟨hpos, by simp, fun e => ?_, fun _ e => by simp [hstatus] at e⟩
    have := (hup e).1
    rw [hstatus] at this
    cases this
  · exact planLens_law hpos (by simp) ‹_›
  · exact lensArrived_law hpos (by simp)

@[simp] theorem homeNotFound_keeps {s : State} (h : Keeps l a s) : Keeps l a (homeNotFound s) :=
  h.of_lens (by unfold homeNotFound lensArrived; (repeat' split) <;> rfl)
    fun ⟨_, htarget, _, _⟩ => lensArrived_law (Nat.zero_le _) htarget

/-- One stepper step within the law (R97, R98): the last of a DOWN leg leaves the lens at its target or below it, the last of an UP
leg at its target. -/
@[simp] theorem stepLens_keeps (focHome : Bool) {s : State} (h : Keeps l a s) : Keeps l a (stepLens focHome s) := by
  refine h.of_lens (stepLens_eq focHome s) fun hs => ?_
  have ⟨hpos, htarget, hup, hdown⟩ := hs
  unfold stepLens
  split
  · rename_i hstatus hphase
    split
    · dsimp only
      split
      · exact planLens_law (Nat.zero_le _) htarget rfl
      · exact hs
    · exact hs
  · rename_i hstatus hphase
    obtain ⟨t, ht, hend⟩ := hdown hphase hstatus
    have hrange : s.focus.position - 1 ≤ Config.maxStep := (Nat.sub_le _ _).trans hpos
    dsimp only
    split_ifs with hle heq
    · exact lensArrived_law hrange htarget
    · refine ⟨hrange, htarget, fun _ => ⟨hstatus, t, ht, ?_⟩, by simp⟩
      have : s.focus.position - 1 ≠ t := fun e => heq (e ▸ ht)
      show s.focus.position - 1 < t
      omega
    · exact ⟨hrange, htarget, by simp [hphase], fun _ _ => ⟨t, ht, hend⟩⟩
  · rename_i hstatus hphase
    obtain ⟨-, t, ht, hlt⟩ := hup hphase
    have hrange : s.focus.position + 1 ≤ Config.maxStep := (Nat.succ_le_of_lt hlt).trans (htarget t ht)
    dsimp only
    split_ifs with heq
    · exact lensArrived_law hrange htarget
    · refine ⟨hrange, htarget, fun _ => ⟨hstatus, t, ht, ?_⟩, by simp [hphase]⟩
      have : s.focus.position + 1 ≠ t := fun e => heq (e ▸ ht)
      show s.focus.position + 1 < t
      omega
  · exact hs

end

end Sys2Proof.Machine
end

section
/-! PROOFS. What a change of the slots or of the index entries must be like to keep the laws (R9, R13, R14, R117, R121). -/

namespace Sys2Proof.Machine

open Sys2Proof

section
variable {lk : Option Link} {s₀ : State}

/-! ### Slots (R117, R121) -/

/-- A slot whose resolved frame must lie in the index (R121). -/
abbrev Slot.Placed (x : Slot) : Prop := x.state = .pending ∨ x.state = .travelling ∨ x.state = .presenting

/-- What may become of a slot while the index holds `n` entries: a DONE one stands, a placed one had its frame before or has one of
the index, and a resting one stays at rest. -/
structure Slot.Follows (n : Nat) (x y : Slot) : Prop where
  done : x.state = .done → y = x
  placed : y.Placed → (∃ k ∈ y.frame, k ≤ n) ∨ (x.Placed ∧ y.frame = x.frame)
  resting : x.state = .free ∨ x.state = .done → y.state = .free ∨ y.state = .done

theorem Slot.Follows.refl (n : Nat) (x : Slot) : Slot.Follows n x x := ⟨fun _ => rfl, fun h => .inr ⟨h, rfl⟩, id⟩

/-- A slot that was not resting ends, or goes on with its frame. -/
theorem Slot.Follows.of_open {n : Nat} {x y : Slot} (hx : x.Placed) (hframe : y.frame = x.frame) : Slot.Follows n x y where
  done h := by rcases hx with e | e | e <;> rw [e] at h <;> cases h
  placed _ := .inr ⟨hx, hframe⟩
  resting h := by rcases hx with e | e | e <;> rw [e] at h <;> rcases h with h | h <;> cases h

/-- A slot that was not DONE becomes DONE. -/
theorem Slot.Follows.of_done {n : Nat} {x y : Slot} (hx : x.state ≠ .done) (hy : y.state = .done) : Slot.Follows n x y where
  done h := absurd h hx
  placed h := by rcases h with e | e | e <;> rw [e] at hy <;> cases hy
  resting _ := .inr hy

/-- A change of some fields that the laws do not speak of. -/
theorem Slot.Follows.of_same {n : Nat} {x y : Slot} (hdone : x.state = .done → y = x) (hstate : y.state = x.state)
    (hframe : y.frame = x.frame) : Slot.Follows n x y where
  done := hdone
  placed h := .inr ⟨by simpa [Slot.Placed, hstate] using h, hframe⟩
  resting h := by rwa [hstate]

/-- What stands beside a slot in the second of two related lists. -/
theorem forall₂_getElem? {α β : Type} {R : α → β → Prop} {xs : List α} {ys : List β} (h : List.Forall₂ R xs ys) {i : Nat}
    {x : α} (hx : xs[i]? = some x) : ∃ y, ys[i]? = some y ∧ R x y := by
  induction h generalizing i with
  | nil => simp at hx
  | cons hr _ ih =>
    cases i with
    | zero => simp only [List.getElem?_cons_zero, Option.some.injEq] at hx ⊢; subst hx; exact ⟨_, rfl, hr⟩
    | succ i => simpa using ih (by simpa using hx)

/-- What stands beside a slot in the first of two related lists. -/
theorem forall₂_mem_right {α β : Type} {R : α → β → Prop} {xs : List α} {ys : List β} (h : List.Forall₂ R xs ys) {y : β}
    (hy : y ∈ ys) : ∃ x ∈ xs, R x y := by
  induction h with
  | nil => simp at hy
  | cons hr _ ih =>
    rcases List.mem_cons.mp hy with rfl | hy
    · exact ⟨_, List.mem_cons_self, hr⟩
    · obtain ⟨x, hx, hxy⟩ := ih hy
      exact ⟨x, List.mem_cons_of_mem _ hx, hxy⟩

/-- A change of one element, related to it, beside elements that stand. -/
theorem forall₂_modify {α : Type} {R : α → α → Prop} (hrefl : ∀ x, R x x) (f : α → α) {i : Nat} {l : List α}
    (hf : ∀ x, l[i]? = some x → R x (f x)) : List.Forall₂ R l (l.modify i f) := by
  induction l generalizing i with
  | nil => simp
  | cons x xs ih =>
    cases i with
    | zero => simpa [List.forall₂_same, hrefl] using hf
    | succ i => simpa [hrefl] using ih (i := i) (by simpa using hf)

/-- The laws after a change of the slots, each as `Slot.Follows` says. -/
theorem Keeps.of_slots {s t : State} (h : Keeps lk s₀ s) (ht : t = { s with slots := t.slots })
    (hf : List.Forall₂ (Slot.Follows s.extent) s.slots t.slots) : Keeps lk s₀ t := by
  rw [ht]
  have hother : Keeps lk s₀ { s with slots := s.slots } := h
  refine { hother with frames := fun ha => ?_, done := fun i x hx hd hl => ?_ }
  · obtain ⟨hframe, hclosed⟩ := h.frames ha
    refine ⟨fun y hy hplaced => ?_, fun hless y hy => ?_⟩
    · obtain ⟨x, hx, hxy⟩ := forall₂_mem_right hf hy
      rcases hxy.placed hplaced with hk | ⟨hp, e⟩
      · exact hk
      · rw [e]; exact hframe x hx hp
    · obtain ⟨x, hx, hxy⟩ := forall₂_mem_right hf hy
      exact hxy.resting (hclosed hless x hx)
  · obtain ⟨y, hy, hxy⟩ := forall₂_getElem? hf (h.done i x hx hd hl)
    exact (hxy.done hd) ▸ hy

/-- The laws after a change of one slot. -/
theorem Keeps.onSlot {s : State} (h : Keeps lk s₀ s) (i : Nat) (f : Slot → Slot)
    (hf : ∀ x, s.slots[i]? = some x → Slot.Follows s.extent x (f x)) : Keeps lk s₀ (onSlot i f s) :=
  h.of_slots rfl (forall₂_modify (Slot.Follows.refl _) f hf)

/-- The laws after a change of every slot. -/
theorem Keeps.mapSlots {s : State} (h : Keeps lk s₀ s) (f : Slot → Slot)
    (hf : ∀ x, Slot.Follows s.extent x (f x)) : Keeps lk s₀ { s with slots := s.slots.map f } :=
  h.of_slots rfl (List.forall₂_map_right_iff.mpr (List.forall₂_same.mpr fun x _ => hf x))

theorem Slot.onFault_follows (n : Nat) (x : Slot) : Slot.Follows n x x.onFault := by
  unfold Slot.onFault
  split
  · rename_i h; exact .of_done (by simp [h]) rfl
  · rename_i h; exact .of_done (by simp [h]) rfl
  · exact .refl n x

theorem Slot.onUnload_follows (n : Nat) (x : Slot) : Slot.Follows n x x.onUnload := by
  unfold Slot.onUnload
  split
  · exact .refl n x
  · rename_i h; exact .of_done (fun e => h (.inr e)) rfl

theorem Slot.onDiscoverEnd_follows (n : Nat) (x : Slot) : Slot.Follows n x x.onDiscoverEnd := by
  unfold Slot.onDiscoverEnd
  split
  · rename_i h; exact .of_done (by simp [h]) rfl
  · exact .refl n x

theorem Slot.onMoveEnd_follows (n : Nat) (o : MoveOutcome) (x : Slot) : Slot.Follows n x (x.onMoveEnd o) := by
  unfold Slot.onMoveEnd
  split
  · rename_i h
    split
    · exact .of_done (by simp [h]) rfl
    · exact .of_open (.inr (.inl h)) rfl
  · exact .refl n x

/-- A target that is found lies in the index (R16, R17). -/
theorem resolveTarget_found {s : State} {t : SlotTarget} {k : Nat} (h : resolveTarget s t = .found k) : k ≤ s.extent := by
  have frame_found : ∀ {n : Nat}, resolveFrame s n = .found k → k ≤ s.extent := fun {n} h => by
    unfold resolveFrame notYet at h
    split at h
    · cases h; assumption
    · split at h <;> cases h
  cases t with
  | frame n => exact frame_found h
  | relativeFrame n => exact frame_found h
  | address b d p =>
    simp only [resolveTarget, resolveAddress, notYet] at h
    split at h
    · rename_i i hi
      cases h
      exact (List.findIdx?_eq_some_iff_findIdx_eq.mp hi).1
    · (repeat' split at h) <;> cases h

theorem Slot.reresolved_follows (s : State) (x : Slot) : Slot.Follows s.extent x (x.reresolved s) := by
  unfold Slot.reresolved
  split
  · rename_i h
    split
    · rename_i k hk
      exact ⟨fun e => (by simp [h] at e), fun _ => .inl ⟨k, rfl, resolveTarget_found hk⟩, fun e => (by simp [h] at e)⟩
    · exact .refl _ x
    · exact .of_done (by simp [h]) rfl
  · exact .refl _ x

/-- The slots after a NORMAL choice hold what they held but for the skip counts of the waiting ones. -/
theorem skipFrom_forall₂ (s : State) (pick : Candidate) (i : Nat) (l : List Slot) :
    List.Forall₂ (fun x y => (x.state = .done → y = x) ∧ y.state = x.state ∧ y.frame = x.frame) l (skipFrom s pick i l) := by
  induction l generalizing i with
  | nil => exact .nil
  | cons x xs ih =>
    refine .cons ?_ (ih (i + 1))
    unfold Slot.skipped
    split
    · rename_i h; exact ⟨fun e => (by rw [h.1] at e; cases e), rfl, rfl⟩
    · split
      · exact ⟨fun _ => rfl, rfl, rfl⟩
      · cases hc : candidateOf s i x with
        | none => exact ⟨fun _ => rfl, rfl, rfl⟩
        | some c => exact ⟨fun e => (by rw [candidateOf_resting s i x (by simp [Slot.resting, e])] at hc; cases hc), rfl, rfl⟩

/-! ### Entries (R9, R13, R14) -/

/-- An entry with the position, the class and the triple of another. -/
abbrev Entry.Agrees (e d : Entry) : Prop := d.position = e.position ∧ d.cls = e.cls ∧ d.triple = e.triple

theorem renumberList_agrees {es ds : List Entry} (h : List.Forall₂ (fun e d => d.cls = e.cls ∧ d.triple = e.triple) es ds)
    {t c : Triple} (he : renumberList t es = (es, c)) : renumberList t ds = (ds, c) := by
  induction h generalizing t with
  | nil => simpa [renumberList] using he
  | @cons e d es ds hr _ ih =>
    obtain ⟨hcls, htriple⟩ := hr
    simp only [renumberList, Prod.mk.injEq, List.cons.injEq] at he
    obtain ⟨⟨hhead, htail⟩, hlast⟩ := he
    have hfirst : nextTriple t e.cls = e.triple := congrArg Entry.triple hhead
    have htailEq := ih (t := nextTriple t e.cls) (Prod.ext htail hlast)
    have hd : nextTriple t d.cls = d.triple := by rw [hcls, hfirst, htriple]
    rw [hfirst, ← htriple] at htailEq
    simp only [renumberList, hd, htailEq]

theorem pairwise_agrees {es ds : List Entry} (h : List.Forall₂ Entry.Agrees es ds)
    (he : es.Pairwise (fun a b => a.position < b.position)) : ds.Pairwise (fun a b => a.position < b.position) := by
  have hmap : ds.map Entry.position = es.map Entry.position := by
    induction h with
    | nil => rfl
    | cons hr _ ih => simp [hr.1, ih (List.Pairwise.of_cons he)]
  rw [← List.pairwise_map (f := Entry.position)] at he ⊢
  rwa [hmap]

/-- The laws after a change of the entries that leaves their positions, classes and triples. -/
theorem Keeps.of_entries {s t : State} (h : Keeps lk s₀ s)
    (ht : t = { s with index := { s.index with entries := t.index.entries } })
    (hf : List.Forall₂ Entry.Agrees s.index.entries t.index.entries) : Keeps lk s₀ t := by
  have hlen : t.index.entries.length = s.index.entries.length := hf.length_eq.symm
  have hother : Keeps lk s₀ { s with index := s.index } := h
  rw [ht]
  exact
    { hother with
      index := fun ha => by simpa only [IndexLaw, hlen] using h.index ha
      order := fun hp ha => pairwise_agrees hf (h.order hp ha)
      number := fun ha => renumberList_agrees (hf.imp fun _ _ ⟨_, hcls, htriple⟩ => ⟨hcls, htriple⟩) (h.number ha)
      frames := fun ha => by simpa only [FrameLaw, hlen] using h.frames ha }

/-- The laws after a change of one entry that leaves its position, its class and its triple. -/
theorem Keeps.onEntry {s : State} (h : Keeps lk s₀ s) (k : Nat) (f : Entry → Entry) (hf : ∀ e, Entry.Agrees e (f e)) :
    Keeps lk s₀ (onEntry k f s) := by
  unfold Machine.onEntry
  split
  · exact h
  · exact h.of_entries rfl (forall₂_modify (fun _ => ⟨rfl, rfl, rfl⟩) f fun e _ => hf e)

theorem renumberList_append (t : Triple) (xs ys : List Entry) : renumberList t (xs ++ ys) =
    ((renumberList t xs).1 ++ (renumberList (renumberList t xs).2 ys).1, (renumberList (renumberList t xs).2 ys).2) := by
  induction xs generalizing t with
  | nil => rfl
  | cons x xs ih => simp [renumberList, ih]

/-- Numbered entries are numbered again as they are (R14). -/
theorem renumberList_idem (t : Triple) (es : List Entry) :
    renumberList t (renumberList t es).1 = ((renumberList t es).1, (renumberList t es).2) := by
  induction es generalizing t with
  | nil => rfl
  | cons e es ih => simp [renumberList, ih]

@[simp] theorem renumberList_length (t : Triple) (es : List Entry) : (renumberList t es).1.length = es.length := by
  induction es generalizing t with
  | nil => rfl
  | cons e es ih => simp [renumberList, ih]

@[simp] theorem renumberList_positions (t : Triple) (es : List Entry) :
    (renumberList t es).1.map Entry.position = es.map Entry.position := by
  induction es generalizing t with
  | nil => rfl
  | cons e es ih => simp [renumberList, ih]

/-- Entries appended one by one are appended, numbered, together (R9, R13). -/
theorem appendEntries_eq (es : List Entry) (s : State) : appendEntries es s =
    { s with index := { s.index with
        entries := s.index.entries ++ (renumberList s.index.counters es).1
        counters := (renumberList s.index.counters es).2 } } := by
  induction es generalizing s with
  | nil => simp [appendEntries, renumberList]
  | cons e es ih => rw [appendEntries, ih]; simp [appendEntry, renumberList]

/-- New entries at the end of the index keep the laws where they fit and go on in its order. -/
theorem Keeps.appendEntries {s : State} (h : Keeps lk s₀ s) (es : List Entry)
    (hfit : s.extent ≤ Config.maxFrames → s.extent + es.length ≤ Config.maxFrames)
    (horder : PitchLaw s₀ → OrderLaw s₀ → (s.index.entries ++ es).Pairwise (fun a b => a.position < b.position)) :
    Keeps lk s₀ (appendEntries es s) := by
  have hother : Keeps lk s₀ { s with index := s.index } := h
  rw [appendEntries_eq]
  refine
    { hother with
      index := fun ha => ?_
      order := fun hp ha => ?_
      number := fun ha => ?_
      frames := fun ha => ?_ }
  · obtain ⟨hroom, hrest⟩ := h.index ha
    exact ⟨by simpa [State.extent] using hfit hroom, hrest⟩
  · have hpos := horder hp ha
    have hmap : ∀ l : List Entry, l.Pairwise (fun a b => a.position < b.position) ↔ (l.map Entry.position).Pairwise (· < ·) :=
      fun l => List.pairwise_map.symm
    rw [hmap] at hpos
    show List.Pairwise _ _
    rw [hmap]
    simpa using hpos
  · have hn := h.number ha
    simp only [NumberLaw, renumberList_append, hn, renumberList_idem]
  · obtain ⟨hframe, hclosed⟩ := h.frames ha
    refine ⟨fun x hx hp => ?_, hclosed⟩
    obtain ⟨k, hk, hle⟩ := hframe x hx hp
    exact ⟨k, hk, by simp only [List.length_append]; omega⟩

/-- No entry lies above the last one (R9). -/
theorem position_le_pos_extent {s : State} (h : OrderLaw s) {e : Entry} (he : e ∈ s.index.entries) :
    e.position ≤ s.pos s.extent := by
  rcases List.eq_nil_or_concat s.index.entries with hnil | ⟨init, last, hlast⟩
  · rw [hnil] at he; cases he
  · have hpos : s.pos s.extent = last.position := by simp [State.pos, State.entry, State.extent, hlast]
    rw [OrderLaw, hlast, List.concat_eq_append] at h
    rw [hlast, List.concat_eq_append] at he
    rcases List.mem_append.mp he with hi | hl
    · exact hpos ▸ (List.pairwise_append.mp h).2.2 e hi last (by simp) |>.le
    · rw [hpos, List.mem_singleton.mp hl]

/-- Entries beyond the last one that are in order go on in the order of the index. -/
theorem pairwise_append_beyond {s : State} (h : OrderLaw s) {es : List Entry}
    (hes : es.Pairwise (fun a b => a.position < b.position)) (hbeyond : s.extent ≠ 0 → ∀ e ∈ es, s.pos s.extent < e.position) :
    (s.index.entries ++ es).Pairwise (fun a b => a.position < b.position) := by
  refine List.pairwise_append.mpr ⟨h, hes, fun e he d hd => ?_⟩
  have hne : s.extent ≠ 0 := by simp only [State.extent, ne_eq, List.length_eq_zero_iff]; intro e0; rw [e0] at he; cases he
  exact (position_le_pos_extent h he).trans_lt (hbeyond hne d hd)

end

end Sys2Proof.Machine
end

section
/-! PROOFS. Every consequence inside a command keeps the laws of `Keeps` (log 4), operation by operation as the model builds
them. -/

namespace Sys2Proof.Machine

open Sys2Proof

section
variable {lk : Option Link} {s₀ : State}

/-! ### Flags, updates and records -/

@[simp] theorem flagBoth_keeps (f : Flags → Flags) {s : State} (hk : Keeps lk s₀ s) :
    Keeps lk s₀ (flagBoth f s) := hk.of_parts rfl (.inr rfl)

@[simp] theorem flagOne_keeps (m : Link) (f : Flags → Flags) {s : State} (hk : Keeps lk s₀ s) : Keeps lk s₀ (flagOne m f s) := by
  cases m <;> exact hk.of_parts rfl (.inr rfl)

@[simp] theorem flagTransport_keeps (r : TransportReason) {s : State} (hk : Keeps lk s₀ s) :
    Keeps lk s₀ (flagTransport r s) := hk.of_parts rfl (.inr rfl)

@[simp] theorem flagIndex_keeps (r : IndexReason) {s : State} (hk : Keeps lk s₀ s) :
    Keeps lk s₀ (flagIndex r s) := hk.of_parts rfl (.inr rfl)

@[simp] theorem flagTag_keeps (r : TagReason) {s : State} (hk : Keeps lk s₀ s) :
    Keeps lk s₀ (flagTag r s) := hk.of_parts rfl (.inr rfl)

@[simp] theorem flagRoll_keeps {s : State} (hk : Keeps lk s₀ s) : Keeps lk s₀ (flagRoll s) := hk.of_parts rfl (.inr rfl)

@[simp] theorem flagLamp_keeps {s : State} (hk : Keeps lk s₀ s) : Keeps lk s₀ (flagLamp s) := hk.of_parts rfl (.inr rfl)

@[simp] theorem flagPassEnd_keeps (m : Link) {s : State} (hk : Keeps lk s₀ s) : Keeps lk s₀ (flagPassEnd m s) := by
  cases m <;> exact hk.of_parts rfl (.inr rfl)

@[simp] theorem flagFocus_keeps (m : Link) {s : State} (hk : Keeps lk s₀ s) : Keeps lk s₀ (flagFocus m s) := by
  cases m <;> exact hk.of_parts rfl (.inr rfl)

@[simp] theorem emit_keeps (sig : Signal) {s : State} (hk : Keeps lk s₀ s) :
    Keeps lk s₀ (emit sig s) := hk.of_parts rfl (.inr rfl)

@[simp] theorem setDirty_keeps {s : State} (hk : Keeps lk s₀ s) : Keeps lk s₀ (setDirty s) := by
  unfold setDirty; exact hk.of_parts rfl (.inr rfl)

@[simp] theorem onMove_keeps (f : Move → Move) {s : State} (hk : Keeps lk s₀ s) : Keeps lk s₀ (onMove f s) := by
  unfold onMove; exact hk.of_parts rfl (.inr rfl)

@[simp] theorem discardMark_keeps {s : State} (hk : Keeps lk s₀ s) : Keeps lk s₀ (discardMark s) := by
  unfold discardMark; exact hk.of_parts rfl (.inr rfl)

/-! ### Drive -/

@[simp] theorem setLamp_keeps (x : LampState) {s : State} (hk : Keeps lk s₀ s) : Keeps lk s₀ (setLamp x s) := by
  unfold setLamp
  (repeat' split) <;> simp [hk]

@[simp] theorem warmExpired_keeps {s : State} (hk : Keeps lk s₀ s) : Keeps lk s₀ (warmExpired s) := by
  unfold warmExpired
  (repeat' split) <;> simp [hk]

@[simp] theorem enterWarming_keeps {s : State} (hk : Keeps lk s₀ s) : Keeps lk s₀ (enterWarming s) := by
  unfold enterWarming
  dsimp only
  split
  · simp [hk]
  · exact (setLamp_keeps .warming hk).of_parts rfl (.inr rfl)

@[simp] theorem lampOnEntering_keeps (t : TState) {s : State} (hk : Keeps lk s₀ s) : Keeps lk s₀ (lampOnEntering t s) := by
  unfold lampOnEntering
  (repeat' split) <;> simp [hk]

@[simp] theorem enterState_keeps (t : TState) (ht : t.rollLess = false) {s : State} (hk : Keeps lk s₀ s) :
    Keeps lk s₀ (enterState t s) := by
  unfold enterState
  extract_lets _ _ s1 s2
  have h1 : Keeps lk s₀ s1 := hk.of_parts rfl (.inl ht)
  have h2 : Keeps lk s₀ s2 := lampOnEntering_keeps t h1
  split <;> simp [h2]

@[simp] theorem holdTension_keeps {s : State} (hk : Keeps lk s₀ s) : Keeps lk s₀ (holdTension s) := hk.of_parts rfl (.inr rfl)

@[simp] theorem enterWaking_keeps {s : State} (hk : Keeps lk s₀ s) : Keeps lk s₀ (enterWaking s) :=
  enterState_keeps .waking rfl (hk.of_parts rfl (.inr rfl))

@[simp] theorem enterStandby_keeps (count : Option Nat) {s : State} (hk : Keeps lk s₀ s) :
    Keeps lk s₀ (enterStandby count s) :=
  enterState_keeps .standby rfl (hk.of_parts rfl (.inr rfl))

@[simp] theorem givePulse_keeps {s : State} (hk : Keeps lk s₀ s) : Keeps lk s₀ (givePulse s) := by
  unfold givePulse
  (repeat' split) <;> simp [hk]

@[simp] theorem freeGate_keeps {s : State} (hk : Keeps lk s₀ s) : Keeps lk s₀ (freeGate s) :=
  enterState_keeps .parked rfl (hk.of_parts rfl (.inr rfl))

@[simp] theorem holdGate_keeps (x : Holder) {s : State} (hk : Keeps lk s₀ s) : Keeps lk s₀ (holdGate x s) :=
  enterState_keeps .settled rfl (hk.of_parts rfl (.inr rfl))

@[simp] theorem leaveGate_keeps {s : State} (hk : Keeps lk s₀ s) : Keeps lk s₀ (leaveGate s) :=
  enterState_keeps .parked rfl (hk.of_parts rfl (.inr rfl))

@[simp] theorem endGrant_keeps {s : State} (hk : Keeps lk s₀ s) : Keeps lk s₀ (endGrant s) := by
  unfold endGrant
  simp [hk]

/-! ### Lens -/

/-! ### Endings -/

@[simp] theorem finishSweep_keeps (result : SweepResult) (step : Option Nat) (quality : Option Quality) (store : StoreOutcome)
    {s : State} (hk : Keeps lk s₀ s) : Keeps lk s₀ (finishSweep result step quality store s) := by
  unfold finishSweep
  split
  · exact hk
  · extract_lets report src s1 s2
    have h1 : Keeps lk s₀ s1 := hk.of_parts rfl (.inr rfl)
    have h2 : Keeps lk s₀ s2 := by
      simp only [s2]
      split <;> simp [h1]
    simp [h2]

@[simp] theorem finishSweepBare_keeps (result : SweepResult) {s : State} (hk : Keeps lk s₀ s) :
    Keeps lk s₀ (finishSweepBare result s) := by
  unfold finishSweepBare
  (repeat' split) <;> simp [hk]

@[simp] theorem onOutcome_keeps (i : Nat) (f : SegOutcome → SegOutcome) {s : State} (hk : Keeps lk s₀ s) :
    Keeps lk s₀ (onOutcome i f s) := by
  unfold onOutcome
  simp [hk]

@[simp] theorem countFault_keeps (i : Nat) (c : FaultClass) (k : Nat) {s : State} (hk : Keeps lk s₀ s) :
    Keeps lk s₀ (countFault i c k s) := by
  unfold countFault
  simp [hk]

@[simp] theorem stopHolding_keeps (o : PassOutcome) {s : State} (hk : Keeps lk s₀ s) : Keeps lk s₀ (stopHolding o s) := by
  unfold stopHolding
  (repeat' split) <;> simp [hk]

@[simp] theorem finishPass_keeps (o : PassOutcome) {s : State} (hk : Keeps lk s₀ s) : Keeps lk s₀ (finishPass o s) := by
  unfold finishPass
  split
  · exact hk
  · extract_lets s1 report
    have h1 : Keeps lk s₀ s1 := by simp [s1, hk]
    exact flagPassEnd_keeps _ (h1.of_parts rfl (.inr rfl))

@[simp] theorem enterFaulted_keeps (kind : FaultKind) {s : State} (hk : Keeps lk s₀ s) : Keeps lk s₀ (enterFaulted kind s) := by
  unfold enterFaulted
  split
  · exact hk
  · have hslots := hk.mapSlots Slot.onFault (Slot.onFault_follows _)
    extract_lets src1 src2 src3 s1 s2 s3
    have h1 : Keeps lk s₀ s1 := hslots.of_parts rfl (.inr rfl)
    have h3 : Keeps lk s₀ s3 := finishSweepBare_keeps _ (finishPass_keeps _ h1)
    exact flagTransport_keeps _ (enterState_keeps .faulted rfl h3)

/-! ### Motion -/

@[simp] theorem setLevel_keeps (x : Level) {s : State} (hk : Keeps lk s₀ s) : Keeps lk s₀ (setLevel x s) := by
  unfold setLevel
  (repeat' split) <;> simp [hk]

@[simp] theorem retrySucceeded_keeps (m : Move) {s : State} (hk : Keeps lk s₀ s) : Keeps lk s₀ (retrySucceeded m s) := by
  unfold retrySucceeded
  (repeat' split) <;> simp [hk]

@[simp] theorem pauseFor_keeps (act : RestAction) {s : State} (hk : Keeps lk s₀ s) : Keeps lk s₀ (pauseFor act s) := by
  unfold pauseFor
  simp [hk]

@[simp] theorem stopFor_keeps (o : MoveOutcome) {s : State} (hk : Keeps lk s₀ s) : Keeps lk s₀ (stopFor o s) := by
  unfold stopFor
  simp [hk]

@[simp] theorem finishMove_keeps (o : MoveOutcome) {s : State} (hk : Keeps lk s₀ s) : Keeps lk s₀ (finishMove o s) := by
  unfold finishMove
  split
  · exact hk
  · extract_lets s1
    have h1 : Keeps lk s₀ s1 := by
      simp only [s1]
      split <;> simp [hk]
    exact enterState_keeps .parked rfl (emit_keeps _ (h1.of_parts rfl (.inr rfl)))

@[simp] theorem arrive_keeps {s : State} (hk : Keeps lk s₀ s) : Keeps lk s₀ (arrive s) := by
  unfold arrive
  split
  · exact hk
  · extract_lets s1 s2
    have h1 : Keeps lk s₀ s1 := retrySucceeded_keeps _ hk
    have h2 : Keeps lk s₀ s2 := onMove_keeps _ h1
    split
    · simp [h1]
    · exact enterState_keeps .settling rfl (h2.of_parts rfl (.inr rfl))

@[simp] theorem startFinal_keeps (prevForward : Bool) {s : State} (hk : Keeps lk s₀ s) :
    Keeps lk s₀ (startFinal prevForward s) := by
  unfold startFinal
  split
  · exact hk
  · dsimp only
    split
    · simp [hk]
    · generalize h1 : onMove _ s = s1
      have e1 : Keeps lk s₀ s1 := by rw [← h1]; simp [hk]
      generalize h2 : setFocusTarget _ _ s1 = s2
      have e2 : Keeps lk s₀ s2 := by rw [← h2]; simp [e1]
      (repeat' split) <;> simp [e2]

@[simp] theorem beginLeg_keeps (g : Leg) (rest : List Leg) (afterRest : Bool) {s : State} (hk : Keeps lk s₀ s) :
    Keeps lk s₀ (beginLeg g rest afterRest s) := by
  unfold beginLeg
  (repeat' split) <;> simp [hk]

@[simp] theorem takeLeg_keeps (g : Leg) (rest : List Leg) (afterRest prevForward : Bool) {s : State} (hk : Keeps lk s₀ s) :
    Keeps lk s₀ (takeLeg g rest afterRest prevForward s) := by
  unfold takeLeg
  extract_lets s1
  have h1 : Keeps lk s₀ s1 := by simp +zetaDelta [hk]
  (repeat' split) <;> simp [h1]

@[simp] theorem nextLegAfterRest_keeps {s : State} (hk : Keeps lk s₀ s) : Keeps lk s₀ (nextLegAfterRest s) := by
  unfold nextLegAfterRest
  (repeat' split) <;> simp [hk]

@[simp] theorem beginPlan_keeps (plan : List Leg) {s : State} (hk : Keeps lk s₀ s) : Keeps lk s₀ (beginPlan plan s) := by
  unfold beginPlan
  (repeat' split) <;> simp [hk]

@[simp] theorem replan_keeps {s : State} (hk : Keeps lk s₀ s) : Keeps lk s₀ (replan s) := by
  unfold replan
  (repeat' split) <;> simp [hk]

@[simp] theorem legEnded_keeps {s : State} (hk : Keeps lk s₀ s) : Keeps lk s₀ (legEnded s) := by
  unfold legEnded
  (repeat' split) <;> simp [hk]

@[simp] theorem motionCheck_keeps (ev : Option Direction) {s : State} (hk : Keeps lk s₀ s) : Keeps lk s₀ (motionCheck ev s) := by
  unfold motionCheck
  split
  · extract_lets r t
    (repeat' split) <;> first | exact hk.of_parts rfl (.inr rfl) | simp [hk]
  · exact hk.of_parts rfl (.inr rfl)

@[simp] theorem startMove_keeps (m : Move) {s : State} (hk : Keeps lk s₀ s) : Keeps lk s₀ (startMove m s) := by
  unfold startMove
  split
  · exact hk
  · split
    · simp [hk]
    · split
      · simp [hk]
      · have h1 : Keeps lk s₀ (enterState .moving s) := enterState_keeps .moving rfl hk
        (repeat' split) <;> simp [hk, h1]

@[simp] theorem requestStop_keeps {s : State} (hk : Keeps lk s₀ s) : Keeps lk s₀ (requestStop s) := by
  unfold requestStop
  split
  · (repeat' split) <;> simp [hk]
  · exact stopFor_keeps _ (enterState_keeps .moving rfl hk)
  · exact enterState_keeps .parked rfl (emit_keeps _ (hk.of_parts rfl (.inr rfl)))
  · simp [hk]
  · split <;> simp [hk]
  · split <;> simp [hk]
  · split <;> simp [hk]
  · exact hk

@[simp] theorem loseConfidence_keeps {s : State} (hk : Keeps lk s₀ s) : Keeps lk s₀ (loseConfidence s) := by
  unfold loseConfidence
  extract_lets s1
  have h1 : Keeps lk s₀ s1 := emit_keeps _ (setLevel_keeps _ hk)
  have hmoving : Keeps lk s₀ (enterState .moving s1) := enterState_keeps .moving rfl h1
  (repeat' split) <;> simp [h1, hmoving]

@[simp] theorem stalled_keeps {s : State} (hk : Keeps lk s₀ s) : Keeps lk s₀ (stalled s) := by
  have hrecovering : Keeps lk s₀ (enterState .recovering s) := enterState_keeps .recovering rfl hk
  unfold stalled
  (repeat' split) <;> simp [hk, hrecovering]

@[simp] theorem filmStill_keeps {s : State} (hk : Keeps lk s₀ s) : Keeps lk s₀ (filmStill s) := hk.of_parts rfl (.inr rfl)

@[simp] theorem restTaken_keeps {s : State} (hk : Keeps lk s₀ s) : Keeps lk s₀ (restTaken s) := by
  have hmoving : Keeps lk s₀ (enterState .moving s) := enterState_keeps .moving rfl hk
  unfold restTaken
  (repeat' split) <;> simp [hk, hmoving]

@[simp] theorem filmRested_keeps {s : State} (hk : Keeps lk s₀ s) : Keeps lk s₀ (filmRested s) := by
  unfold filmRested
  simp [hk]

@[simp] theorem countTravel_keeps (d : Direction) {s : State} (hk : Keeps lk s₀ s) : Keeps lk s₀ (countTravel d s) := by
  unfold countTravel
  (repeat' split) <;> simp [hk]

@[simp] theorem closeIndex_keeps (c : Closure) {s : State} (hk : Keeps lk s₀ s) : Keeps lk s₀ (closeIndex c s) := by
  unfold closeIndex
  split
  · exact emit_keeps _ (flagIndex_keeps _ (hk.of_parts rfl (.inr rfl)))
  · exact hk

/-! ### Index -/

@[simp] theorem stopDiscover_keeps {s : State} (hk : Keeps lk s₀ s) : Keeps lk s₀ (stopDiscover s) := by
  unfold stopDiscover
  (repeat' split) <;> simp [hk]

@[simp] theorem stopDiscoverIfDone_keeps {s : State} (hk : Keeps lk s₀ s) : Keeps lk s₀ (stopDiscoverIfDone s) := by
  unfold stopDiscoverIfDone
  (repeat' split) <;> simp [hk]

@[simp] theorem reresolve_keeps {s : State} (hk : Keeps lk s₀ s) : Keeps lk s₀ (reresolve s) := by
  unfold reresolve
  extract_lets s1 s2 s3 s4
  have h1 : Keeps lk s₀ s1 := hk.mapSlots _ (Slot.reresolved_follows s)
  have h2 : Keeps lk s₀ s2 := by
    simp only [s2]
    (repeat' split) <;> simp [h1]
  have h3 : Keeps lk s₀ s3 := by
    simp only [s3]
    split <;> simp [h2]
  have h4 : Keeps lk s₀ s4 := by
    simp only [s4]
    split <;> simp [h3]
  simp [h4]

/-- A comparison changes a checkpoint's state and a flag, and no frame (R41). -/
@[simp] theorem compareCheckpoint_keeps (k : Nat) {s : State} (hk : Keeps lk s₀ s) : Keeps lk s₀ (compareCheckpoint k s) := by
  unfold compareCheckpoint
  split
  · extract_lets ok mark _ s1
    have hframe : ∀ x, (mark x).frame = x.frame := fun x => by simp only [mark]; split <;> rfl
    have h1 : Keeps lk s₀ s1 := by
      have hother : Keeps lk s₀ { s with index := s.index } := hk
      refine { hother with index := fun ha => ?_ }
      obtain ⟨hfit, ⟨hasc, hlen⟩, hload⟩ := hk.index ha
      refine ⟨hfit, ⟨?_, by simpa [s1] using hlen⟩, hload⟩
      show (s.index.checkpoints.map mark).Pairwise _
      rw [List.pairwise_map]
      simpa only [hframe] using hasc
    split
    · exact h1.onEntry k _ fun _ => ⟨rfl, rfl, rfl⟩
    · simp [h1]
  · exact hk

@[simp] theorem compareNew_keeps (n k : Nat) {s : State} (hk : Keeps lk s₀ s) : Keeps lk s₀ (compareNew n k s) := by
  induction n generalizing k s with
  | zero => exact hk.of_parts rfl (.inr rfl)
  | succ n ih => simp [compareNew, ih, hk]

@[simp] theorem handOn_keeps (first : Nat) {s : State} (hk : Keeps lk s₀ s) : Keeps lk s₀ (handOn first s) := by
  unfold handOn
  split
  · exact hk
  · extract_lets s1 s2 s3
    have h2 : Keeps lk s₀ s2 := reresolve_keeps (compareNew_keeps _ _ hk)
    have h3 : Keeps lk s₀ s3 := by
      simp only [s3]
      split <;> simp [h2]
    simp [h3]

/-- New entries keep the laws where they go on in the order of the index; what does not fit is not stored (R20, R42). -/
theorem storeEntries_keeps (es : List Entry) {s : State} (hk : Keeps lk s₀ s)
    (horder : PitchLaw s₀ → OrderLaw s₀ → (s.index.entries ++ es).Pairwise (fun a b => a.position < b.position)) :
    Keeps lk s₀ (storeEntries es s) := by
  unfold storeEntries
  extract_lets first room s1 s2
  have h1 : Keeps lk s₀ s1 := by
    refine hk.appendEntries _ (fun hfit => ?_) fun hp ho => (horder hp ho).sublist ?_
    · simp only [List.length_take, room]; omega
    · exact List.Sublist.append_left (List.take_sublist _ _) _
  have h2 : Keeps lk s₀ s2 := by
    simp only [s2]
    split <;> simp [h1]
  simp [h2]

@[simp] theorem resightMiss_keeps {s : State} (hk : Keeps lk s₀ s) : Keeps lk s₀ (resightMiss s) := by
  unfold resightMiss
  (repeat' split) <;> simp [hk]

@[simp] theorem resightAccepted_keeps {s : State} (hk : Keeps lk s₀ s) : Keeps lk s₀ (resightAccepted s) := by
  unfold resightAccepted
  simp [hk]

@[simp] theorem goodResighting_keeps {s : State} (hk : Keeps lk s₀ s) : Keeps lk s₀ (goodResighting s) := by
  unfold goodResighting
  (repeat' split) <;> simp [hk]

/-! ### Sweeping -/

@[simp] theorem onSweep_keeps (f : SweepRecord → SweepRecord) {s : State} (hk : Keeps lk s₀ s) : Keeps lk s₀ (onSweep f s) := by
  unfold onSweep
  simp [hk]

@[simp] theorem endSweep_keeps (result : SweepResult) (step : Option Nat) (quality : Option Quality) (store : StoreOutcome) {s : State} (hk : Keeps lk s₀ s) :
    Keeps lk s₀ (endSweep result step quality store s) := by
  unfold endSweep
  split
  · exact hk.of_parts rfl (.inr rfl)
  · extract_lets s1 s2
    have h_s1 : Keeps lk s₀ s1 := by
      simp only [s1]
      simp +zetaDelta [hk]
    have h_s2 : Keeps lk s₀ s2 := by
      simp only [s2]
      (repeat' split) <;> simp +zetaDelta [h_s1]
    (repeat' split) <;> simp [h_s2]

@[simp] theorem endSweepBare_keeps (result : SweepResult) {s : State} (hk : Keeps lk s₀ s) :
    Keeps lk s₀ (endSweepBare result s) := by
  unfold endSweepBare
  (repeat' split) <;> simp [hk]

@[simp] theorem cancelSweep_keeps (result : SweepResult) {s : State} (hk : Keeps lk s₀ s) :
    Keeps lk s₀ (cancelSweep result s) := by
  unfold cancelSweep
  (repeat' split) <;> simp [hk]

@[simp] theorem sendToPoint_keeps {s : State} (hk : Keeps lk s₀ s) : Keeps lk s₀ (sendToPoint s) := by
  unfold sendToPoint
  (repeat' split) <;> simp [hk]

@[simp] theorem placePoints_keeps {s : State} (hk : Keeps lk s₀ s) : Keeps lk s₀ (placePoints s) := by
  unfold placePoints
  (repeat' split) <;> simp [hk]

@[simp] theorem offerSweep_keeps {s : State} (hk : Keeps lk s₀ s) : Keeps lk s₀ (offerSweep s) := by
  unfold offerSweep
  (repeat' split) <;> simp [hk]

@[simp] theorem pointArrived_keeps (id point : Nat) {s : State} (hk : Keeps lk s₀ s) : Keeps lk s₀ (pointArrived id point s) := by
  unfold pointArrived
  (repeat' split) <;> simp [hk]

/-! ### Passing -/

@[simp] theorem endPass_keeps (o : PassOutcome) {s : State} (hk : Keeps lk s₀ s) : Keeps lk s₀ (endPass o s) := by
  unfold endPass
  split
  · exact hk.of_parts rfl (.inr rfl)
  · extract_lets s1 s2 s3 s4
    have h1 : Keeps lk s₀ s1 := by simp [s1, hk]
    have h2 : Keeps lk s₀ s2 := by
      simp only [s2]
      (repeat' split) <;> simp [h1]
    have h3 : Keeps lk s₀ s3 := by
      simp only [s3]
      split <;> simp [h2]
    have h4 : Keeps lk s₀ s4 := by
      simp only [s4]
      split <;> simp [h3]
    (repeat' split) <;> simp [h3, h4]

@[simp] theorem judgeNext_keeps (g : Segment) {s : State} (hk : Keeps lk s₀ s) : Keeps lk s₀ (judgeNext g s) := by
  unfold judgeNext
  (repeat' split) <;> exact hk.of_parts rfl (.inr rfl)

@[simp] theorem judgeAdded_keeps (g : Segment) {s : State} (hk : Keeps lk s₀ s) :
    Keeps lk s₀ (judgeAdded g s) := hk.of_parts rfl (.inr rfl)

@[simp] theorem judgeAgain_keeps {s : State} (hk : Keeps lk s₀ s) : Keeps lk s₀ (judgeAgain s) := by
  unfold judgeAgain
  split <;> exact hk.of_parts rfl (.inr rfl)

@[simp] theorem countOrdinal_keeps (g : Segment) (k : Nat) {s : State} (hk : Keeps lk s₀ s) :
    Keeps lk s₀ (countOrdinal g k s) := by
  unfold countOrdinal
  split <;> exact hk.of_parts rfl (.inr rfl)

@[simp] theorem sweepMade_keeps (k : Nat) {s : State} (hk : Keeps lk s₀ s) :
    Keeps lk s₀ (sweepMade k s) := hk.of_parts rfl (.inr rfl)

@[simp] theorem approachFrame_keeps (k : Nat) {s : State} (hk : Keeps lk s₀ s) : Keeps lk s₀ (approachFrame k s) := by
  unfold approachFrame
  simp [hk]

@[simp] theorem travelSweep_keeps {s : State} (hk : Keeps lk s₀ s) : Keeps lk s₀ (travelSweep s) := by
  unfold travelSweep
  (repeat' split) <;> simp [hk]

@[simp] theorem startPassSweep_keeps (g : Segment) (k : Nat) {s : State} (hk : Keeps lk s₀ s) :
    Keeps lk s₀ (startPassSweep g k s) := by
  unfold startPassSweep
  (repeat' split) <;> simp [hk]

@[simp] theorem giveBack_keeps (kind : GiveUp) {s : State} (hk : Keeps lk s₀ s) : Keeps lk s₀ (giveBack kind s) := by
  unfold giveBack
  extract_lets src p src2 s1
  have h1 : Keeps lk s₀ s1 := by
    simp only [s1]
    split <;> simp +zetaDelta [hk]
  split <;> simp [h1]

@[simp] theorem stopThen_keeps (a : AfterStop) {s : State} (hk : Keeps lk s₀ s) : Keeps lk s₀ (stopThen a s) := by
  unfold stopThen
  simp [hk]

@[simp] theorem afterVisits_keeps {s : State} (hk : Keeps lk s₀ s) : Keeps lk s₀ (afterVisits s) := by
  unfold afterVisits
  (repeat' split) <;> exact hk.of_parts rfl (.inr rfl)

@[simp] theorem leaveSweep_keeps {s : State} (hk : Keeps lk s₀ s) : Keeps lk s₀ (leaveSweep s) := by
  unfold leaveSweep
  split <;> simp [hk]

@[simp] theorem yieldDue_keeps {s : State} (hk : Keeps lk s₀ s) : Keeps lk s₀ (yieldDue s) := hk.of_parts rfl (.inr rfl)

theorem takeBoundary_keeps (g : State → State) (hg : ∀ x, Keeps lk s₀ x → Keeps lk s₀ (g x)) {s : State} (hk : Keeps lk s₀ s) :
    Keeps lk s₀ (takeBoundary g s) := by
  unfold takeBoundary
  split
  · simp [hk]
  · have h1 : Keeps lk s₀ (leaveSweep s) := leaveSweep_keeps hk
    dsimp only
    split <;> simp [h1]
  · exact hg s hk

/-- A boundary at which the pass goes on looking. -/
@[simp] theorem takeBoundary_emit_keeps (sig : Signal) {s : State} (hk : Keeps lk s₀ s) :
    Keeps lk s₀ (takeBoundary (emit sig) s) := takeBoundary_keeps _ (fun _ => emit_keeps sig) hk

/-- A boundary at which nothing else is done. -/
@[simp] theorem takeBoundary_id_keeps {s : State} (hk : Keeps lk s₀ s) : Keeps lk s₀ (takeBoundary id s) :=
  takeBoundary_keeps _ (fun _ => id) hk

@[simp] theorem beginSegment_keeps {s : State} (hk : Keeps lk s₀ s) : Keeps lk s₀ (beginSegment s) := by
  unfold beginSegment
  simp [hk]

@[simp] theorem endSegment_keeps {s : State} (hk : Keeps lk s₀ s) : Keeps lk s₀ (endSegment s) := by
  unfold endSegment
  split
  · split
    · split
      · simp [hk]
      · extract_lets s1 src s2 s3
        have h2 : Keeps lk s₀ s2 := by simp [s2, s1, src, hk]
        have h3 : Keeps lk s₀ s3 := by simp [s3, h2]
        split <;> simp [h3]
    · exact hk
  · exact hk

@[simp] theorem countFaults_keeps (i k : Nat) (classes : List FaultClass) {s : State} (hk : Keeps lk s₀ s) :
    Keeps lk s₀ (countFaults i k classes s) := by
  induction classes generalizing s with
  | nil => exact hk
  | cons c cs ih => simp [countFaults, ih, hk]

@[simp] theorem visitFrame_keeps (k : Nat) (selected : Bool) {s : State} (hk : Keeps lk s₀ s) :
    Keeps lk s₀ (visitFrame k selected s) := by
  unfold visitFrame
  extract_lets s1 s2
  have h1 : Keeps lk s₀ s1 := onOutcome_keeps _ _ hk
  have h2 : Keeps lk s₀ s2 := by
    simp only [s2]
    split <;> simp [h1]
  exact h2.of_parts rfl (.inr rfl)

@[simp] theorem workOnFrame_keeps (g : Segment) (k : Nat) {s : State} (hk : Keeps lk s₀ s) : Keeps lk s₀ (workOnFrame g k s) := by
  unfold workOnFrame
  (repeat' split) <;> simp [hk]

@[simp] theorem stepNext_keeps (g : Segment) {s : State} (hk : Keeps lk s₀ s) : Keeps lk s₀ (stepNext g s) := by
  unfold stepNext
  split
  · simp [hk]
  · extract_lets s1
    have h1 : Keeps lk s₀ s1 := by simp [s1, hk]
    split
    · exact workOnFrame_keeps _ _ (countOrdinal_keeps _ _ (h1.of_parts rfl (.inr rfl)))
    · split <;> simp [h1, hk]

@[simp] theorem offerPass_keeps {s : State} (hk : Keeps lk s₀ s) : Keeps lk s₀ (offerPass s) := by
  unfold offerPass
  split
  · extract_lets first src s1 s2 src2
    have h1 : Keeps lk s₀ s1 := by
      simp only [s1]
      split <;> simp [src, hk]
    have h2 : Keeps lk s₀ s2 := by simp [s2, h1]
    split
    · simp [h1]
    · split <;> simp [h1, h2, src2]
  · simp [hk]

@[simp] theorem finishFrame_keeps (k : Nat) (fault : Option FaultClass) {s : State} (hk : Keeps lk s₀ s) :
    Keeps lk s₀ (finishFrame k fault s) := by
  unfold finishFrame
  extract_lets src s1
  have h1 : Keeps lk s₀ s1 := freeGate_keeps (yieldDue_keeps (hk.of_parts rfl (.inr rfl)))
  split <;> simp [h1]

@[simp] theorem flyStart_keeps (g : Segment) {s : State} (hk : Keeps lk s₀ s) : Keeps lk s₀ (flyStart g s) := by
  unfold flyStart
  extract_lets r src s1 k0 src2
  have h1 : Keeps lk s₀ s1 := by
    simp only [s1]
    split <;> simp [src, hk]
  split <;> simp [h1, src2, hk]

@[simp] theorem passTrigger_keeps {s : State} (hk : Keeps lk s₀ s) : Keeps lk s₀ (passTrigger s) := by
  unfold passTrigger
  split
  · split
    · split
      · extract_lets s1 src s2
        have h1 : Keeps lk s₀ s1 := givePulse_keeps (hk.onEntry _ _ fun _ => ⟨rfl, rfl, rfl⟩)
        have h2 : Keeps lk s₀ s2 := visitFrame_keeps _ _ (yieldDue_keeps (h1.of_parts rfl (.inr rfl)))
        split
        · simp [h2]
        · exact takeBoundary_keeps _ (fun x hx => by split <;> simp [hx]) h2
      · exact takeBoundary_keeps _ (fun x hx => by simp [hx]) (by simp [hk])
    · exact hk
  · exact hk

@[simp] theorem armNext_keeps {s : State} (hk : Keeps lk s₀ s) : Keeps lk s₀ (armNext s) := by
  unfold armNext
  split
  · exact hk
  · split
    · split
      · simp [hk]
      · extract_lets s1
        have h1 : Keeps lk s₀ s1 := by simp [s1, hk]
        split
        · simp [h1]
        · extract_lets s2 src s3
          have h2 : Keeps lk s₀ s2 := by simp [s2, h1]
          have h3 : Keeps lk s₀ s3 := by simp [s3, src, h2]
          split
          · simp [h2]
          · exact emit_keeps _ (passTrigger_keeps (setFocusTarget_keeps _ _ h3))
    · exact hk

/-- A FLY fill goes on in the order of the index, since its prediction lies beyond the last entry (R32, R149). -/
@[simp] theorem tickPass_keeps {s : State} (hk : Keeps lk s₀ s) : Keeps lk s₀ (tickPass s) := by
  unfold tickPass
  split
  · exact hk
  · split
    · refine emit_keeps _ ?_
      split
      · refine storeEntries_keeps _ hk fun hp ho => pairwise_append_beyond (hk.order hp ho) (by simp) fun _ => ?_
        obtain ⟨⟨hpitch, -⟩, -, -, hlow, -⟩ := hk.pitch hp
        simp only [pitchLow] at hlow
        simp only [List.mem_singleton, forall_eq, newEntry, State.predFromE, predict]
        have hone : s.extent + 1 - s.extent = 1 := by omega
        rw [hone]
        omega
      · exact hk
    · exact hk

@[simp] theorem checkRun_keeps {s : State} (hk : Keeps lk s₀ s) : Keeps lk s₀ (checkRun s) := by
  unfold checkRun
  split
  · exact hk.of_parts rfl (.inr rfl)
  · split
    · extract_lets k src s1
      have h1 : Keeps lk s₀ s1 := by simp [s1, src, hk]
      (repeat' split) <;> simp [h1, hk]
    · exact hk.of_parts rfl (.inr rfl)

@[simp] theorem goPass_keeps {s : State} (hk : Keeps lk s₀ s) : Keeps lk s₀ (goPass s) := by
  unfold goPass
  split
  · split
    · simp [hk]
    · extract_lets s1
      have h1 : Keeps lk s₀ s1 := by simp +zetaDelta [hk]
      (repeat' split) <;> simp [h1]
  · exact hk.of_parts rfl (.inr rfl)

@[simp] theorem passSweepEnded_keeps (r : SweepResult) {s : State} (hk : Keeps lk s₀ s) : Keeps lk s₀ (passSweepEnded r s) := by
  unfold passSweepEnded
  split
  · split
    · extract_lets onward src s1
      have honward : ∀ x, Keeps lk s₀ x → Keeps lk s₀ (onward x) := by
        intro x hx
        dsimp only [onward]
        split <;> simp [hx]
      have h1 : Keeps lk s₀ s1 := by simp [s1, hk]
      split
      · exact honward s hk
      · exact honward s hk
      · simp [src, hk]
      · exact hk
      · exact hk
      · split
        · simp [h1]
        · exact honward s1 h1
    · exact hk
  · exact hk

@[simp] theorem passLost_keeps {s : State} (hk : Keeps lk s₀ s) : Keeps lk s₀ (passLost s) := by
  unfold passLost
  extract_lets src s1
  have h1 : Keeps lk s₀ s1 := endGrant_keeps (judgeAgain_keeps (hk.of_parts rfl (.inr rfl)))
  split <;> simp [h1]

@[simp] theorem passStopped_keeps {s : State} (hk : Keeps lk s₀ s) : Keeps lk s₀ (passStopped s) := by
  unfold passStopped
  extract_lets src s0 src2
  have h0 : Keeps lk s₀ s0 := by simp [s0, src, hk]
  split
  · (repeat' split) <;> simp [h0, src2]
  · simp [h0, src2]
  · split
    · exact takeBoundary_keeps _ (fun x hx => by simp [hx]) (by simp [h0, src2])
    · exact h0
  · simp [h0, src2]
  · exact takeBoundary_keeps _ (fun x hx => by split <;> simp [hx]) (by simp [h0, src2])
  · simp [h0, src2]

@[simp] theorem passMoveDone_keeps (o : MoveOutcome) {s : State} (hk : Keeps lk s₀ s) : Keeps lk s₀ (passMoveDone o s) := by
  unfold passMoveDone
  (repeat' split) <;> simp [hk]

@[simp] theorem passGrew_keeps {s : State} (hk : Keeps lk s₀ s) : Keeps lk s₀ (passGrew s) := by
  unfold passGrew
  split
  · exact hk.of_parts rfl (.inr rfl)
  · dsimp only
    (repeat' split) <;> simp [hk]

@[simp] theorem passClosed_keeps {s : State} (hk : Keeps lk s₀ s) : Keeps lk s₀ (passClosed s) := by
  unfold passClosed
  (repeat' split) <;> simp [hk]

@[simp] theorem askYield_keeps {s : State} (hk : Keeps lk s₀ s) : Keeps lk s₀ (askYield s) := by
  unfold askYield
  split
  · split
    · exact hk.of_parts rfl (.inr rfl)
    · extract_lets src s1
      have h1 : Keeps lk s₀ s1 := by simp [s1, src, hk]
      split <;> simp [h1]
  · exact hk.of_parts rfl (.inr rfl)

@[simp] theorem lookBoundary_keeps {s : State} (hk : Keeps lk s₀ s) : Keeps lk s₀ (lookBoundary s) := by
  unfold lookBoundary
  (repeat' split) <;> simp [hk]

@[simp] theorem passLampOn_keeps {s : State} (hk : Keeps lk s₀ s) : Keeps lk s₀ (passLampOn s) := by
  unfold passLampOn
  (repeat' split) <;> simp [hk]

/-! ### Scheduler -/

@[simp] theorem normalTaken_keeps (pick : Candidate) {s : State} (hk : Keeps lk s₀ s) : Keeps lk s₀ (normalTaken pick s) := by
  have hslots : Keeps lk s₀ { s with slots := skipFrom s pick 0 s.slots } :=
    hk.of_slots rfl ((skipFrom_forall₂ s pick 0 s.slots).imp fun _ _ ⟨hdone, hstate, hframe⟩ => .of_same hdone hstate hframe)
  exact hslots.of_parts rfl (.inr rfl)

@[simp] theorem makeGrant_keeps (g : Grant) {s : State} (hk : Keeps lk s₀ s) : Keeps lk s₀ (makeGrant g s) := by
  unfold makeGrant
  extract_lets src src2 s1
  have h1 : Keeps lk s₀ s1 := by simp [s1, src, src2, hk]
  (repeat' split) <;> simp [h1]

/-- A PENDING slot that becomes TRAVELLING keeps its frame (R125). -/
theorem grantSlot_keeps (i : Nat) {s : State} (hk : Keeps lk s₀ s) (hp : ∀ x, s.slots[i]? = some x → x.state = .pending) :
    Keeps lk s₀ (grantSlot i s) := by
  unfold grantSlot
  exact makeGrant_keeps _ (hk.onSlot i _ fun x hx => .of_open (.inl (hp x hx)) rfl)

@[simp] theorem grantSweep_keeps {s : State} (hk : Keeps lk s₀ s) : Keeps lk s₀ (grantSweep s) := by
  unfold grantSweep
  (repeat' split) <;> simp [hk]

@[simp] theorem grantPass_keeps {s : State} (hk : Keeps lk s₀ s) : Keeps lk s₀ (grantPass s) := by
  unfold grantPass
  (repeat' split) <;> simp [hk]

@[simp] theorem grantNormal_keeps {s : State} (hk : Keeps lk s₀ s) : Keeps lk s₀ (grantNormal s) := by
  unfold grantNormal
  split
  · exact hk
  · rename_i c hc
    extract_lets s1 src
    have h1 : Keeps lk s₀ s1 := normalTaken_keeps c hk
    split
    · rename_i hp
      refine grantSlot_keeps _ (h1.of_parts rfl (.inr rfl)) fun x hx => ?_
      obtain ⟨y, hy, -, hstate, -⟩ := forall₂_getElem? (skipFrom_forall₂ s c 0 s.slots) (normalPick_slot s c hc).1
      obtain rfl : y = x := Option.some.inj (hy.symm.trans hx)
      exact hstate.trans hp
    · simp [h1]

@[simp] theorem chooseRow_keeps {s : State} (hk : Keeps lk s₀ s) : Keeps lk s₀ (chooseRow s) := by
  unfold chooseRow
  extract_lets src s0
  have h0 : Keeps lk s₀ s0 := by
    simp only [s0]
    split <;> simp [src, hk]
  split
  · simp [h0]
  · split
    · rename_i c hc
      split
      · rename_i hp
        refine grantSlot_keeps _ h0 fun x hx => ?_
        obtain rfl : c.slot = x := Option.some.inj ((urgentPick_slot s0 c hc).1.symm.trans hx)
        exact hp
      · simp [h0]
    · (repeat' split) <;> simp [h0]

@[simp] theorem choose_keeps {s : State} (hk : Keeps lk s₀ s) : Keeps lk s₀ (choose s) := by
  unfold choose
  (repeat' split) <;> simp [hk]

@[simp] theorem beginGrant_keeps {s : State} (hk : Keeps lk s₀ s) : Keeps lk s₀ (beginGrant s) := by
  unfold beginGrant
  (repeat' split) <;> simp [hk]

/-- A TRAVELLING slot that presents or ends at the ready gate keeps its frame (R129). -/
theorem offerSlot_keeps (i : Nat) {s : State} (hk : Keeps lk s₀ s) (hp : ∀ x, s.slots[i]? = some x → x.state = .travelling) :
    Keeps lk s₀ (offerSlot i s) := by
  unfold offerSlot
  extract_lets s0 x
  have h0 : Keeps lk s₀ s0 := hk.onSlot i _ fun x hx => .of_open (.inr (.inl (hp x hx))) rfl
  have hp0 : ∀ x, s0.slots[i]? = some x → x.state = .travelling := by
    intro y hy
    obtain ⟨z, hz, rfl⟩ := Option.map_eq_some_iff.mp ((List.getElem?_modify_eq _ _ _).symm.trans hy)
    exact hp z hz
  have hdone : ∀ x, s0.slots[i]? = some x → x.state ≠ .done := fun x hx => by simp [hp0 x hx]
  split
  · split
    · exact holdGate_keeps _ (h0.onSlot i _ fun x hx => .of_open (.inr (.inl (hp0 x hx))) rfl)
    · exact endGrant_keeps (leaveGate_keeps
        ((givePulse_keeps h0).onSlot i _ fun x hx => .of_done (hdone x hx) rfl))
  · exact endGrant_keeps (leaveGate_keeps (h0.onSlot i _ fun x hx => .of_done (hdone x hx) rfl))
  · exact h0

@[simp] theorem offerGate_keeps {s : State} (hk : Keeps lk s₀ s) : Keeps lk s₀ (offerGate s) := by
  unfold offerGate
  split
  · split
    · split
      · rename_i i _ ht
        exact offerSlot_keeps i hk fun x hx => by rwa [← slot_eq s i x hx]
      · simp [hk]
    · simp [hk]
    · split <;> simp [hk]
    · simp [hk]
  · exact hk

@[simp] theorem checkReady_keeps {s : State} (hk : Keeps lk s₀ s) : Keeps lk s₀ (checkReady s) := by
  unfold checkReady
  (repeat' split) <;> simp [hk]

@[simp] theorem approachArrived_keeps (k : Nat) {s : State} (hk : Keeps lk s₀ s) : Keeps lk s₀ (approachArrived k s) := by
  unfold approachArrived
  (repeat' split) <;> simp [hk]

@[simp] theorem sweepMoveDone_keeps (o : MoveOutcome) {s : State} (hk : Keeps lk s₀ s) : Keeps lk s₀ (sweepMoveDone o s) := by
  unfold sweepMoveDone
  extract_lets s1
  have h1 : Keeps lk s₀ s1 := by
    simp only [s1]
    split
    · split
      · cases o <;> simp [hk]
      · exact hk.of_parts rfl (.inr rfl)
    · exact hk.of_parts rfl (.inr rfl)
  split <;> simp [h1]

@[simp] theorem moveDone_keeps (o : MoveOutcome) {s : State} (hk : Keeps lk s₀ s) : Keeps lk s₀ (moveDone o s) := by
  unfold moveDone
  split
  · exact hk
  · split
    · exact hk
    · simp [hk]
    · refine endGrant_keeps ?_
      split
      · exact hk.mapSlots _ (Slot.onDiscoverEnd_follows _)
      · exact hk
    · exact endGrant_keeps (hk.onSlot _ _ fun x _ => Slot.onMoveEnd_follows _ o x)
    · simp [hk]
    · simp [hk]

@[simp] theorem lampChanged_keeps {s : State} (hk : Keeps lk s₀ s) : Keeps lk s₀ (lampChanged s) := by
  unfold lampChanged
  extract_lets s1 s2
  have h1 : Keeps lk s₀ s1 := by
    simp only [s1]
    split <;> simp [hk]
  have h2 : Keeps lk s₀ s2 := by
    simp only [s2]
    (repeat' split) <;> simp [h1]
  split
  · split <;> simp [h2]
  · simp [h1]
  · exact h1

/-! ### Cascade -/

@[simp] theorem corrected_keeps {s : State} (hk : Keeps lk s₀ s) : Keeps lk s₀ (corrected s) :=
  emit_keeps _ (motionCheck_keeps _ (passTrigger_keeps hk))

/-- No consequence breaks the laws. -/
theorem handle_keeps (sig : Signal) {s : State} (hk : Keeps lk s₀ s) : Keeps lk s₀ (handle sig s) := by
  cases sig with
  | focusArrived r => cases r <;> simp [handle, hk]
  | segmentEnd =>
    simp only [handle]
    split <;> simp [hk]
  | _ => simp [handle, hk]

/-- What follows from a command keeps the laws. -/
@[simp] theorem finish_keepsLaws {s : State} (hk : Keeps lk s₀ s) : Keeps lk s₀ (finish s) :=
  finish_keeps (Keeps lk s₀) (fun _ _ h => h.of_parts rfl (.inr rfl)) (fun sig _ h => handle_keeps sig h) s hk

end

end Sys2Proof.Machine
end

section
/-! PROOFS. What the film, the index and the slots bring keeps the laws of `Keeps` (R1, R9, R13, R14, R19, R31 to R47, R100). -/

namespace Sys2Proof.Machine

open Sys2Proof

section
variable {lk : Option Link} {s₀ : State}

@[simp] theorem onLinks_keeps (f : LinkState → LinkState) {s : State} (hk : Keeps lk s₀ s) : Keeps lk s₀ (onLinks f s) :=
  hk.of_parts rfl (.inr rfl)

@[simp] theorem onLink_keeps (m : Link) (f : LinkState → LinkState) {s : State} (hk : Keeps lk s₀ s) :
    Keeps lk s₀ (onLink m f s) := by
  cases m <;> exact hk.of_parts rfl (.inr rfl)

/-! ### The register (R1 to R3) -/

/-- The laws after a change of the tracker and the marks that leaves the register in its range. -/
theorem Keeps.of_register {s t : State} (hk : Keeps lk s₀ s) (ht : t = { s with tracker := t.tracker, marks := t.marks })
    (hr : RegisterLaw s → RegisterLaw t) : Keeps lk s₀ t := by
  rw [ht] at hr ⊢
  have hother : Keeps lk s₀ { s with marks := t.marks } := hk.of_parts rfl (.inr rfl)
  exact { hother with register := fun ha => hr (hk.register ha) }

@[simp] theorem countRegister_keeps (d : Direction) {s : State} (hk : Keeps lk s₀ s) : Keeps lk s₀ (countRegister d s) := by
  refine hk.of_register rfl fun hr => ?_
  cases d with
  | forward => exact Nat.min_le_left _ _
  | reverse => exact (Nat.sub_le _ _).trans hr

@[simp] theorem countTaken_keeps (d : Direction) {s : State} (hk : Keeps lk s₀ s) : Keeps lk s₀ (countTaken d s) := by
  unfold countTaken
  extract_lets s1 s2 s3
  have h2 : Keeps lk s₀ s2 := by
    simp only [s2, s1]
    split <;> simp [hk]
  have h3 : Keeps lk s₀ s3 := countTravel_keeps d h2
  split <;> simp [h3]

@[simp] theorem encoderCount_keeps (d : Direction) {s : State} (hk : Keeps lk s₀ s) : Keeps lk s₀ (encoderCount d s) := by
  have hcount := countTaken_keeps d hk
  unfold encoderCount
  split
  · simp [hcount]
  · exact emit_keeps _ (motionCheck_keeps _ (passTrigger_keeps hcount))

@[simp] theorem zeroAtLeader_keeps {s : State} (hk : Keeps lk s₀ s) : Keeps lk s₀ (zeroAtLeader s) := by
  unfold zeroAtLeader
  exact discardMark_keeps ((setLevel_keeps _ hk).of_register rfl fun _ => Nat.zero_le _)

@[simp] theorem slipCorrect_keeps (e : Int) {s : State} (hk : Keeps lk s₀ s) : Keeps lk s₀ (slipCorrect e s) :=
  emit_keeps _ (hk.of_register rfl fun _ => Nat.min_le_right _ _)

/-! ### Marks, splices and the ends of the film (R25 to R47, R66 to R68) -/

@[simp] theorem leadingEdge_keeps {s : State} (hk : Keeps lk s₀ s) : Keeps lk s₀ (leadingEdge s) := by
  unfold leadingEdge
  (repeat' split) <;> simp [hk]

@[simp] theorem spliceFired_keeps {s : State} (hk : Keeps lk s₀ s) : Keeps lk s₀ (spliceFired s) := by
  unfold spliceFired
  split
  · extract_lets c k src s1 s2 src2
    have h1 : Keeps lk s₀ s1 := hk.of_parts rfl (.inr rfl)
    have h2 : Keeps lk s₀ s2 := h1.onEntry k _ fun _ => ⟨rfl, rfl, rfl⟩
    split
    · exact h2.of_parts rfl (.inr rfl)
    · exact h2
  · exact hk

@[simp] theorem leaderChangedInMove_keeps (level : LeaderLevel) {s : State} (hk : Keeps lk s₀ s) :
    Keeps lk s₀ (leaderChangedInMove level s) := by
  have hzero := zeroAtLeader_keeps hk
  unfold leaderChangedInMove
  (repeat' split) <;> simp [hk, hzero]

@[simp] theorem trailerFired_keeps {s : State} (hk : Keeps lk s₀ s) : Keeps lk s₀ (trailerFired s) := by
  unfold trailerFired
  split
  · split
    · extract_lets src s1 s2
      have h1 : Keeps lk s₀ s1 := closeIndex_keeps _ (hk.of_parts rfl (.inr rfl))
      have h2 : Keeps lk s₀ s2 := by
        simp only [s2]
        split
        · exact enterState_keeps .moving rfl h1
        · exact h1
      simp [h2]
    · exact hk
  · exact hk

theorem strayMark_keeps {s : State} (hk : Keeps lk s₀ s) : Keeps lk s₀ (strayMark s) :=
  hk.onEntry _ _ fun _ => ⟨rfl, rfl, rfl⟩

/-- Predictions from one entry stand in the order of their frames, a pitch of at least 16 sixteenths apart (R32). -/
theorem predict_lt_predict {q p a i j : Nat} (hq : 16 ≤ q) (hij : i < j) : predict q p a (a + 1 + i) < predict q p a (a + 1 + j) := by
  have hi : a + 1 + i - a = i + 1 := by omega
  have hj : a + 1 + j - a = j + 1 := by omega
  simp only [predict, hi, hj]
  have hmul : (i + 1) * q + 16 ≤ (j + 1) * q := by nlinarith
  omega

/-- The frames filled between entry E and a mark in its window stand in order between them (R32, R33, R36, R37). -/
theorem discovered_pairwise {s : State} {m j : Nat} {seen : Entry} (hseen : seen.position = m) (hlow : 7000 ≤ s.index.pitchQ)
    (hbeyond : s.pos s.extent < m) (hj : j ≠ 0)
    (hnear : s.predFromE (s.extent + j) ≤ m + 2 * s.w) :
    (fillEntries s (j - 1) ++ [seen]).Pairwise (fun a b => a.position < b.position) ∧
      ∀ e ∈ fillEntries s (j - 1) ++ [seen], s.pos s.extent < e.position := by
  have hfill : ∀ e ∈ fillEntries s (j - 1), ∃ i < j - 1, e.position = s.predFromE (s.extent + 1 + i) := by
    intro e he
    obtain ⟨i, hi, rfl⟩ := List.mem_map.mp he
    exact ⟨i, List.mem_range.mp hi, rfl⟩
  have hstart : ∀ i, s.pos s.extent < s.predFromE (s.extent + 1 + i) := by
    intro i
    have hi : s.extent + 1 + i - s.extent = i + 1 := by omega
    simp only [State.predFromE, predict, hi]
    have hmul : s.index.pitchQ ≤ (i + 1) * s.index.pitchQ := Nat.le_mul_of_pos_left _ (Nat.succ_pos i)
    omega
  have hlast : ∀ i < j - 1, s.predFromE (s.extent + 1 + i) < m := by
    intro i hi
    obtain ⟨n, rfl⟩ : ∃ n, j = i + 2 + n := ⟨j - (i + 2), by omega⟩
    have h1 : s.extent + 1 + i - s.extent = i + 1 := by omega
    have h2 : s.extent + (i + 2 + n) - s.extent = i + 2 + n := by omega
    simp only [State.predFromE, predict, h1, h2, State.w, window] at hnear ⊢
    have hmul : (i + 1) * s.index.pitchQ + s.index.pitchQ ≤ (i + 2 + n) * s.index.pitchQ := by nlinarith
    omega
  refine ⟨List.pairwise_append.mpr ⟨?_, List.pairwise_singleton _ _, fun e he d hd => ?_⟩, fun e he => ?_⟩
  · refine List.pairwise_map.mpr (List.pairwise_lt_range.imp fun hij => ?_)
    exact predict_lt_predict (by omega) hij
  · obtain ⟨i, hi, hpos⟩ := hfill e he
    rw [hpos, List.mem_singleton.mp hd, hseen]
    exact hlast i hi
  · rcases List.mem_append.mp he with he | he
    · obtain ⟨i, -, hpos⟩ := hfill e he
      exact hpos ▸ hstart i
    · rw [List.mem_singleton.mp he, hseen]
      exact hbeyond

/-- The limits of pitch_q enclose the pitch moved by an eighth (R31, R39). -/
theorem updatedPitch_bounds (nominal pitchQ delta : Nat) :
    pitchLow nominal ≤ updatedPitch nominal pitchQ delta ∧ updatedPitch nominal pitchQ delta ≤ pitchHigh nominal := by
  have hle : pitchLow nominal ≤ pitchHigh nominal := by unfold pitchLow pitchHigh; omega
  unfold updatedPitch
  dsimp only
  omega

/-- The laws after a change of pitch_q within its limits, and of what else the laws do not speak of in the index. -/
theorem Keeps.of_pitchQ {s t : State} (hk : Keeps lk s₀ s)
    (ht : t = { s with index := { s.index with pitchQ := t.index.pitchQ } })
    (hq : PitchLaw s → pitchLow s.roll.active.pitch ≤ t.index.pitchQ ∧ t.index.pitchQ ≤ pitchHigh s.roll.active.pitch) :
    Keeps lk s₀ t := by
  rw [ht]
  have hother : Keeps lk s₀ { s with index := s.index } := hk
  refine { hother with pitch := fun ha => ?_ }
  obtain ⟨h1, h2, h3, -⟩ := hk.pitch ha
  exact ⟨h1, h2, h3, hq (hk.pitch ha)⟩

/-- pitch_q is at least 7000 (R31, R80). -/
theorem PitchLaw.pitchQ_ge {s : State} (h : PitchLaw s) : 7000 ≤ s.index.pitchQ := by
  obtain ⟨⟨hpitch, -⟩, -, -, hlow, -⟩ := h
  simp only [pitchLow] at hlow
  omega

/-- A mark beyond the frontier keeps the laws (R36 to R39). -/
theorem discoverMark_keeps (m len : Nat) (cls : MarkClass) {s : State} (hk : Keeps lk s₀ s)
    (hbeyond : s.pos s.extent + s.w < m) : Keeps lk s₀ (discoverMark m len cls s) := by
  unfold discoverMark
  extract_lets widened src s0 delta j seen src2 src3 s1
  have h0 : Keeps lk s₀ s0 := hk.of_parts rfl (.inr rfl)
  have hpos : s.pos s.extent < m := by omega
  split
  · exact strayMark_keeps h0
  · rename_i hj
    split
    · exact storeEntries_keeps _ h0 fun hp ho =>
        pairwise_append_beyond (h0.order hp ho) (List.pairwise_singleton _ _) fun _ e he => (List.mem_singleton.mp he) ▸ hpos
    · generalize hwindow : (if widened = true then 2 * s.w else s.w) = reach
      have hreach : reach ≤ 2 * s.w := by
        rw [← hwindow]
        split <;> omega
      split
      · rename_i hnear
        have h1 : Keeps lk s₀ s1 := by
          simp only [s1]
          split
          · exact h0.of_pitchQ rfl fun _ => updatedPitch_bounds _ _ _
          · exact h0
        have hentries : s1.index.entries = s.index.entries := by
          simp only [s1]
          split <;> rfl
        refine storeEntries_keeps _ h1 fun hp ho => ?_
        rw [hentries]
        have hwide : s.predFromE (s.extent + j) ≤ m + 2 * s.w := by
          simp only [distance] at hnear
          omega
        obtain ⟨hpair, habove⟩ :=
          discovered_pairwise (seen := seen) rfl (PitchLaw.pitchQ_ge (hk.pitch hp)) hpos hj hwide
        exact pairwise_append_beyond (hk.order hp ho) hpair fun _ => habove
      · exact strayMark_keeps h0

theorem firstFrame_keeps (m len : Nat) (cls : MarkClass) {s : State} (hk : Keeps lk s₀ s) (hempty : s.extent = 0) :
    Keeps lk s₀ (firstFrame m len cls s) := by
  unfold firstFrame
  refine storeEntries_keeps _ (hk.of_parts rfl (.inr rfl)) fun _ _ => ?_
  have hnil : s.index.entries = [] := List.eq_nil_of_length_eq_zero hempty
  simp [hnil]

/-- The counters hold the triple of the last numbered entry (R13). -/
theorem renumberList_last {t c : Triple} {xs : List Entry} (h : renumberList t xs = (xs, c)) :
    c = (xs.getLast?.map Entry.triple).getD t := by
  induction xs generalizing t with
  | nil => simpa [renumberList] using h.symm
  | cons x xs ih =>
    simp only [renumberList, Prod.mk.injEq, List.cons.injEq] at h
    obtain ⟨⟨hhead, htail⟩, hlast⟩ := h
    have hx : nextTriple t x.cls = x.triple := congrArg Entry.triple hhead
    rw [hx] at htail hlast
    rw [ih (Prod.ext htail hlast)]
    cases xs with
    | nil => rfl
    | cons y ys => simp [List.getLast?_cons]

/-- Renumbering starts from the triple before frame `k`, or from nothing (R14). -/
theorem renumberFrom_eq (k : Nat) (s : State) :
    let start := ((s.entry (k - 1)).map Entry.triple).getD { batch := 0, document := 0, page := 0 }
    renumberFrom k s = flagIndex .renumbered
      { s with index := { s.index with
          entries := s.index.entries.take (k - 1) ++ (renumberList start (s.index.entries.drop (k - 1))).1
          counters := (renumberList start (s.index.entries.drop (k - 1))).2 } } := by
  unfold renumberFrom
  cases s.entry (k - 1) <;> rfl

/-- The entries numbered again from frame `k` on follow from the numbers before them (R14). -/
theorem renumberFrom_number {k : Nat} {c : Triple} {s : State} (hle : k ≤ s.extent)
    (hbefore : renumberList { batch := 0, document := 0, page := 0 } (s.index.entries.take (k - 1)) =
      (s.index.entries.take (k - 1), c)) : NumberLaw (renumberFrom k s) := by
  have hlast := renumberList_last hbefore
  have hstart : ((s.entry (k - 1)).map Entry.triple).getD { batch := 0, document := 0, page := 0 } = c := by
    rw [hlast]
    unfold State.entry
    split
    · rename_i h0
      simp [h0]
    · have hlt : k - 1 - 1 < s.index.entries.length := by
        simp only [State.extent] at hle
        omega
      rw [List.getLast?_take]
      simp [‹¬k - 1 = 0›, List.getElem?_eq_getElem hlt]
  rw [renumberFrom_eq, hstart]
  show renumberList _ (_ ++ _) = (_ ++ _, _)
  rw [renumberList_append, hbefore, renumberList_idem]
  rfl

/-- An entry may be moved to a position between its neighbours' (R9, R47). -/
theorem pairwise_modify_between {xs : List Entry} {i m : Nat} (h : xs.Pairwise (fun a b => a.position < b.position))
    (hlow : ∀ e, i ≠ 0 → xs[i - 1]? = some e → e.position < m) (hhigh : ∀ e, xs[i + 1]? = some e → m < e.position)
    {f : Entry → Entry} (hf : ∀ e, (f e).position = m) : (xs.modify i f).Pairwise (fun a b => a.position < b.position) := by
  have hle : ∀ {p q : Nat} (hp : p < xs.length) (hq : q < xs.length), p ≤ q → xs[p].position ≤ xs[q].position := by
    intro p q hp hq hpq
    rcases Nat.eq_or_lt_of_le hpq with rfl | hlt
    · exact le_refl _
    · exact (List.pairwise_iff_getElem.mp h p q hp hq hlt).le
  refine List.pairwise_iff_getElem.mpr fun p q hp hq hpq => ?_
  simp only [List.length_modify] at hp hq
  simp only [List.getElem_modify]
  by_cases hip : i = p
  · subst hip
    rw [if_pos rfl, if_neg (by omega), hf]
    have hnext : i + 1 < xs.length := by omega
    exact (hhigh _ (List.getElem?_eq_getElem hnext)).trans_le (hle hnext hq (by omega))
  · by_cases hiq : i = q
    · subst hiq
      rw [if_neg hip, if_pos rfl, hf]
      have hprev : i - 1 < xs.length := by omega
      exact (hle hp hprev (by omega)).trans_lt (hlow _ (by omega) (List.getElem?_eq_getElem hprev))
    · rw [if_neg hip, if_neg hiq]
      exact List.pairwise_iff_getElem.mp h p q hp hq hpq

/-- A mark between the neighbours of frame `k` lies between their positions (R47). -/
theorem betweenNeighbours_spec {s : State} {k m : Nat} (h : betweenNeighbours s k m = true) :
    (∀ e ∈ s.entry (k - 1), e.position < m) ∧ ∀ e ∈ s.entry (k + 1), m < e.position := by
  simp only [betweenNeighbours, Bool.and_eq_true] at h
  obtain ⟨hbelow, habove⟩ := h
  refine ⟨fun e he => ?_, fun e he => ?_⟩
  · rw [Option.mem_def.mp he] at hbelow
    exact of_decide_eq_true hbelow
  · rw [Option.mem_def.mp he] at habove
    exact of_decide_eq_true habove

/-- The entry of a frame, by its place. -/
theorem entry_eq_getElem? {s : State} {k : Nat} (h : k ≠ 0) : s.entry k = s.index.entries[k - 1]? := by
  simp [State.entry, h]

/-- The laws after a change of the entries and the counters that moves one entry between its neighbours. -/
theorem Keeps.of_moved {s : State} (hk : Keeps lk s₀ s) (tr : Tracker) (hreg : tr.register = s.tracker.register) (es : List Entry)
    (c : Triple) (hlen : es.length = s.index.entries.length)
    (horder : OrderLaw s → es.Pairwise (fun a b => a.position < b.position))
    (hnumber : NumberLaw s → renumberList { batch := 0, document := 0, page := 0 } es = (es, c)) :
    Keeps lk s₀ { s with tracker := tr, index := { s.index with entries := es, counters := c } } := by
  have hother : Keeps lk s₀ { s with tracker := tr } :=
    hk.of_parts (by simp [State.lawParts, hreg]) (.inr rfl)
  exact
    { hother with
      index := fun ha => by simpa only [IndexLaw, hlen] using hk.index ha
      order := fun hp ha => horder (hk.order hp ha)
      number := fun ha => hnumber (hk.number ha)
      frames := fun ha => by simpa only [FrameLaw, hlen] using hk.frames ha }

/-- An entry converted to OBSERVED at a mark (R47). -/
def Entry.converted (m len : Nat) (cls : MarkClass) (e : Entry) : Entry :=
  { e with source := .observed, position := m, cls := cls, length := some len, flags := { e.flags with verified := true } }

/-- A conversion, with the renumbering that a change of the class makes (R47, R14). -/
theorem convertEntry_eq {k m len : Nat} {cls : MarkClass} {s : State} {e : Entry} (he : s.entry k = some e) :
    convertEntry k m len cls s =
      (if e.cls = cls then id else renumberFrom k) (onEntry k (Entry.converted m len cls) (resightAccepted s)) := by
  unfold convertEntry
  rw [he]
  by_cases h : e.cls = cls
  · simp only [h, bne_self_eq_false, Bool.false_eq_true, if_false, if_true]
    rfl
  · simp only [h, bne_iff_ne, ne_eq, not_false_eq_true, if_true, if_false]
    rfl

/-- A change of an entry that is in the index. -/
theorem onEntry_of_ne {k : Nat} (h : k ≠ 0) (f : Entry → Entry) (s : State) :
    onEntry k f s = { s with index := { s.index with entries := s.index.entries.modify (k - 1) f } } := by
  simp [onEntry, h]

/-- The entries before a frame are numbered by themselves (R13). -/
theorem renumberList_take {t c : Triple} {xs : List Entry} (h : renumberList t xs = (xs, c)) (n : Nat) :
    renumberList t (xs.take n) = (xs.take n, (renumberList t (xs.take n)).2) := by
  refine Prod.ext ?_ rfl
  have hsplit := renumberList_append t (xs.take n) (xs.drop n)
  rw [List.take_append_drop, h] at hsplit
  have hparts := (List.take_append_drop n xs).trans (congrArg Prod.fst hsplit)
  exact (List.append_inj hparts (renumberList_length t _).symm).1.symm

/-- A converted entry keeps the laws (R47, R14). -/
theorem convertEntry_keeps (k m len : Nat) (cls : MarkClass) {s : State} (hk : Keeps lk s₀ s) {e : Entry} (he : s.entry k = some e)
    (hbetween : betweenNeighbours s k m = true) : Keeps lk s₀ (convertEntry k m len cls s) := by
  have hk0 : k ≠ 0 := by
    rintro rfl
    simp [State.entry] at he
  have hplace := he
  rw [entry_eq_getElem? hk0] at hplace
  obtain ⟨hlt, -⟩ := List.getElem?_eq_some_iff.mp hplace
  obtain ⟨hbelow, habove⟩ := betweenNeighbours_spec hbetween
  have horder : OrderLaw s → (s.index.entries.modify (k - 1) (Entry.converted m len cls)).Pairwise
      (fun a b => a.position < b.position) := fun ho =>
    pairwise_modify_between ho
      (fun d hd0 hd => hbelow d (by rw [entry_eq_getElem? hd0]; exact hd))
      (fun d hd => habove d (by
        rw [entry_eq_getElem? (Nat.succ_ne_zero k)]
        simpa [Nat.sub_add_cancel (Nat.pos_of_ne_zero hk0)] using hd))
      fun _ => rfl
  have hkept : (resightAccepted s).index.entries = s.index.entries := rfl
  rw [convertEntry_eq he, onEntry_of_ne hk0, hkept]
  split
  · rename_i hcls
    refine hk.of_moved (resightAccepted s).tracker rfl _ _ (List.length_modify _ _ _) horder fun hn => ?_
    refine renumberList_agrees (forall₂_modify (fun _ => ⟨rfl, rfl⟩) _ fun d hd => ?_) hn
    obtain rfl : e = d := Option.some.inj (hplace.symm.trans hd)
    exact ⟨hcls.symm, rfl⟩
  · have hprefix : (s.index.entries.modify (k - 1) (Entry.converted m len cls)).take (k - 1) = s.index.entries.take (k - 1) := by
      rw [List.take_modify, List.modify_eq_self (by simp)]
    have hnumber (hn : NumberLaw s) := renumberFrom_number (s := { resightAccepted s with index := { s.index with
      entries := s.index.entries.modify (k - 1) (Entry.converted m len cls) } }) (k := k)
      (by simp only [State.extent, List.length_modify]; omega) (hprefix.symm ▸ renumberList_take hn (k - 1))
    rw [renumberFrom_eq] at hnumber ⊢
    refine flagIndex_keeps _ (hk.of_moved (resightAccepted s).tracker rfl _ _ ?_ (fun ho => ?_) hnumber)
    · simp only [List.length_append, renumberList_length, List.length_take, List.length_drop, List.length_modify]
      omega
    · have hpair := horder ho
      rw [← List.take_append_drop (k - 1) (s.index.entries.modify _ _)] at hpair
      rw [← List.pairwise_map (f := Entry.position) (R := (· < ·))] at hpair ⊢
      simpa only [List.map_append, renumberList_positions] using hpair

/-- A mark placed for resighting keeps the laws (R44 to R47). -/
theorem resight_keeps (m len : Nat) (cls : MarkClass) {s : State} (hk : Keeps lk s₀ s) : Keeps lk s₀ (resight m len cls s) := by
  have hslip (e : Int) : Keeps lk s₀ (slipCorrect e (resightAccepted s)) := slipCorrect_keeps e (resightAccepted_keeps hk)
  have hdoubt (k : Nat) {x : State} (hx : Keeps lk s₀ x) : Keeps lk s₀ (doubtClass k cls x) :=
    hx.onEntry _ _ fun e => by split <;> exact ⟨rfl, rfl, rfl⟩
  unfold resight
  dsimp only
  split
  · exact hk
  · rename_i e he
    split
    · split
      · exact hdoubt _ (goodResighting_keeps (hslip _))
      · split
        · exact hdoubt _ (flagTransport_keeps _ (setLevel_keeps _ (hslip _)))
        · exact resightMiss_keeps hk
    · split
      · rename_i hconv
        exact convertEntry_keeps _ m len cls hk he hconv.2
      · exact resightMiss_keeps hk

theorem placeMark_keeps (m len : Nat) (cls : MarkClass) {s : State} (hk : Keeps lk s₀ s) : Keeps lk s₀ (placeMark m len cls s) := by
  unfold placeMark
  split
  · exact hk
  · split
    · exact hk
    · split
      · split
        · exact firstFrame_keeps m len cls hk ‹_›
        · exact hk
      · split
        · split
          · exact discoverMark_keeps m len cls hk ‹_›
          · exact hk
        · exact resight_keeps m len cls hk

@[simp] theorem trailingEdge_keeps {s : State} (hk : Keeps lk s₀ s) : Keeps lk s₀ (trailingEdge s) := by
  have hdiscard := discardMark_keeps hk
  unfold trailingEdge
  split
  · exact hk
  · dsimp only
    split
    · exact hdiscard
    · split
      · exact hdiscard
      · exact placeMark_keeps _ _ _ hdiscard

/-! ### INDEX WRITE and the emptying of the index (R19, R20, R23, R24) -/

/-- Entries each at least a count beyond the one before stand in order beyond the first (R19). -/
theorem spacedFrom_pairwise {gap p : Nat} (hgap : 0 < gap) {es : List Entry} (h : spacedFrom gap p es = true) :
    es.Pairwise (fun a b => a.position < b.position) ∧ ∀ e ∈ es, p < e.position := by
  induction es generalizing p with
  | nil => simp
  | cons e es ih =>
    simp only [spacedFrom, Bool.and_eq_true, decide_eq_true_eq] at h
    obtain ⟨hfirst, hrest⟩ := h
    obtain ⟨hpair, habove⟩ := ih hrest
    refine ⟨List.pairwise_cons.mpr ⟨habove, hpair⟩, fun d hd => ?_⟩
    rcases List.mem_cons.mp hd with rfl | hd
    · omega
    · have := habove d hd
      omega

/-- Imported entries that keep their spacing go on in the order of the index (R19). -/
theorem spacingHolds_pairwise {s : State} {es : List Entry} (hp : PitchLaw s) (ho : OrderLaw s) (h : spacingHolds s es = true) :
    (s.index.entries ++ es).Pairwise (fun a b => a.position < b.position) := by
  have hgap : 0 < s.roll.active.pitch / 2 := by
    have := hp.1.1
    omega
  simp only [spacingHolds, Bool.and_eq_true] at h
  obtain ⟨hspaced, -⟩ := h
  split at hspaced
  · rename_i hempty
    have hnil : s.index.entries = [] := List.eq_nil_of_length_eq_zero hempty
    rw [hnil, List.nil_append]
    cases es with
    | nil => exact List.Pairwise.nil
    | cons e rest =>
      simp only [Bool.and_eq_true] at hspaced
      obtain ⟨hpair, habove⟩ := spacedFrom_pairwise hgap hspaced.2
      exact List.pairwise_cons.mpr ⟨habove, hpair⟩
  · obtain ⟨hpair, habove⟩ := spacedFrom_pairwise hgap hspaced
    exact pairwise_append_beyond ho hpair fun _ => habove

@[simp] theorem indexWrite_keeps (n : Nat) (ds : List ImportDesc) {s : State} (hk : Keeps lk s₀ s) :
    Keeps lk s₀ (indexWrite n ds s).1 := by
  unfold indexWrite
  split
  · exact hk
  · split
    · exact hk
    · split
      · exact hk
      · split
        · exact hk
        · split
          · exact hk
          · rename_i hspacing
            exact storeEntries_keeps _ hk fun hp ho =>
              spacingHolds_pairwise (hk.pitch hp) (hk.order hp ho) (by simpa using hspacing)

/-- The index is emptied within the laws where no slot is open (R23, R24). -/
theorem emptyIndex_keeps {s : State} (hk : Keeps lk s₀ s) (hclosed : FrameLaw s₀ → slotsClosed s) : Keeps lk s₀ (emptyIndex s) := by
  have hother : Keeps lk s₀ (closeStreams { s with marks := { inProgress := none, lastSplice := none }
                                                   transport := { s.transport with gateFrame := none } }) :=
    onLinks_keeps _ (hk.of_parts rfl (.inr rfl))
  exact
    { hother with
      index := fun ha => ⟨Nat.zero_le _, (hk.index ha).2⟩
      pitch := fun ha => by
        obtain ⟨h1, h2, h3, -⟩ := hk.pitch ha
        refine ⟨h1, h2, h3, ?_⟩
        show pitchLow s.roll.active.pitch ≤ 16 * s.roll.active.pitch ∧ 16 * s.roll.active.pitch ≤ pitchHigh s.roll.active.pitch
        unfold pitchLow pitchHigh
        omega
      order := fun _ _ => List.Pairwise.nil
      number := fun _ => rfl
      frames := fun ha => ⟨fun x hx hplaced => by
          rcases hclosed ha x hx with e | e <;> simp [e] at hplaced, fun _ => hclosed ha⟩ }

theorem indexClear_keeps {s : State} (hk : Keeps lk s₀ s) (hclosed : slotsClosed s) : Keeps lk s₀ (indexClear s) := by
  have hempty := emptyIndex_keeps hk fun _ => hclosed
  have hother : Keeps lk s₀ (flagIndex .cleared (emptyIndex s)) := flagIndex_keeps _ hempty
  refine { hother with index := fun ha => ?_ }
  obtain ⟨hfit, ⟨hasc, hlen⟩, hload⟩ := hempty.index ha
  exact ⟨hfit, ⟨List.pairwise_map.mpr hasc, by simpa [indexClear, flagIndex, flagBoth, onLinks] using hlen⟩, hload⟩

end

end Sys2Proof.Machine
end

section
/-! PROOFS. What the requests, the roll and the auxiliary bus bring keeps the laws of `Keeps` (R23, R24, R81 to R94, R100, R102 to
R104, R114, R119, R133 to R136, R160 to R165). -/

namespace Sys2Proof.Machine

open Sys2Proof

section
variable {lk : Option Link} {s₀ : State}

/-! ### The zone table (R100, R102, R103, R114) -/

/-- A zone put in a table adds one to it, or none where its start is taken. -/
theorem length_putZone (z : Zone) {zs : List Zone} (h : zonesAscend zs) :
    (putZone z zs).length = if zs.any (fun y => y.start == z.start) = true then zs.length else zs.length + 1 := by
  induction zs with
  | nil => rfl
  | cons y ys ih =>
    obtain ⟨hy, hys⟩ := List.pairwise_cons.mp h
    rcases Nat.lt_trichotomy z.start y.start with hlt | heq | hgt
    · have habsent : (y :: ys).any (fun x => x.start == z.start) = false := by
        simp only [List.any_cons, Bool.or_eq_false_iff, beq_eq_false_iff_ne, List.any_eq_false, beq_iff_eq]
        exact ⟨by omega, fun x hx e => by have := hy x hx; omega⟩
      simp [putZone, hlt, habsent]
    · simp [putZone, heq]
    · simp only [putZone, if_neg (show ¬z.start < y.start by omega), if_neg (show ¬z.start = y.start by omega),
        List.length_cons, ih hys, List.any_cons, show (y.start == z.start) = false by simp; omega, Bool.false_or]
      split <;> rfl

/-- The laws after a change of the zone table. -/
theorem Keeps.of_zones {s : State} (hk : Keeps lk s₀ s) (zs : List Zone)
    (hz : zonesAscend s.zones → s.zones.length ≤ Config.maxZones → zonesAscend zs ∧ zs.length ≤ Config.maxZones) :
    Keeps lk s₀ { s with zones := zs } := by
  have hother : Keeps lk s₀ { s with zones := s.zones } := hk
  exact { hother with zones := fun ha => ⟨hz (hk.zones ha).1.1 (hk.zones ha).1.2, (hk.zones ha).2⟩ }

/-- A zone whose start is taken, or for which there is room, is put in the table within its law. -/
theorem putZone_law {z : Zone} {zs : List Zone} (hasc : zonesAscend zs) (hlen : zs.length ≤ Config.maxZones)
    (hroom : zs.any (fun y => y.start == z.start) = true ∨ zs.length < Config.maxZones) :
    zonesAscend (putZone z zs) ∧ (putZone z zs).length ≤ Config.maxZones := by
  refine ⟨zonesAscend_putZone z zs hasc, ?_⟩
  rw [length_putZone z hasc]
  split
  · exact hlen
  · have := hroom.resolve_left ‹_›
    omega

@[simp] theorem zoneSet_keeps (start step : Nat) {s : State} (hk : Keeps lk s₀ s) : Keeps lk s₀ (zoneSet start step s).1 := by
  unfold zoneSet
  split
  · exact hk
  · split
    · exact hk
    · split
      · exact hk
      · split
        · exact hk
        · rename_i hroom
          refine setDirty_keeps (hk.of_zones _ fun hasc hlen => putZone_law hasc hlen ?_)
          by_cases hany : s.zones.any (fun z => z.start == start) = true
          · exact .inl hany
          · exact .inr (by simp only [hany, true_and] at hroom; omega)

@[simp] theorem zoneRemove_keeps (start : Nat) {s : State} (hk : Keeps lk s₀ s) : Keeps lk s₀ (zoneRemove start s).1 := by
  unfold zoneRemove
  split
  · exact hk
  · split
    · exact hk
    · split
      · exact hk
      · exact setDirty_keeps (hk.of_zones _ fun hasc hlen => ⟨hasc.filter _, (List.length_filter_le _ _).trans hlen⟩)

/-- A stored result goes into the table within its law (R114). -/
theorem storeResult_law {f step : Nat} {q : Quality} {zs us : List Zone} (h : storeResult f step q zs = some us)
    (hasc : zonesAscend zs) (hlen : zs.length ≤ Config.maxZones) : zonesAscend us ∧ us.length ≤ Config.maxZones := by
  unfold storeResult at h
  dsimp only at h
  split at h
  · rename_i hroom
    cases h
    exact putZone_law hasc hlen hroom
  · split at h
    · rename_i c hc
      cases h
      refine putZone_law hasc hlen (.inl (List.any_eq_true.mpr ⟨c, ?_, by simp⟩))
      exact List.mem_of_mem_filter (List.mem_of_getLast? hc)
    · cases h

@[simp] theorem fitSweep_keeps {s : State} (hk : Keeps lk s₀ s) : Keeps lk s₀ (fitSweep s) := by
  unfold fitSweep
  split
  · exact hk
  · dsimp only
    split
    · rename_i t q _ _
      have h1 : Keeps lk s₀ (setFocusTarget t .back s) := setFocusTarget_keeps _ _ hk
      split
      · split
        · rename_i zs hzs
          exact endSweep_keeps _ _ _ _ (setDirty_keeps (h1.of_zones zs (storeResult_law hzs)))
        · simp [h1]
      · simp [h1]
    · exact endSweep_keeps _ _ _ _ (setFocusTarget_keeps _ _ hk)

@[simp] theorem score_keeps (m : Link) (n p v : Nat) {s : State} (hk : Keeps lk s₀ s) : Keeps lk s₀ (score m n p v s).1 := by
  have htake : Keeps lk s₀ (takeScore v s) := by
    unfold takeScore
    split
    · exact hk
    · extract_lets src s1
      have h1 : Keeps lk s₀ s1 := onSweep_keeps _ (hk.of_parts rfl (.inr rfl))
      split
      · exact sendToPoint_keeps (onSweep_keeps _ h1)
      · exact fitSweep_keeps h1
  unfold score
  (repeat' split) <;> assumption

@[simp] theorem focusSweep_keeps (m : Link) (k : Nat) (c : Byte) (x : Half) (h z : Nat) (t : Byte) {s : State} (hk : Keeps lk s₀ s) :
    Keeps lk s₀ (focusSweep m k c x h z t s).1 := by
  unfold focusSweep
  split
  · exact hk
  · split
    · split
      · exact hk
      · split
        · exact hk
        · exact emit_keeps _ (stopDiscover_keeps (hk.of_parts rfl (.inr rfl)))
    · exact hk

/-! ### Slots (R119 to R136) -/

/-- A slot that ends was not DONE before. -/
theorem endSlot_keeps {s : State} (hk : Keeps lk s₀ s) (i : Nat) (code : ResultCode) (hi : (s.slot i).state ≠ .done) :
    Keeps lk s₀ (onSlot i (Slot.endedReached code) s) :=
  hk.onSlot i _ fun x hx => .of_done (by rwa [← slot_eq s i x hx]) rfl

theorem endPresenting_keeps {s : State} (hk : Keeps lk s₀ s) (i : Nat) (code : ResultCode) (hi : (s.slot i).state = .presenting) :
    Keeps lk s₀ (endPresenting i code s) :=
  endGrant_keeps (freeGate_keeps (endSlot_keeps hk i code (by simp [hi])))

@[simp] theorem release_keeps (m : Link) (tag : Byte) {s : State} (hk : Keeps lk s₀ s) : Keeps lk s₀ (release m tag s).1 := by
  unfold release
  split
  · exact hk
  · dsimp only
    split
    · exact endPresenting_keeps hk _ _ ‹_›
    · split <;> exact hk

@[simp] theorem cancel_keeps (m : Link) (tag : Byte) {s : State} (hk : Keeps lk s₀ s) : Keeps lk s₀ (cancel m tag s).1 := by
  unfold cancel
  split
  · exact hk
  · rename_i i _
    have hended (hi : (s.slot i).state ≠ .done) := endSlot_keeps hk i .cancelled hi
    dsimp only
    split
    · rename_i h
      exact hended (by simp [h])
    · rename_i h
      exact stopDiscoverIfDone_keeps (hended (by simp [h]))
    · rename_i h
      exact requestStop_keeps (hended (by simp [h]))
    · exact endPresenting_keeps hk _ _ ‹_›
    · exact hk

@[simp] theorem holdExpired_keeps {s : State} (hk : Keeps lk s₀ s) : Keeps lk s₀ (effect .holdTimerExpiry s) := by
  simp only [effect]
  split
  · rename_i i hi
    refine endPresenting_keeps hk i _ ?_
    obtain ⟨hlt, hx, -⟩ := List.findIdx?_eq_some_iff_getElem.mp hi
    rw [slot_eq s i _ (List.getElem?_eq_getElem hlt)]
    simp only [Bool.and_eq_true, beq_iff_eq] at hx
    exact hx.1
  · exact hk

@[simp] theorem query_keeps (m : Link) (tag : Byte) {s : State} (hk : Keeps lk s₀ s) : Keeps lk s₀ (query m tag s).1 := by
  unfold query
  split
  · exact hk
  · exact hk.of_parts rfl (.inr rfl)

/-- An element of a list with one element replaced is the new one or one of the old. -/
theorem mem_modify_const {α : Type} {l : List α} {i : Nat} {x y : α} (h : y ∈ l.modify i fun _ => x) : y = x ∨ y ∈ l := by
  obtain ⟨j, hj, rfl⟩ := List.mem_iff_getElem.mp h
  rw [List.getElem_modify]
  split
  · exact .inl rfl
  · exact .inr (List.getElem_mem _)

/-- A slot freed is a DONE one of the link that may free its own, or was not DONE. -/
theorem Keeps.freeSlot {s : State} (hk : Keeps lk s₀ s) (i : Nat)
    (hi : ∀ x, s.slots[i]? = some x → x.state = .done → lk = some x.owner) :
    Keeps lk s₀ (Machine.onSlot i (fun _ => Slot.empty) s) := by
  have hother : Keeps lk s₀ { s with slots := s.slots } := hk
  refine { hother with frames := fun ha => ?_, done := fun j x hx hd hl => ?_ }
  · obtain ⟨hframe, hclosed⟩ := hk.frames ha
    refine ⟨fun y hy hp => ?_, fun hless y hy => ?_⟩
    · rcases mem_modify_const hy with rfl | hy
      · simp [Slot.empty] at hp
      · exact hframe y hy hp
    · rcases mem_modify_const hy with rfl | hy
      · exact .inl rfl
      · exact hclosed hless y hy
  · have hold := hk.done j x hx hd hl
    have hne : i ≠ j := by
      rintro rfl
      exact hl (hi x hold hd)
    simpa [Machine.onSlot, List.getElem?_modify, hne] using hold

/-- A collected slot is one of the link's own (R135). -/
theorem collect_keeps (m : Link) (x tag : Byte) {s : State} (hk : Keeps (some m) s₀ s) : Keeps (some m) s₀ (collect m x tag s).1 := by
  have hcollect (i : Nat) (hi : ∀ y, s.slots[i]? = some y → y.owner = m) : Keeps (some m) s₀ (collectSlot i s).1 := by
    unfold collectSlot
    split
    · exact hk.freeSlot i fun y hy _ => by rw [hi y hy]
    · exact hk
  unfold collect
  split
  · split
    · exact hk
    · rename_i i hi
      obtain ⟨hlt, hx, -⟩ := List.findIdx?_eq_some_iff_getElem.mp hi
      simp only [Bool.and_eq_true, beq_iff_eq] at hx
      split
      · exact hcollect i fun y hy => by
          rw [List.getElem?_eq_getElem hlt] at hy
          exact Option.some.inj hy ▸ hx.1.2
      · exact hk
  · split
    · split
      · exact hk
      · rename_i i y hy
        obtain ⟨k, hk0, hslot, -, howner⟩ := oldestDone_mem hy
        exact hcollect i fun z hz => by
          rw [← hk0, Nat.zero_add] at hz
          rw [← Option.some.inj (hslot.symm.trans hz), howner]
    · exact hk

/-- The link's slots freed one after another keep the laws (R136). -/
theorem freeSlots_keeps (m : Link) (n i : Nat) {s : State} (hk : Keeps (some m) s₀ s) : Keeps (some m) s₀ (freeSlots m n i s) := by
  induction n generalizing i s with
  | zero => exact hk
  | succ n ih =>
    rw [freeSlots]
    refine ih (i + 1) ?_
    split
    · rename_i hown
      have hfreed : Keeps (some m) s₀ (onSlot i (fun _ => Slot.empty) s) :=
        hk.freeSlot i fun x hx _ => by rw [← hown.2, slot_eq s i x hx]
      split
      · exact requestStop_keeps hfreed
      · split
        · exact endGrant_keeps (freeGate_keeps hfreed)
        · exact hfreed
    · exact hk

theorem endLinkWork_keeps (m : Link) {s : State} (hk : Keeps (some m) s₀ s) : Keeps (some m) s₀ (endLinkWork m s) := by
  unfold endLinkWork
  extract_lets s1 s2 s3
  have h1 : Keeps (some m) s₀ s1 := freeSlots_keeps m Config.slotCount 0 hk
  have h2 : Keeps (some m) s₀ s2 := by
    simp only [s2]
    split <;> simp [h1]
  have h3 : Keeps (some m) s₀ s3 := by
    simp only [s3]
    split <;> simp [h2]
  (repeat' split) <;> simp [h3]

theorem linkReset_keeps (m : Link) {s : State} (hk : Keeps (some m) s₀ s) : Keeps (some m) s₀ (linkReset m s) := by
  have hended := finish_keepsLaws (endLinkWork_keeps m hk)
  unfold linkReset clearLink
  exact onLink_keeps _ _ hended

/-- A FREE slot filled where there is a roll, its frame in the index if it has one, keeps the laws (R120). -/
theorem Keeps.fillSlot {s : State} (hk : Keeps lk s₀ s) (i : Nat) (y : Slot) (hfree : (s.slot i).state = .free)
    (hroll : s.transport.state.rollLess = false) (hframe : y.Placed → ∃ k ∈ y.frame, k ≤ s.extent) :
    Keeps lk s₀ (fillSlot i y s) := by
  have hfilled : Keeps lk s₀ (Machine.onSlot i (fun _ => y) s) := by
    have hother : Keeps lk s₀ { s with slots := s.slots } := hk
    refine { hother with frames := fun ha => ⟨fun z hz hp => ?_, fun hless => ?_⟩, done := fun j x hx hd hl => ?_ }
    · rcases mem_modify_const hz with rfl | hz
      · exact hframe hp
      · exact (hk.frames ha).1 z hz hp
    · rcases hless with e | e | e <;>
      · rw [show s.transport.state = _ from e] at hroll
        cases hroll
    · have hold := hk.done j x hx hd hl
      have hne : i ≠ j := by
        rintro rfl
        rw [slot_eq s i x hold, hd] at hfree
        cases hfree
      simpa [Machine.onSlot, List.getElem?_modify, hne] using hold
  have hcount := hfilled.of_parts (t := { Machine.onSlot i (fun _ => y) s with
    sched := { s.sched with counter := s.sched.counter + 1#32 } }) rfl (.inr rfl)
  unfold Machine.fillSlot slotTaken
  split
  · split
    · exact emit_keeps _ (emit_keeps _ (stopDiscover_keeps hcount))
    · exact emit_keeps _ (emit_keeps _ hcount)
  · split
    · exact emit_keeps _ hcount
    · exact hcount

/-- A new slot that is placed has a frame of the index (R120). -/
theorem newSlot_frame (s : State) (m : Link) (tag : Byte) (target : SlotTarget) (act : SlotAction) (pr : Priority) (hold : Nat)
    (h : (newSlot s m tag target act pr hold).Placed) :
    ∃ k ∈ (newSlot s m tag target act pr hold).frame, k ≤ s.extent := by
  unfold newSlot at h ⊢
  cases hres : resolveTarget s target with
  | found k => exact ⟨k, rfl, resolveTarget_found hres⟩
  | beyond => simp [hres, Slot.Placed] at h
  | absent => simp [hres, Slot.Placed, Slot.endedBare, Slot.ended] at h

@[simp] theorem retrieve_keeps (m : Link) (tag : Byte) (target : RawTarget) (act pr hold : Byte) {s : State}
    (hk : Keeps lk s₀ s) : Keeps lk s₀ (retrieve m tag target act pr hold s).1 := by
  unfold retrieve
  split
  · exact hk
  · rename_i hroll
    split
    · exact hk
    · rename_i hrewind
      have hless : s.transport.state.rollLess = false := by
        generalize s.transport.state = x at hroll hrewind
        cases x <;> simp at hroll hrewind ⊢
      split
      · split
        · exact hk
        · split
          · exact hk
          · split
            · exact hk
            · split
              · exact hk
              · rename_i i hi
                obtain ⟨hlt, hx, -⟩ := List.findIdx?_eq_some_iff_getElem.mp hi
                refine hk.fillSlot i _ ?_ hless (newSlot_frame s m tag _ _ _ _)
                rw [slot_eq s i _ (List.getElem?_eq_getElem hlt)]
                simpa using hx
      · exact hk

/-! ### The pass (R138 to R155) -/

@[simp] theorem passSegment_keeps (m : Link) (place : Nat) (first last : Half) (action policy : Byte) (interval : Half)
    (halfWidth stepSize stopMask : Byte) {s : State} (hk : Keeps lk s₀ s) :
    Keeps lk s₀ (passSegment m place first last action policy interval halfWidth stepSize stopMask s).1 := by
  unfold passSegment
  dsimp only
  (repeat' split) <;> simp [hk]

@[simp] theorem passStart_keeps (m : Link) (n : Nat) (mode : Byte) (y : Nat) {s : State} (hk : Keeps lk s₀ s) :
    Keeps lk s₀ (passStart m n mode y s).1 := by
  have hstarted (p : Pass) : Keeps lk s₀ (stopDiscover { s with pass := p }) := stopDiscover_keeps (hk.of_parts rfl (.inr rfl))
  unfold passStart
  (repeat' split) <;> simp [hk, hstarted]

@[simp] theorem pendingMade_keeps (r : PendingRequest) {s : State} (hk : Keeps lk s₀ s) : Keeps lk s₀ (pendingMade r s) := by
  have hmade : Keeps lk s₀ { s with pass := { s.pass with pending := r } } := hk.of_parts rfl (.inr rfl)
  unfold pendingMade
  dsimp only
  split <;> simp [hmade]

@[simp] theorem passSuspend_keeps (m : Link) {s : State} (hk : Keeps lk s₀ s) : Keeps lk s₀ (passSuspend m s).1 := by
  unfold passSuspend
  (repeat' split) <;> simp [hk]

@[simp] theorem passResume_keeps (m : Link) {s : State} (hk : Keeps lk s₀ s) : Keeps lk s₀ (passResume m s).1 := by
  unfold passResume
  (repeat' split) <;> simp [hk]

@[simp] theorem passAbort_keeps (m : Link) {s : State} (hk : Keeps lk s₀ s) : Keeps lk s₀ (passAbort m s).1 := by
  unfold passAbort
  (repeat' split) <;> simp [hk]

@[simp] theorem captureTimeout_keeps {s : State} (hk : Keeps lk s₀ s) : Keeps lk s₀ (captureTimeout s) := by
  unfold captureTimeout
  split
  · rename_i k _
    have hfailed : Keeps lk s₀ (onEntry k Entry.failed s) := hk.onEntry _ _ fun _ => ⟨rfl, rfl, rfl⟩
    exact finishFrame_keeps _ _ ((countFault_keeps s.place .captureTimeout k hfailed).of_parts rfl (.inr rfl))
  · exact hk

@[simp] theorem captured_keeps (m : Link) (k : Nat) (r : Byte) {s : State} (hk : Keeps lk s₀ s) :
    Keeps lk s₀ (captured m k r s).1 := by
  have hfailed : Keeps lk s₀ (onEntry k Entry.failed s) := hk.onEntry _ _ fun _ => ⟨rfl, rfl, rfl⟩
  have hcaptured (x : Option Nat) : Keeps lk s₀ (onEntry k (Entry.captured x) s) := hk.onEntry _ _ fun _ => ⟨rfl, rfl, rfl⟩
  have hstep (ok : Bool) : Keeps lk s₀ (stepCaptured k ok s) := by
    unfold stepCaptured
    split
    · exact finishFrame_keeps _ _ (onOutcome_keeps _ _ (hcaptured _))
    · exact finishFrame_keeps _ _ (countFault_keeps _ _ _ hfailed)
  have hfly (i : Nat) (ok : Bool) : Keeps lk s₀ (flyCaptured k i ok s) := by
    unfold flyCaptured
    split
    · exact onOutcome_keeps _ _ (hcaptured _)
    · have hcounted := countFault_keeps i .captureFail k hfailed
      dsimp only
      split
      · exact endPass_keeps _ hcounted
      · exact hcounted
  unfold captured
  dsimp only
  (repeat' split) <;> simp [hk, hstep, hfly]

end

end Sys2Proof.Machine
end

section
/-! PROOFS. The life of a roll and the auxiliary bus keep the laws of `Keeps` (R23, R24, R72, R81 to R95, R160 to R182); with them
every command does. -/

namespace Sys2Proof.Machine

open Sys2Proof

section
variable {lk : Option Link} {s₀ : State}

/-! ### Profiles and the emptying of the roll (R24, R31, R81, R83) -/

/-- A profile with a nominal pitch in range is applied within the laws. -/
theorem applyProfile_keeps (p : Profile) {s : State} (hk : Keeps lk s₀ s) (hp : PitchLaw s₀ → 500 ≤ p.pitch ∧ p.pitch ≤ 16000) :
    Keeps lk s₀ (applyProfile p s) := by
  have hother : Keeps lk s₀ { s with roll := { s.roll with modified := false } } := hk.of_parts rfl (.inr rfl)
  refine { hother with pitch := fun ha => ?_ }
  obtain ⟨-, h2, h3, -⟩ := hk.pitch ha
  refine ⟨hp ha, h2, h3, ?_⟩
  show pitchLow p.pitch ≤ 16 * p.pitch ∧ 16 * p.pitch ≤ pitchHigh p.pitch
  unfold pitchLow pitchHigh
  omega

/-- The station default is applied within the laws. -/
theorem applyDefault_keeps {s : State} (hk : Keeps lk s₀ s) : Keeps lk s₀ (applyProfile s.roll.default s) :=
  applyProfile_keeps _ hk fun ha => (hk.pitch ha).2.1

/-- A state without a roll is entered within the laws where no slot is open. -/
theorem enterState_closed_keeps (t : TState) {s : State} (hk : Keeps lk s₀ s) (hclosed : FrameLaw s₀ → slotsClosed s) :
    Keeps lk s₀ (enterState t s) := by
  have hother : Keeps lk s₀ { s with transport := { s.transport with state := s.transport.state } } := hk
  have h1 (timer : Option Nat) : Keeps lk s₀ { s with transport := { s.transport with state := t }
                                                      roll := { s.roll with idleTimer := timer } } :=
    { hother with frames := fun ha => ⟨(hk.frames ha).1, fun _ => hclosed ha⟩ }
  unfold enterState
  dsimp only
  split
  · exact emit_keeps _ (lampOnEntering_keeps t (h1 _))
  · exact lampOnEntering_keeps t (h1 _)

theorem enterEmpty_keeps {s : State} (hk : Keeps lk s₀ s) (hclosed : FrameLaw s₀ → slotsClosed s) : Keeps lk s₀ (enterEmpty s) := by
  have hempty : Keeps lk s₀ (emptyIndex (applyProfile s.roll.default s)) := emptyIndex_keeps (applyDefault_keeps hk) hclosed
  unfold enterEmpty
  extract_lets s1 src1 src2 src3 src4 s2
  have h2 : Keeps lk s₀ s2 := by
    have hother : Keeps lk s₀ { s1 with
        tag := { s1.tag with dirty := false }, sched := { s1.sched with direction := .forward }
        transport := { s1.transport with reels := .off, move := none } } := hempty.of_parts rfl (.inr rfl)
    exact
      { hother with
        zones := fun ha => ⟨⟨List.Pairwise.nil, Nat.zero_le _⟩, (hempty.zones ha).2⟩
        index := fun ha => ⟨(hempty.index ha).1, ⟨List.Pairwise.nil, Nat.zero_le _⟩, (hempty.index ha).2.2⟩ }
  exact flagRoll_keeps (enterState_closed_keeps .empty (setLevel_keeps _ h2) hclosed)

/-! ### The unload (R93, R94) -/

/-- No slot is open while the film rewinds (R24). -/
theorem Keeps.closed_of_rewinding {s : State} (hk : Keeps lk s₀ s) (h : s.transport.state = .rewinding) (ha : FrameLaw s₀) :
    slotsClosed s := (hk.frames ha).2 (.inr (.inr h))

/-- The laws where a load that ran is dropped, and of the tag, the roll and the bus no more changes than they speak of. -/
theorem Keeps.of_noLoad {s t : State} (hk : Keeps lk s₀ s)
    (ht : t = { s with tag := t.tag, roll := { t.roll with active := s.roll.active, default := s.roll.default }, bus := t.bus })
    (hload : t.tag.load = none) : Keeps lk s₀ t := by
  rw [ht]
  have hother : Keeps lk s₀ { s with
      tag := { t.tag with load := s.tag.load }
      roll := { t.roll with active := s.roll.active, default := s.roll.default }, bus := t.bus } := hk.of_parts rfl (.inr rfl)
  exact
    { hother with
      zones := fun ha => ⟨(hk.zones ha).1, by simp [hload]⟩
      index := fun ha => ⟨(hk.index ha).1, (hk.index ha).2.1, by simp [hload]⟩
      pitch := fun ha => by
        obtain ⟨h1, h2, -, h4⟩ := hk.pitch ha
        exact ⟨h1, h2, by simp [hload], h4⟩ }

theorem unloadComplete_keeps {s : State} (hk : Keeps lk s₀ s) (h : s.transport.state = .rewinding) :
    Keeps lk s₀ (unloadComplete s) :=
  enterEmpty_keeps (hk.of_noLoad rfl rfl) (hk.closed_of_rewinding h)

@[simp] theorem unloadCheck_keeps {s : State} (hk : Keeps lk s₀ s) : Keeps lk s₀ (unloadCheck s) := by
  unfold unloadCheck
  split
  · rename_i h
    exact unloadComplete_keeps hk h.1
  · exact hk

@[simp] theorem rewindEnd_keeps {s : State} (hk : Keeps lk s₀ s) : Keeps lk s₀ (rewindEnd s) := by
  unfold rewindEnd
  split
  · exact unloadCheck_keeps (hk.of_parts rfl (.inr rfl))
  · exact hk

@[simp] theorem rewindDrive_keeps {s : State} (hk : Keeps lk s₀ s) : Keeps lk s₀ (rewindDrive s) :=
  discardMark_keeps (hk.of_parts rfl (.inr rfl))

@[simp] theorem rewindStart_keeps (fromStandby : Bool) {s : State} (hk : Keeps lk s₀ s) :
    Keeps lk s₀ (rewindStart fromStandby s) := by
  unfold rewindStart
  (repeat' split) <;> simp [hk]

@[simp] theorem writeReported_keeps {s : State} (hk : Keeps lk s₀ s) : Keeps lk s₀ (writeReported s) := by
  have hidle : Keeps lk s₀ { s with tag := { s.tag with writeState := .idle, writePlan := [] } } := hk.of_parts rfl (.inr rfl)
  unfold writeReported
  dsimp only
  split
  · exact unloadCheck_keeps (hidle.of_parts rfl (.inr rfl))
  · exact hidle

@[simp] theorem writeFailed_keeps {s : State} (hk : Keeps lk s₀ s) : Keeps lk s₀ (writeFailed s) :=
  writeReported_keeps (flagTag_keeps _ hk)

@[simp] theorem askRecord_keeps (kind : RecordTransfer) {s : State} (hk : Keeps lk s₀ s) : Keeps lk s₀ (askRecord kind s) :=
  hk.of_parts rfl (.inr rfl)

@[simp] theorem decideWrite_keeps {s : State} (hk : Keeps lk s₀ s) : Keeps lk s₀ (decideWrite s) := by
  have hwriting : Keeps lk s₀ { s with tag := { s.tag with writeState := .writing, writePlan := s.writes } } :=
    hk.of_parts rfl (.inr rfl)
  unfold decideWrite
  (repeat' split) <;> simp [hk, hwriting]

@[simp] theorem writeStart_keeps {s : State} (hk : Keeps lk s₀ s) : Keeps lk s₀ (writeStart s) := by
  unfold writeStart
  (repeat' split) <;> simp [hk]

/-! ### The tag load (R160 to R164) -/

/-- What a tag load has read, in order and in range (R100, R161, R165). -/
structure LoadKept (s₀ : State) (l : LoadRecord) : Prop where
  zones : ZoneLaw s₀ → zonesAscend l.zones ∧ l.zones.length ≤ Config.maxZones
  checks : IndexLaw s₀ → checksAscend l.checks ∧ l.checks.length ≤ Config.maxCheckpoints
  pitch : PitchLaw s₀ → 500 ≤ l.profile.pitch ∧ l.profile.pitch ≤ 16000

theorem Keeps.loadKept {s : State} (hk : Keeps lk s₀ s) {l : LoadRecord} (hl : s.tag.load = some l) : LoadKept s₀ l :=
  ⟨fun ha => (hk.zones ha).2 l hl, fun ha => (hk.index ha).2.2 l hl, fun ha => (hk.pitch ha).2.2.1 l hl⟩

theorem emptyLoad_kept : LoadKept s₀ emptyLoad :=
  ⟨fun _ => ⟨List.Pairwise.nil, Nat.zero_le _⟩, fun _ => ⟨List.Pairwise.nil, Nat.zero_le _⟩, fun _ => by decide⟩

/-- The laws with a load that has read in order and in range. -/
theorem Keeps.withLoad {s t : State} (hk : Keeps lk s₀ s) {l : LoadRecord} (hl : LoadKept s₀ l)
    (ht : t = { s with tag := t.tag }) (hload : t.tag.load = some l) : Keeps lk s₀ t := by
  rw [ht]
  have hother : Keeps lk s₀ { s with tag := { t.tag with load := s.tag.load } } := hk.of_parts rfl (.inr rfl)
  exact
    { hother with
      zones := fun ha => ⟨(hk.zones ha).1, by simpa [hload] using hl.zones ha⟩
      index := fun ha => ⟨(hk.index ha).1, (hk.index ha).2.1, by simpa [hload] using hl.checks ha⟩
      pitch := fun ha => by
        obtain ⟨h1, h2, -, h4⟩ := hk.pitch ha
        exact ⟨h1, h2, by simpa [hload] using hl.pitch ha, h4⟩ }

@[simp] theorem threadCheck_keeps {s : State} (hk : Keeps lk s₀ s) : Keeps lk s₀ (threadCheck s) := by
  unfold threadCheck
  split
  · exact enterState_keeps .parked rfl (flagRoll_keeps hk)
  · exact hk

@[simp] theorem gaugeAndThread_keeps {s : State} (hk : Keeps lk s₀ s) : Keeps lk s₀ (gaugeAndThread s) := by
  unfold gaugeAndThread
  split <;> simp [hk]

/-- A tag load that has read in order and in range hands its results on within the laws (R81, R163). -/
theorem completeLoad_keeps (e : LoadEnd) {l : LoadRecord} (hl : LoadKept s₀ l) {s : State} (hk : Keeps lk s₀ s) :
    Keeps lk s₀ (completeLoad e l s) := by
  unfold completeLoad
  extract_lets read fresh src1 src2 s1 s2 s3 src3 src4 s4 s5
  have h1 : Keeps lk s₀ s1 := hk.of_noLoad rfl rfl
  have h2 : Keeps lk s₀ s2 := by
    simp only [s2]
    split
    · refine applyProfile_keeps _ h1 fun ha => ?_
      split
      · exact hl.pitch ha
      · exact (hk.pitch ha).2.1
    · exact h1
  have h3 : Keeps lk s₀ s3 := gaugeAndThread_keeps h2
  have h4 : Keeps lk s₀ s4 := by
    simp only [s4]
    split
    · have hother : Keeps lk s₀ { s3 with tag := { s3.tag with dirty := false } } := h3.of_parts rfl (.inr rfl)
      refine { hother with zones := fun ha => ⟨?_, (h3.zones ha).2⟩, index := fun ha => ⟨(h3.index ha).1, ?_, (h3.index ha).2.2⟩ }
      · show zonesAscend (if read = true then l.zones else []) ∧ (if read = true then l.zones else []).length ≤ _
        split
        · exact hl.zones ha
        · exact ⟨List.Pairwise.nil, Nat.zero_le _⟩
      · show checksAscend (if read = true then l.checks else []) ∧ (if read = true then l.checks else []).length ≤ _
        split
        · exact hl.checks ha
        · exact ⟨List.Pairwise.nil, Nat.zero_le _⟩
    · exact h3
  have h5 : Keeps lk s₀ s5 := flagTag_keeps _ h4
  split
  · exact decideWrite_keeps h5
  · exact h5

@[simp] theorem beginLoad_keeps {s : State} (hk : Keeps lk s₀ s) : Keeps lk s₀ (beginLoad s) := by
  have hbegun : Keeps lk s₀ { s with tag := { s.tag with status := .reading, rollValid := false, load := some emptyLoad } } :=
    hk.withLoad emptyLoad_kept rfl rfl
  unfold beginLoad
  dsimp only
  split
  · exact completeLoad_keeps _ emptyLoad_kept hbegun
  · exact askRecord_keeps _ hbegun

@[simp] theorem startTagLoad_keeps {s : State} (hk : Keeps lk s₀ s) : Keeps lk s₀ (startTagLoad s) := by
  have hrunning : Keeps lk s₀ { s with roll := { s.roll with tagLoad := .running } } := hk.of_parts rfl (.inr rfl)
  unfold startTagLoad
  dsimp only
  split
  · exact hrunning
  · split
    · exact hrunning.of_parts rfl (.inr rfl)
    · exact beginLoad_keeps hrunning

@[simp] theorem deferredLoad_keeps {s : State} (hk : Keeps lk s₀ s) : Keeps lk s₀ (deferredLoad s) := by
  unfold deferredLoad
  split
  · exact beginLoad_keeps (hk.of_parts rfl (.inr rfl))
  · exact hk

/-- A valid ROLL-B record holds a nominal pitch in range (R158). -/
theorem readRecord_pitch {r : TagRecord} {p g n a : Nat} (h : readRecord r = some (.rollB p g n a)) : 500 ≤ p ∧ p ≤ 16000 := by
  simp only [readRecord, readRollB, readRollC, readZone, readCheck] at h
  (repeat' split at h) <;> cases h
  rename_i hrange
  exact ⟨hrange.1, hrange.2.1⟩

/-- An item appended behind a lower one stays in order. -/
theorem pairwise_append_last {α : Type} {f : α → Nat} {xs : List α} {x : α} (h : xs.Pairwise (fun a b => f a < f b))
    (hlast : ∀ y, xs.getLast? = some y → f y < f x) : (xs ++ [x]).Pairwise (fun a b => f a < f b) := by
  refine List.pairwise_append.mpr ⟨h, List.pairwise_singleton _ _, fun y hy z hz => ?_⟩
  rw [List.mem_singleton.mp hz]
  rcases List.eq_nil_or_concat xs with rfl | ⟨init, last, rfl⟩
  · cases hy
  · have hle := hlast last (by simp)
    rw [List.concat_eq_append] at h hy
    rcases List.mem_append.mp hy with hi | hl
    · exact ((List.pairwise_append.mp h).2.2 y hi last (by simp)).trans hle
    · rw [List.mem_singleton.mp hl]
      exact hle

/-- A record that the stage takes is read in order and in range (R161). -/
theorem takeItem_kept {r : TagRecord} {x : TagItem} {l l1 : LoadRecord} (hl : LoadKept s₀ l) (hx : readRecord r = some x)
    (h : takeItem x l = some l1) : LoadKept s₀ l1 := by
  unfold takeItem at h
  split at h
  · cases h
    exact ⟨hl.zones, hl.checks, hl.pitch⟩
  · cases h
    exact ⟨hl.zones, hl.checks, fun _ => readRecord_pitch hx⟩
  · cases h
    exact ⟨hl.zones, hl.checks, hl.pitch⟩
  · split_ifs at h with hroom
    cases h
    obtain ⟨hbelow, hlen⟩ := hroom
    refine ⟨fun ha => ⟨?_, by simpa using hlen⟩, hl.checks, hl.pitch⟩
    refine pairwise_append_last (f := Zone.start) (hl.zones ha).1 fun y hy => ?_
    rw [hy] at hbelow
    exact of_decide_eq_true hbelow
  · split_ifs at h with hroom
    cases h
    obtain ⟨-, hbelow, hlen⟩ := hroom
    refine ⟨hl.zones, fun ha => ⟨?_, by simpa using hlen⟩, hl.pitch⟩
    refine pairwise_append_last (f := Checkpoint.frame) (hl.checks ha).1 fun y hy => ?_
    rw [hy] at hbelow
    exact of_decide_eq_true hbelow
  · cases h

theorem takeRecord_keeps {r : TagRecord} {x : TagItem} (hx : readRecord r = some x) {l : LoadRecord} (hl : LoadKept s₀ l)
    {s : State} (hk : Keeps lk s₀ s) : Keeps lk s₀ (takeRecord x l s) := by
  unfold takeRecord
  split
  · exact completeLoad_keeps _ hl hk
  · split
    · exact completeLoad_keeps _ hl hk
    · rename_i l1 hl1
      have hkept := takeItem_kept hl hx hl1
      split
      · exact completeLoad_keeps _ hkept hk
      · exact askRecord_keeps _ (hk.withLoad (l := { l1 with next := l.next + 1 }) ⟨hkept.zones, hkept.checks, hkept.pitch⟩ rfl rfl)

@[simp] theorem recordRead_keeps (acknowledged : Bool) (r : TagRecord) {s : State} (hk : Keeps lk s₀ s) :
    Keeps lk s₀ (recordRead acknowledged r s) := by
  unfold recordRead
  split
  · exact hk
  · rename_i l hl
    have hkept := hk.loadKept hl
    split
    · exact completeLoad_keeps _ hkept hk
    · split
      · exact completeLoad_keeps _ hkept hk
      · exact takeRecord_keeps ‹_› hkept hk

@[simp] theorem recordWritten_keeps (acknowledged : Bool) {s : State} (hk : Keeps lk s₀ s) :
    Keeps lk s₀ (recordWritten acknowledged s) := by
  unfold recordWritten
  split
  · split
    · exact deferredLoad_keeps (writeFailed_keeps hk)
    · split
      · exact askRecord_keeps _ (hk.of_parts rfl (.inr rfl))
      · exact deferredLoad_keeps (writeReported_keeps (hk.of_parts rfl (.inr rfl)))
  · exact hk

@[simp] theorem tagBusFailed_keeps {s : State} (hk : Keeps lk s₀ s) : Keeps lk s₀ (tagBusFailed s) := by
  unfold tagBusFailed
  extract_lets s1
  have h1 : Keeps lk s₀ s1 := by
    simp only [s1]
    split
    · rename_i l hl
      exact completeLoad_keeps _ (hk.loadKept hl) hk
    · exact hk
  split
  · exact deferredLoad_keeps (writeFailed_keeps h1)
  · exact h1

/-! ### The bus (R78, R79, R95, R172 to R182) -/

@[simp] theorem cartridgeInserted_keeps {s : State} (hk : Keeps lk s₀ s) : Keeps lk s₀ (cartridgeInserted s) :=
  startTagLoad_keeps (hk.of_parts rfl (.inr rfl))

@[simp] theorem cartridgeRemoved_keeps {s : State} (hk : Keeps lk s₀ s) : Keeps lk s₀ (cartridgeRemoved s) := by
  have habandoned (x : State) (hx : Keeps lk s₀ x) : Keeps lk s₀ (abandonTag x) := by
    unfold abandonTag
    extract_lets src1 src2 s1
    have h1 : Keeps lk s₀ s1 := hx.of_noLoad rfl rfl
    split
    · exact h1
    · exact flagTag_keeps _ (h1.of_parts rfl (.inr rfl))
  have h1 := habandoned { s with roll := { s.roll with cartridge := false, tagLoad := .none } } (hk.of_parts rfl (.inr rfl))
  unfold cartridgeRemoved
  dsimp only
  split
  · exact applyDefault_keeps h1
  · exact h1
  · exact enterFaulted_keeps _ h1

@[simp] theorem firstRoundComplete_keeps {s : State} (hk : Keeps lk s₀ s) : Keeps lk s₀ (firstRoundComplete s) := by
  unfold firstRoundComplete
  extract_lets src1 src2 s1 s2
  have h1 : Keeps lk s₀ s1 := hk.of_parts rfl (.inr rfl)
  have h2 : Keeps lk s₀ s2 := enterState_keeps .parked rfl (flagRoll_keeps (setLevel_keeps _ (holdTension_keeps h1)))
  (repeat' split) <;> simp [h1, h2]

@[simp] theorem deliver_keeps (x : Delivery) {s : State} (hk : Keeps lk s₀ s) : Keeps lk s₀ (deliver x s) := by
  have hlampFailed : Keeps lk s₀ (flagLamp (setLamp .failed s)) := flagLamp_keeps (setLamp_keeps _ hk)
  cases x with
  | inserted => exact cartridgeInserted_keeps hk
  | removed => exact cartridgeRemoved_keeps hk
  | doorOpen =>
    simp only [deliver, doorOpened]
    split <;> simp [hk]
  | tailOut => exact rewindEnd_keeps hk
  | tensionOut =>
    simp only [deliver, tensionPassedOut]
    split <;> simp [hk]
  | lampOk ok =>
    simp only [deliver, lampOkChanged]
    (repeat' split) <;> simp [hk, hlampFailed]

@[simp] theorem deliverAll_keeps (l : List Delivery) {s : State} (hk : Keeps lk s₀ s) : Keeps lk s₀ (deliverAll l s) := by
  induction l generalizing s with
  | nil => exact hk
  | cons x xs ih => exact ih (deliver_keeps x hk)

@[simp] theorem beginTransfer_keeps (t : Transfer) {s : State} (hk : Keeps lk s₀ s) : Keeps lk s₀ (beginTransfer t s) := by
  unfold beginTransfer
  dsimp only
  split
  · exact onLinks_keeps _ (hk.of_parts rfl (.inr rfl))
  · exact hk.of_parts rfl (.inr rfl)

@[simp] theorem afterPoll_keeps {s : State} (hk : Keeps lk s₀ s) : Keeps lk s₀ (afterPoll s) := by
  unfold afterPoll
  split
  · exact beginTransfer_keeps _ (hk.of_parts rfl (.inr rfl))
  · exact beginTransfer_keeps _ hk

@[simp] theorem pollEnded_keeps (acknowledged : Bool) (v : Byte) {s : State} (hk : Keeps lk s₀ s) :
    Keeps lk s₀ (pollEnded acknowledged v s) := by
  unfold pollEnded
  extract_lets b src s1 s2 s3 s4
  have h1 : Keeps lk s₀ s1 := hk.of_parts rfl (.inr rfl)
  have h2 : Keeps lk s₀ s2 := by
    simp only [s2]
    split
    · unfold byteAcknowledged
      dsimp only
      split
      · exact deliverAll_keeps _ (onLinks_keeps _ (h1.of_parts rfl (.inr rfl)))
      · exact h1.of_parts rfl (.inr rfl)
    · exact h1.of_parts rfl (.inr rfl)
  have h3 : Keeps lk s₀ s3 := by
    simp only [s3]
    split
    · exact onLinks_keeps _ h2
    · exact h2
  have h4 : Keeps lk s₀ s4 := by
    simp only [s4]
    split <;> simp [h3]
  exact afterPoll_keeps h4

theorem recordEnded_keeps (take : State → State) (htake : ∀ x, Keeps lk s₀ x → Keeps lk s₀ (take x)) {s : State}
    (hk : Keeps lk s₀ s) : Keeps lk s₀ (recordEnded take s) :=
  beginTransfer_keeps _ (htake _ (hk.of_parts rfl (.inr rfl)))

@[simp] theorem busFailed_keeps {s : State} (hk : Keeps lk s₀ s) : Keeps lk s₀ (busFailed s) := by
  unfold busFailed
  extract_lets src1 src2 s1 s2 s3
  have h1 : Keeps lk s₀ s1 := hk.of_parts rfl (.inr rfl)
  have h3 : Keeps lk s₀ s3 := tagBusFailed_keeps (onLinks_keeps _ (flagTransport_keeps _ h1))
  split
  · exact h3
  · exact firstRoundComplete_keeps h3

@[simp] theorem busFault_keeps {s : State} (hk : Keeps lk s₀ s) : Keeps lk s₀ (busFault s) := by
  unfold busFault
  extract_lets s1
  have h1 : Keeps lk s₀ s1 := by
    simp only [s1]
    split
    · exact hk.of_parts rfl (.inr rfl)
    · exact hk
  split
  · exact busFailed_keeps h1
  · exact h1.of_parts rfl (.inr rfl)

@[simp] theorem recoveryEnded_keeps (high : Bool) {s : State} (hk : Keeps lk s₀ s) : Keeps lk s₀ (recoveryEnded high s) := by
  unfold recoveryEnded
  dsimp only
  split
  · exact hk.of_parts rfl (.inr rfl)
  · split
    · exact hk.of_parts rfl (.inr rfl)
    · exact busFailed_keeps hk

end

end Sys2Proof.Machine
end

section
/-! PROOFS. Every command keeps the laws of `Keeps`: the register, the tables, the order and the numbers of the index, the lens, and
the DONE slots (R1, R9, R13, R31, R96, R98, R100, R117, R121, R135, R136, R165). -/

namespace Sys2Proof.Machine

open Sys2Proof

section
variable {lk : Option Link} {s₀ : State}

/-! ### The requests of the roll (R72, R82 to R92) -/

/-- A field stored in its range keeps the nominal pitch in range (R80). -/
theorem storeField_pitch {p : Profile} {v : Quad} {f : ProfileField} (hp : 500 ≤ p.pitch ∧ p.pitch ≤ 16000)
    (hv : ∀ q, fieldInRange q v.toNat f = true → f = .pitch → 500 ≤ v.toNat ∧ v.toNat ≤ 16000) {q : Profile}
    (hin : fieldInRange q v.toNat f = true) : 500 ≤ (storeField p v f).pitch ∧ (storeField p v f).pitch ≤ 16000 := by
  cases f with
  | pitch => exact hv q hin rfl
  | _ => exact hp

/-- The range of the nominal pitch (R80). -/
theorem fieldInRange_pitch {p : Profile} {v : Nat} {f : ProfileField} (h : fieldInRange p v f = true) (hf : f = .pitch) :
    500 ≤ v ∧ v ≤ 16000 := by
  subst hf
  simpa [fieldInRange] using h

@[simp] theorem setProfileField_keeps (field : Byte) (v : Quad) {s : State} (hk : Keeps lk s₀ s) :
    Keeps lk s₀ (setProfileField field v s).1 := by
  unfold setProfileField
  split
  · exact hk
  · split
    · exact hk
    · rename_i f _
      split
      · exact hk
      · rename_i hin
        replace hin : fieldInRange s.roll.active v.toNat f = true := by simpa using hin
        split
        · exact hk
        · have hother : Keeps lk s₀ (setDirty { s with roll := { s.roll with modified := true } }) := hk.of_parts rfl (.inr rfl)
          dsimp only
          split
          · rename_i hf
            subst hf
            have hv := fieldInRange_pitch hin rfl
            refine { hother with pitch := fun ha => ?_ }
            obtain ⟨-, h2, h3, -⟩ := hk.pitch ha
            refine ⟨hv, h2, h3, ?_⟩
            show pitchLow v.toNat ≤ 16 * v.toNat ∧ 16 * v.toNat ≤ pitchHigh v.toNat
            unfold pitchLow pitchHigh
            omega
          · rename_i hf
            have hsame : (storeField s.roll.active v f).pitch = s.roll.active.pitch := by
              cases f with
              | pitch => exact absurd rfl hf
              | _ => rfl
            refine { hother with pitch := fun ha => ?_ }
            show (500 ≤ (storeField s.roll.active v f).pitch ∧ (storeField s.roll.active v f).pitch ≤ 16000) ∧ _ ∧ _ ∧
              pitchLow (storeField s.roll.active v f).pitch ≤ _ ∧ _ ≤ pitchHigh (storeField s.roll.active v f).pitch
            rw [hsame]
            exact hk.pitch ha

theorem setDefaultProfileField_keeps (m : Link) (field : Byte) (v : Quad) {s : State} (hk : Keeps lk s₀ s) :
    Keeps lk s₀ (effect (.setDefaultProfileField m field v) s) := by
  simp only [effect]
  split
  · exact hk
  · rename_i f _
    split
    · exact hk
    · rename_i hin
      have hother : Keeps lk s₀ { s with roll := s.roll } := hk
      refine { hother with pitch := fun ha => ?_ }
      obtain ⟨h1, h2, h3, h4⟩ := hk.pitch ha
      exact ⟨h1, storeField_pitch h2 (fun _ h hf => fieldInRange_pitch h hf) (by simpa using hin), h3, h4⟩

@[simp] theorem load_keeps {s : State} (hk : Keeps lk s₀ s) : Keeps lk s₀ (load s).1 := by
  have hpull {x : State} (hx : Keeps lk s₀ x) : Keeps lk s₀ (startPull x) := by
    unfold startPull
    split
    · split
      · exact enterFaulted_keeps _ hx
      · exact hx.of_parts rfl (.inr rfl)
    · exact hx
  unfold load
  split
  · exact hk
  · split
    · exact hk
    · split
      · exact hk
      · rename_i hclosed
        split
        · exact hk
        · have hstate : s.transport.state = .empty := by simpa using fun e => hclosed (.inl e)
          unfold loadAccepted
          extract_lets src s1
          have h1 : Keeps lk s₀ s1 :=
            enterWarming_keeps (enterState_closed_keeps .threading (hk.of_parts rfl (.inr rfl)) fun ha =>
              (hk.frames ha).2 (.inl hstate))
          dsimp only
          split
          · exact hpull (startTagLoad_keeps h1)
          · exact hpull h1

@[simp] theorem warmExpired_slots (s : State) : (warmExpired s).slots = s.slots := by
  unfold warmExpired
  split <;> rfl

@[simp] theorem enterWarming_slots (s : State) : (enterWarming s).slots = s.slots := by
  unfold enterWarming
  dsimp only
  split
  · exact warmExpired_slots _
  · rfl

@[simp] theorem enterState_slots (t : TState) (s : State) : (enterState t s).slots = s.slots := by
  have hlamp (x : State) : (lampOnEntering t x).slots = x.slots := by
    unfold lampOnEntering
    (repeat' split) <;> simp
  unfold enterState
  dsimp only
  split
  · exact hlamp _
  · exact hlamp _

@[simp] theorem setFocusTarget_slots (t : Nat) (r : Requester) (s : State) : (setFocusTarget t r s).slots = s.slots := by
  rw [setFocusTarget_eq]

@[simp] theorem endSweep_slots (result : SweepResult) (step : Option Nat) (quality : Option Quality) (store : StoreOutcome)
    (s : State) : (endSweep result step quality store s).slots = s.slots := by
  have hfinish : (finishSweep result step quality store s).slots = s.slots := by
    unfold finishSweep
    split
    · rfl
    · dsimp only
      split <;> simp
  unfold endSweep
  split
  · rfl
  · dsimp only
    (repeat' split) <;> simp [endGrant, freeGate, hfinish]

@[simp] theorem endSweepBare_slots (result : SweepResult) (s : State) : (endSweepBare result s).slots = s.slots := by
  unfold endSweepBare
  split
  · rfl
  · exact endSweep_slots _ _ _ _ s

/-- After an UNLOAD no slot is open (R92). -/
theorem onUnload_closed (xs : List Slot) : ∀ y ∈ xs.map Slot.onUnload, y.state = .free ∨ y.state = .done := by
  intro y hy
  obtain ⟨x, -, rfl⟩ := List.mem_map.mp hy
  unfold Slot.onUnload
  split
  · assumption
  · exact .inr rfl

@[simp] theorem unload_keeps {s : State} (hk : Keeps lk s₀ s) : Keeps lk s₀ (unload s).1 := by
  unfold unload
  split
  · exact hk
  · split
    · exact hk
    · split
      · exact hk
      · unfold unloadAccepted
        extract_lets fromStandby s1 src1 src2 src3 s2
        have hslots : Keeps lk s₀ { s with slots := s.slots.map Slot.onUnload } := hk.mapSlots _ (Slot.onUnload_follows _)
        have h1 : Keeps lk s₀ s1 := endSweepBare_keeps _ hslots
        have h2 : Keeps lk s₀ s2 := h1.of_parts rfl (.inr rfl)
        have hkept : s2.slots = s.slots.map Slot.onUnload := by
          simp [s2, s1, cancelQueued]
        refine writeStart_keeps (rewindStart_keeps _ (enterState_closed_keeps .rewinding h2 fun _ => ?_))
        rw [slotsClosed, hkept]
        exact onUnload_closed _

@[simp] theorem standby_keeps (n : Nat) {s : State} (hk : Keeps lk s₀ s) : Keeps lk s₀ (standby n s).1 := by
  unfold standby
  (repeat' split) <;> simp [hk]

@[simp] theorem wake_keeps {s : State} (hk : Keeps lk s₀ s) : Keeps lk s₀ (wake s).1 := by
  unfold wake
  split <;> simp [hk]

@[simp] theorem clearFault_keeps {s : State} (hk : Keeps lk s₀ s) : Keeps lk s₀ (clearFault s).1 := by
  have hparked : Keeps lk s₀ (clearIntoParked s) := by
    unfold clearIntoParked
    extract_lets src s1
    have h1 : Keeps lk s₀ s1 := setLevel_keeps _ (holdTension_keeps (hk.of_parts rfl (.inr rfl)))
    refine enterState_keeps .parked rfl ?_
    split
    · exact flagRoll_keeps h1
    · exact h1
  have hempty : Keeps lk s₀ (clearIntoEmpty s) := by
    unfold clearIntoEmpty
    extract_lets src s1
    have hslots : Keeps lk s₀ { s with slots := s.slots.map Slot.onUnload } := hk.mapSlots _ (Slot.onUnload_follows _)
    have h1 : Keeps lk s₀ s1 := enterEmpty_keeps (hslots.of_parts rfl (.inr rfl)) fun _ => onUnload_closed _
    split
    · exact startTagLoad_keeps h1
    · exact h1
  unfold clearFault
  split
  · dsimp only
    split
    · exact hparked
    · exact hempty
  · exact hk

/-! ### The film's events and the timers -/

@[simp] theorem leaderChanged_keeps (level : LeaderLevel) {s : State} (hk : Keeps lk s₀ s) : Keeps lk s₀ (leaderChanged level s) := by
  have hnoted : Keeps lk s₀ { s with transport := { s.transport with leaderIn := level } } := hk.of_parts rfl (.inr rfl)
  unfold leaderChanged
  split
  · exact hk
  · dsimp only
    split
    · split
      · exact threadCheck_keeps ((zeroAtLeader_keeps hnoted).of_parts rfl (.inr rfl))
      · exact hnoted
    · exact leaderChangedInMove_keeps level hnoted

@[simp] theorem settleExpired_keeps {s : State} (hk : Keeps lk s₀ s) : Keeps lk s₀ (settleExpired s) :=
  checkReady_keeps (onMove_keeps _ (hk.of_parts rfl (.inr rfl)))

@[simp] theorem tensionExpired_keeps {s : State} (hk : Keeps lk s₀ s) : Keeps lk s₀ (tensionExpired s) := by
  have hstopped : Keeps lk s₀ { s with roll := { s.roll with tensionTimer := none } } := hk.of_parts rfl (.inr rfl)
  have hparked := enterState_keeps .parked rfl hstopped
  unfold tensionExpired
  dsimp only
  split
  · split
    · exact hparked
    · exact emit_keeps _ hparked
  · exact rewindDrive_keeps hstopped
  · exact hstopped

/-! ### Every command -/

/-- The link whose DONE slots a command may free (R135, R136). -/
def freedLink : Instr → Option Link
  | .collect l _ _ => some l
  | .linkReset l => some l
  | _ => none

/-- The effect of every command but device reset keeps the laws. -/
theorem effect_keeps {c : Instr} (hreset : ∀ x h, c ≠ .deviceReset x h) {s : State} (hk : Keeps (freedLink c) s₀ s) :
    Keeps (freedLink c) s₀ (effect c s) := by
  have hroll (r : Roll) (hr : r.active = s.roll.active ∧ r.default = s.roll.default) : Keeps (freedLink c) s₀ { s with roll := r } :=
    hk.of_parts (by simp [State.lawParts, hr]) (.inr rfl)
  cases c with
  | deviceReset x h => exact absurd rfl (hreset x h)
  | malformedFrame | unknownRequestCode | nop | status | resolve | passReport | zoneRead => exact hk
  | setParameter =>
    simp only [effect]
    split
    · exact hk.of_parts rfl (.inr rfl)
    · exact hk
  | setDefaultProfileField m field v => exact setDefaultProfileField_keeps m field v hk
  | linkReset m => exact linkReset_keeps m hk
  | collect m x tag => exact collect_keeps m x tag hk
  | holdTimerExpiry => exact holdExpired_keeps hk
  | indexClear =>
    simp only [effect]
    split
    · rename_i hallowed
      refine indexClear_keeps hk fun x hx => ?_
      simp only [clearAllowed, Bool.and_eq_true, Bool.not_eq_true', List.any_eq_false] at hallowed
      have hclosed := hallowed.1.2 x hx
      cases hstate : x.state <;> simp [Slot.isOpen, hstate] at hclosed ⊢
    · exact hk
  | indexRead m n =>
    simp only [effect, indexRead]
    (repeat' split) <;> simp [hk]
  | readSensors | readFlags => simp [effect, hk]
  | indexWindow | clearFlags | setFlagMask | setInputMask | setClearMode | suppress =>
    simp only [effect]
    (repeat' split) <;> simp [hk]
  | gatePulseEnd => exact hk.of_parts rfl (.inr rfl)
  | wakeCountTick => exact hroll _ ⟨rfl, rfl⟩
  | tagRecordRead acknowledged r =>
    simp only [effect]
    split
    · exact recordEnded_keeps _ (fun _ hx => recordRead_keeps acknowledged r hx) hk
    · exact hk
  | tagRecordWrite acknowledged =>
    simp only [effect]
    split
    · exact recordEnded_keeps _ (fun _ hx => recordWritten_keeps acknowledged hx) hk
    · exact hk
  | _ =>
    simp only [effect]
    (repeat' split) <;> simp [hk]

/-- Every command but device reset keeps the laws. -/
theorem exec_keepsLaws {c : Instr} {s t : State} (h : exec c s = .next t) (hreset : ∀ x h, c ≠ .deviceReset x h) :
    Keeps (freedLink c) s t :=
  exec_keeps (P := Keeps (freedLink c) s) (fun _ _ f _ hx => onLink_keeps _ f hx) (fun _ hx => finish_keepsLaws hx)
    (fun _ hx => effect_keeps hreset hx) h (Keeps.refl _ _)

end

/-- A law that device reset leaves in force, and every command that keeps the laws, every step keeps. -/
theorem step_keeps_law {P : State → Prop} (hpending : ∀ s rest, P s → P { s with pending := rest })
    (hreset : ∀ x h (s : State), P { State.resetWith x h with pending := s.pending, freeCount := s.freeCount })
    (hkeeps : ∀ l s t, Keeps l s t → P s → P t) {s t : State} (hs : P s) (h : step s = .next t) : P t := by
  rcases step_cases h with rfl | ⟨c, rest, -, hc⟩
  · exact hs
  · by_cases hr : ∃ x y, c = .deviceReset x y
    · obtain ⟨x, y, rfl⟩ := hr
      cases hc
      exact hreset x y { s with pending := rest }
    · exact hkeeps _ _ _ (exec_keepsLaws hc fun x y e => hr ⟨x, y, e⟩) (hpending s rest hs)

/-! ### The obligations -/

/-- Settles O3. -/
theorem stepKeepsRegister : Obligations.StepKeepsRegister := fun _ _ hs h =>
  step_keeps_law (P := RegisterLaw) (fun _ _ => id) (fun _ _ _ => Nat.zero_le _) (fun _ _ _ hk => hk.register) hs h

/-- Settles O7. -/
theorem stepKeepsTables : Obligations.StepKeepsTables := by
  refine ⟨fun s t hs h => ?_, fun s t hs h => ?_⟩
  · refine step_keeps_law (P := ZoneLaw) (fun _ _ => id) (fun _ _ _ => ?_) (fun _ _ _ hk => hk.zones) hs h
    exact ⟨⟨List.Pairwise.nil, Nat.zero_le _⟩, by simp [State.resetWith]⟩
  · refine step_keeps_law (P := IndexLaw) (fun _ _ => id) (fun _ _ _ => ?_) (fun _ _ _ hk => hk.index) hs h
    exact ⟨Nat.zero_le _, ⟨List.Pairwise.nil, Nat.zero_le _⟩, by simp [State.resetWith]⟩

/-- The pitches after device reset. -/
theorem resetWith_pitch (x : LeaderLevel) (h : Bool) (s : State) :
    PitchLaw { State.resetWith x h with pending := s.pending, freeCount := s.freeCount } := by
  have hbuilt : builtInProfile.pitch = 3000 := rfl
  refine ⟨?_, ?_, fun l hl => (by cases hl), ?_⟩
  · show 500 ≤ builtInProfile.pitch ∧ builtInProfile.pitch ≤ 16000
    omega
  · show 500 ≤ builtInProfile.pitch ∧ builtInProfile.pitch ≤ 16000
    omega
  · show pitchLow builtInProfile.pitch ≤ 48000 ∧ 48000 ≤ pitchHigh builtInProfile.pitch
    simp only [pitchLow, pitchHigh, hbuilt]
    omega

/-- The slots after device reset are all FREE. -/
theorem resetWith_free (x : LeaderLevel) (h : Bool) : ∀ z ∈ (State.resetWith x h).slots, z.state = .free := fun z hz => by
  rw [List.eq_of_mem_replicate hz]
  rfl

/-- Settles O8. -/
theorem stepKeepsOrder : Obligations.StepKeepsOrder := by
  refine ⟨fun s t hs h => ?_, fun s t hp ho h => ?_, fun s t hs h => ?_, fun s t hs h => ?_⟩
  · exact step_keeps_law (P := PitchLaw) (fun _ _ => id) resetWith_pitch (fun _ _ _ hk => hk.pitch) hs h
  · exact (step_keeps_law (P := fun x => PitchLaw x ∧ OrderLaw x) (fun _ _ => id)
      (fun x y s => ⟨resetWith_pitch x y s, List.Pairwise.nil⟩)
      (fun _ _ _ hk hx => ⟨hk.pitch hx.1, hk.order hx.1 hx.2⟩) ⟨hp, ho⟩ h).2
  · exact step_keeps_law (P := NumberLaw) (fun _ _ => id) (fun _ _ _ => rfl) (fun _ _ _ hk => hk.number) hs h
  · exact step_keeps_law (P := FrameLaw) (fun _ _ => id)
      (fun x y s => ⟨fun z hz hp => by simp [resetWith_free x y z hz] at hp, fun _ z hz => .inl (resetWith_free x y z hz)⟩)
      (fun _ _ _ hk => hk.frames) hs h

/-- Settles O9. -/
theorem stepKeepsLens : Obligations.StepKeepsLens := fun s t hs h => by
  refine step_keeps_law (P := LensLaw) (fun _ _ => id) (fun x y s => ?_) (fun _ _ _ hk => hk.lens) hs h
  refine ⟨Nat.zero_le _, by simp [State.resetWith], ?_, ?_⟩ <;> cases y <;> simp [State.resetWith]

/-- Settles O13. -/
theorem doneSlotsWait : Obligations.DoneSlotsWait := by
  intro c i x s t h hx hdone hlink hcollect hreset
  refine (exec_keepsLaws h hreset).done i x hx hdone fun e => ?_
  cases c with
  | collect l a b => exact hcollect a b (by rw [Option.some.inj e])
  | linkReset l => exact hlink (by rw [Option.some.inj e])
  | _ => cases e

end Sys2Proof.Machine
end

section
/-! PROOFS. The law of the retrieval table (R117, R119): RETRIEVE names a FREE slot anew, COLLECT and LINK RESET take names away, and no
other command touches a name. -/

namespace Sys2Proof.Machine

open Sys2Proof

/-- The law of the retrieval table, said of the names of the slots. -/
def KeyLaw (ks : List (Option (Link × Byte))) : Prop :=
  ks.length = Config.slotCount ∧ heldKeys .a ks ≤ Config.linkSlots ∧ heldKeys .b ks ≤ Config.linkSlots ∧ distinctKeys ks = true

theorem slotLaw_iff (s : State) : SlotLaw s ↔ KeyLaw s.slotKeys := by
  unfold SlotLaw KeyLaw
  rw [State.slotKeys, List.length_map]

/-! ### Names taken away and given -/

theorem distinctKeys_set_none {ks : List (Option (Link × Byte))} (h : distinctKeys ks = true) (i : Nat) :
    distinctKeys (ks.set i none) = true := by
  induction ks generalizing i with
  | nil => rfl
  | cons k ks ih =>
    cases k with
    | none => cases i with
      | zero => exact h
      | succ i => exact ih h i
    | some k =>
      simp only [distinctKeys, Bool.and_eq_true, Bool.not_eq_true', List.contains_eq_mem, decide_eq_false_iff_not] at h
      cases i with
      | zero => exact h.2
      | succ i =>
        simp only [List.set_cons_succ, distinctKeys, ih h.2 i, Bool.and_true, Bool.not_eq_true', List.contains_eq_mem,
          decide_eq_false_iff_not]
        intro hmem
        rcases List.mem_or_eq_of_mem_set hmem with hmem | e
        · exact h.1 hmem
        · cases e

theorem distinctKeys_set_some {ks : List (Option (Link × Byte))} (h : distinctKeys ks = true) (i : Nat) {x : Link × Byte}
    (hx : some x ∉ ks) : distinctKeys (ks.set i (some x)) = true := by
  induction ks generalizing i with
  | nil => rfl
  | cons k ks ih =>
    have htail : some x ∉ ks := fun hmem => hx (List.mem_cons_of_mem _ hmem)
    cases i with
    | zero =>
      have hrest : distinctKeys ks = true := by
        cases k with
        | none => exact h
        | some k => exact (Bool.and_eq_true _ _ ▸ h).2
      simp [distinctKeys, hrest, htail]
    | succ i =>
      cases k with
      | none => exact ih h i htail
      | some k =>
        simp only [distinctKeys, Bool.and_eq_true, Bool.not_eq_true', List.contains_eq_mem, decide_eq_false_iff_not] at h
        simp only [List.set_cons_succ, distinctKeys, ih h.2 i htail, Bool.and_true, Bool.not_eq_true', List.contains_eq_mem,
          decide_eq_false_iff_not]
        intro hmem
        rcases List.mem_or_eq_of_mem_set hmem with hmem | e
        · exact h.1 hmem
        · exact hx (e ▸ List.mem_cons_self)

theorem heldKeys_cons (l : Link) (k : Option (Link × Byte)) (ks : List (Option (Link × Byte))) :
    heldKeys l (k :: ks) = heldKeys l ks + if k.any (fun x => x.1 == l) = true then 1 else 0 := by
  cases k <;> simp [heldKeys, List.countP_cons]

theorem heldKeys_set_none (l : Link) (ks : List (Option (Link × Byte))) (i : Nat) : heldKeys l (ks.set i none) ≤ heldKeys l ks := by
  induction ks generalizing i with
  | nil => exact le_refl _
  | cons k ks ih =>
    cases i with
    | zero => simp only [List.set_cons_zero, heldKeys_cons, Option.any_none, Bool.false_eq_true, if_false]; omega
    | succ i =>
      have := ih i
      simp only [List.set_cons_succ, heldKeys_cons]
      omega

theorem heldKeys_set_some (l : Link) {ks : List (Option (Link × Byte))} {i : Nat} (hi : ks[i]? = some none) (x : Link × Byte) :
    heldKeys l (ks.set i (some x)) = heldKeys l ks + if x.1 = l then 1 else 0 := by
  induction ks generalizing i with
  | nil => cases hi
  | cons k ks ih =>
    cases i with
    | zero =>
      obtain rfl : k = none := Option.some.inj hi
      simp [heldKeys_cons]
    | succ i =>
      have := ih (i := i) hi
      simp only [List.set_cons_succ, heldKeys_cons]
      omega

/-- The names after a slot is replaced. -/
theorem onSlot_const_keys (i : Nat) (x : Slot) (s : State) : (onSlot i (fun _ => x) s).slotKeys = s.slotKeys.set i x.key := by
  apply List.ext_getElem?
  intro j
  simp only [State.slotKeys, onSlot, List.getElem?_map, List.getElem?_modify, List.getElem?_set, List.length_map]
  by_cases h : i = j
  · subst h
    by_cases hlt : i < s.slots.length
    · simp [hlt]
    · simp [hlt]
  · simp [h]

/-- A freed slot leaves the law. -/
theorem freeSlot_keyLaw {s : State} (h : KeyLaw s.slotKeys) (i : Nat) : KeyLaw (onSlot i (fun _ => Slot.empty) s).slotKeys := by
  obtain ⟨hlen, ha, hb, hd⟩ := h
  rw [onSlot_const_keys, show Slot.empty.key = none from rfl]
  exact ⟨by rwa [List.length_set], (heldKeys_set_none _ _ _).trans ha, (heldKeys_set_none _ _ _).trans hb,
    distinctKeys_set_none hd i⟩

/-- The slots a link holds, counted by their names. -/
theorem held_eq (s : State) (l : Link) : s.held l = heldKeys l s.slotKeys := by
  unfold State.held State.slotKeys
  induction s.slots with
  | nil => rfl
  | cons x xs ih =>
    rw [List.map_cons, heldKeys_cons, ← ih, List.filter_cons]
    by_cases hfree : x.state = .free
    · simp [hfree, Slot.key]
    · by_cases howner : x.owner = l <;> simp [hfree, Slot.key, howner]

/-- A name that no slot of the link answers to is none of the names. -/
theorem slotOf_none {s : State} {l : Link} {tag : Byte} (h : s.slotOf l tag = none) : some (l, tag) ∉ s.slotKeys := by
  intro hmem
  obtain ⟨x, hx, hkey⟩ := List.mem_map.mp hmem
  have hno := List.findIdx?_eq_none_iff.mp h x hx
  unfold Slot.key at hkey
  split at hkey
  · cases hkey
  · rename_i hfree
    cases hkey
    simp [hfree] at hno

/-- RETRIEVE gives a FREE slot a new name, where the link holds fewer than 12 (R119). -/
theorem retrieve_keyLaw (l : Link) (tag : Byte) (target : RawTarget) (act pr hold : Byte) {s : State} (h : KeyLaw s.slotKeys) :
    KeyLaw (retrieve l tag target act pr hold s).1.slotKeys := by
  unfold retrieve
  split
  · exact h
  · split
    · exact h
    · split
      · rename_i a p t _ _ _
        split
        · exact h
        · split
          · exact h
          · rename_i hnew
            split
            · exact h
            · rename_i hroom
              split
              · exact h
              · rename_i i hi
                obtain ⟨hlt, hx, -⟩ := List.findIdx?_eq_some_iff_getElem.mp hi
                obtain ⟨hlen, ha, hb, hd⟩ := h
                have hkey : (newSlot s l tag (slotTarget s t) a p hold.toNat).key = some (l, tag) := by
                  unfold newSlot
                  dsimp only
                  split <;> rfl
                have hfree : s.slotKeys[i]? = some none := by
                  simp only [State.slotKeys, List.getElem?_map, List.getElem?_eq_getElem hlt, Option.map_some]
                  simp only [beq_iff_eq] at hx
                  simp [Slot.key, hx]
                have hheld : heldKeys l s.slotKeys < Config.linkSlots := by
                  rw [← held_eq]
                  omega
                show KeyLaw (fillSlot i _ s).slotKeys
                rw [fillSlot, slotTaken_keys]
                show KeyLaw (onSlot i _ s).slotKeys
                rw [onSlot_const_keys, hkey]
                refine ⟨by rwa [List.length_set], ?_, ?_, distinctKeys_set_some hd i (slotOf_none (by simpa using hnew))⟩
                · rw [heldKeys_set_some _ hfree]
                  cases l <;> simp <;> omega
                · rw [heldKeys_set_some _ hfree]
                  cases l <;> simp <;> omega
      · exact h

theorem collect_keyLaw (l : Link) (x tag : Byte) {s : State} (h : KeyLaw s.slotKeys) : KeyLaw (collect l x tag s).1.slotKeys := by
  have hcollect (i : Nat) : KeyLaw (collectSlot i s).1.slotKeys := by
    unfold collectSlot
    split
    · exact freeSlot_keyLaw h i
    · exact h
  unfold collect
  (repeat' split) <;> first | exact h | exact hcollect _

theorem linkReset_keyLaw (l : Link) {s : State} (h : KeyLaw s.slotKeys) : KeyLaw (linkReset l s).slotKeys := by
  have hfreed (n i : Nat) : ∀ x : State, KeyLaw x.slotKeys → KeyLaw (freeSlots l n i x).slotKeys := by
    induction n generalizing i with
    | zero => exact fun _ hx => hx
    | succ n ih =>
      intro x hx
      rw [freeSlots]
      refine ih (i + 1) _ ?_
      have := freeSlot_keyLaw hx i
      (repeat' split) <;> simpa
  have hended : (endLinkWork l s).slotKeys = (freeSlots l Config.slotCount 0 s).slotKeys := by
    unfold endLinkWork
    dsimp only
    (repeat' split) <;> simp
  unfold linkReset clearLink
  rw [onLink_keys, finish_keys, hended]
  exact hfreed _ _ s h

/-! ### The names that no other command touches -/

@[simp] theorem setProfileField_keys (field : Byte) (v : Quad) (s : State) : (setProfileField field v s).1.slotKeys = s.slotKeys := by
  unfold setProfileField
  (repeat' split) <;> simp

@[simp] theorem load_keys  (s : State) : (load  s).1.slotKeys = s.slotKeys := by
  unfold load
  (repeat' split) <;> simp

@[simp] theorem unload_keys  (s : State) : (unload  s).1.slotKeys = s.slotKeys := by
  unfold unload
  (repeat' split) <;> simp

@[simp] theorem standby_keys (n : Nat) (s : State) : (standby n s).1.slotKeys = s.slotKeys := by
  unfold standby
  (repeat' split) <;> simp

@[simp] theorem wake_keys  (s : State) : (wake  s).1.slotKeys = s.slotKeys := by
  unfold wake
  (repeat' split) <;> simp

@[simp] theorem clearFault_keys  (s : State) : (clearFault  s).1.slotKeys = s.slotKeys := by
  unfold clearFault
  (repeat' split) <;> simp

@[simp] theorem indexRead_keys (l : Link) (n : Nat) (s : State) : (indexRead l n s).1.slotKeys = s.slotKeys := by
  unfold indexRead
  (repeat' split) <;> simp

@[simp] theorem indexWrite_keys (n : Nat) (ds : List ImportDesc) (s : State) : (indexWrite n ds s).1.slotKeys = s.slotKeys := by
  unfold indexWrite
  (repeat' split) <;> simp

@[simp] theorem zoneSet_keys (start step : Nat) (s : State) : (zoneSet start step s).1.slotKeys = s.slotKeys := by
  unfold zoneSet
  (repeat' split) <;> simp

@[simp] theorem zoneRemove_keys (start : Nat) (s : State) : (zoneRemove start s).1.slotKeys = s.slotKeys := by
  unfold zoneRemove
  (repeat' split) <;> simp

@[simp] theorem focusSweep_keys (l : Link) (k : Nat) (x : Byte) (c : Half) (h z : Nat) (store : Byte) (s : State) : (focusSweep l k x c h z store s).1.slotKeys = s.slotKeys := by
  unfold focusSweep
  (repeat' split) <;> simp

@[simp] theorem score_keys (l : Link) (id point v : Nat) (s : State) : (score l id point v s).1.slotKeys = s.slotKeys := by
  unfold score
  (repeat' split) <;> simp

@[simp] theorem passSegment_keys (l : Link) (place : Nat) (first last : Half) (a p : Byte) (iv : Half) (hw st m : Byte) (s : State) : (passSegment l place first last a p iv hw st m s).1.slotKeys = s.slotKeys := by
  unfold passSegment
  dsimp only
  (repeat' split) <;> simp

@[simp] theorem passStart_keys (l : Link) (n : Nat) (mode : Byte) (y : Nat) (s : State) : (passStart l n mode y s).1.slotKeys = s.slotKeys := by
  unfold passStart
  (repeat' split) <;> simp

@[simp] theorem passSuspend_keys (l : Link) (s : State) : (passSuspend l s).1.slotKeys = s.slotKeys := by
  unfold passSuspend
  (repeat' split) <;> simp

@[simp] theorem passResume_keys (l : Link) (s : State) : (passResume l s).1.slotKeys = s.slotKeys := by
  unfold passResume
  (repeat' split) <;> simp

@[simp] theorem passAbort_keys (l : Link) (s : State) : (passAbort l s).1.slotKeys = s.slotKeys := by
  unfold passAbort
  (repeat' split) <;> simp

@[simp] theorem captured_keys (l : Link) (k : Nat) (r : Byte) (s : State) : (captured l k r s).1.slotKeys = s.slotKeys := by
  unfold captured
  (repeat' split) <;> simp

@[simp] theorem query_keys (l : Link) (tag : Byte) (s : State) : (query l tag s).1.slotKeys = s.slotKeys := by
  unfold query
  (repeat' split) <;> simp

theorem endedSlot_keys (i : Nat) (r : ResultCode) (s : State) (h : (s.slot i).state ≠ .free) :
    (onSlot i (Slot.endedReached r) s).slotKeys = s.slotKeys :=
  onSlot_keys _ _ _ (ended_key _ _ h)

@[simp] theorem release_keys (l : Link) (tag : Byte) (s : State) : (release l tag s).1.slotKeys = s.slotKeys := by
  unfold release
  split
  · rfl
  · dsimp only
    split_ifs with hpresenting
    · exact endPresenting_keys _ _ _ (by simp [hpresenting])
    · rfl
    · rfl

@[simp] theorem cancel_keys (l : Link) (tag : Byte) (s : State) : (cancel l tag s).1.slotKeys = s.slotKeys := by
  unfold cancel
  split
  · rfl
  · dsimp only
    split <;> simp_all [endPresenting_keys, endedSlot_keys]

@[simp] theorem holdExpired_keys (s : State) : (effect .holdTimerExpiry s).slotKeys = s.slotKeys := by
  simp only [effect]
  split
  · rename_i i hi
    obtain ⟨hlt, hx, -⟩ := List.findIdx?_eq_some_iff_getElem.mp hi
    simp only [Bool.and_eq_true, beq_iff_eq] at hx
    refine endPresenting_keys _ _ _ ?_
    rw [State.slot, List.getD_eq_getElem _ _ hlt, hx.1]
    simp
  · rfl

/-- Every command but RETRIEVE, COLLECT, LINK RESET and device reset leaves the names. -/
theorem effect_keys {c : Instr} (hretrieve : ∀ l tag t a p h, c ≠ .retrieve l tag t a p h) (hcollect : ∀ l x tag, c ≠ .collect l x tag)
    (hlink : ∀ l, c ≠ .linkReset l) (hreset : ∀ x h, c ≠ .deviceReset x h) (s : State) : (effect c s).slotKeys = s.slotKeys := by
  cases c with
  | deviceReset x h => exact absurd rfl (hreset x h)
  | retrieve l tag t a p h => exact absurd rfl (hretrieve l tag t a p h)
  | collect l x tag => exact absurd rfl (hcollect l x tag)
  | linkReset l => exact absurd rfl (hlink l)
  | holdTimerExpiry => exact holdExpired_keys s
  | tagRecordRead acknowledged r =>
    simp only [effect]
    split
    · exact recordEnded_keys _ _ (recordRead_keys acknowledged r)
    · rfl
  | tagRecordWrite acknowledged =>
    simp only [effect]
    split
    · exact recordEnded_keys _ _ (recordWritten_keys acknowledged)
    · rfl
  | malformedFrame | unknownRequestCode | nop | status | resolve | passReport | zoneRead | gatePulseEnd | wakeCountTick => rfl
  | _ =>
    simp only [effect]
    (repeat' split) <;> simp

/-- Settles O5: the law is one of the names of the slots, which four commands alone touch. -/
theorem stepKeepsSlots : Obligations.StepKeepsSlots := by
  intro s t hs h
  rw [slotLaw_iff] at hs ⊢
  rcases step_cases h with rfl | ⟨c, rest, -, hc⟩
  · exact hs
  refine exec_keeps (P := fun x => KeyLaw x.slotKeys) (fun _ _ f x hx => by rwa [onLink_keys]) (fun x hx => by rwa [finish_keys])
    (fun x hx => ?_) hc hs
  cases c with
  | deviceReset a b =>
    show KeyLaw ((List.replicate Config.slotCount Slot.empty).map Slot.key)
    unfold KeyLaw
    decide
  | retrieve l tag target act pr hold => exact retrieve_keyLaw l tag target act pr hold hx
  | collect l a tag => exact collect_keyLaw l a tag hx
  | linkReset l => exact linkReset_keyLaw l hx
  | _ => rwa [effect_keys] <;> simp

end Sys2Proof.Machine
end

section
/-! PROOFS. A refused request changes only the answer and the stream of its own link (R183, R184): each owner refuses on the state it
was given. -/

namespace Sys2Proof.Machine

open Sys2Proof

/-- The answer code of a request that is taken. -/
def AnswerCode.taken (c : AnswerCode) : Bool := c == .ok || c == .accepted

/-- On this state the owner takes the request, or refuses it and changes nothing. -/
def RefusesCleanly (owner : State → State × Reply) (s : State) : Prop :=
  (owner s).2.code.taken = true ∨ owner s = (s, refuse (owner s).2.code)

theorem finish_answer (l : Link) (s : State) : ((finish s).link l).answer = (s.link l).answer := by
  have hwire := congrArg (fun y => Base.outer l y.base) (finish_still s)
  simp only [outer_eq, Prod.mk.injEq] at hwire
  exact congrArg Wire.answer hwire.2.2

theorem setAnswer_answer (l : Link) (a : Answer) (s : State) : ((setAnswer l a s).link l).answer = a := by
  cases l <;> rfl

/-- A request that is not taken, by an owner that then changes nothing, is only answered. -/
theorem request_refused {l : Link} {code : Byte} {owner : State → State × Reply} {s t : State} (hq : Quiet s)
    (h : request l code owner s = .next t) (htaken : (t.link l).answer.code.taken = false)
    (howner : RefusesCleanly owner (closeStream l s)) : t = answered l (t.link l).answer.code code .empty s := by
  have hcode : (t.link l).answer.code = (owner (closeStream l s)).2.code := by
    rw [← Host.Outcome.next.inj h, finish_answer, setAnswer_answer]
  rw [hcode] at htaken ⊢
  rcases howner with htrue | hrefused
  · rw [htrue] at htaken
    cases htaken
  · exact Host.Outcome.next.inj (h.symm.trans (request_answered l code owner s _ hq hrefused))

theorem quietRequest_refused {l : Link} {code : Byte} {owner : State → State × Reply} {s t : State}
    (h : quietRequest l code owner s = .next t) (htaken : (t.link l).answer.code.taken = false)
    (howner : RefusesCleanly owner (closeStream l s)) : t = answered l (t.link l).answer.code code .empty s := by
  have hcode : (t.link l).answer.code = (owner (closeStream l s)).2.code := by
    rw [← Host.Outcome.next.inj h, setAnswer_answer]
  rw [hcode] at htaken ⊢
  rcases howner with htrue | hrefused
  · rw [htrue] at htaken
    cases htaken
  · exact Host.Outcome.next.inj (h.symm.trans (quietRequest_answered l code owner s _ hrefused))

/-! ### Each owner of a request -/

theorem setProfileField_refuses (c : Byte) (v : Quad) (s : State) : RefusesCleanly (setProfileField c v) s := by
  unfold RefusesCleanly setProfileField
  dsimp only
  (repeat' split) <;> simp [AnswerCode.taken, refuse]

theorem load_refuses  (s : State) : RefusesCleanly (load) s := by
  unfold RefusesCleanly load
  (repeat' split) <;> simp [AnswerCode.taken, refuse]

theorem unload_refuses  (s : State) : RefusesCleanly (unload) s := by
  unfold RefusesCleanly unload
  (repeat' split) <;> simp [AnswerCode.taken, refuse]

theorem standby_refuses (n : Nat) (s : State) : RefusesCleanly (standby n) s := by
  unfold RefusesCleanly standby
  (repeat' split) <;> simp [AnswerCode.taken, refuse, okReply]

theorem wake_refuses  (s : State) : RefusesCleanly (wake) s := by
  unfold RefusesCleanly wake
  (repeat' split) <;> simp [AnswerCode.taken, refuse, okReply]

theorem clearFault_refuses  (s : State) : RefusesCleanly (clearFault) s := by
  unfold RefusesCleanly clearFault
  (repeat' split) <;> simp [AnswerCode.taken, refuse, okReply]

theorem retrieve_refuses (l : Link) (tag : Byte) (target : RawTarget) (a p h : Byte) (s : State) : RefusesCleanly (retrieve l tag target a p h) s := by
  unfold RefusesCleanly retrieve
  (repeat' split) <;> simp [AnswerCode.taken, refuse]

theorem release_refuses (l : Link) (tag : Byte) (s : State) : RefusesCleanly (release l tag) s := by
  unfold RefusesCleanly release
  dsimp only
  (repeat' split) <;> simp [AnswerCode.taken, refuse, okReply]

theorem cancel_refuses (l : Link) (tag : Byte) (s : State) : RefusesCleanly (cancel l tag) s := by
  unfold RefusesCleanly cancel
  dsimp only
  (repeat' split) <;> simp [AnswerCode.taken, refuse, okReply]

theorem query_refuses (l : Link) (tag : Byte) (s : State) : RefusesCleanly (query l tag) s := by
  unfold RefusesCleanly query
  (repeat' split) <;> simp [AnswerCode.taken, refuse]

theorem collect_refuses (l : Link) (x tag : Byte) (s : State) : RefusesCleanly (collect l x tag) s := by
  unfold RefusesCleanly collect collectSlot
  (repeat' split) <;> simp [AnswerCode.taken, refuse]

theorem zoneSet_refuses (start step : Nat) (s : State) : RefusesCleanly (zoneSet start step) s := by
  unfold RefusesCleanly zoneSet
  dsimp only
  (repeat' split) <;> simp [AnswerCode.taken, refuse]

theorem zoneRemove_refuses (start : Nat) (s : State) : RefusesCleanly (zoneRemove start) s := by
  unfold RefusesCleanly zoneRemove
  (repeat' split) <;> simp [AnswerCode.taken, refuse, okReply]

theorem focusSweep_refuses (l : Link) (k : Nat) (x : Byte) (c : Half) (h z : Nat) (store : Byte) (s : State) : RefusesCleanly (focusSweep l k x c h z store) s := by
  unfold RefusesCleanly focusSweep
  dsimp only
  (repeat' split) <;> simp [AnswerCode.taken, refuse]

theorem score_refuses (l : Link) (id point v : Nat) (s : State) : RefusesCleanly (score l id point v) s := by
  unfold RefusesCleanly score
  (repeat' split) <;> simp [AnswerCode.taken, refuse, okReply]

theorem passSegment_refuses (l : Link) (place : Nat) (first last : Half) (a p : Byte) (iv : Half) (hw st m : Byte) (s : State) : RefusesCleanly (passSegment l place first last a p iv hw st m) s := by
  unfold RefusesCleanly passSegment
  dsimp only
  (repeat' split) <;> simp [AnswerCode.taken, refuse, okReply]

theorem passStart_refuses (l : Link) (n : Nat) (mode : Byte) (y : Nat) (s : State) : RefusesCleanly (passStart l n mode y) s := by
  unfold RefusesCleanly passStart
  dsimp only
  (repeat' split) <;> simp [AnswerCode.taken, refuse]

theorem passSuspend_refuses (l : Link) (s : State) : RefusesCleanly (passSuspend l) s := by
  unfold RefusesCleanly passSuspend
  dsimp only
  (repeat' split) <;> simp [AnswerCode.taken, refuse, okReply]

theorem passResume_refuses (l : Link) (s : State) : RefusesCleanly (passResume l) s := by
  unfold RefusesCleanly passResume
  dsimp only
  (repeat' split) <;> simp [AnswerCode.taken, refuse, okReply]

theorem passAbort_refuses (l : Link) (s : State) : RefusesCleanly (passAbort l) s := by
  unfold RefusesCleanly passAbort
  (repeat' split) <;> simp [AnswerCode.taken, refuse, okReply]

theorem captured_refuses (l : Link) (k : Nat) (r : Byte) (s : State) : RefusesCleanly (captured l k r) s := by
  unfold RefusesCleanly captured
  dsimp only
  (repeat' split) <;> simp [AnswerCode.taken, refuse, okReply]

theorem indexWrite_refuses (n : Nat) (ds : List ImportDesc) (s : State) (hfull : (indexWrite n ds s).2.code ≠ .full) :
    RefusesCleanly (indexWrite n ds) s := by
  unfold RefusesCleanly
  unfold indexWrite at hfull ⊢
  dsimp only at hfull ⊢
  (repeat' split) <;> simp_all [AnswerCode.taken, refuse]

/-- Settles O11. -/
theorem refusalChangesNothing : Obligations.RefusalChangesNothing := by
  intro c l code ps s t hparts hq h hok hacc hread hfull
  have htaken : (t.link l).answer.code.taken = false := by simp [AnswerCode.taken, hok, hacc]
  cases c with
  | indexRead m n => exact absurd rfl (hread m n)
  | indexWrite m n d1 d2 d3 d4 =>
    cases hparts
    refine request_refused hq h htaken (indexWrite_refuses _ _ _ fun e => ?_)
    refine hfull ?_ l n d1 d2 d3 d4 rfl
    rw [← Host.Outcome.next.inj h]
    show ((finish _).link l).answer.code = _
    rw [finish_answer, setAnswer_answer]
    exact e
  | setProfileField => cases hparts; exact quietRequest_refused h htaken (setProfileField_refuses _ _ _)
  | load => cases hparts; exact request_refused hq h htaken (load_refuses _)
  | unload => cases hparts; exact request_refused hq h htaken (unload_refuses _)
  | standby => cases hparts; exact request_refused hq h htaken (standby_refuses _ _)
  | wake => cases hparts; exact request_refused hq h htaken (wake_refuses _)
  | clearFault => cases hparts; exact request_refused hq h htaken (clearFault_refuses _)
  | retrieve => cases hparts; exact request_refused hq h htaken (retrieve_refuses _ _ _ _ _ _ _)
  | release => cases hparts; exact request_refused hq h htaken (release_refuses _ _ _)
  | cancel => cases hparts; exact request_refused hq h htaken (cancel_refuses _ _ _)
  | query => cases hparts; exact quietRequest_refused h htaken (query_refuses _ _ _)
  | collect => cases hparts; exact quietRequest_refused h htaken (collect_refuses _ _ _ _)
  | zoneSet => cases hparts; exact quietRequest_refused h htaken (zoneSet_refuses _ _ _)
  | zoneRemove => cases hparts; exact quietRequest_refused h htaken (zoneRemove_refuses _ _)
  | focusSweep => cases hparts; exact request_refused hq h htaken (focusSweep_refuses _ _ _ _ _ _ _ _)
  | score => cases hparts; exact request_refused hq h htaken (score_refuses _ _ _ _ _)
  | passSegment => cases hparts; exact quietRequest_refused h htaken (passSegment_refuses _ _ _ _ _ _ _ _ _ _ _)
  | passStart => cases hparts; exact request_refused hq h htaken (passStart_refuses _ _ _ _ _)
  | passSuspend => cases hparts; exact request_refused hq h htaken (passSuspend_refuses _ _)
  | passResume => cases hparts; exact request_refused hq h htaken (passResume_refuses _ _)
  | passAbort => cases hparts; exact request_refused hq h htaken (passAbort_refuses _ _)
  | captured => cases hparts; exact request_refused hq h htaken (captured_refuses _ _ _ _)
  | unknownRequestCode | nop | status | setParameter | setDefaultProfileField | readSensors | linkReset | indexWindow | indexClear
  | resolve | passReport | zoneRead | readFlags | clearFlags | setFlagMask | setInputMask | setClearMode | suppress =>
    cases hparts
    simp only [exec, execUnknownRequestCode, execNop, execStatus, execSetParameter, execSetDefaultProfileField, execReadSensors,
      execLinkReset, execIndexWindow, execIndexClear, execResolve, execPassReport, execZoneRead, execReadFlags, execClearFlags,
      execSetFlagMask, execSetInputMask, execSetClearMode, execSuppress, answerOnly] at h
    refine quietRequest_refused h htaken ?_
    unfold RefusesCleanly
    dsimp only [resolve]
    (repeat' split) <;> simp [AnswerCode.taken, refuse, okReply]
  | _ => cases hparts

end Sys2Proof.Machine
end

section
/-! PROOFS. How the consequences of a command run one after another (log 4), what the scheduler's choice and the beginning of a grant
make of the part (R50, R122 to R125), once for every later proof. -/

namespace Sys2Proof.Machine

open Sys2Proof

/-! ### Consequences one after another -/

/-- The state with these consequences still to run. -/
def facing (l : List Signal) (s : State) : State := { s with todo := l }

theorem facing_nil {s : State} (h : Quiet s) : facing [] s = s := by
  cases s
  cases h
  rfl

/-- From `s`, with the consequences `l` to run, `n` of them lead to `t`, with nothing left to run. -/
def Leads (n : Nat) (l : List Signal) (s t : State) : Prop := settle n (facing l s) = t ∧ Quiet t

theorem Leads.done {s : State} (h : Quiet s) : Leads 0 [] s s := ⟨by rw [facing_nil h]; rfl, h⟩

/-- The next consequence is carried out, and what it sets off goes before what waited. -/
theorem Leads.cons {n : Nat} {sig : Signal} {rest new : List Signal} {s u t : State}
    (h : handle sig (facing [] s) = facing new u) (ht : Leads n (new ++ rest) u t) : Leads (n + 1) (sig :: rest) s t := by
  refine ⟨?_, ht.2⟩
  rw [settle_cons n (facing (sig :: rest) s) sig rest rfl]
  show settle n { handle sig (facing [] s) with todo := (handle sig (facing [] s)).todo ++ rest } = t
  rw [h]
  exact ht.1

/-- A consequence that changes nothing. -/
theorem Leads.skip {n : Nat} {sig : Signal} {rest : List Signal} {s t : State} (h : handle sig (facing [] s) = facing [] s)
    (ht : Leads n rest s t) : Leads (n + 1) (sig :: rest) s t := Leads.cons h ht

theorem finish_of_leads {n : Nat} {l : List Signal} {s t : State} (h : Leads n l s t) (hn : n ≤ 100) : finish (facing l s) = t :=
  finish_of_settle n _ t (hn.trans (by decide)) h.1 h.2

theorem facing_facing (l k : List Signal) (s : State) : facing l (facing k s) = facing l s := rfl

theorem emit_eq_facing (sig : Signal) {s : State} (h : Quiet s) : emit sig s = facing [sig] s := by
  simp [emit, facing, show s.todo = [] from h]

theorem setAnswer_emit (l : Link) (a : Answer) (sig : Signal) (s : State) :
    setAnswer l a (emit sig s) = emit sig (setAnswer l a s) := by
  cases l <;> rfl

/-! What an answer leaves as it is. -/

section
variable (l : Link) (code : AnswerCode) (request : Byte) (contents : Contents) (s : State)

@[simp] theorem answered_tracker : (answered l code request contents s).tracker = s.tracker := by cases l <;> rfl

@[simp] theorem answered_marks : (answered l code request contents s).marks = s.marks := by cases l <;> rfl

@[simp] theorem answered_index : (answered l code request contents s).index = s.index := by cases l <;> rfl

@[simp] theorem answered_transport : (answered l code request contents s).transport = s.transport := by cases l <;> rfl

@[simp] theorem answered_lamp : (answered l code request contents s).lamp = s.lamp := by cases l <;> rfl

@[simp] theorem answered_roll : (answered l code request contents s).roll = s.roll := by cases l <;> rfl

@[simp] theorem answered_focus : (answered l code request contents s).focus = s.focus := by cases l <;> rfl

@[simp] theorem answered_zones : (answered l code request contents s).zones = s.zones := by cases l <;> rfl

@[simp] theorem answered_sweep : (answered l code request contents s).sweep = s.sweep := by cases l <;> rfl

@[simp] theorem answered_slots : (answered l code request contents s).slots = s.slots := by cases l <;> rfl

@[simp] theorem answered_sched : (answered l code request contents s).sched = s.sched := by cases l <;> rfl

@[simp] theorem answered_pass : (answered l code request contents s).pass = s.pass := by cases l <;> rfl

@[simp] theorem answered_tag : (answered l code request contents s).tag = s.tag := by cases l <;> rfl

@[simp] theorem answered_poller : (answered l code request contents s).poller = s.poller := by cases l <;> rfl

@[simp] theorem answered_bus : (answered l code request contents s).bus = s.bus := by cases l <;> rfl

@[simp] theorem answered_params : (answered l code request contents s).params = s.params := by cases l <;> rfl

@[simp] theorem answered_freeCount : (answered l code request contents s).freeCount = s.freeCount := by cases l <;> rfl

@[simp] theorem answered_pending : (answered l code request contents s).pending = s.pending := by cases l <;> rfl

end

@[simp] theorem answered_todo (l : Link) (code : AnswerCode) (request : Byte) (contents : Contents) (s : State) :
    (answered l code request contents s).todo = s.todo := by
  cases l <;> rfl

/-- A request whose owner leaves these consequences leads where they lead. -/
theorem request_next {l : Link} {code : Byte} {owner : State → State × Reply} {s y z t : State} {r : Reply} {new : List Signal}
    {n : Nat} (howner : owner (closeStream l s) = (y, r))
    (hz : setAnswer l { code := r.code, request := code, contents := r.contents } y = facing new z) (ht : Leads n new z t)
    (hn : n ≤ 100) : request l code owner s = .next t := by
  simp only [request, howner, hz, finish_of_leads ht hn]

theorem takes_next {f : State → State} {s z t : State} {new : List Signal} {n : Nat} (hf : f s = facing new z) (ht : Leads n new z t)
    (hn : n ≤ 100) : takes f s = .next t := by
  simp only [takes, hf, finish_of_leads ht hn]

/-! ### The beginning of a move (R50) -/

/-- A move begins from PARKED with the first leg of its plan (R50, R51, R63). -/
theorem startMove_begun {m : Move} {g : Leg} {rest : List Leg} {s : State} (hparked : s.transport.state = .parked)
    (hlevel : s.tracker.level = .lost → m.purpose = .home) (hplan : planFor s m = some (g :: rest)) (hdoor : s.doorClosed = true)
    (htension : tensionOut s.poller.values = false) (hstop : g.stop ≠ .target) (hfly : rest = [] → m.purpose ≠ .flyRun)
    (hfresh : m.travel = 0 ∧ m.atRest = none ∧ m.finalApproach = false) :
    startMove m s = moveBegun (withTarget s m) (g :: rest) s := by
  have hlost : ¬ (s.tracker.level = .lost ∧ m.purpose ≠ .home) := fun h => h.2 (hlevel h.1)
  have hpurpose : (withTarget s m).purpose = m.purpose := by
    unfold withTarget
    split <;> (try split) <;> rfl
  have hkept : (withTarget s m).travel = 0 ∧ (withTarget s m).atRest = none ∧ (withTarget s m).finalApproach = false := by
    unfold withTarget
    split <;> (try split) <;> exact hfresh
  have hentered : enterState .moving s =
      { s with transport := { s.transport with state := .moving }, roll := { s.roll with idleTimer := none } } := rfl
  simp only [startMove, hparked, ne_eq, not_true_eq_false, if_false, hlost, hplan, hdoor, htension, hentered, beginPlan, takeLeg,
    hstop, Bool.true_eq_false, Bool.false_eq_true]
  generalize withTarget s m = w at hpurpose hkept ⊢
  obtain ⟨htravel, hrest, hfinal⟩ := hkept
  have hleg : beginLeg g rest true { s with transport := { s.transport with state := .moving, move := some w }, roll := { s.roll with idleTimer := none } } =
      moveBegun w (g :: rest) s := by
    cases w
    cases htravel
    cases hrest
    cases hfinal
    cases hcls : g.cls <;> simp [beginLeg, hcls, onMove, discardMark, moveBegun]
  rw [hleg]
  split_ifs with h
  · simp [moveBegun, hpurpose, hfly h]
  · rfl

theorem frontierCoord_eq (s : State) : frontierCoord s = s.frontier := by
  unfold frontierCoord State.frontier
  by_cases h : s.index.entries = [] <;> simp [h, State.extent, State.w, window]

theorem frameTarget_inReach {k : Nat} {s : State} (h : InReach k s) : frameTarget s k = some (gateTarget k s) := by
  obtain ⟨hk, hle, hreach⟩ := h
  obtain ⟨e, he⟩ : ∃ e, s.entry k = some e := by
    rw [entry_eq_getElem? (by omega), List.getElem?_eq_getElem (by omega)]
    exact ⟨_, rfl⟩
  have hpos : s.pos k = e.position := by simp [State.pos, he]
  have hnot : ¬ e.position + s.roll.active.gateOffset > Config.maxCoord - s.params.arriveTol := by
    rw [hpos] at hreach
    have : Config.maxCoord = 16777215 := rfl
    omega
  simp only [frameTarget, he, hnot, if_false, gateTarget, hpos]
  cases s.index.trailer with
  | none => rfl
  | some c => by_cases hc : c < e.position + s.roll.active.gateOffset <;> simp [hc]

/-- The plan of a FRAME move is its legs, none of which but the last runs to the target (R53). -/
theorem framePlan_eq (s : State) (t : Nat) : framePlan s t = frameLegs t s := by
  unfold framePlan frameLegs
  simp only [frontierCoord_eq]
  split_ifs <;> first | rfl | omega

theorem frameLegs_cons (s : State) (t : Nat) : ∃ g rest, frameLegs t s = g :: rest ∧ g.stop ≠ .target ∧ rest ≠ [] := by
  unfold frameLegs
  dsimp only
  split_ifs with hforward hshort hmore hmore
  · exact ⟨_, _, rfl, by simp, by simp⟩
  · exact ⟨_, _, rfl, by simp, by simp⟩
  · exact ⟨_, _, rfl, by simp, by simp⟩
  · omega
  · exact ⟨_, _, rfl, by simp, by simp⟩

theorem startMove_frame {k : Nat} {s : State} (hparked : s.transport.state = .parked) (hmay : MayMove s) (hreach : InReach k s) :
    startMove (newMove .frame (some k) 0 none) s = approachBegun k s := by
  obtain ⟨hmove, hlevel, hdoor, htension⟩ := hmay
  obtain ⟨g, rest, hlegs, hstop, hrest⟩ := frameLegs_cons s (gateTarget k s).1
  have htarget := frameTarget_inReach hreach
  have hplan : planFor s (newMove .frame (some k) 0 none) = some (g :: rest) := by
    simp only [planFor, newMove, Option.getD_some, htarget, framePlan_eq, hlegs]
  rw [startMove_begun hparked (fun h => absurd h hlevel) hplan hdoor htension hstop (fun h => absurd h hrest) ⟨rfl, rfl, rfl⟩, ← hlegs]
  simp only [approachBegun, withTarget, newMove, Option.getD_some, htarget]

theorem startMove_discover {s : State} (hparked : s.transport.state = .parked) (hmay : MayMove s) :
    startMove (newMove .discover none 0 none) s = discoverBegun s := by
  obtain ⟨hmove, hlevel, hdoor, htension⟩ := hmay
  obtain ⟨g, rest, hlegs, hstop⟩ : ∃ g rest, discoverLegs s = g :: rest ∧ g.stop ≠ .target := by
    unfold discoverLegs
    split_ifs <;> exact ⟨_, _, rfl, by simp⟩
  have hplan : planFor s (newMove .discover none 0 none) = some (g :: rest) := by
    simp only [planFor, newMove, ← hlegs, discoverPlan, discoverLegs, frontierCoord_eq, Option.some.injEq]
    split_ifs <;> rfl
  rw [startMove_begun hparked (fun h => absurd h hlevel) hplan hdoor htension hstop (fun _ => by simp [newMove]) ⟨rfl, rfl, rfl⟩, ← hlegs]
  rfl

theorem startMove_fly {u : Nat} {z : Option Nat} {s : State} (hparked : s.transport.state = .parked) (hmay : MayMove s) :
    startMove (newMove .flyRun none u z) s = moveBegun { newMove .flyRun none u z with target := z } (flyLegs u z s) s := by
  obtain ⟨hmove, hlevel, hdoor, htension⟩ := hmay
  obtain ⟨g, rest, hlegs, hstop, hrest⟩ : ∃ g rest, flyLegs u z s = g :: rest ∧ g.stop ≠ .target ∧ rest ≠ [] := by
    unfold flyLegs
    split_ifs <;> exact ⟨_, _, rfl, by simp, by simp⟩
  have hplan : planFor s (newMove .flyRun none u z) = some (g :: rest) := by
    simp only [planFor, newMove, ← hlegs, flyPlan, flyLegs, frontierCoord_eq, Option.some.injEq]
    by_cases hrunup : s.tracker.register ≤ u <;> by_cases hbeyond : s.frontier < u <;> cases z <;> simp [hrunup, hbeyond, legTo, openIndexLeg]
  rw [startMove_begun hparked (fun h => absurd h hlevel) hplan hdoor htension hstop (fun h => absurd h hrest) ⟨rfl, rfl, rfl⟩, ← hlegs]
  rfl

theorem startMove_home {s : State} (hparked : s.transport.state = .parked) (hdoor : s.doorClosed = true)
    (htension : tensionOut s.poller.values = false) :
    startMove (newMove .home none 0 none) s = moveBegun (newMove .home none 0 none) (homePlan s) s := by
  obtain ⟨g, rest, hlegs, hstop⟩ : ∃ g rest, homePlan s = g :: rest ∧ g.stop ≠ .target := by
    unfold homePlan
    split <;> exact ⟨_, _, rfl, by simp⟩
  have hplan : planFor s (newMove .home none 0 none) = some (g :: rest) := by simp only [planFor, newMove, hlegs]
  rw [startMove_begun hparked (fun _ => rfl) hplan hdoor htension hstop (fun _ => by simp [newMove]) ⟨rfl, rfl, rfl⟩, hlegs]
  rfl

/-! ### Stops (R59) -/

theorem stopFor_eq (m : Move) (o : MoveOutcome) {s : State} (h : s.transport.move = some m) : stopFor o s = comingToRest m o s := by
  simp [stopFor, onMove, h, comingToRest]

theorem requestStop_running {m : Move} {s : State} (hstate : s.transport.state = .moving) (hmove : s.transport.move = some m)
    (hphase : m.phase = .running) : requestStop s = comingToRest m .stopped s := by
  simp only [requestStop, hstate, hmove, hphase, if_true, stopFor_eq m .stopped hmove]

/-! ### The choice and the grant (R122, R125) -/

/-- The scheduler may choose in this state (R122). -/
def MayChoose (s : State) : Prop :=
  s.sched.grant = .none ∧ (s.transport.state = .parked ∨ s.transport.state = .standby ∨ s.transport.state = .waking)

/-- Rest slots only: none is PENDING. -/
theorem normalPending_resting {s : State} (h : ∀ x ∈ s.slots, x.resting = true) : s.normalPending = false := by
  simp only [State.normalPending, List.any_eq_false, Bool.and_eq_true, beq_iff_eq, not_and]
  intro x hx hpending
  have := h x hx
  simp [Slot.resting, hpending] at this

theorem makeGrant_waking (g : Grant) {s : State} (h : s.transport.state = .waking) :
    makeGrant g s = { s with sched := { s.sched with grant := g }, roll := { s.roll with idleTimer := none } } := by
  simp [makeGrant, h]

theorem makeGrant_parked (g : Grant) {s : State} (hq : Quiet s) (h : s.transport.state = .parked) :
    makeGrant g s = facing [.beginGrant]
      { s with sched := { s.sched with grant := g }, roll := { s.roll with idleTimer := none } } := by
  simp [makeGrant, h, emit, facing, show s.todo = [] from hq]

/-- No yield is owed any more (R128). -/
def unowed (s : State) : State := { s with sched := { s.sched with yieldOwed := false } }

/-- A yield owed lapses where no NORMAL slot is PENDING (R128). -/
def owedChecked (s : State) : State :=
  if s.sched.yieldOwed = true ∧ s.normalPending = false then unowed s else s

theorem owedChecked_none {s : State} (h : s.normalPending = false) :
    owedChecked s = unowed s := by
  unfold owedChecked unowed
  split_ifs with howed
  · rfl
  · have hnot : s.sched.yieldOwed = false := by simpa [h] using howed
    have heta : s.sched = { s.sched with yieldOwed := false } := by rw [← hnot]
    rw [← heta]

/-- The rows of the order below a yield that has lapsed (R123). -/
def rowTaken (s : State) : State :=
  if s.tracker.level = .lost then makeGrant .home s
  else match urgentPick s with
    | some c => if c.slot.state = .pending then grantSlot c.number s else makeGrant .discover s
    | none =>
      if (match s.sweep.active with
          | some x => x.state == .queued
          | none => false) = true then grantSweep s
      else if s.passActive = true ∧ s.sched.yieldOwed = false then grantPass s
      else grantNormal s

theorem chooseRow_eq (s : State) : chooseRow s = rowTaken (owedChecked s) := rfl

theorem choose_taken {s : State} (h : MayChoose s) (hany : anyCandidate s = true) : choose s = rowTaken (owedChecked s) := by
  rw [← chooseRow_eq]
  simp [choose, h.1, h.2, hany]

theorem rowTaken_home {s : State} (h : s.tracker.level = .lost) : rowTaken s = makeGrant .home s := by simp [rowTaken, h]

theorem rowTaken_urgent {s : State} {c : Candidate} (hlevel : s.tracker.level ≠ .lost) (h : urgentPick s = some c) :
    rowTaken s = if c.slot.state = .pending then grantSlot c.number s else makeGrant .discover s := by simp [rowTaken, hlevel, h]

theorem rowTaken_sweep {s : State} {x : SweepRecord} (hlevel : s.tracker.level ≠ .lost) (hurgent : urgentPick s = none)
    (hx : s.sweep.active = some x) (hqueued : x.state = .queued) : rowTaken s = grantSweep s := by
  simp [rowTaken, hlevel, hurgent, hx, hqueued]

theorem rowTaken_pass {s : State} (hlevel : s.tracker.level ≠ .lost) (hurgent : urgentPick s = none)
    (hsweep : ∀ x ∈ s.sweep.active, x.state ≠ .queued) (hpass : s.passActive = true) (howed : s.sched.yieldOwed = false) :
    rowTaken s = grantPass s := by
  cases hx : s.sweep.active with
  | none => simp [rowTaken, hlevel, hurgent, hx, hpass, howed]
  | some x => simp [rowTaken, hlevel, hurgent, hx, hpass, howed, hsweep x hx]

theorem rowTaken_normal {s : State} (hlevel : s.tracker.level ≠ .lost) (hurgent : urgentPick s = none)
    (hsweep : ∀ x ∈ s.sweep.active, x.state ≠ .queued) (hpass : s.passActive = false ∨ s.sched.yieldOwed = true) :
    rowTaken s = grantNormal s := by
  have hno : ¬ (s.passActive = true ∧ s.sched.yieldOwed = false) := by
    rcases hpass with h | h <;> simp [h]
  cases hx : s.sweep.active with
  | none => simp only [rowTaken, hlevel, hurgent, hx, hno, if_false, Bool.false_eq_true]
  | some x => simp [rowTaken, hlevel, hurgent, hx, hno, hsweep x hx]

theorem owedChecked_slots (s : State) : (owedChecked s).slots = s.slots := by unfold owedChecked; split <;> rfl

theorem grantSweep_taken {s : State} {x : SweepRecord} (hx : s.sweep.active = some x) (hframe : x.frame ≤ s.index.entries.length) :
    grantSweep s = makeGrant .sweep (onSweep (fun y => { y with state := .travelling }) s) := by
  have hnot : ¬ s.extent < x.frame := by
    unfold State.extent
    omega
  simp [grantSweep, hx, hnot]

/-- The queued sweep is granted where no slot waits (R122, R123, R125). -/
theorem choose_sweep {s : State} {x : SweepRecord} (hmay : MayChoose s) (hlevel : s.tracker.level ≠ .lost)
    (hrest : ∀ y ∈ s.slots, y.resting = true) (hx : s.sweep.active = some x) (hqueued : x.state = .queued)
    (hframe : x.frame ≤ s.index.entries.length) :
    choose s = makeGrant .sweep (onSweep (fun y => { y with state := .travelling }) (unowed s)) := by
  rw [choose_taken hmay (by simp [anyCandidate, hx, hqueued]), owedChecked_none (normalPending_resting hrest),
    rowTaken_sweep (s := unowed s) hlevel (urgentPick_resting _ hrest) hx hqueued, grantSweep_taken (s := unowed s) hx hframe]

/-- A stand-alone sweep's FRAME move begins where its grant is made in PARKED (R50, R108). -/
theorem beginGrant_sweep {s : State} {x : SweepRecord} (hgrant : s.sched.grant = .sweep) (hparked : s.transport.state = .parked)
    (hmay : MayMove s) (hx : s.sweep.active = some x) (htravelling : x.state = .travelling) (hreach : InReach x.frame s) :
    beginGrant s = approachBegun x.frame s := by
  have hnot : ¬ s.extent < x.frame := by
    have := hreach.2.1
    unfold State.extent
    omega
  have hsame : onSweep (fun y => { y with state := .travelling }) s = s := by
    have : (s.sweep.active.map fun y => { y with state := .travelling }) = s.sweep.active := by
      rw [hx, Option.map_some, ← htravelling]
    simp only [onSweep, this]
  simp only [beginGrant, hparked, hmay.1, hgrant, travelSweep, hx, hnot, if_false, hsame, and_self, if_true]
  exact startMove_frame hparked hmay hreach

theorem moveBegun_todo (m : Move) (legs : List Leg) (s : State) : (moveBegun m legs s).todo = s.todo := by
  cases legs <;> rfl

theorem approachBegun_todo (k : Nat) (s : State) : (approachBegun k s).todo = s.todo := moveBegun_todo _ _ _

theorem discoverBegun_todo (s : State) : (discoverBegun s).todo = s.todo := moveBegun_todo _ _ _

theorem answered_moveBegun (l : Link) (code : AnswerCode) (request : Byte) (contents : Contents) (m : Move) (legs : List Leg) (s : State) :
    answered l code request contents (moveBegun m legs s) = moveBegun m legs (answered l code request contents s) := by
  cases l <;> cases legs <;> rfl

theorem answered_approachBegun (l : Link) (code : AnswerCode) (request : Byte) (contents : Contents) (k : Nat) (s : State) :
    answered l code request contents (approachBegun k s) = approachBegun k (answered l code request contents s) := by
  rw [approachBegun, answered_moveBegun]
  cases l <;> rfl

theorem answered_discoverBegun (l : Link) (code : AnswerCode) (request : Byte) (contents : Contents) (s : State) :
    answered l code request contents (discoverBegun s) = discoverBegun (answered l code request contents s) := by
  rw [discoverBegun, answered_moveBegun]
  cases l <;> rfl

/-- With nothing but a queued sweep to serve, WAKING holds its grant (R122, R125). -/
theorem leads_sweep_held {s : State} {x : SweepRecord} (hq : Quiet s) (hgrant : s.sched.grant = .none)
    (hwaking : s.transport.state = .waking) (hlevel : s.tracker.level ≠ .lost) (hrest : ∀ y ∈ s.slots, y.resting = true)
    (hx : s.sweep.active = some x) (hqueued : x.state = .queued) (hframe : x.frame ≤ s.index.entries.length) :
    Leads 1 [.choose] s (heldGrant .sweep (onSweep (fun y => { y with state := .travelling }) s)) := by
  refine Leads.cons (new := []) ?_ (Leads.done hq)
  show choose (facing [] s) = _
  rw [facing_nil hq, choose_sweep ⟨hgrant, .inr (.inr hwaking)⟩ hlevel hrest hx hqueued hframe,
    makeGrant_waking _ (by exact hwaking), facing_nil (by exact hq)]
  rfl

/-- The same in PARKED, where the sweep's FRAME move begins at once (R50, R108). -/
theorem leads_sweep_begun {s : State} {x : SweepRecord} {k : Nat} (hq : Quiet s) (hgrant : s.sched.grant = .none)
    (hparked : s.transport.state = .parked) (hmay : MayMove s) (hrest : ∀ y ∈ s.slots, y.resting = true)
    (hx : s.sweep.active = some x) (hqueued : x.state = .queued)
    (hk : x.frame = k) (hreach : InReach k s) :
    Leads 2 [.choose] s (approachBegun k (heldGrant .sweep (onSweep (fun y => { y with state := .travelling }) s))) := by
  subst hk
  have hend : Quiet (approachBegun x.frame (heldGrant .sweep (onSweep (fun y => { y with state := .travelling }) s))) :=
    (approachBegun_todo _ _).trans hq
  refine Leads.cons (new := [.beginGrant]) (u := heldGrant .sweep (onSweep (fun y => { y with state := .travelling }) s)) ?_
    (Leads.cons (new := []) ?_ (Leads.done hend))
  · show choose (facing [] s) = _
    rw [facing_nil hq, choose_sweep ⟨hgrant, .inl hparked⟩ hmay.2.1 hrest hx hqueued hreach.2.1,
      makeGrant_parked _ (by exact hq) (by exact hparked)]
    rfl
  · show beginGrant (facing [] _) = _
    rw [facing_nil (by exact hq), facing_nil hend]
    exact beginGrant_sweep (x := { x with state := .travelling }) rfl hparked hmay
      (show Option.map _ s.sweep.active = _ by rw [hx]; rfl) rfl hreach

/-- A choice with nothing to choose. -/
theorem leads_at_ease {s : State} (hq : Quiet s) (h : AtEase s) : Leads 1 [.choose] s s := by
  refine Leads.cons (new := []) ?_ (Leads.done hq)
  show choose (facing [] s) = facing [] s
  rw [facing_nil hq, choose_at_ease s h]

end Sys2Proof.Machine
end

section
/-! PROOFS. FOCUS SWEEP (R105, R106): its refusals in their order, and what an accepted one leads to (R108, R122, R125, R127). -/

namespace Sys2Proof.Machine

open Sys2Proof

/-- A stand-alone record for a FOCUS SWEEP (R105). -/
def sweepAsked (l : Link) (frame : Nat) (c : Option Nat) (h z : Nat) (keep : Bool) (id : Nat) (x : SweepState) (s : State) : State :=
  { s with sweep := { s.sweep with
    counter := id
    active := some
      { state := x, origin := .standAlone, id := id, link := l, frame := frame, centre := c, halfWidth := h, stepSize := z,
        store := keep, points := [], scores := [], current := 0 } } }

theorem sweepBarred_iff (s : State) : sweepBarred s = true ↔
    s.focus.status ≠ .ready ∨ s.transport.state = .empty ∨ s.transport.state = .threading ∨ s.transport.state = .rewinding ∨
      s.transport.state = .faulted ∨ s.sweep.active ≠ none ∨ s.pass.state = .running := by
  simp [sweepBarred, Option.isSome_iff_ne_none, or_assoc]

/-- A centre and a store code that are well formed, and the values they stand for. -/
def SweepCodes (kind : Byte) (centre : Half) (store : Byte) (c : Option Nat) (keep : Bool) : Prop :=
  ((kind = 0x00#8 ∧ c = some centre.toNat ∧ centre ≤ 4095#16) ∨ (kind = 0x01#8 ∧ c = none)) ∧
    ((store = 0x00#8 ∧ keep = false) ∨ (store = 0x01#8 ∧ keep = true))

/-- A FOCUS SWEEP that is accepted (R106). -/
structure SweepTaken (frame centre : Half) (kind h z store : Byte) (c : Option Nat) (keep : Bool) (s : State) : Prop where
  codes : SweepCodes kind centre store c keep
  free : sweepBarred s = false
  low : 1#16 ≤ frame
  high : frame ≤ 16384#16
  index : frame.toNat ≤ s.extent
  width : 1#8 ≤ h ∧ h ≤ 8#8
  size : 1#8 ≤ z ∧ z ≤ 64#8

theorem focusSweep_accepted (l : Link) {frame centre : Half} {kind h z store : Byte} {c : Option Nat} {keep : Bool} {s : State}
    (htaken : SweepTaken frame centre kind h z store c keep s) :
    focusSweep l frame.toNat kind centre h.toNat z.toNat store s =
      (emit .choose (stopDiscover (sweepAsked l frame.toNat c h.toNat z.toNat keep (nextSweepId s.sweep.counter) .queued s)),
        { code := .accepted, contents := .number 1 (nextSweepId s.sweep.counter) }) := by
  obtain ⟨hcodes, hfree, hlow, hhigh, hindex, ⟨hh, hh8⟩, hz, hz64⟩ := htaken
  obtain ⟨hcentre, hstore⟩ := hcodes
  have hrange : (frameInRange frame.toNat && decide (1 ≤ h.toNat) && decide (h.toNat ≤ 8) && decide (1 ≤ z.toNat) &&
      decide (z.toNat ≤ 64) && decide (c.getD 0 ≤ Config.maxStep)) = true := by
    have hmax : Config.maxStep = 4095 := rfl
    have hframes : Config.maxFrames = 16384 := rfl
    have hc : c.getD 0 ≤ 4095 := by
      rcases hcentre with ⟨-, rfl, hle⟩ | ⟨-, rfl⟩
      · simpa [BitVec.le_def] using hle
      · exact Nat.zero_le _
    simp only [BitVec.le_def, BitVec.toNat_ofNat] at hlow hhigh hh hh8 hz hz64
    simp only [frameInRange, Bool.and_eq_true, decide_eq_true_eq]
    omega
  have hkind : decodeCentre kind centre = some c := by
    rcases hcentre with ⟨rfl, rfl, -⟩ | ⟨rfl, rfl⟩ <;> simp [decodeCentre]
  have hkeep : decodeYesNo store = some keep := by
    rcases hstore with ⟨rfl, rfl⟩ | ⟨rfl, rfl⟩ <;> simp [decodeYesNo]
  simp only [focusSweep, hfree, Bool.false_eq_true, if_false, hkind, hkeep, hrange, Bool.true_eq_false, Nat.not_lt.mpr hindex]
  rfl

/-- An accepted FOCUS SWEEP stops a DISCOVER move, leaving the transport `T`, and its record waits for the choice. -/
theorem exec_focusSweep_accepted (l : Link) {frame centre : Half} {kind h z store : Byte} {c : Option Nat} {keep : Bool} {s t : State}
    {T : Transport} {n : Nat} (hq : Quiet s) (htaken : SweepTaken frame centre kind h z store c keep s)
    (hstop : ∀ u : State, u.transport = s.transport → u.sched = s.sched → stopDiscover u = { u with transport := T })
    (ht : Leads n [.choose]
      { sweepAsked l frame.toNat c h.toNat z.toNat keep (nextSweepId s.sweep.counter) .queued
          (answered l .accepted 0x40#8 (.number 1 (nextSweepId s.sweep.counter)) s) with transport := T } t)
    (hn : n ≤ 100) : exec (.focusSweep l frame kind centre h z store) s = .next t := by
  have howner := focusSweep_accepted l (s := closeStream l s)
    ⟨htaken.codes, by cases l <;> exact htaken.free, htaken.low, htaken.high, by cases l <;> exact htaken.index, htaken.width, htaken.size⟩
  refine request_next howner ?_ ht hn
  rw [hstop _ (by cases l <;> rfl) (by cases l <;> rfl), setAnswer_emit, ← emit_eq_facing _ (by cases l <;> exact hq)]
  cases l <;> rfl

/-- Without a DISCOVER grant no move is stopped for the sweep (R127). -/
theorem stopDiscover_other {s u : State} (hgrant : s.sched.grant ≠ .discover) (ht : u.transport = s.transport) (hs : u.sched = s.sched) :
    stopDiscover u = { u with transport := s.transport } := by
  rw [stopDiscover, if_neg (hs ▸ hgrant), ← ht]

theorem stopDiscover_running {s u : State} {m : Move} (hgrant : s.sched.grant = .discover) (hstate : s.transport.state = .moving)
    (hmove : s.transport.move = some m) (hphase : m.phase = .running) (ht : u.transport = s.transport) (hs : u.sched = s.sched) :
    stopDiscover u = { u with transport := (comingToRest m .stopped s).transport } := by
  rw [stopDiscover, if_pos (hs ▸ hgrant), requestStop_running (ht ▸ hstate) (ht ▸ hmove) hphase]
  simp only [comingToRest, ht]

/-- The answer to an accepted FOCUS SWEEP and its record, which waits or travels (R105). -/
def sweepAnswered (l : Link) (frame : Nat) (c : Option Nat) (h z : Nat) (keep : Bool) (x : SweepState) (s : State) : State :=
  sweepAsked l frame c h z keep (nextSweepId s.sweep.counter) x (answered l .accepted 0x40#8 (.number 1 (nextSweepId s.sweep.counter)) s)

section
variable (l : Link) {frame centre : Half} {kind h z store : Byte} {c : Option Nat} {keep : Bool} {s : State}

theorem exec_focusSweep_waking (hq : Quiet s) (htaken : SweepTaken frame centre kind h z store c keep s)
    (hwaking : s.transport.state = .waking) (hgrant : s.sched.grant = .none) (hwork : NoWork s) :
    exec (.focusSweep l frame kind centre h z store) s =
      .next (heldGrant .sweep (sweepAnswered l frame.toNat c h.toNat z.toNat keep .travelling s)) := by
  have hkept (u : State) (hu) (hs) := stopDiscover_other (s := s) (u := u) (by simp [hgrant]) hu hs
  obtain ⟨hlevel, hrest, -, -⟩ := hwork
  cases l <;> exact exec_focusSweep_accepted _ hq htaken hkept (leads_sweep_held hq hgrant hwaking hlevel hrest rfl rfl htaken.index)
    (by omega)

theorem exec_focusSweep_parked (hq : Quiet s) (htaken : SweepTaken frame centre kind h z store c keep s)
    (hparked : s.transport.state = .parked) (hgrant : s.sched.grant = .none) (hwork : NoWork s) (hmay : MayMove s)
    (hreach : InReach frame.toNat s) :
    exec (.focusSweep l frame kind centre h z store) s =
      .next (approachBegun frame.toNat (heldGrant .sweep (sweepAnswered l frame.toNat c h.toNat z.toNat keep .travelling s))) := by
  have hkept (u : State) (hu) (hs) := stopDiscover_other (s := s) (u := u) (by simp [hgrant]) hu hs
  obtain ⟨-, hrest, -, -⟩ := hwork
  cases l <;> exact exec_focusSweep_accepted _ hq htaken hkept (leads_sweep_begun hq hgrant hparked hmay hrest rfl rfl rfl hreach)
    (by omega)

/-- Where the grant stays, the record waits. -/
theorem exec_focusSweep_waits {T : Transport} (hq : Quiet s) (htaken : SweepTaken frame centre kind h z store c keep s)
    (hgrant : s.sched.grant ≠ .none)
    (hstop : ∀ u : State, u.transport = s.transport → u.sched = s.sched → stopDiscover u = { u with transport := T }) :
    exec (.focusSweep l frame kind centre h z store) s =
      .next { sweepAnswered l frame.toNat c h.toNat z.toNat keep .queued s with transport := T } := by
  cases l <;> exact exec_focusSweep_accepted _ hq htaken hstop (leads_at_ease hq (.inl hgrant)) (by omega)

end

/-- Settles O46. -/
theorem sweepsAreQueued : Obligations.SweepsAreQueued := by
  refine ⟨?_, ?_, ?_⟩
  · intro l frame centre kind h z store c keep s hq hready hidle hpass hcentre hstore hlow hhigh hindex hh hh8 hz hz64
    have htaken (hstate : s.transport.state = .waking ∨ s.transport.state = .parked ∨ s.transport.state = .moving) :
        SweepTaken frame centre kind h z store c keep s := by
      refine ⟨⟨hcentre, hstore⟩, ?_, hlow, hhigh, hindex, ⟨hh, hh8⟩, hz, hz64⟩
      rw [Bool.eq_false_iff, Ne, sweepBarred_iff]
      rcases hstate with h | h | h <;> simp [hready, hidle, hpass, h]
    refine ⟨fun hwaking hgrant hwork => ?_, fun hparked hgrant hwork hmay hreach => ?_, fun m hmoving hgrant hm hrunning => ?_⟩
    · refine (exec_focusSweep_waking l hq (htaken (.inl hwaking)) hwaking hgrant hwork).trans ?_
      cases l <;> rfl
    · refine (exec_focusSweep_parked l hq (htaken (.inr (.inl hparked))) hparked hgrant hwork hmay hreach).trans ?_
      dsimp only
      rw [answered_approachBegun]
      cases l <;> rfl
    · refine (exec_focusSweep_waits l hq (htaken (.inr (.inr hmoving))) (by simp [hgrant])
        (fun u hu hs => stopDiscover_running hgrant hmoving hm hrunning hu hs)).trans ?_
      cases l <;> rfl
  · intro l frame centre kind h z store c keep s hq hgrant hnot hready hidle hpass hempty hthreading hrewinding hfaulted hcentre hstore
      hlow hhigh hindex hh hh8 hz hz64
    have hfree : sweepBarred s = false := by
      rw [Bool.eq_false_iff, Ne, sweepBarred_iff]
      simp [hready, hidle, hpass, hempty, hthreading, hrewinding, hfaulted]
    refine (exec_focusSweep_waits l hq ⟨⟨hcentre, hstore⟩, hfree, hlow, hhigh, hindex, ⟨hh, hh8⟩, hz, hz64⟩ hgrant
      (fun u hu hs => stopDiscover_other hnot hu hs)).trans ?_
    cases l <;> rfl
  · intro l frame centre kind h z store s hq
    have refused {code : AnswerCode} (howner : focusSweep l frame.toNat kind centre h.toNat z.toNat store (closeStream l s) =
        (closeStream l s, refuse code)) :
        exec (.focusSweep l frame kind centre h z store) s = .next (answered l code 0x40#8 .empty s) :=
      request_answered l 0x40#8 _ s (refuse code) hq howner
    have hbarred : sweepBarred (closeStream l s) = sweepBarred s := by cases l <;> rfl
    have hextent : (closeStream l s).extent = s.extent := by cases l <;> rfl
    refine ⟨fun hbar => refused ?_, fun hnot hcodes => refused ?_, fun hnot hkind hstore hrange => refused ?_⟩
    · simp [focusSweep, hbarred, (sweepBarred_iff s).mpr hbar]
    · have hnone : decodeCentre kind centre = none ∨ decodeYesNo store = none := by
        rcases hcodes with hcode | hcode
        · left
          have h0 : kind ≠ 0x00#8 := fun e => by subst e; exact absurd hcode (by decide)
          have h1 : kind ≠ 0x01#8 := fun e => by subst e; exact absurd hcode (by decide)
          simp [decodeCentre, h0, h1]
        · right
          have h0 : store ≠ 0x00#8 := fun e => by subst e; exact absurd hcode (by decide)
          have h1 : store ≠ 0x01#8 := fun e => by subst e; exact absurd hcode (by decide)
          simp [decodeYesNo, h0, h1]
      simp only [focusSweep, hbarred, (Bool.eq_false_iff.mpr fun e => hnot ((sweepBarred_iff s).mp e) : sweepBarred s = false), Bool.false_eq_true, if_false]
      rcases hnone with hnone | hnone
      · simp [hnone]
      · cases decodeCentre kind centre <;> simp [hnone]
    · have byte_cases (b : Byte) (hb : b ≤ 0x01#8) : b = 0x00#8 ∨ b = 0x01#8 := by
        simp only [BitVec.le_def, BitVec.toNat_ofNat] at hb
        rcases Nat.le_one_iff_eq_zero_or_eq_one.mp hb with e | e
        · exact .inl (BitVec.eq_of_toNat_eq e)
        · exact .inr (BitVec.eq_of_toNat_eq e)
      obtain ⟨keep, hkeep⟩ : ∃ keep, decodeYesNo store = some keep := by
        rcases byte_cases store hstore with rfl | rfl <;> exact ⟨_, rfl⟩
      obtain ⟨c, hc, hbig⟩ : ∃ c, decodeCentre kind centre = some c ∧ (kind = 0x00#8 → c = some centre.toNat) := by
        rcases byte_cases kind hkind with rfl | rfl
        · exact ⟨_, rfl, fun _ => rfl⟩
        · exact ⟨_, rfl, fun e => by cases e⟩
      simp only [focusSweep, hbarred, (Bool.eq_false_iff.mpr fun e => hnot ((sweepBarred_iff s).mp e) : sweepBarred s = false), Bool.false_eq_true, if_false, hc, hkeep, hextent]
      split_ifs with hin hshort
      · rfl
      · rfl
      · exfalso
        simp only [Bool.not_eq_false, Bool.and_eq_true, decide_eq_true_eq, frameInRange] at hin
        have hframes : Config.maxFrames = 16384 := rfl
        have hsteps : Config.maxStep = 4095 := rfl
        simp only [BitVec.lt_def, BitVec.toNat_ofNat, ← BitVec.toNat_inj] at hrange
        rcases hrange with h | h | h | h | h | h | h | ⟨hk, h⟩
        on_goal 8 =>
          have := hbig (BitVec.eq_of_toNat_eq hk)
          subst this
          simp only [Option.getD_some] at hin
        all_goals omega

end Sys2Proof.Machine
end

section
/-! PROOFS. STANDBY and WAKE (R89 to R91). -/

namespace Sys2Proof.Machine

open Sys2Proof

/-- Away from a ready gate no neighbour of the lamp reads WARMING or OFF (R57, R88). -/
theorem lampChanged_dark {s : State} (hstate : s.transport.state ≠ .settling)
    (hlamp : s.lamp.state = .off ∨ s.lamp.state = .warming) : lampChanged s = s := by
  rcases hlamp with h | h <;> simp [lampChanged, hstate, h]

theorem leads_lamp_dark {s : State} (hq : Quiet s) (hstate : s.transport.state ≠ .settling)
    (hlamp : s.lamp.state = .off ∨ s.lamp.state = .warming) : Leads 1 [.lampChanged] s s := by
  refine Leads.cons (new := []) ?_ (Leads.done hq)
  show lampChanged (facing [] s) = facing [] s
  rw [facing_nil hq, lampChanged_dark hstate hlamp]

/-- A request that is taken, with what it makes of the part and what it sets off. -/
theorem request_taken {l : Link} {code : Byte} {owner : State → State × Reply} {s x t : State} {r : Reply} {new : List Signal} {n : Nat}
    (howner : owner (closeStream l s) = (facing new (closeStream l x), r)) (ht : Leads n new (answered l r.code code r.contents x) t)
    (hn : n ≤ 100) : request l code owner s = .next t :=
  request_next howner (by cases l <;> rfl) ht hn

/-- STANDBY entered from PARKED with the lamp burning (R87, R89, R90). -/
def inStandby (count : Option Nat) (s : State) : State :=
  { s with transport := { s.transport with state := .standby, reels := .relaxed, pulse := none }
           lamp := { state := .off, warmTimer := none }
           roll := { s.roll with idleTimer := none, wakeCount := count } }

theorem enterStandby_lit (count : Option Nat) {s : State} (hq : Quiet s) (hlamp : s.lamp.state ≠ .off) :
    enterStandby count s = facing [.lampChanged] (inStandby count s) := by
  simp only [enterStandby, enterState, lampOnEntering, hlamp, if_false, setLamp, reduceCtorEq]
  exact emit_eq_facing _ hq

/-- WAKING entered with the lamp off, which takes time to warm (R87, R91). -/
def inWaking (s : State) : State :=
  { s with transport := { s.transport with state := .waking, reels := .tension, pulse := none }
           lamp := { state := .warming, warmTimer := some s.params.lampWarm }
           roll := { s.roll with idleTimer := none, wakeCount := none, tensionTimer := some 500 } }

theorem enterWaking_off {s : State} (hq : Quiet s) (hlamp : s.lamp.state = .off) (hwarm : s.params.lampWarm ≠ 0) :
    enterWaking s = facing [.lampChanged] (inWaking s) := by
  simp only [enterWaking, enterState, lampOnEntering, hlamp, if_true, enterWarming, setLamp, hwarm, if_false, reduceCtorEq, emit,
    show s.todo = [] from hq]
  rfl

theorem inStandby_closeStream (l : Link) (count : Option Nat) (s : State) :
    inStandby count (closeStream l s) = closeStream l (inStandby count s) := by
  cases l <;> rfl

theorem inWaking_closeStream (l : Link) (s : State) : inWaking (closeStream l s) = closeStream l (inWaking s) := by
  cases l <;> rfl

theorem closeStream_quiet (l : Link) {s : State} (h : Quiet s) : Quiet (closeStream l s) := by
  cases l <;> exact h

theorem answered_quiet (l : Link) (code : AnswerCode) (request : Byte) (contents : Contents) {s : State} (h : Quiet s) :
    Quiet (answered l code request contents s) := (answered_todo l code request contents s).trans h

/-- Settles O28. -/
theorem standbyAndWaking : Obligations.StandbyAndWaking := by
  refine ⟨?_, ?_, ?_, ?_, ?_, ?_, fun s => rfl, ?_, ?_⟩
  · intro l n s hq hparked hgrant hn hlamp
    have hcount : ¬ 3600 < n.toNat := by simpa [BitVec.le_def] using hn
    have hzero : (if n.toNat = 0 then none else some n.toNat) = if n = 0#16 then none else some n.toNat := by
      simp [← BitVec.toNat_inj]
    refine request_taken (x := inStandby (if n = 0#16 then none else some n.toNat) s) (r := okReply) ?_
      (leads_lamp_dark (answered_quiet _ _ _ _ hq) ?_ ?_) (by omega)
    · rw [standby, enterStandby_lit _ (closeStream_quiet l hq) (by simpa using hlamp), inStandby_closeStream, hzero]
      simp [hparked, hgrant, hcount]
    · cases l <;> simp [answered, inStandby, onLink]
    · cases l <;> simp [answered, inStandby, onLink]
  · intro l n s hq hbarred
    refine request_answered l _ _ s (refuse .state) hq ?_
    simp [standby, hbarred]
  · intro l n s hq hparked hgrant hn
    refine request_answered l _ _ s (refuse .range) hq ?_
    have hcount : 3600 < n.toNat := by simpa [BitVec.lt_def] using hn
    simp [standby, hparked, hgrant, hcount]
  · intro s hq hparked htimer hlamp
    refine takes_next (new := [.lampChanged]) (z := inStandby none s) ?_ (leads_lamp_dark hq (by simp [inStandby]) (.inl rfl)) (by omega)
    rw [if_pos ⟨hparked, Option.isSome_iff_ne_none.mpr htimer⟩, enterStandby_lit none hq hlamp]
  · intro l s hq hstandby hlamp hwarm
    refine request_taken (x := inWaking s) (r := okReply) ?_ (leads_lamp_dark (answered_quiet _ _ _ _ hq) ?_ ?_) (by omega)
    · simp only [wake, closeStream_transport, hstandby]
      rw [enterWaking_off (closeStream_quiet l hq) (by simpa using hlamp) (by simpa using hwarm), inWaking_closeStream]
    · cases l <;> simp [answered, inWaking, onLink]
    · cases l <;> simp [answered, inWaking, onLink]
  · intro s hq hstandby hcount hlamp hwarm
    refine takes_next (new := [.lampChanged]) (z := inWaking s) ?_ (leads_lamp_dark hq (by simp [inWaking]) (.inr rfl)) (by omega)
    rw [if_pos ⟨hstandby, hcount⟩, enterWaking_off hq hlamp hwarm]
  · intro l s hq hstate
    refine request_answered l _ _ s okReply hq ?_
    rcases hstate with h | h | h | h | h | h <;> simp [wake, h]
  · intro l s hq hstate
    refine request_answered l _ _ s (refuse .state) hq ?_
    rcases hstate with h | h | h | h <;> simp [wake, h]

end Sys2Proof.Machine
end

section
/-! PROOFS. The ends of a slot by RELEASE, CANCEL and its hold timer (R131 to R133), with the stops they ask for (R59, R127). -/

namespace Sys2Proof.Machine

open Sys2Proof

/-! ### A slot that has ended -/

/-- Slot `i` has ended with this result (R131 to R133). -/
def slotEnded (i : Nat) (code : ResultCode) (s : State) : State := onSlot i (Slot.endedReached code) s

theorem getElem?_modify_cases {α : Type} {f : α → α} {l : List α} {i j : Nat} {x : α} (h : (l.modify i f)[j]? = some x) :
    (j = i ∧ ∃ y, l[j]? = some y ∧ x = f y) ∨ (j ≠ i ∧ l[j]? = some x) := by
  rw [List.getElem?_modify] at h
  obtain ⟨y, hy, rfl⟩ := Option.map_eq_some_iff.mp h
  by_cases e : i = j
  · exact .inl ⟨e.symm, y, hy, by simp [e]⟩
  · exact .inr ⟨fun h => e h.symm, by simp [e, hy]⟩

/-- With every other slot at rest no slot waits once this one has ended. -/
theorem slotEnded_resting {i : Nat} {code : ResultCode} {s : State}
    (h : ∀ j y, j ≠ i → s.slots[j]? = some y → y.resting = true) : ∀ x ∈ (slotEnded i code s).slots, x.resting = true := by
  intro x hx
  obtain ⟨j, hj⟩ := List.mem_iff_getElem?.mp hx
  rcases getElem?_modify_cases hj with ⟨-, y, -, rfl⟩ | ⟨hne, hy⟩
  · rfl
  · exact h j x hne hy

/-- The PRESENTING slot is gone, the gate freed and the grant ended (R58, R126). -/
def gateFreed (s : State) : State :=
  { s with sched := { s.sched with grant := .none }
           transport := { s.transport with state := .parked, holder := none }
           roll := { s.roll with idleTimer := if s.params.standbyIdle = 0 then none else some s.params.standbyIdle } }

theorem endGrant_freeGate {s : State} (hq : Quiet s) (hlamp : s.lamp.state ≠ .off) :
    endGrant (freeGate s) = facing [.choose, .choose] (gateFreed s) := by
  have hidle : (if (True ∧ s.params.standbyIdle ≠ 0) then some s.params.standbyIdle else none) =
      if s.params.standbyIdle = 0 then none else some s.params.standbyIdle := by
    by_cases h : s.params.standbyIdle = 0 <;> simp [h]
  simp only [freeGate, enterState, lampOnEntering, hlamp, if_false, if_true, endGrant, idleStart, emit, facing, gateFreed,
    show s.todo = [] from hq, List.nil_append, List.singleton_append, ← hidle]

theorem leads_at_ease_twice {s : State} (hq : Quiet s) (h : AtEase s) : Leads 2 [.choose, .choose] s s := by
  refine Leads.skip ?_ (leads_at_ease hq h)
  show choose (facing [] s) = facing [] s
  rw [facing_nil hq, choose_at_ease s h]

/-- Where no other slot waits, no sweep is active and no pass, the end of a slot leaves nothing to choose. -/
theorem slotEnded_noWork {i : Nat} {code : ResultCode} {s : State} (hlevel : s.tracker.level ≠ .lost) (hsweep : s.sweep.active = none)
    (hpass : s.passActive = false) (hrest : ∀ j y, j ≠ i → s.slots[j]? = some y → y.resting = true) : NoWork (slotEnded i code s) :=
  ⟨hlevel, slotEnded_resting hrest, hsweep, hpass⟩

theorem endPresenting_eq (i : Nat) (code : ResultCode) {s : State} (hq : Quiet s) (hlamp : s.lamp.state ≠ .off) :
    endPresenting i code s = facing [.choose, .choose] (gateFreed (slotEnded i code s)) := endGrant_freeGate hq hlamp

theorem gateFreed_slotEnded_closeStream (l : Link) (i : Nat) (code : ResultCode) (s : State) :
    gateFreed (slotEnded i code (closeStream l s)) = closeStream l (gateFreed (slotEnded i code s)) := by
  cases l <;> rfl

/-- The slot whose hold timer runs is the one PRESENTING slot. -/
theorem timedSlot_eq {i : Nat} {x : Slot} {s : State} (hx : s.slots[i]? = some x) (hpresenting : x.state = .presenting)
    (htimer : x.holdTimer ≠ none) (hrest : ∀ j y, j ≠ i → s.slots[j]? = some y → y.resting = true) : s.timedSlot = some i := by
  obtain ⟨hlt, he⟩ := List.getElem?_eq_some_iff.mp hx
  rw [State.timedSlot, List.findIdx?_eq_some_iff_getElem]
  refine ⟨hlt, by simp [he, hpresenting, Option.isSome_iff_ne_none.mpr htimer], fun j hj => ?_⟩
  have hrest := hrest j s.slots[j] (by omega) (List.getElem?_eq_getElem _)
  simp only [Slot.resting, Bool.or_eq_true, beq_iff_eq] at hrest
  rcases hrest with h | h <;> simp [h]

/-- Settles O36. -/
theorem presentingEnds : Obligations.PresentingEnds := by
  intro l tag i x s hq hx hpresenting hlevel hsweep hpass hlamp hrest
  have hslot : s.slot i = x := slot_eq s i x hx
  have hwork (code : ResultCode) : NoWork (gateFreed (slotEnded i code s)) := slotEnded_noWork hlevel hsweep hpass hrest
  have answers {c : Byte} (code : ResultCode) {owner : State → State × Reply}
      (howner : owner (closeStream l s) = (endPresenting i code (closeStream l s), okReply)) :
      request l c owner s = .next (answered l .ok c .empty (gateFreed (slotEnded i code s))) := by
    refine request_taken (x := gateFreed (slotEnded i code s)) (r := okReply) (new := [.choose, .choose]) ?_
      (leads_at_ease_twice (answered_quiet l _ _ _ hq) (.inr ?_)) (by omega)
    · rw [howner, endPresenting_eq i code (closeStream_quiet l hq) (by simpa using hlamp), gateFreed_slotEnded_closeStream]
    · cases l <;> exact hwork code
  refine ⟨fun hi => answers .released ?_, fun hi => answers .cancelled ?_, fun htimer => ?_⟩
  · simp [release, hi, hslot, hpresenting]
  · simp [cancel, hi, hslot, hpresenting]
  · show execHoldTimerExpiry s = _
    unfold execHoldTimerExpiry
    refine takes_next (new := [.choose, .choose]) (z := gateFreed (slotEnded i .holdExpired s)) ?_
      (leads_at_ease_twice hq (.inr (hwork _))) (by omega)
    rw [timedSlot_eq hx hpresenting htimer hrest]
    exact endPresenting_eq i .holdExpired hq hlamp

/-! ### Stops (R59) -/

theorem requestStop_stopping {m : Move} {s : State} (hstate : s.transport.state = .moving) (hmove : s.transport.move = some m)
    (hphase : m.phase ≠ .running) : requestStop s = s := by
  simp [requestStop, hstate, hmove, hphase]

/-- A move that backs off comes to rest as one that is MOVING (R59, log 71). -/
theorem requestStop_recovering {m : Move} {s : State} (hstate : s.transport.state = .recovering) (hmove : s.transport.move = some m) :
    requestStop s = comingToRest m .stopped
      { s with transport := { s.transport with state := .moving }, roll := { s.roll with idleTimer := none } } := by
  have hentered : enterState .moving s =
      { s with transport := { s.transport with state := .moving }, roll := { s.roll with idleTimer := none } } := rfl
  simp only [requestStop, hstate, hentered]
  exact stopFor_eq m .stopped hmove

/-- A grant held in WAKING is dropped (R59). -/
theorem requestStop_waking {s : State} (hq : Quiet s) (hstate : s.transport.state = .waking) (hgrant : s.sched.grant ≠ .none) :
    requestStop s = facing [.choose] { s with sched := { s.sched with grant := .none } } := by
  simp only [requestStop, hstate, hgrant, if_false, endGrant, reduceCtorEq]
  exact emit_eq_facing _ hq

/-- In SETTLING the transport is PARKED at once (R59). -/
theorem requestStop_settling {s : State} (hq : Quiet s) (hstate : s.transport.state = .settling) (hgrant : s.sched.grant ≠ .none)
    (hlamp : s.lamp.state ≠ .off) :
    requestStop s = facing [.moveDone .stopped, .choose]
      { s with
        transport := { s.transport with state := .parked, settleTimer := none, gateReady := false, move := none }
        roll := { s.roll with idleTimer := none } } := by
  simp only [requestStop, hstate, enterState, idleStart, lampOnEntering, emit, hgrant, hlamp, if_true, if_false, facing, false_and,
    show s.todo = [] from hq, List.nil_append, List.singleton_append]

/-! ### CANCEL and RELEASE -/

theorem slotEnded_closeStream (l : Link) (i : Nat) (code : ResultCode) (s : State) :
    slotEnded i code (closeStream l s) = closeStream l (slotEnded i code s) := by
  cases l <;> rfl

/-- A CANCEL that ends its slot at once, setting nothing off. -/
theorem exec_cancel_plain {l : Link} {tag : Byte} {s u : State} (hq : Quiet u)
    (h : cancel l tag (closeStream l s) = (closeStream l u, okReply)) :
    exec (.cancel l tag) s = .next (answered l .ok 0x22#8 .empty u) :=
  request_taken (x := u) (r := okReply) (new := []) (by rw [h, facing_nil (closeStream_quiet l hq)])
    (Leads.done (answered_quiet l _ _ _ hq)) (by omega)

theorem comingToRest_closeStream (l : Link) (m : Move) (o : MoveOutcome) (s : State) :
    comingToRest m o (closeStream l s) = closeStream l (comingToRest m o s) := by
  cases l <;> rfl

/-- A slot is RESOLVING after another has ended just where one was among the others. -/
theorem slotEnded_anyResolving (i : Nat) (code : ResultCode) (s : State) :
    (slotEnded i code s).anyResolving = true ↔ ∃ j y, j ≠ i ∧ s.slots[j]? = some y ∧ y.state = .resolving := by
  simp only [State.anyResolving, List.any_eq_true, beq_iff_eq]
  constructor
  · rintro ⟨x, hx, hresolving⟩
    obtain ⟨j, hj⟩ := List.mem_iff_getElem?.mp hx
    rcases getElem?_modify_cases hj with ⟨-, y, -, rfl⟩ | ⟨hne, hy⟩
    · cases hresolving
    · exact ⟨j, x, hne, hy, hresolving⟩
  · rintro ⟨j, y, hne, hy, hresolving⟩
    refine ⟨y, List.mem_iff_getElem?.mpr ⟨j, ?_⟩, hresolving⟩
    show (s.slots.modify i _)[j]? = some y
    have hij : i ≠ j := fun e => hne e.symm
    rw [List.getElem?_modify, hy]
    simp [hij]

/-- CANCEL of a slot that rides ends the slot and asks for a stop (R133). -/
theorem cancel_travelling {l : Link} {tag : Byte} {i : Nat} {s : State} (hi : s.slotOf l tag = some i)
    (hx : (s.slot i).state = .travelling) :
    cancel l tag (closeStream l s) = (requestStop (slotEnded i .cancelled (closeStream l s)), okReply) := by
  simp [cancel, hi, hx, slotEnded]

theorem cancel_resolving {l : Link} {tag : Byte} {i : Nat} {s : State} (hi : s.slotOf l tag = some i)
    (hx : (s.slot i).state = .resolving) :
    cancel l tag (closeStream l s) = (stopDiscoverIfDone (slotEnded i .cancelled (closeStream l s)), okReply) := by
  simp [cancel, hi, hx, slotEnded]

section
variable {l : Link} {tag : Byte} {i : Nat} {s : State}

/-- The stop of a CANCEL in a move that runs, or stops already (R59). -/
theorem exec_cancel_moving {m : Move} (hq : Quiet s)
    (h : cancel l tag (closeStream l s) = (requestStop (slotEnded i .cancelled (closeStream l s)), okReply))
    (hstate : s.transport.state = .moving) (hm : s.transport.move = some m) :
    exec (.cancel l tag) s = .next (answered l .ok 0x22#8 .empty
      (if m.phase = .running then comingToRest m .stopped (slotEnded i .cancelled s) else slotEnded i .cancelled s)) := by
  rw [slotEnded_closeStream] at h
  split_ifs with hphase
  · refine exec_cancel_plain hq (h.trans ?_)
    rw [requestStop_running (by cases l <;> exact hstate) (by cases l <;> exact hm) hphase, comingToRest_closeStream]
  · refine exec_cancel_plain hq (h.trans ?_)
    rw [requestStop_stopping (by cases l <;> exact hstate) (by cases l <;> exact hm) hphase]

theorem exec_cancel_recovering {m : Move} (hq : Quiet s)
    (h : cancel l tag (closeStream l s) = (requestStop (slotEnded i .cancelled (closeStream l s)), okReply))
    (hstate : s.transport.state = .recovering) (hm : s.transport.move = some m) :
    exec (.cancel l tag) s = .next (answered l .ok 0x22#8 .empty (comingToRest m .stopped
      { slotEnded i .cancelled s with
        transport := { s.transport with state := .moving }, roll := { s.roll with idleTimer := none } })) := by
  refine exec_cancel_plain hq (h.trans ?_)
  rw [requestStop_recovering (m := m) (by cases l <;> exact hstate) (by cases l <;> exact hm)]
  cases l <;> rfl

theorem exec_cancel_waking (hq : Quiet s)
    (h : cancel l tag (closeStream l s) = (requestStop (slotEnded i .cancelled (closeStream l s)), okReply))
    (hstate : s.transport.state = .waking) (hgrant : s.sched.grant ≠ .none) (hwork : NoWork (slotEnded i .cancelled s)) :
    exec (.cancel l tag) s = .next (answered l .ok 0x22#8 .empty
      { slotEnded i .cancelled s with sched := { s.sched with grant := .none } }) := by
  refine request_taken (r := okReply) (new := [.choose]) ?_
    (leads_at_ease (answered_quiet l _ _ _ (s := { slotEnded i .cancelled s with sched := { s.sched with grant := .none } }) hq)
      (.inr ?_)) (by omega)
  · rw [h, requestStop_waking (by cases l <;> exact hq) (by cases l <;> exact hstate) (by cases l <;> exact hgrant)]
    cases l <;> rfl
  · cases l <;> exact hwork

end

/-- A slot that is not TRAVELLING takes nothing of a move's end. -/
theorem onMoveEnd_kept {i : Nat} {o : MoveOutcome} {s : State} (h : ∀ x, s.slots[i]? = some x → x.state ≠ .travelling) :
    onSlot i (Slot.onMoveEnd o) s = s := by
  have hslots : s.slots.modify i (Slot.onMoveEnd o) = s.slots := by
    refine List.ext_getElem? fun j => ?_
    rw [List.getElem?_modify]
    cases hj : s.slots[j]? with
    | none => rfl
    | some x =>
      by_cases e : i = j
      · subst e
        simp [Slot.onMoveEnd, h x hj]
      · simp [e]
  rw [onSlot, hslots]

/-- The grant has ended with nothing left to do: PARKED, and the idle timer runs (R89, R126). -/
theorem leads_grantEnded {s : State} (hq : Quiet s) (hparked : s.transport.state = .parked) (hwork : NoWork s) :
    endGrant s = facing [.choose] (grantEnded s) ∧ Leads 1 [.choose] (grantEnded s) (grantEnded s) := by
  refine ⟨?_, leads_at_ease hq (.inr hwork)⟩
  have hidle : (if (True ∧ s.params.standbyIdle ≠ 0) then some s.params.standbyIdle else none) =
      if s.params.standbyIdle = 0 then none else some s.params.standbyIdle := by
    by_cases h : s.params.standbyIdle = 0 <;> simp [h]
  simp only [endGrant, hparked, if_true, idleStart, emit, facing, grantEnded, show s.todo = [] from hq, List.nil_append, ← hidle]

/-- The stopped move of a slot that has ended gives the grant back (R59, R126). -/
theorem leads_slot_stopped {i : Nat} {o : MoveOutcome} {s : State} (hq : Quiet s) (hparked : s.transport.state = .parked)
    (hgrant : s.sched.grant = .slot i) (hslot : ∀ x, s.slots[i]? = some x → x.state ≠ .travelling) (hwork : NoWork s) :
    Leads 3 [.moveDone o, .choose] s (grantEnded s) := by
  obtain ⟨hend, hchoose⟩ := leads_grantEnded hq hparked hwork
  refine Leads.cons (new := [.choose]) (u := grantEnded s) ?_ (leads_at_ease_twice hq (.inr hwork))
  show moveDone o (facing [] s) = _
  rw [facing_nil hq]
  simp only [moveDone, hparked, hgrant, onMoveEnd_kept hslot, hend, ne_eq, not_true_eq_false, if_false]

theorem slotEnded_not_travelling {i : Nat} {code : ResultCode} {s : State} (x : Slot) (h : (slotEnded i code s).slots[i]? = some x) :
    x.state ≠ .travelling := by
  rcases getElem?_modify_cases h with ⟨-, y, -, rfl⟩ | ⟨hne, -⟩
  · simp [Slot.endedReached, Slot.ended]
  · exact absurd rfl hne

theorem exec_cancel_settling {l : Link} {tag : Byte} {i : Nat} {s : State} (hq : Quiet s)
    (h : cancel l tag (closeStream l s) = (requestStop (slotEnded i .cancelled (closeStream l s)), okReply))
    (hstate : s.transport.state = .settling) (hgrant : s.sched.grant = .slot i) (hlamp : s.lamp.state ≠ .off)
    (hwork : NoWork (slotEnded i .cancelled s)) :
    exec (.cancel l tag) s = .next (answered l .ok 0x22#8 .empty (grantEnded
      { slotEnded i .cancelled s with
        transport := { s.transport with state := .parked, settleTimer := none, gateReady := false, move := none }
        roll := { s.roll with idleTimer := none } })) := by
  have hgrant' : s.sched.grant ≠ .none := by simp [hgrant]
  let u : State :=
    { slotEnded i .cancelled s with
      transport := { s.transport with state := .parked, settleTimer := none, gateReady := false, move := none }
      roll := { s.roll with idleTimer := none } }
  refine (request_taken (x := u) (r := okReply) (new := [.moveDone .stopped, .choose]) ?_
    (leads_slot_stopped (i := i) (answered_quiet l _ _ _ hq) ?_ ?_ ?_ ?_) (by omega)).trans ?_
  · rw [h, requestStop_settling (by cases l <;> exact hq) (by cases l <;> exact hstate) (by cases l <;> exact hgrant')
      (by cases l <;> exact hlamp)]
    cases l <;> rfl
  · cases l <;> rfl
  · cases l <;> exact hgrant
  · cases l <;> exact slotEnded_not_travelling
  · cases l <;> exact hwork
  · cases l <;> rfl

/-- With no other slot RESOLVING, and the grant DISCOVER, the DISCOVER move stops (R127). -/
theorem stopDiscoverIfDone_last {i : Nat} {code : ResultCode} {s : State} (hgrant : s.sched.grant = .discover)
    (halone : ∀ j y, j ≠ i → s.slots[j]? = some y → y.state ≠ .resolving) :
    stopDiscoverIfDone (slotEnded i code s) = requestStop (slotEnded i code s) := by
  have hnone : ¬ (slotEnded i code s).anyResolving = true := fun h => by
    obtain ⟨j, y, hne, hy, hresolving⟩ := (slotEnded_anyResolving i code s).mp h
    exact halone j y hne hy hresolving
  rw [stopDiscoverIfDone, if_neg hnone, stopDiscover, if_pos (by exact hgrant)]

theorem stopDiscoverIfDone_kept {i : Nat} {code : ResultCode} {s : State}
    (h : s.sched.grant ≠ .discover ∨ ∃ j y, j ≠ i ∧ s.slots[j]? = some y ∧ y.state = .resolving) :
    stopDiscoverIfDone (slotEnded i code s) = slotEnded i code s := by
  unfold stopDiscoverIfDone
  rcases h with h | h
  · split_ifs
    · rfl
    · rw [stopDiscover, if_neg (by exact h)]
  · rw [if_pos ((slotEnded_anyResolving i code s).mpr h)]

/-- Settles O37. -/
theorem releaseAndCancelAreChecked : Obligations.ReleaseAndCancelAreChecked := by
  intro l tag s hq
  refine ⟨fun hnone => ⟨?_, ?_⟩, fun i hi => ⟨fun hstate => ?_, fun hpending => ?_, fun hresolving => ⟨fun hother => ?_, fun hgrant halone => ?_⟩,
    fun htravelling => ⟨?_, ?_, fun hgrant hlevel hsweep hpass hrest => ⟨fun hwaking => ?_, fun hsettling hlamp => ?_⟩⟩⟩,
    fun i r hi hdone hr => ⟨?_, ?_⟩⟩
  · exact request_answered l _ _ s (refuse .noTag) hq (by simp [release, hnone])
  · exact request_answered l _ _ s (refuse .noTag) hq (by simp [cancel, hnone])
  · have hexpired : (s.slot i).expired = false := by
      unfold Slot.expired
      split
      · rcases hstate with h | h | h <;> simp [h]
      · rfl
    refine request_answered l _ _ s (refuse .state) hq ?_
    rcases hstate with h | h | h <;> simp [release, hi, h, hexpired]
  · refine exec_cancel_plain hq (?_ : _ = (closeStream l (slotEnded i .cancelled s), okReply))
    rw [← slotEnded_closeStream]
    simp [cancel, hi, hpending, slotEnded]
  · refine exec_cancel_plain hq (?_ : _ = (closeStream l (slotEnded i .cancelled s), okReply))
    rw [cancel_resolving hi hresolving, stopDiscoverIfDone_kept (by simpa using hother), slotEnded_closeStream]
  · have hstop := cancel_resolving hi hresolving
    rw [stopDiscoverIfDone_last (by simpa using hgrant) (by simpa using halone)] at hstop
    exact ⟨fun m hstate hm => exec_cancel_moving hq hstop hstate hm, fun m hstate hm => exec_cancel_recovering hq hstop hstate hm,
      fun hwaking hlevel hsweep hpass hrest => exec_cancel_waking hq hstop hwaking (by simp [hgrant]) (slotEnded_noWork hlevel hsweep hpass hrest)⟩
  · exact fun m hstate hm => exec_cancel_moving hq (cancel_travelling hi htravelling) hstate hm
  · exact fun m hstate hm => exec_cancel_recovering hq (cancel_travelling hi htravelling) hstate hm
  · exact exec_cancel_waking hq (cancel_travelling hi htravelling) hwaking (by simp [hgrant]) (slotEnded_noWork hlevel hsweep hpass hrest)
  · exact exec_cancel_settling hq (cancel_travelling hi htravelling) hsettling hgrant hlamp (slotEnded_noWork hlevel hsweep hpass hrest)
  · have hrelease : release l tag (closeStream l s) =
        (closeStream l s, refuse (if r.code = .holdExpired then .tooLate else .state)) := by
      simp only [release, closeStream_slotOf, hi, closeStream_slot, hdone, Slot.expired, hr, reduceCtorEq, if_false, beq_self_eq_true,
        Bool.true_and, beq_iff_eq]
      split_ifs <;> rfl
    exact request_answered l _ _ s _ hq hrelease
  · exact request_answered l _ _ s (refuse .state) hq (by simp [cancel, hi, hdone])

end Sys2Proof.Machine
end

section
/-! PROOFS. What the scheduler chooses (R122 to R125, R128). -/

namespace Sys2Proof.Machine

open Sys2Proof

/-! ### The oldest and the nearest of several candidates (R118, R124) -/

/-- One slot has arrived before another (R118). -/
def Older (x y : Slot) : Prop := (y.sequence - x.sequence).toNat < 2147483648 ∧ x.sequence ≠ y.sequence

theorem olderSeq_iff (x y : Slot) : (olderSeq x.sequence y.sequence = true ∧ x.sequence ≠ y.sequence) ↔ Older x y := by
  simp [olderSeq, Older]

theorem Older.asymm {x y : Slot} (h : Older x y) : ¬ Older y x := by
  rintro ⟨hback, -⟩
  obtain ⟨hle, hne⟩ := h
  bv_omega

/-- The candidate that is older than every other one is the oldest. -/
theorem oldest_eq {cs : List Candidate} {c : Candidate} (hc : c ∈ cs) (h : ∀ d ∈ cs, d ≠ c → Older c.slot d.slot) :
    oldest cs = some c := by
  induction cs with
  | nil => cases hc
  | cons x xs ih =>
    have htail : ∀ d ∈ xs, d ≠ c → Older c.slot d.slot := fun d hd => h d (List.mem_cons_of_mem _ hd)
    by_cases hx : x = c
    · subst hx
      cases hd : oldest xs with
      | none => simp [oldest, hd]
      | some d =>
        by_cases hdx : d = x
        · subst hdx
          simp [oldest, hd]
        · have := (htail d (oldest_mem xs d hd) hdx).asymm
          rw [← olderSeq_iff] at this
          simp only [oldest, hd, this, if_false]
    · have hmem : c ∈ xs := (List.mem_cons.mp hc).resolve_left (fun e => hx e.symm)
      have holder := (olderSeq_iff _ _).mpr (h x (by simp) hx)
      simp only [oldest, ih hmem htail, holder, ne_eq, not_false_eq_true, and_self, if_true]

/-- One candidate is nearer to the register than another, or as near and older (R124). -/
def Nearer (r : Nat) (c d : Candidate) : Prop :=
  distance c.coord r < distance d.coord r ∨ (distance c.coord r = distance d.coord r ∧ Older c.slot d.slot)

theorem nearest_eq {r : Nat} {cs : List Candidate} {c : Candidate} (hc : c ∈ cs) (h : ∀ d ∈ cs, d ≠ c → Nearer r c d) :
    nearest r cs = some c := by
  induction cs with
  | nil => cases hc
  | cons x xs ih =>
    have htail : ∀ d ∈ xs, d ≠ c → Nearer r c d := fun d hd => h d (List.mem_cons_of_mem _ hd)
    by_cases hx : x = c
    · subst hx
      cases hd : nearest r xs with
      | none => simp [nearest, hd]
      | some d =>
        by_cases hdx : d = x
        · subst hdx
          simp [nearest, hd]
        · have hfar : ¬ distance d.coord r < distance x.coord r := by
            rcases htail d (nearest_mem r xs d hd) hdx with h | ⟨h, -⟩ <;> omega
          have hnot : ¬ (distance d.coord r = distance x.coord r ∧
              olderSeq d.slot.sequence x.slot.sequence = true ∧ d.slot.sequence ≠ x.slot.sequence) := by
            rw [olderSeq_iff]
            rintro ⟨he, ho⟩
            rcases htail d (nearest_mem r xs d hd) hdx with h | ⟨-, h⟩
            · omega
            · exact h.asymm ho
          simp only [nearest, hd, hfar, hnot, if_false]
    · have hmem : c ∈ xs := (List.mem_cons.mp hc).resolve_left (fun e => hx e.symm)
      simp only [nearest, ih hmem htail]
      rcases h x (by simp) hx with h | ⟨he, ho⟩
      · simp [h]
      · simp only [he, lt_irrefl, if_false, true_and, if_pos ((olderSeq_iff _ _).mpr ho)]

/-! ### The candidates of a state -/

/-- A slot is a candidate of the NORMAL choice (R124). -/
def NormalWaits (s : State) (x : Slot) : Prop :=
  x.priority = .normal ∧ (x.state = .pending ∨ (x.state = .resolving ∧ s.passActive = false))

/-- A slot is a candidate of the URGENT row (R123). -/
def UrgentWaits (s : State) (x : Slot) : Prop :=
  x.priority = .urgent ∧ (x.state = .pending ∨ (x.state = .resolving ∧ s.passActive = false))

/-- The coordinate at which a candidate stands (R124). -/
def slotCoord (s : State) (x : Slot) : Nat :=
  if x.state = .pending then min 16777215 (s.pos (x.frame.getD 0) + s.roll.active.gateOffset)
  else if s.index.entries = [] then s.roll.active.leader
  else s.pos s.index.entries.length + s.roll.active.gateOffset

/-- The candidate that a slot is. -/
def candidate (s : State) (k : Nat) (x : Slot) : Candidate := { number := k, coord := slotCoord s x, slot := x }

theorem candidateOf_waits {s : State} {x : Slot} (k : Nat) (h : NormalWaits s x) : candidateOf s k x = some (candidate s k x) := by
  obtain ⟨hnormal, hpending | ⟨hresolving, hpass⟩⟩ := h
  · simp [candidateOf, hnormal, hpending, candidate, slotCoord, State.gateCoord, Config.maxCoord]
  · simp [candidateOf, hnormal, hresolving, hpass, candidate, slotCoord, frontierGate, State.gateCoord, State.extent,
      List.length_eq_zero_iff]

theorem candidateOf_idle {s : State} {x : Slot} (k : Nat) (h : ¬ NormalWaits s x) : candidateOf s k x = none := by
  by_cases hnormal : x.priority = .normal
  · cases hstate : x.state
    case pending => exact absurd ⟨hnormal, .inl hstate⟩ h
    case resolving =>
      cases hpass : s.passActive
      · exact absurd ⟨hnormal, .inr ⟨hstate, hpass⟩⟩ h
      · simp [candidateOf, hstate, hpass]
    all_goals simp [candidateOf, hstate]
  · simp [candidateOf, hnormal]

theorem mem_candidatesFrom {s : State} {c : Candidate} (i : Nat) (l : List Slot) : c ∈ candidatesFrom s i l ↔
    ∃ k x, l[k]? = some x ∧ NormalWaits s x ∧ c = candidate s (i + k) x := by
  induction l generalizing i with
  | nil => simp [candidatesFrom]
  | cons x xs ih =>
    have hsplit : (∃ k y, (x :: xs)[k]? = some y ∧ NormalWaits s y ∧ c = candidate s (i + k) y) ↔
        (NormalWaits s x ∧ c = candidate s i x) ∨ c ∈ candidatesFrom s (i + 1) xs := by
      rw [ih]
      constructor
      · rintro ⟨k, y, hy, hw, rfl⟩
        cases k with
        | zero =>
          obtain rfl : x = y := by simpa using hy
          exact .inl ⟨hw, rfl⟩
        | succ k => exact .inr ⟨k, y, by simpa using hy, hw, by rw [Nat.add_assoc, Nat.add_comm 1 k]⟩
      · rintro (⟨hw, rfl⟩ | ⟨k, y, hy, hw, rfl⟩)
        · exact ⟨0, x, rfl, hw, rfl⟩
        · exact ⟨k + 1, y, by simpa using hy, hw, by rw [Nat.add_assoc, Nat.add_comm 1 k]⟩
    rw [hsplit, candidatesFrom]
    by_cases h : NormalWaits s x
    · simp [candidateOf_waits i h, h]
    · simp [candidateOf_idle i h, h]

theorem mem_candidates {s : State} {c : Candidate} : c ∈ s.candidates ↔
    ∃ k x, s.slots[k]? = some x ∧ NormalWaits s x ∧ c = candidate s k x := by
  simp [State.candidates, mem_candidatesFrom]

theorem urgentCandidate_iff (s : State) (x : Slot) : urgentCandidate s x = true ↔ UrgentWaits s x := by
  simp [urgentCandidate, UrgentWaits]

theorem mem_urgentFrom {s : State} {c : Candidate} (i : Nat) (l : List Slot) : c ∈ urgentFrom s i l ↔
    ∃ k x, l[k]? = some x ∧ UrgentWaits s x ∧ c = { number := i + k, coord := 0, slot := x } := by
  induction l generalizing i with
  | nil => simp [urgentFrom]
  | cons x xs ih =>
    have hsplit : (∃ k y, (x :: xs)[k]? = some y ∧ UrgentWaits s y ∧ c = { number := i + k, coord := 0, slot := y }) ↔
        (UrgentWaits s x ∧ c = { number := i, coord := 0, slot := x }) ∨ c ∈ urgentFrom s (i + 1) xs := by
      rw [ih]
      constructor
      · rintro ⟨k, y, hy, hw, rfl⟩
        cases k with
        | zero =>
          obtain rfl : x = y := by simpa using hy
          exact .inl ⟨hw, rfl⟩
        | succ k => exact .inr ⟨k, y, by simpa using hy, hw, by rw [Nat.add_assoc, Nat.add_comm 1 k]⟩
      · rintro (⟨hw, rfl⟩ | ⟨k, y, hy, hw, rfl⟩)
        · exact ⟨0, x, rfl, hw, rfl⟩
        · exact ⟨k + 1, y, by simpa using hy, hw, by rw [Nat.add_assoc, Nat.add_comm 1 k]⟩
    rw [hsplit, urgentFrom]
    by_cases h : UrgentWaits s x
    · simp [(urgentCandidate_iff s x).mpr h, h]
    · simp [Bool.eq_false_iff.mpr (fun e => h ((urgentCandidate_iff s x).mp e)), h]

/-- The oldest URGENT slot that waits is the URGENT choice (R123). -/
theorem urgentPick_eq {s : State} {j : Nat} {y : Slot} (hy : s.slots[j]? = some y) (hurgent : UrgentWaits s y)
    (holder : ∀ k z, k ≠ j → s.slots[k]? = some z → UrgentWaits s z → Older y z) :
    urgentPick s = some { number := j, coord := 0, slot := y } := by
  refine oldest_eq ((mem_urgentFrom 0 _).mpr ⟨j, y, hy, hurgent, by simp⟩) fun d hd hne => ?_
  obtain ⟨k, z, hz, hw, rfl⟩ := (mem_urgentFrom 0 _).mp hd
  refine holder k z (fun e => hne ?_) hz hw
  subst e
  obtain rfl : y = z := Option.some.inj (hy.symm.trans hz)
  simp

theorem urgentPick_none {s : State} (h : ∀ x ∈ s.slots, ¬ UrgentWaits s x) : urgentPick s = none := by
  have hnil : urgentFrom s 0 s.slots = [] := by
    refine List.eq_nil_iff_forall_not_mem.mpr fun c hc => ?_
    obtain ⟨k, x, hx, hw, -⟩ := (mem_urgentFrom 0 _).mp hc
    exact h x (List.mem_of_getElem? hx) hw
  rw [urgentPick, hnil]
  rfl

/-- A coordinate lies in a direction from the register. -/
def Lies (r : Nat) (d : Direction) (coord : Nat) : Prop := (d = .forward ∧ r ≤ coord) ∨ (d = .reverse ∧ coord ≤ r)

theorem liesIn_iff (r : Nat) (d : Direction) (c : Candidate) : liesIn r d c = true ↔ Lies r d c.coord := by
  cases d <;> simp [liesIn, Lies]

/-- Slot `j`, which holds `y`, is the one that the NORMAL choice falls on (R124): the oldest of those skipped AGING_LIMIT times, else
the nearest in the direction, else the nearest. -/
def NormalChoice (s : State) (j : Nat) (y : Slot) : Prop :=
  let r := s.tracker.register
  let others (p : Slot → Prop) : Prop := ∀ k z, k ≠ j → s.slots[k]? = some z → NormalWaits s z → p z
  (s.params.agingLimit ≤ y.skip ∧ others (fun z => s.params.agingLimit ≤ z.skip → Older y z)) ∨
    ((∀ z ∈ s.slots, NormalWaits s z → z.skip < s.params.agingLimit) ∧
      ((Lies r s.sched.direction (slotCoord s y) ∧
          others (fun z => Lies r s.sched.direction (slotCoord s z) → Nearer r (candidate s j y) (candidate s j z))) ∨
        ((∀ z ∈ s.slots, NormalWaits s z → ¬ Lies r s.sched.direction (slotCoord s z)) ∧
          others (fun z => Nearer r (candidate s j y) (candidate s j z)))))

theorem lies_flip {r c : Nat} {d : Direction} (h : ¬ Lies r d c) : Lies r (flipDirection d) c := by
  cases d <;> simp [Lies, flipDirection] at h ⊢ <;> omega

/-- Another candidate is another slot. -/
theorem candidate_other {s : State} {j k : Nat} {y z : Slot} (hy : s.slots[j]? = some y) (hz : s.slots[k]? = some z)
    (h : candidate s k z ≠ candidate s j y) : k ≠ j := fun e => h <| by
  subst e
  rw [Option.some.inj (hy.symm.trans hz)]

theorem normalPick_eq {s : State} {j : Nat} {y : Slot} (hy : s.slots[j]? = some y) (hnormal : NormalWaits s y)
    (h : NormalChoice s j y) : normalPick s = some (candidate s j y) := by
  have hmem : candidate s j y ∈ s.candidates := mem_candidates.mpr ⟨j, y, hy, hnormal, rfl⟩
  unfold normalPick
  simp only
  rcases h with ⟨haged, hothers⟩ | ⟨hyoung, hnearest⟩
  · rw [oldest_eq (c := candidate s j y) (List.mem_filter.mpr ⟨hmem, decide_eq_true haged⟩) fun d hd hne => ?_]
    obtain ⟨hd, haged⟩ := List.mem_filter.mp hd
    obtain ⟨k, z, hz, hw, rfl⟩ := mem_candidates.mp hd
    exact hothers k z (candidate_other hy hz hne) hz hw (of_decide_eq_true haged)
  · have hnone : s.candidates.filter (fun c => decide (s.params.agingLimit ≤ c.slot.skip)) = [] := by
      refine List.filter_eq_nil_iff.mpr fun c hc => ?_
      obtain ⟨k, z, hz, hw, rfl⟩ := mem_candidates.mp hc
      have := hyoung z (List.mem_of_getElem? hz) hw
      show ¬ decide (s.params.agingLimit ≤ z.skip) = true
      rw [decide_eq_true_eq]
      omega
    rw [hnone]
    rcases hnearest with ⟨hlies, hothers⟩ | ⟨hbehind, hothers⟩
    · rw [nearest_eq (c := candidate s j y) (List.mem_filter.mpr ⟨hmem, (liesIn_iff _ _ _).mpr hlies⟩) fun d hd hne => ?_]
      · rfl
      obtain ⟨hd, hlies⟩ := List.mem_filter.mp hd
      obtain ⟨k, z, hz, hw, rfl⟩ := mem_candidates.mp hd
      exact hothers k z (candidate_other hy hz hne) hz hw ((liesIn_iff _ _ _).mp hlies)
    · have hnone : s.candidates.filter (liesIn s.tracker.register s.sched.direction) = [] := by
        refine List.filter_eq_nil_iff.mpr fun c hc => ?_
        obtain ⟨k, z, hz, hw, rfl⟩ := mem_candidates.mp hc
        rw [liesIn_iff]
        exact hbehind z (List.mem_of_getElem? hz) hw
      have hback := lies_flip (hbehind y (List.mem_of_getElem? hy) hnormal)
      rw [hnone, nearest_eq (c := candidate s j y) (List.mem_filter.mpr ⟨hmem, (liesIn_iff _ _ _).mpr hback⟩) fun d hd hne => ?_]
      · rfl
      obtain ⟨k, z, hz, hw, rfl⟩ := mem_candidates.mp (List.mem_filter.mp hd).1
      exact hothers k z (candidate_other hy hz hne) hz hw

/-- The skip counts after a NORMAL choice, slot by slot (R124). -/
theorem skipFrom_eq (s : State) (pick : Candidate) (l : List Slot) (i : Nat) :
    skipFrom s pick i l = l.mapIdx (fun k x => x.skipped s pick (i + k)) := by
  induction l generalizing i with
  | nil => rfl
  | cons x xs ih => simp [skipFrom, ih, List.mapIdx_cons, Nat.add_assoc, Nat.add_comm 1]

/-! ### The choice, held in WAKING -/

theorem owedChecked_eq (s : State) :
    owedChecked s = { s with sched := { s.sched with yieldOwed := s.sched.yieldOwed && s.normalPending } } := by
  cases howed : s.sched.yieldOwed <;> cases hpending : s.normalPending <;> simp [owedChecked, howed, hpending, unowed] <;> rw [← howed]

/-- A grant held in WAKING, with the direction, the yield owed and the slots as a choice leaves them (R124, R125). -/
def choiceHeld (g : Grant) (d : Direction) (o : Bool) (f : Nat → Slot → Slot) (s : State) : State :=
  { s with slots := s.slots.mapIdx f
           sched := { s.sched with grant := g, direction := d, yieldOwed := o }
           roll := { s.roll with idleTimer := none } }

/-- What is owed still after the look at the order (R128). -/
def State.owes (s : State) : Bool := s.sched.yieldOwed && s.normalPending

theorem mapIdx_self {α : Type} (l : List α) : l.mapIdx (fun _ y => y) = l :=
  List.ext_getElem? fun k => by rw [List.getElem?_mapIdx]; cases l[k]? <;> rfl

theorem modify_eq_mapIdx {α : Type} (i : Nat) (f : α → α) (l : List α) :
    l.modify i f = l.mapIdx (fun k y => if k = i then f y else y) :=
  List.ext_getElem? fun k => by
    rw [List.getElem?_mapIdx, List.getElem?_modify]
    cases l[k]? with
    | none => rfl
    | some x => by_cases h : i = k <;> simp [h, eq_comm]

/-- What the NORMAL choice of a PENDING slot, or of a RESOLVING one, makes of the slots (R124, R125). -/
def choiceSlots (s : State) (j : Nat) (y : Slot) (k : Nat) (z : Slot) : Slot :=
  if y.state = .pending then
    if k = j then { z with state := .travelling, reached := none } else z.skipped s (candidate s j y) k
  else z.skipped s (candidate s j y) k

theorem choiceSlots_resolving {s : State} {j : Nat} {y : Slot} (h : y.state ≠ .pending) :
    choiceSlots s j y = fun k z => z.skipped s (candidate s j y) k := by
  funext k z
  simp [choiceSlots, h]

theorem choiceSlots_pending {s : State} {j : Nat} {y : Slot} (h : y.state = .pending) :
    choiceSlots s j y = fun k =>
      (fun z => if k = j then { z with state := .travelling, reached := none } else z) ∘ fun z => z.skipped s (candidate s j y) k := by
  funext k z
  by_cases hk : k = j <;> simp [choiceSlots, h, hk, Slot.skipped, candidate]

section
variable {s : State} (hq : Quiet s) (hgrant : s.sched.grant = .none) (hwaking : s.transport.state = .waking)

include hq hgrant hwaking

theorem leads_row {t : State} (hany : anyCandidate s = true) (h : rowTaken (owedChecked s) = t) (ht : Quiet t) : Leads 1 [.choose] s t := by
  refine Leads.cons (new := []) ?_ (Leads.done ht)
  show choose (facing [] s) = facing [] t
  rw [facing_nil hq, facing_nil ht, choose_taken ⟨hgrant, .inr (.inr hwaking)⟩ hany, h]

theorem leads_home_held (hlost : s.tracker.level = .lost) :
    Leads 1 [.choose] s (choiceHeld .home s.sched.direction s.owes (fun _ y => y) s) := by
  refine leads_row hq hgrant hwaking (by simp [anyCandidate, hlost]) ?_ hq
  rw [rowTaken_home (by rw [owedChecked_eq]; exact hlost), owedChecked_eq, makeGrant_waking _ (by exact hwaking)]
  simp [choiceHeld, State.owes, mapIdx_self]

theorem leads_urgent_held {j : Nat} {y : Slot} (hlevel : s.tracker.level ≠ .lost) (hy : s.slots[j]? = some y) (hurgent : UrgentWaits s y)
    (holder : ∀ k z, k ≠ j → s.slots[k]? = some z → UrgentWaits s z → Older y z) :
    Leads 1 [.choose] s (if y.state = .pending
      then choiceHeld (.slot j) s.sched.direction s.owes (fun k z => if k = j then { z with state := .travelling, reached := none } else z) s
      else choiceHeld .discover s.sched.direction s.owes (fun _ z => z) s) := by
  have hpick := urgentPick_eq hy hurgent holder
  have hchecked : urgentPick (owedChecked s) = some { number := j, coord := 0, slot := y } := by
    rw [owedChecked_eq]
    exact urgentPick_eq hy hurgent holder
  refine leads_row hq hgrant hwaking (by simp [anyCandidate, hpick]) ?_ (by split_ifs <;> exact hq)
  rw [rowTaken_urgent (by rw [owedChecked_eq]; exact hlevel) hchecked, owedChecked_eq]
  dsimp only
  split_ifs
  · rw [grantSlot, makeGrant_waking _ (by exact hwaking)]
    simp only [onSlot, modify_eq_mapIdx]
    rfl
  · rw [makeGrant_waking _ (by exact hwaking)]
    simp [choiceHeld, State.owes, mapIdx_self]

theorem leads_sweep_choice {x : SweepRecord} (hlevel : s.tracker.level ≠ .lost) (hurgent : ∀ y ∈ s.slots, ¬ UrgentWaits s y)
    (hx : s.sweep.active = some x) (hqueued : x.state = .queued) (hframe : x.frame ≤ s.index.entries.length) :
    Leads 1 [.choose] s { choiceHeld .sweep s.sched.direction s.owes (fun _ z => z) s with
      sweep := { s.sweep with active := some { x with state := .travelling } } } := by
  refine leads_row hq hgrant hwaking (by simp [anyCandidate, hx, hqueued]) ?_ hq
  have hnone : urgentPick (owedChecked s) = none := by
    rw [owedChecked_eq]
    exact urgentPick_none hurgent
  rw [owedChecked_eq] at hnone ⊢
  rw [rowTaken_sweep (by exact hlevel) hnone (by exact hx) hqueued, grantSweep_taken (by exact hx) (by exact hframe),
    makeGrant_waking _ (by exact hwaking)]
  simp only [onSweep, hx, Option.map_some, choiceHeld, mapIdx_self]
  rfl

theorem leads_pass_choice (hlevel : s.tracker.level ≠ .lost) (hurgent : ∀ y ∈ s.slots, ¬ UrgentWaits s y)
    (hsweep : ∀ x ∈ s.sweep.active, x.state ≠ .queued) (hpass : s.passActive = true) (howes : s.owes = false)
    (hlamp : s.lamp.state ≠ .failed) :
    Leads 1 [.choose] s { choiceHeld .pass s.sched.direction false (fun _ z => z) s with pass := { s.pass with state := .running } } := by
  refine leads_row hq hgrant hwaking (by simp [anyCandidate, hpass]) ?_ hq
  have hnone : urgentPick (owedChecked s) = none := by
    rw [owedChecked_eq]
    exact urgentPick_none hurgent
  rw [owedChecked_eq] at hnone ⊢
  rw [rowTaken_pass (by exact hlevel) hnone (by exact hsweep) (by exact hpass) (by exact howes), grantPass, if_neg (by exact hlamp),
    makeGrant_waking _ (by exact hwaking)]
  simp only [choiceHeld, mapIdx_self, ← howes]
  rfl

theorem leads_normal_choice {j : Nat} {y : Slot} (hlevel : s.tracker.level ≠ .lost) (hurgent : ∀ z ∈ s.slots, ¬ UrgentWaits s z)
    (hsweep : ∀ x ∈ s.sweep.active, x.state ≠ .queued) (hpass : s.passActive = false ∨ s.owes = true) (hy : s.slots[j]? = some y)
    (hnormal : NormalWaits s y) (hchoice : NormalChoice s j y) :
    Leads 1 [.choose] s (choiceHeld (if y.state = .pending then .slot j else .discover)
      (directionTo s.tracker.register (slotCoord s y) s.sched.direction) (if y.state = .pending then false else s.owes)
      (choiceSlots s j y) s) := by
  have hpick := normalPick_eq hy hnormal hchoice
  have hmem : candidate s j y ∈ s.candidates := mem_candidates.mpr ⟨j, y, hy, hnormal, rfl⟩
  have hany : anyCandidate s = true := by
    cases hcs : s.candidates with
    | nil => rw [hcs] at hmem; cases hmem
    | cons c cs => simp [anyCandidate, hcs]
  refine leads_row hq hgrant hwaking hany ?_ hq
  have hnone : urgentPick (owedChecked s) = none := by
    rw [owedChecked_eq]
    exact urgentPick_none hurgent
  have hpick' : normalPick (owedChecked s) = some (candidate s j y) := by
    rw [owedChecked_eq]
    exact normalPick_eq (s := { s with sched := { s.sched with yieldOwed := s.sched.yieldOwed && s.normalPending } }) hy hnormal hchoice
  rw [owedChecked_eq] at hnone hpick' ⊢
  rw [rowTaken_normal (by exact hlevel) hnone (by exact hsweep) (by exact hpass), grantNormal, hpick']
  have hstate : (candidate s j y).slot.state = y.state := rfl
  simp only [hstate, normalTaken, skipFrom_eq, Nat.zero_add]
  split_ifs with hpending
  · rw [grantSlot, makeGrant_waking _ (by exact hwaking)]
    simp only [onSlot, modify_eq_mapIdx, List.mapIdx_mapIdx, choiceHeld, choiceSlots_pending hpending]
    rfl
  · rw [makeGrant_waking _ (by exact hwaking)]
    simp only [choiceHeld, choiceSlots_resolving hpending]
    rfl

end

end Sys2Proof.Machine
end

section
/-! PROOFS. The scheduler's order, shown where a CANCEL drops a grant held in WAKING (R122 to R125, R128). -/

namespace Sys2Proof.Machine

open Sys2Proof

/-- The state at the choice that follows the CANCEL of slot `i` in WAKING. -/
def grantDropped (i : Nat) (s : State) : State :=
  { slotEnded i .cancelled s with sched := { s.sched with grant := .none } }

theorem exec_cancel_choice {l : Link} {tag : Byte} {i : Nat} {s t : State} (hq : Quiet s) (hwaking : s.transport.state = .waking)
    (hi : s.slotOf l tag = some i) (htravelling : (s.slot i).state = .travelling) (hgrant : s.sched.grant = .slot i)
    (ht : Leads 1 [.choose] (answered l .ok 0x22#8 .empty (grantDropped i s)) t) : exec (.cancel l tag) s = .next t := by
  refine request_taken (x := grantDropped i s) (r := okReply) (new := [.choose]) ?_ ht (by omega)
  rw [cancel_travelling hi htravelling,
    requestStop_waking (by cases l <;> exact hq) (by cases l <;> exact hwaking) (by cases l <;> simp [slotEnded, onSlot, closeStream, onLink, hgrant])]
  cases l <;> rfl

/-- A change of one element that matters to no test leaves the test of all. -/
theorem any_modify_false {α : Type} {p : α → Bool} {f : α → α} {i : Nat} {l : List α} (hold : ∀ x, l[i]? = some x → p x = false)
    (hnew : ∀ x, p (f x) = false) : (l.modify i f).any p = l.any p := by
  rw [Bool.eq_iff_iff, List.any_eq_true, List.any_eq_true]
  constructor
  · rintro ⟨x, hx, hp⟩
    obtain ⟨k, hk⟩ := List.mem_iff_getElem?.mp hx
    rcases getElem?_modify_cases hk with ⟨-, y, -, rfl⟩ | ⟨-, hy⟩
    · rw [hnew] at hp
      cases hp
    · exact ⟨x, List.mem_of_getElem? hy, hp⟩
  · rintro ⟨x, hx, hp⟩
    obtain ⟨k, hk⟩ := List.mem_iff_getElem?.mp hx
    have hne : i ≠ k := fun e => by
      rw [hold x (e ▸ hk)] at hp
      cases hp
    exact ⟨x, List.mem_iff_getElem?.mpr ⟨k, by rw [List.getElem?_modify, hk]; simp [hne]⟩, hp⟩

section
variable {i : Nat} {s : State} (htravelling : (s.slot i).state = .travelling)

/-- A slot that waits once the grant is dropped waited before, and is another one. -/
theorem waiting_grantDropped {k : Nat} {z : Slot} (hz : (grantDropped i s).slots[k]? = some z) (hstate : z.state ≠ .done) :
    k ≠ i ∧ s.slots[k]? = some z := by
  rcases getElem?_modify_cases hz with ⟨-, y, -, rfl⟩ | h
  · exact absurd rfl hstate
  · exact h

include htravelling in
theorem grantDropped_waiting {k : Nat} {z : Slot} (hz : s.slots[k]? = some z) (hstate : z.state ≠ .travelling) :
    k ≠ i ∧ (grantDropped i s).slots[k]? = some z := by
  have hne : k ≠ i := fun e => by
    subst e
    rw [slot_eq s k z hz] at htravelling
    exact hstate htravelling
  refine ⟨hne, ?_⟩
  show (s.slots.modify i _)[k]? = some z
  have hne' : i ≠ k := fun e => hne e.symm
  rw [List.getElem?_modify, hz]
  simp [hne']

include htravelling in
theorem grantDropped_owes : (grantDropped i s).owes =
    (s.sched.yieldOwed && s.slots.any (fun y => y.state == .pending && y.priority == .normal)) := by
  show (s.sched.yieldOwed && (s.slots.modify i _).any _) = _
  rw [any_modify_false (fun x hx => ?_) (fun x => rfl)]
  rw [slot_eq s i x hx] at htravelling
  simp [htravelling]

end

theorem waits_not_done {s : State} {z : Slot} (h : UrgentWaits s z ∨ NormalWaits s z) : z.state ≠ .done ∧ z.state ≠ .travelling := by
  rcases h with ⟨-, h | ⟨h, -⟩⟩ | ⟨-, h | ⟨h, -⟩⟩ <;> simp [h]

/-- A choice held after a CANCEL, said of the slots as they stood before it. -/
theorem choiceHeld_answered {l : Link} {i : Nat} {s : State} {g : Grant} {d : Direction} {o : Bool} {f f' : Nat → Slot → Slot}
    (h : ∀ k y, s.slots[k]? = some y → f k (if k = i then Slot.endedReached .cancelled y else y) = f' k y) :
    choiceHeld g d o f (answered l .ok 0x22#8 .empty (grantDropped i s)) =
      answered l .ok 0x22#8 .empty
        { s with slots := s.slots.mapIdx f', sched := { s.sched with grant := g, direction := d, yieldOwed := o }
                 roll := { s.roll with idleTimer := none } } := by
  have hslots : (s.slots.modify i (Slot.endedReached .cancelled)).mapIdx f = s.slots.mapIdx f' := by
    rw [modify_eq_mapIdx, List.mapIdx_mapIdx]
    refine List.ext_getElem? fun k => ?_
    rw [List.getElem?_mapIdx, List.getElem?_mapIdx]
    cases hk : s.slots[k]? with
    | none => rfl
    | some y => exact congrArg some (h k y hk)
  rw [← hslots]
  cases l <;> rfl

/-- The skip count of a slot that is not the one chosen (R124). -/
theorem skipped_eq (s : State) (j k : Nat) (y z : Slot) :
    (¬ (z.state = .resolving ∧ y.state = .resolving) → (k = j ∨ ¬ NormalWaits s z) → z.skipped s (candidate s j y) k = z) ∧
    (¬ (z.state = .resolving ∧ y.state = .resolving) → k ≠ j → NormalWaits s z →
      z.skipped s (candidate s j y) k = { z with skip := min 15 (z.skip + 1) }) := by
  refine ⟨fun hnot hkept => ?_, fun hnot hk hwaits => ?_⟩
  · rcases hkept with rfl | hidle
    · simp only [Slot.skipped, candidate, hnot, if_false, if_true]
    · simp only [Slot.skipped, candidate, hnot, if_false, candidateOf_idle k hidle]
      split_ifs <;> rfl
  · simp only [Slot.skipped, candidate, hnot, hk, if_false, candidateOf_waits k hwaits]

/-- Settles O38. -/
theorem schedulerChooses : Obligations.SchedulerChooses := by
  intro l tag i s hq hwaking hi htravelling hgrant
  set w := answered l .ok 0x22#8 .empty (grantDropped i s) with hw
  have hwq : Quiet w := answered_quiet l _ _ _ hq
  have hwgrant : w.sched.grant = .none := by cases l <;> rfl
  have hwwaking : w.transport.state = .waking := by cases l <;> exact hwaking
  have hwslots : w.slots = (grantDropped i s).slots := by cases l <;> rfl
  have hwurgent (z : Slot) : UrgentWaits w z ↔ UrgentWaits s z := by cases l <;> exact Iff.rfl
  have hwnormal (z : Slot) : NormalWaits w z ↔ NormalWaits s z := by cases l <;> exact Iff.rfl
  have hwcoord (z : Slot) : slotCoord w z = slotCoord s z := by cases l <;> rfl
  have hwowes : w.owes = (s.sched.yieldOwed && s.slots.any (fun y => y.state == .pending && y.priority == .normal)) := by
    rw [← grantDropped_owes htravelling]
    cases l <;> rfl
  have hwdir : w.sched.direction = s.sched.direction := by cases l <;> rfl
  have go {t : State} (ht : Leads 1 [.choose] w t) := exec_cancel_choice hq hwaking hi htravelling hgrant ht
  have back {k : Nat} {z : Slot} (hz : w.slots[k]? = some z) (hwaits : UrgentWaits s z ∨ NormalWaits s z) :=
    waiting_grantDropped (hwslots ▸ hz) (waits_not_done hwaits).1
  have forth {k : Nat} {z : Slot} (hz : s.slots[k]? = some z) (hwaits : UrgentWaits s z ∨ NormalWaits s z) :
      k ≠ i ∧ w.slots[k]? = some z := hwslots ▸ grantDropped_waiting htravelling hz (waits_not_done hwaits).2
  have hunurgent (hrows : ∀ y ∈ s.slots, ¬ UrgentWaits s y) : ∀ z ∈ w.slots, ¬ UrgentWaits w z := fun z hz hwaits => by
    obtain ⟨k, hk⟩ := List.mem_iff_getElem?.mp hz
    have hurgent := (hwurgent z).mp hwaits
    exact hrows z (List.mem_of_getElem? (back hk (.inl hurgent)).2) hurgent
  have hunqueued (hqueued : ¬ ∃ x ∈ s.sweep.active, x.state = .queued) : ∀ x ∈ w.sweep.active, x.state ≠ .queued := fun x hx e =>
    hqueued ⟨x, by cases l <;> exact hx, e⟩
  dsimp only
  refine ⟨fun hlost => ?_, fun j y hlevel hy hurgent hothers => ?_, fun x hrows hx hqueued hframe => ?_, fun hrows hqueued hpass hlamp => ?_,
    fun j y hrows hqueued hpass hy hnormal hchoice => ?_, fun hrows hqueued hpass hnone => ?_⟩
  · rw [go (leads_home_held hwq hwgrant hwwaking (by cases l <;> exact hlost)), hwowes, hwdir, choiceHeld_answered fun _ _ _ => rfl]
    rfl
  · have hurgentRow := go (leads_urgent_held (j := j) (y := y) hwq hwgrant hwwaking (by cases l <;> exact hlevel)
      (forth hy (.inl hurgent)).2 ((hwurgent y).mpr hurgent) fun k z hne hz hwaits =>
        hothers k z hne (back hz (.inl ((hwurgent z).mp hwaits))).2 ((hwurgent z).mp hwaits))
    have hji := (forth hy (.inl hurgent)).1
    refine ⟨fun hpending => ?_, fun hresolving => ?_⟩
    · rw [hurgentRow, if_pos hpending, hwowes, hwdir, choiceHeld_answered fun k z _ => ?_]
      · rfl
      by_cases hk : k = i
      · simp [hk, show i ≠ j from fun e => hji e.symm]
        rfl
      · simp [hk]
    · rw [hurgentRow, if_neg (by simp [hresolving]), hwowes, hwdir, choiceHeld_answered fun _ _ _ => rfl]
      rfl
  · obtain ⟨hlevel, hrows⟩ := hrows
    rw [go (leads_sweep_choice hwq hwgrant hwwaking (by cases l <;> exact hlevel) (hunurgent hrows) (by cases l <;> exact hx) hqueued
      (by cases l <;> exact hframe)), hwowes, hwdir, choiceHeld_answered fun _ _ _ => rfl]
    cases l <;> rfl
  · obtain ⟨hlevel, hrows⟩ := hrows
    obtain ⟨hactive, howed⟩ := hpass
    rw [go (leads_pass_choice hwq hwgrant hwwaking (by cases l <;> exact hlevel) (hunurgent hrows) (hunqueued hqueued)
      (by cases l <;> exact hactive) (hwowes.trans howed) (by cases l <;> exact hlamp)), hwdir, choiceHeld_answered fun _ _ _ => rfl]
    cases l <;> rfl
  · obtain ⟨hlevel, hrows⟩ := hrows
    obtain ⟨hji, hwy⟩ := forth hy (.inr hnormal)
    have hwaits : NormalWaits w y := (hwnormal y).mpr hnormal
    have hpass' : w.passActive = false ∨ w.owes = true := by
      rw [hwowes, show w.passActive = s.passActive by cases l <;> rfl]
      by_contra hnot
      simp only [not_or, Bool.not_eq_false, Bool.not_eq_true] at hnot
      exact hpass hnot
    have hwchoice : NormalChoice w j y := by
      have hwreg : w.tracker.register = s.tracker.register := by cases l <;> rfl
      have hwaging : w.params.agingLimit = s.params.agingLimit := by cases l <;> rfl
      have hnearer (z : Slot) : Nearer s.tracker.register (candidate w j y) (candidate w j z) ↔
          distance (slotCoord s y) s.tracker.register < distance (slotCoord s z) s.tracker.register ∨
            (distance (slotCoord s y) s.tracker.register = distance (slotCoord s z) s.tracker.register ∧ Older y z) := by
        simp only [Nearer, candidate, hwcoord]
      have hall {p : Slot → Prop} (h : ∀ z ∈ s.slots, NormalWaits s z → p z) : ∀ z ∈ w.slots, NormalWaits w z → p z :=
        fun z hz hwaits => by
          obtain ⟨k, hk⟩ := List.mem_iff_getElem?.mp hz
          have hnormal := (hwnormal z).mp hwaits
          exact h z (List.mem_of_getElem? (back hk (.inr hnormal)).2) hnormal
      have hothers {p : Slot → Prop} (h : ∀ k z, k ≠ j → s.slots[k]? = some z → NormalWaits s z → p z) :
          ∀ k z, k ≠ j → w.slots[k]? = some z → NormalWaits w z → p z := fun k z hne hz hwaits =>
        have hnormal := (hwnormal z).mp hwaits
        h k z hne (back hz (.inr hnormal)).2 hnormal
      simp only [NormalChoice, hwreg, hwaging, hwdir, hwcoord, hnearer]
      rcases hchoice with ⟨haged, h⟩ | ⟨hyoung, ⟨hlies, h⟩ | ⟨hbehind, h⟩⟩
      · exact .inl ⟨haged, hothers h⟩
      · exact .inr ⟨hall hyoung, .inl ⟨hlies, hothers h⟩⟩
      · exact .inr ⟨hall hyoung, .inr ⟨hall hbehind, hothers h⟩⟩
    have hrow := go (leads_normal_choice hwq hwgrant hwwaking (by cases l <;> exact hlevel) (hunurgent hrows) (hunqueued hqueued) hpass'
      hwy hwaits hwchoice)
    rw [hwowes, hwdir, hwcoord, show w.tracker.register = s.tracker.register by cases l <;> rfl] at hrow
    have hcancelled (z : Slot) : (Slot.endedReached .cancelled z).skipped w (candidate w j y) i = Slot.endedReached .cancelled z :=
      (skipped_eq w j i y _).1 (fun h => by cases h.1) (.inr fun h => by rcases h with ⟨-, h | ⟨h, -⟩⟩ <;> cases h)
    have hdirection : directionTo s.tracker.register (slotCoord s y) s.sched.direction =
        if s.tracker.register < slotCoord s y then .forward else if slotCoord s y < s.tracker.register then .reverse
        else s.sched.direction := rfl
    refine ⟨fun hpending => ?_, fun hresolving => ?_⟩
    · rw [hrow, if_pos hpending, if_pos hpending, choiceSlots_pending hpending, choiceHeld_answered fun k z hz => ?_]
      · rfl
      have hnot (x : Slot) : ¬ (x.state = .resolving ∧ y.state = .resolving) := fun h => by rw [hpending] at h; cases h.2
      by_cases hki : k = i
      · subst hki
        have hkj : k ≠ j := fun e => hji e.symm
        simp only [Function.comp, if_true, hcancelled, hkj, if_false]
        rfl
      by_cases hkj : k = j
      · simp only [Function.comp, hkj, hji, if_true, if_false, (skipped_eq w j j y z).1 (hnot z) (.inl rfl)]
      by_cases hnz : NormalWaits s z
      · simp only [Function.comp, hki, hkj, if_false, (skipped_eq w j k y z).2 (hnot z) hkj ((hwnormal z).mpr hnz)]
        exact (if_pos hnz).symm
      · simp only [Function.comp, hki, hkj, if_false, (skipped_eq w j k y z).1 (hnot z) (.inr fun h => hnz ((hwnormal z).mp h))]
        exact (if_neg hnz).symm
    · rw [hrow, if_neg (by simp [hresolving]), if_neg (by simp [hresolving]), choiceSlots_resolving (by simp [hresolving]),
        choiceHeld_answered fun k z hz => ?_]
      · rfl
      by_cases hki : k = i
      · simp only [hki, if_true, hcancelled]
        rfl
      by_cases hz' : z.state = .resolving
      · have hskip : z.skipped w (candidate w j y) k = { z with skip := 0 } := by
          unfold Slot.skipped
          exact if_pos ⟨hz', hresolving⟩
        rw [if_neg hki, hskip]
        exact ((if_neg hki).trans (if_pos hz')).symm
      have hnot : ¬ (z.state = .resolving ∧ y.state = .resolving) := fun h => hz' h.1
      have hkj : k ≠ j := fun e => by
        subst e
        rw [Option.some.inj (hz.symm.trans hy)] at hz'
        exact hz' hresolving
      have hnz : NormalWaits s z ↔ z.priority = .normal ∧ z.state = .pending := by simp [NormalWaits, hz']
      by_cases hwait : z.priority = .normal ∧ z.state = .pending
      · rw [if_neg hki, (skipped_eq w j k y z).2 hnot hkj ((hwnormal z).mpr (hnz.mpr hwait))]
        exact ((if_neg hki).trans ((if_neg hz').trans (if_pos hwait))).symm
      · rw [if_neg hki, (skipped_eq w j k y z).1 hnot (.inr fun h => hwait (hnz.mp ((hwnormal z).mp h)))]
        exact ((if_neg hki).trans ((if_neg hz').trans (if_neg hwait))).symm
  · obtain ⟨hlevel, hrows⟩ := hrows
    have hcandidates : w.candidates = [] := List.eq_nil_iff_forall_not_mem.mpr fun c hc => by
      obtain ⟨k, z, hz, hwaits, -⟩ := mem_candidates.mp hc
      have hnormal := (hwnormal z).mp hwaits
      exact hnone z (List.mem_of_getElem? (back hz (.inr hnormal)).2) hnormal
    have hwlevel : w.tracker.level ≠ .lost := by cases l <;> exact hlevel
    have hwpass : w.passActive = false := by cases l <;> exact hpass
    have hany : anyCandidate w = false := by
      have hsweep := hunqueued hqueued
      cases hx : w.sweep.active with
      | none => simp [anyCandidate, hwlevel, urgentPick_none (hunurgent hrows), hx, hwpass, hcandidates]
      | some x => simp [anyCandidate, hwlevel, urgentPick_none (hunurgent hrows), hx, hwpass, hcandidates, hsweep x hx]
    have hkept : Leads 1 [.choose] w w := Leads.skip (by
      show choose (facing [] w) = facing [] w
      rw [facing_nil hwq]
      simp [choose, hany]) (Leads.done hwq)
    rw [go hkept, hw, grantDropped, slotEnded, onSlot, modify_eq_mapIdx]
    rfl

end Sys2Proof.Machine
end

section
/-! PROOFS. The stepper, homing, and the focus arrivals they end in (R97 to R99, R110, R129). -/

namespace Sys2Proof.Machine

open Sys2Proof

/-- The lens rests at a step, its requester told (R99). -/
def lensRests (p : Nat) (s : State) : State := { s with focus := { s.focus with position := p, phase := .idle, requester := none } }

/-- The step that reaches the target of a READY lens ends its move (R98, R99). -/
theorem stepLens_arrives {h : Bool} {p : Nat} {r : Requester} {s : State} (hq : Quiet s) (hready : s.focus.status = .ready)
    (htarget : s.focus.target = some p) (hrequester : s.focus.requester = some r)
    (hstep : (s.focus.phase = .up ∧ p = s.focus.position + 1) ∨
      (s.focus.phase = .down ∧ p = s.focus.position - 1 ∧ p ≤ s.focus.downEnd)) :
    stepLens h s = facing [.focusArrived r] (lensRests p s) := by
  rcases hstep with ⟨hup, rfl⟩ | ⟨hdown, rfl, hend⟩
  · simp [stepLens, hready, hup, htarget, lensArrived, hrequester, emit, facing, lensRests, show s.todo = [] from hq]
  · simp [stepLens, hready, hdown, htarget, hend, lensArrived, hrequester, emit, facing, lensRests, show s.todo = [] from hq]

/-- A step of the stepper and the arrival it ends in. -/
theorem exec_focusStep_arrives {h : Bool} {p n : Nat} {r : Requester} {s t : State} (hq : Quiet s) (hready : s.focus.status = .ready)
    (htarget : s.focus.target = some p) (hrequester : s.focus.requester = some r)
    (hstep : (s.focus.phase = .up ∧ p = s.focus.position + 1) ∨
      (s.focus.phase = .down ∧ p = s.focus.position - 1 ∧ p ≤ s.focus.downEnd))
    (ht : Leads n [.focusArrived r] (lensRests p s) t) (hn : n ≤ 100) : exec (.focusStep h) s = .next t :=
  takes_next (stepLens_arrives hq hready htarget hrequester hstep) ht hn

/-- A step that sets nothing off. -/
theorem exec_focusStep_plain {h : Bool} {s t : State} (hstep : stepLens h s = t) (ht : Quiet t) : exec (.focusStep h) s = .next t :=
  takes_next (new := []) (hstep.trans (facing_nil ht).symm) (Leads.done ht) (by omega)

/-- An arrival for a FLY trigger or on the way back asks for nothing (R99). -/
theorem leads_arrived_idle {r : Requester} {s : State} (hq : Quiet s) (hr : some r = some .fly ∨ some r = some .back) :
    Leads 1 [.focusArrived r] s s := by
  refine Leads.skip ?_ (Leads.done hq)
  rcases hr with hr | hr <;> cases hr <;> rfl

/-- An arrival at a point of a sweep starts its scoring (R110). -/
theorem leads_point_arrived {x : SweepRecord} {s : State} (hq : Quiet s) (hx : s.sweep.active = some x) (hmoving : x.state = .movingLens) :
    Leads 1 [.focusArrived (.sweep x.id x.current)] s
      { s with sweep := { s.sweep with active := some { x with state := .awaitingScore }, scoreTimer := some s.params.scoreTimeout } } := by
  refine Leads.cons (new := []) ?_ (Leads.done hq)
  show pointArrived x.id x.current (facing [] s) = _
  rw [facing_nil hq]
  simp [pointArrived, hx, hmoving, onSweep, facing, show s.todo = [] from hq]

/-! ### The arrival of an approach (R56, R57, R129) -/

/-- An arrival for a frame that no move goes to asks for nothing. -/
theorem leads_approach_other {k : Nat} {s : State} (hq : Quiet s)
    (h : ∀ m ∈ s.transport.move, m.purpose ≠ .frame ∨ m.frame ≠ some k) : Leads 1 [.focusArrived (.approach k)] s s := by
  refine Leads.skip ?_ (Leads.done hq)
  show approachArrived k (facing [] s) = facing [] s
  rw [facing_nil hq, approachArrived]
  split
  · rfl
  · rename_i m hm
    rw [if_neg fun hboth => (h m hm).elim (fun e => e hboth.1) (fun e => e hboth.2)]

theorem approachArrived_eq {k : Nat} {m : Move} {s : State} (hm : s.transport.move = some m) (hpurpose : m.purpose = .frame)
    (hframe : m.frame = some k) :
    approachArrived k s = checkReady { s with transport := { s.transport with move := some { m with focusTaken := true } } } := by
  simp [approachArrived, hm, hpurpose, hframe, onMove]

theorem leads_approach_early {k : Nat} {m : Move} {s : State} (hq : Quiet s) (hm : s.transport.move = some m) (hpurpose : m.purpose = .frame)
    (hframe : m.frame = some k) (h : s.transport.state ≠ .settling ∨ m.settleTaken = false) :
    Leads 1 [.focusArrived (.approach k)] s { s with transport := { s.transport with move := some { m with focusTaken := true } } } := by
  refine Leads.cons (new := []) ?_ (Leads.done hq)
  show approachArrived k (facing [] s) = _
  rw [facing_nil hq, approachArrived_eq hm hpurpose hframe, facing_nil (by exact hq), checkReady]
  exact if_neg fun hboth => h.elim (fun e => e hboth.1) (fun e => by simp [e] at hboth)

/-- The gate is ready at a frame, its move record removed (R56). -/
def gateReadyAt (k : Option Nat) (s : State) : State :=
  { s with transport := { s.transport with gateFrame := k, move := none, gateReady := true } }

/-- The last of the settle expiry and the focus arrival makes the gate ready (R56). -/
theorem checkReady_ready {m : Move} {s : State} (hq : Quiet s) (hm : s.transport.move = some m) (hstate : s.transport.state = .settling)
    (hnot : s.transport.gateReady = false) (hsettle : m.settleTaken = true) (hfocus : m.focusTaken = true) :
    checkReady s = facing [.offerGate] (gateReadyAt m.frame s) := by
  simp [checkReady, hm, hstate, hnot, hsettle, hfocus, emit, facing, gateReadyAt, show s.todo = [] from hq]

theorem offerGate_slot {i : Nat} {x : Slot} {s : State} (hstate : s.transport.state = .settling) (hready : s.transport.gateReady = true)
    (hgrant : s.sched.grant = .slot i) (hx : s.slots[i]? = some x) (htravelling : x.state = .travelling) : offerGate s = offerSlot i s := by
  simp [offerGate, hstate, hready, hgrant, slot_eq s i x hx, htravelling]

/-- A PRESENT slot takes the ready gate with the lamp ON (R129, R131). -/
def slotPresents (i : Nat) (x : Slot) (k p : Nat) (s : State) : State :=
  { s with
    transport := { s.transport with state := .settled, gateReady := false, holder := some (.retrieval x.owner x.tag) }
    roll := { s.roll with idleTimer := none }
    slots := s.slots.modify i (fun y => { y with
      state := .presenting, reached := some (s.pos k, p), holdTimer := if x.hold = 0 then none else some x.hold }) }

/-- Slot `i` as the ready gate leaves it (R129). -/
theorem atGate_slot {i : Nat} {x : Slot} {s : State} (hx : s.slots[i]? = some x) :
    (onSlot i (Slot.atGate s) s).slot i = x.atGate s := by
  refine slot_eq _ i _ ?_
  show (s.slots.modify i _)[i]? = _
  simp [hx]

theorem offerSlot_presents {i k : Nat} {x : Slot} {s : State} (hx : s.slots[i]? = some x) (hlamp : s.lamp.state = .on)
    (hpresent : x.action = .present) (hframe : x.frame = some k) (hreached : x.reached = none) :
    offerSlot i s = slotPresents i x k s.focus.position s := by
  have hlamp' : (onSlot i (Slot.atGate s) s).lamp.state = .on := hlamp
  have hgate : x.atGate s = { x with reached := some (s.pos k, s.focus.position) } := by
    simp [Slot.atGate, hframe, hreached]
  have hslots : (s.slots.modify i (Slot.atGate s)).modify i (fun y => { y with
        state := .presenting, holdTimer := if y.hold = 0 then none else some y.hold }) =
      s.slots.modify i (fun y => { y with
        state := .presenting, reached := some (s.pos k, s.focus.position), holdTimer := if x.hold = 0 then none else some x.hold }) := by
    refine List.ext_getElem? fun j => ?_
    by_cases hj : i = j
    · subst hj
      simp [hx, hgate]
    · simp [hj]
  simp only [offerSlot, hlamp', atGate_slot hx, hgate, hpresent]
  simp only [holdGate, enterState, lampOnEntering, onSlot, hslots, slotPresents, reduceCtorEq, if_false]

/-- The arrival that makes the gate ready for a PRESENT slot presents it (R56, R57, R129). -/
theorem leads_approach_presents {i k : Nat} {m : Move} {x : Slot} {s : State} (hq : Quiet s) (hm : s.transport.move = some m)
    (hpurpose : m.purpose = .frame) (hframe : m.frame = some k) (hstate : s.transport.state = .settling) (hsettle : m.settleTaken = true)
    (hnot : s.transport.gateReady = false) (hgrant : s.sched.grant = .slot i) (hx : s.slots[i]? = some x)
    (htravelling : x.state = .travelling) (hpresent : x.action = .present) (hxframe : x.frame = some k) (hreached : x.reached = none)
    (hlamp : s.lamp.state = .on) :
    Leads 2 [.focusArrived (.approach k)] s (slotPresents i x k s.focus.position (gateReadyAt (some k) s)) := by
  refine Leads.cons (new := [.offerGate]) (u := gateReadyAt (some k) s) ?_ (Leads.cons (new := []) ?_ (Leads.done ?_))
  · show approachArrived k (facing [] s) = _
    rw [facing_nil hq, approachArrived_eq hm hpurpose hframe]
    refine (checkReady_ready (m := { m with focusTaken := true })
      (s := { s with transport := { s.transport with move := some { m with focusTaken := true } } }) hq rfl hstate hnot hsettle rfl).trans ?_
    rw [hframe]
    rfl
  · show offerGate (facing [] (gateReadyAt (some k) s)) = facing [] _
    rw [facing_nil (by exact hq), facing_nil (by exact hq), offerGate_slot (s := gateReadyAt (some k) s) hstate rfl hgrant hx
      htravelling, offerSlot_presents (s := gateReadyAt (some k) s) hx hlamp hpresent hxframe hreached]
    rfl
  · exact hq

/-- Settles O51. -/
theorem lensSteps : Obligations.LensSteps := by
  refine ⟨fun h s hq hready hdown => ⟨fun hend => ?_, fun hend hnot => ?_, fun hend htarget hr => ?_⟩,
    fun h s hq hready hup => ⟨fun hnot => ?_, fun htarget hr => ?_, fun x htarget hx hmoving hr => ?_⟩,
    fun h k p s hq hready hr htarget hstep => ⟨fun hother => ?_, fun m hm hpurpose hframe => ⟨fun hearly => ?_,
      fun i x hstate hsettle hnot hgrant hx htravelling hpresent hxframe hreached hlamp => ?_⟩⟩,
    fun s hq hhoming hdown hsteps => ⟨?_, fun hnone => ?_, fun t ht hpos => ?_⟩, fun s hq hhoming hsteps hr => ?_, fun h s hq hidle => ?_⟩
  · exact exec_focusStep_plain (by simp [stepLens, hready, hdown, Nat.not_le.mpr hend]) hq
  · exact exec_focusStep_plain (by simp [stepLens, hready, hdown, hend, hnot]) hq
  · obtain ⟨r, hr'⟩ : ∃ r, s.focus.requester = some r := by rcases hr with hr | hr <;> exact ⟨_, hr⟩
    exact exec_focusStep_arrives hq hready htarget hr' (.inr ⟨hdown, rfl, hend⟩) (leads_arrived_idle hq (hr' ▸ hr)) (by omega)
  · exact exec_focusStep_plain (by simp [stepLens, hready, hup, hnot]) hq
  · obtain ⟨r, hr'⟩ : ∃ r, s.focus.requester = some r := by rcases hr with hr | hr <;> exact ⟨_, hr⟩
    exact exec_focusStep_arrives hq hready htarget hr' (.inl ⟨hup, rfl⟩) (leads_arrived_idle hq (hr' ▸ hr)) (by omega)
  · exact exec_focusStep_arrives hq hready htarget hr (.inl ⟨hup, rfl⟩) (leads_point_arrived (x := x) hq hx hmoving) (by omega)
  · exact exec_focusStep_arrives hq hready htarget hr hstep (leads_approach_other hq hother) (by omega)
  · exact exec_focusStep_arrives hq hready htarget hr hstep (leads_approach_early hq hm hpurpose hframe hearly) (by omega)
  · exact exec_focusStep_arrives hq hready htarget hr hstep (leads_approach_presents hq hm hpurpose hframe hstate hsettle hnot hgrant hx
      htravelling hpresent hxframe hreached hlamp) (by omega)
  · exact exec_focusStep_plain (by simp [stepLens, hhoming, hdown, Config.homingLimit, hsteps]) hq
  · exact exec_focusStep_plain (by simp [stepLens, hhoming, hdown, Config.homingLimit, hsteps, homeFound, planLens, hnone]) hq
  · exact exec_focusStep_plain (by simp [stepLens, hhoming, hdown, Config.homingLimit, hsteps, homeFound, planLens, ht, hpos.ne']) hq
  · refine takes_next (new := []) (z := { s with focus := { s.focus with status := .fault, position := 0, phase := .idle } }) ?_
      (Leads.done hq) (by omega)
    rw [if_pos ⟨hhoming, hsteps⟩, facing_nil (by exact hq)]
    simp [homeNotFound, lensArrived, hr]
  · refine exec_focusStep_plain ?_ hq
    rcases hidle with hidle | hidle
    · cases hs : s.focus.status <;> simp [stepLens, hidle, hs]
    · simp [stepLens, hidle]

end Sys2Proof.Machine
end

section
/-! PROOFS. The settle expiry and what the ready gate gives: a slot, a sweep and their ends (R55 to R58, R108, R109, R129). -/

namespace Sys2Proof.Machine

open Sys2Proof

/-! ### The lens is sent to a step (R97 to R99) -/

/-- A target below 4096 is sent to the lens, and an arrival is reported where it is there already (R98, R99). -/
theorem setFocusTarget_sent {t : Nat} (r : Requester) {s : State} (ht : t ≤ 4095) :
    setFocusTarget t r s =
      { s with focus := lensSent t r s, todo := s.todo ++ if lensThere t s = true then [.focusArrived r] else [] } := by
  have hmin : min t Config.maxStep = t := by
    have : Config.maxStep = 4095 := rfl
    omega
  unfold setFocusTarget
  rw [hmin]
  cases hstatus : s.focus.status with
  | homing => simp [lensSent, lensThere, hstatus]
  | fault => simp [lensArrived, emit, lensSent, lensThere, hstatus]
  | ready =>
    by_cases hlow : t < s.focus.position
    · simp [planLens, lensSent, lensThere, hstatus, hlow, hlow.ne]
    · by_cases heq : t = s.focus.position
      · simp [planLens, lensArrived, emit, lensSent, lensThere, hstatus, heq]
      · simp [planLens, lensSent, lensThere, hstatus, hlow, heq]

/-! ### The settle expiry (R55, R56) -/

/-- The settle expiry that comes last makes the gate ready (R55, R56). -/
theorem settleExpired_ready {m : Move} {s : State} (hq : Quiet s) (hm : s.transport.move = some m) (hstate : s.transport.state = .settling)
    (hnot : s.transport.gateReady = false) (hfocus : m.focusTaken = true) :
    settleExpired s = facing [.offerGate] (gateReadyAt m.frame { s with transport := { s.transport with settleTimer := none } }) := by
  have hmove : onMove (fun m => { m with settleTaken := true }) { s with transport := { s.transport with settleTimer := none } } =
      { s with transport := { s.transport with settleTimer := none, move := some { m with settleTaken := true } } } := by
    simp [onMove, hm]
  rw [settleExpired, hmove]
  exact checkReady_ready (m := { m with settleTaken := true })
    (s := { s with transport := { s.transport with settleTimer := none, move := some { m with settleTaken := true } } })
    hq rfl hstate hnot rfl hfocus

theorem exec_settleExpiry {n : Nat} {new : List Signal} {s u t : State} (htimer : s.transport.settleTimer ≠ none)
    (hu : settleExpired s = facing new u) (ht : Leads n new u t) (hn : n ≤ 100) : exec .settleExpiry s = .next t := by
  show execSettleExpiry s = _
  unfold execSettleExpiry
  refine takes_next ?_ ht hn
  rw [if_pos (Option.isSome_iff_ne_none.mpr htimer), hu]

/-! ### A slot in the ready gate (R129) -/

/-- The slot at the ready gate ends with its frame's position and the lens's step (R129). -/
def endedAtGate (i k : Nat) (code : ResultCode) (s : State) : State :=
  { s with slots := s.slots.modify i (fun y => { y with
      state := .done, holdTimer := none, reached := some (s.pos k, s.focus.position)
      result := some { code := code, frame := some k, position := some (s.pos k), focusStep := some s.focus.position } }) }

theorem endedAtGate_eq {i k : Nat} {x : Slot} {s : State} (code : ResultCode) (hx : s.slots[i]? = some x) (hframe : x.frame = some k)
    (hreached : x.reached = none) :
    onSlot i (Slot.endedReached code) (onSlot i (Slot.atGate s) s) = endedAtGate i k code s := by
  have hslots : (s.slots.modify i (Slot.atGate s)).modify i (Slot.endedReached code) = (endedAtGate i k code s).slots := by
    refine List.ext_getElem? fun j => ?_
    by_cases hj : i = j
    · subst hj
      simp [hx, endedAtGate, Slot.atGate, Slot.endedReached, Slot.ended, hframe, hreached]
    · simp [hj, endedAtGate]
  rw [onSlot, onSlot, hslots]
  rfl

/-- The gate is left with the film PARKED, and the grant ends (R57, R126). -/
def gateLeft (s : State) : State :=
  grantEnded { s with transport := { s.transport with state := .parked, gateReady := false } }

theorem endGrant_leaveGate {s : State} (hq : Quiet s) (hlamp : s.lamp.state ≠ .off) :
    endGrant (leaveGate s) = facing [.choose, .choose] (gateLeft s) := by
  have hidle : (if (True ∧ s.params.standbyIdle ≠ 0) then some s.params.standbyIdle else none) =
      if s.params.standbyIdle = 0 then none else some s.params.standbyIdle := by
    by_cases h : s.params.standbyIdle = 0 <;> simp [h]
  simp only [leaveGate, enterState, lampOnEntering, hlamp, if_false, if_true, endGrant, idleStart, emit, facing, gateLeft, grantEnded,
    show s.todo = [] from hq, List.nil_append, List.singleton_append, ← hidle]

/-- A SNAP slot takes the ready gate with the lamp ON: its pulse, and it is done (R129). -/
theorem offerSlot_snaps {i k : Nat} {x : Slot} {s : State} (hq : Quiet s) (hx : s.slots[i]? = some x) (hlamp : s.lamp.state = .on)
    (hsnap : x.action = .snap) (hframe : x.frame = some k) (hreached : x.reached = none) :
    offerSlot i s = facing [.choose, .choose] (gateLeft (endedAtGate i k .snapped (givePulse s))) := by
  have hlamp' : (onSlot i (Slot.atGate s) s).lamp.state = .on := hlamp
  have haction : (x.atGate s).action = .snap := hsnap
  have hended := endedAtGate_eq (s := s) .snapped hx hframe hreached
  simp only [offerSlot, hlamp', atGate_slot hx, haction]
  have hlit : s.lamp.state ≠ .off := by simp [hlamp]
  refine (endGrant_leaveGate (s := onSlot i (Slot.endedReached .snapped) (givePulse (onSlot i (Slot.atGate s) s))) hq hlit).trans ?_
  show facing _ (gateLeft (givePulse (onSlot i _ (onSlot i _ s)))) = facing _ (gateLeft (givePulse (endedAtGate i k .snapped s)))
  rw [hended]

/-- With the lamp FAILED the slot ends DARK (R129). -/
theorem offerSlot_dark {i k : Nat} {x : Slot} {s : State} (hq : Quiet s) (hx : s.slots[i]? = some x) (hlamp : s.lamp.state = .failed)
    (hframe : x.frame = some k) (hreached : x.reached = none) :
    offerSlot i s = facing [.choose, .choose] (gateLeft (endedAtGate i k .dark s)) := by
  have hlamp' : (onSlot i (Slot.atGate s) s).lamp.state = .failed := hlamp
  have hlit : s.lamp.state ≠ .off := by simp [hlamp]
  simp only [offerSlot, hlamp']
  refine (endGrant_leaveGate (s := onSlot i (Slot.endedReached .dark) (onSlot i (Slot.atGate s) s)) hq hlit).trans ?_
  rw [endedAtGate_eq .dark hx hframe hreached]

theorem endedAtGate_noWork {i k : Nat} {code : ResultCode} {s : State} (hlevel : s.tracker.level ≠ .lost) (hsweep : s.sweep.active = none)
    (hpass : s.passActive = false) (hrest : ∀ j y, j ≠ i → s.slots[j]? = some y → y.resting = true) :
    NoWork (endedAtGate i k code s) := by
  refine ⟨hlevel, fun x hx => ?_, hsweep, hpass⟩
  obtain ⟨j, hj⟩ := List.mem_iff_getElem?.mp hx
  rcases getElem?_modify_cases hj with ⟨-, y, -, rfl⟩ | ⟨hne, hy⟩
  · rfl
  · exact hrest j x hne hy

/-! ### A sweep in the ready gate (R108, R109) -/

/-- A sweep holds the gate, its points placed about a centre `c`, the lens sent to the first of them (R108, R109). -/
def sweepPlaced (x : SweepRecord) (c : Nat) (s : State) : State :=
  { s with
    transport := { s.transport with state := .settled, gateReady := false, holder := some (.sweep x.link x.id) }
    roll := { s.roll with idleTimer := none }
    sweep := { s.sweep with active := some { x with
      points := (List.range (2 * x.halfWidth + 1)).map (fun i => c + i * x.stepSize - x.halfWidth * x.stepSize), scores := [],
      current := 0, state := .movingLens } }
    focus := lensSent (c - x.halfWidth * x.stepSize) (.sweep x.id 0) s }

theorem sendToPoint_eq {y : SweepRecord} {s : State} (hy : s.sweep.active = some y) :
    sendToPoint s = setFocusTarget (y.points.getD y.current 0) (.sweep y.id y.current) s := by
  simp only [sendToPoint, hy]

theorem placePoints_eq {x : SweepRecord} {s : State} (hx : s.sweep.active = some x) :
    placePoints s = sendToPoint { s with sweep := { s.sweep with active := some { x with
      points := sweepPoints (x.centre.getD (s.zoneStep x.frame)) x.halfWidth x.stepSize, scores := [], current := 0,
      state := .movingLens } } } := by
  cases hc : x.centre <;> simp [placePoints, onSweep, hx, hc]

/-- The first of the points about `c` (R109). -/
theorem points_first (c h z : Nat) : ((List.range (2 * h + 1)).map (fun i => c + i * z - h * z)).getD 0 0 = c - h * z := by
  rw [List.range_succ_eq_map]
  simp

theorem offerSweep_places {x : SweepRecord} {c : Nat} {s : State} (hq : Quiet s) (hx : s.sweep.active = some x)
    (hlamp : s.lamp.state = .on) (hc : shiftedCentre (x.centre.getD (s.zoneStep x.frame)) x.halfWidth x.stepSize = c)
    (hreach : x.halfWidth * x.stepSize ≤ 2047) :
    offerSweep s = facing (if lensThere (c - x.halfWidth * x.stepSize) s = true then [.focusArrived (.sweep x.id 0)] else [])
      (sweepPlaced x c s) := by
  have hlow : c - x.halfWidth * x.stepSize ≤ 4095 := by
    have : Config.maxStep = 4095 := rfl
    subst hc
    unfold shiftedCentre
    split_ifs <;> omega
  have hheld : offerSweep s = placePoints
      { s with transport := { s.transport with state := .settled, gateReady := false, holder := some (.sweep x.link x.id) }
               roll := { s.roll with idleTimer := none } } := by
    simp only [offerSweep, hx, hlamp]
    rfl
  have hzone : sweepPoints (x.centre.getD (s.zoneStep x.frame)) x.halfWidth x.stepSize =
      (List.range (2 * x.halfWidth + 1)).map (fun i => c + i * x.stepSize - x.halfWidth * x.stepSize) := by
    rw [← hc]
    rfl
  rw [hheld, placePoints_eq (x := x) (by exact hx)]
  refine (sendToPoint_eq rfl).trans ?_
  show setFocusTarget ((sweepPoints (x.centre.getD (s.zoneStep x.frame)) x.halfWidth x.stepSize).getD 0 0) (.sweep x.id 0)
    { s with
      transport := { s.transport with state := .settled, gateReady := false, holder := some (.sweep x.link x.id) }
      roll := { s.roll with idleTimer := none }
      sweep := { s.sweep with active := some { x with
        points := sweepPoints (x.centre.getD (s.zoneStep x.frame)) x.halfWidth x.stepSize, scores := [], current := 0,
        state := .movingLens } } } = _
  rw [hzone, points_first, setFocusTarget_sent _ hlow]
  simp only [show s.todo = [] from hq, List.nil_append]
  rfl

theorem endGrant_parked {s : State} (h : s.transport.state = .parked) : endGrant s = facing (s.todo ++ [.choose]) (grantEnded s) := by
  have hidle : (if (True ∧ s.params.standbyIdle ≠ 0) then some s.params.standbyIdle else none) =
      if s.params.standbyIdle = 0 then none else some s.params.standbyIdle := by
    by_cases h : s.params.standbyIdle = 0 <;> simp [h]
  simp only [endGrant, h, if_true, idleStart, emit, facing, grantEnded, ← hidle]

theorem leaveGate_granted {s : State} (hq : Quiet s) (hlamp : s.lamp.state ≠ .off) (hgrant : s.sched.grant ≠ .none) :
    leaveGate s = facing [.choose]
      { s with transport := { s.transport with state := .parked, gateReady := false }, roll := { s.roll with idleTimer := none } } := by
  simp only [leaveGate, enterState, lampOnEntering, hlamp, if_false, if_true, idleStart, hgrant, false_and]
  exact emit_eq_facing _ hq

/-- A stand-alone sweep that holds no gate and has placed no points ends, and the grant with it (R115, R126). -/
theorem endSweepBare_granted {x : SweepRecord} (r : SweepResult) {s : State} (hx : s.sweep.active = some x) (hpoints : x.points = [])
    (halone : x.origin = .standAlone) (hholder : s.transport.holder ≠ some (.sweep x.link x.id)) (hgrant : s.sched.grant = .sweep) :
    endSweepBare r s = endGrant (sweepEnded x r s) := by
  have hfinish : finishSweep r none none (unstored x.store) s = sweepEnded x r s := by
    simp only [finishSweep, hx, hpoints, ne_eq, not_true_eq_false, false_and, if_false]
    rfl
  have hholder' : (sweepEnded x r s).transport.holder ≠ some (.sweep x.link x.id) := by simpa [sweepEnded] using hholder
  have hgrant' : (sweepEnded x r s).sched.grant = .sweep := by simpa [sweepEnded] using hgrant
  simp only [endSweepBare, hx, endSweep, hfinish, hholder', if_false, halone, hgrant', if_true]

theorem offerSweep_dark {x : SweepRecord} {s : State} (hq : Quiet s) (hx : s.sweep.active = some x) (hpoints : x.points = [])
    (halone : x.origin = .standAlone) (hholder : s.transport.holder = none) (hgrant : s.sched.grant = .sweep)
    (hlamp : s.lamp.state = .failed) : offerSweep s = facing [.choose, .choose] (gateLeft (sweepEnded x .dark s)) := by
  have hleft := leaveGate_granted hq (by simp [hlamp]) (by simp [hgrant])
  simp only [offerSweep, hx, hlamp, hleft]
  refine (endSweepBare_granted .dark (by exact hx) hpoints halone (by simp [facing, hholder]) (by exact hgrant)).trans ?_
  rw [endGrant_parked (by simp [sweepEnded, facing])]
  unfold sweepEnded
  cases x.link <;> rfl

/-- The gate is ready at frame k by the settle expiry (R55, R56). -/
def gateShown (k : Nat) (s : State) : State := gateReadyAt (some k) { s with transport := { s.transport with settleTimer := none } }

/-- What a ready gate offered to the granted work leads to, the settle expiry coming last. -/
theorem exec_settleExpiry_offers {m : Move} {k n : Nat} {new : List Signal} {s u t : State} (hq : Quiet s)
    (htimer : s.transport.settleTimer ≠ none) (hm : s.transport.move = some m) (hstate : s.transport.state = .settling)
    (hnot : s.transport.gateReady = false) (hfocus : m.focusTaken = true) (hframe : m.frame = some k)
    (hoffer : offerGate (gateShown k s) = facing new u)
    (ht : Leads n new u t) (hn : n ≤ 90) : exec .settleExpiry s = .next t := by
  refine exec_settleExpiry htimer (settleExpired_ready hq hm hstate hnot hfocus) (Leads.cons (new := new) (u := u) ?_ ?_) (n := n + 1) (by omega)
  · show offerGate (facing [] _) = _
    rw [facing_nil (by exact hq), hframe]
    exact hoffer
  · rwa [List.append_nil]

/-- Settles O57. -/
theorem settlesAndPulses : Obligations.SettlesAndPulses := by
  refine ⟨fun m s hq htimer hm hfocus => ?_, fun m i k x s hq hstate htimer hnot hm hfocus hframe hgrant hx htravelling hxframe hreached =>
    ⟨fun hpresent hlamp => ?_, fun hlevel hsweep hpass hrest => ⟨fun hsnap hlamp => ?_, fun hlamp => ?_⟩⟩,
    fun m k x s hq hstate htimer hnot hm hfocus hframe hx => ⟨fun hholds hreach hlamp => ?_,
      fun halone hgrant hpoints hholder hlamp hlevel hpass hrest => ?_⟩, fun s => rfl⟩
  · refine exec_settleExpiry (new := []) (u := { s with transport := { s.transport with
        settleTimer := none, move := some { m with settleTaken := true } } }) htimer ?_ (Leads.done hq) (by omega)
    rw [facing_nil (by exact hq)]
    simp [settleExpired, onMove, hm, checkReady, hfocus]
  · have hoffer : offerGate (gateShown k s) = facing [] (slotPresents i x k s.focus.position (gateShown k s)) := by
      rw [facing_nil (by exact hq), offerGate_slot (s := gateShown k s) hstate rfl hgrant hx htravelling]
      exact offerSlot_presents (s := gateShown k s) hx hlamp hpresent hxframe hreached
    exact exec_settleExpiry_offers hq htimer hm hstate hnot hfocus hframe hoffer (Leads.done hq) (by omega)
  · have hoffer := (offerGate_slot (s := gateShown k s) hstate rfl hgrant hx htravelling).trans
      (offerSlot_snaps hq hx hlamp hsnap hxframe hreached)
    refine (exec_settleExpiry_offers hq htimer hm hstate hnot hfocus hframe hoffer
      (leads_at_ease_twice hq (.inr (endedAtGate_noWork (s := s) hlevel hsweep hpass hrest))) (by omega)).trans ?_
    cases hpulse : s.transport.pulse <;> simp [gateLeft, grantEnded, endedAtGate, givePulse, gateShown, gateReadyAt, hpulse, State.pos, State.entry]
  · have hoffer := (offerGate_slot (s := gateShown k s) hstate rfl hgrant hx htravelling).trans
      (offerSlot_dark hq hx hlamp hxframe hreached)
    exact exec_settleExpiry_offers hq htimer hm hstate hnot hfocus hframe hoffer
      (leads_at_ease_twice hq (.inr (endedAtGate_noWork (s := s) hlevel hsweep hpass hrest))) (by omega)
  · have hoffer : offerGate (gateShown k s) = offerSweep (gateShown k s) := by
      rcases hholds with ⟨-, hgrant⟩ | ⟨hgrant, hwork⟩
      · simp [offerGate, gateShown, gateReadyAt, hstate, hgrant]
      · simp [offerGate, gateShown, gateReadyAt, hstate, hgrant, hwork]
    have hplaces := offerSweep_places (s := gateShown k s) hq hx hlamp rfl hreach
    dsimp only
    set c := shiftedCentre (x.centre.getD ((gateShown k s).zoneStep x.frame)) x.halfWidth x.stepSize with hc
    have hthere : lensThere (c - x.halfWidth * x.stepSize) (gateShown k s) = lensThere (c - x.halfWidth * x.stepSize) s := rfl
    rw [hthere] at hplaces
    show _ = Host.Outcome.next { s with
      transport := { s.transport with
        settleTimer := none, gateFrame := some k, move := none, gateReady := false, state := .settled
        holder := some (.sweep x.link x.id) }
      roll := { s.roll with idleTimer := none }
      sweep := { s.sweep with
        active := some { x with
          points := (List.range (2 * x.halfWidth + 1)).map (fun i => c + i * x.stepSize - x.halfWidth * x.stepSize), scores := [],
          current := 0, state := if lensThere (c - x.halfWidth * x.stepSize) s then .awaitingScore else .movingLens }
        scoreTimer := if lensThere (c - x.halfWidth * x.stepSize) s then some s.params.scoreTimeout else s.sweep.scoreTimer }
      focus := lensSent (c - x.halfWidth * x.stepSize) (.sweep x.id 0) s }
    by_cases h : lensThere (c - x.halfWidth * x.stepSize) s = true
    · rw [if_pos h] at hplaces
      rw [exec_settleExpiry_offers hq htimer hm hstate hnot hfocus hframe (hoffer.trans hplaces)
        (leads_point_arrived (x := { x with
          points := (List.range (2 * x.halfWidth + 1)).map (fun i => c + i * x.stepSize - x.halfWidth * x.stepSize), scores := [],
          current := 0, state := .movingLens }) hq rfl rfl) (by omega), if_pos h, if_pos h]
      rfl
    · rw [if_neg h] at hplaces
      rw [exec_settleExpiry_offers hq htimer hm hstate hnot hfocus hframe (hoffer.trans hplaces) (Leads.done hq) (by omega), if_neg h,
        if_neg h]
      rfl
  · have hoffer : offerGate (gateShown k s) = offerSweep (gateShown k s) := by
      simp [offerGate, gateShown, gateReadyAt, hstate, hgrant]
    have hdark := offerSweep_dark (s := gateShown k s) hq hx hpoints halone hholder hgrant hlamp
    refine (exec_settleExpiry_offers hq htimer hm hstate hnot hfocus hframe (hoffer.trans hdark)
      (leads_at_ease_twice ?_ (.inr ?_)) (by omega)).trans ?_
    · exact (show (sweepEnded x .dark (gateShown k s)).todo = [] by simp [sweepEnded, gateShown, gateReadyAt]; exact hq)
    · unfold sweepEnded
      cases x.link <;> exact ⟨hlevel, hrest, rfl, hpass⟩
    · unfold sweepEnded
      cases x.link <;> rfl

end Sys2Proof.Machine
end

section
/-! PROOFS. The ends of a tag load and of a write-back, and what they make of a THREADING or REWINDING roll (R86, R94, R163, R167,
R170, R171), once for every later proof. -/

namespace Sys2Proof.Machine

open Sys2Proof

/-! ### Consequences that change nothing -/

/-- None of these consequences changes anything in this state. -/
def Idle (l : List Signal) (s : State) : Prop := ∀ sig ∈ l, handle sig s = s

theorem leads_idle {l : List Signal} {s : State} (hq : Quiet s) (h : Idle l s) : Leads l.length l s s := by
  induction l with
  | nil => exact Leads.done hq
  | cons sig rest ih =>
    refine Leads.skip ?_ (ih (fun x hx => h x (List.mem_cons_of_mem _ hx)))
    rw [facing_nil hq]
    exact h sig List.mem_cons_self

theorem Idle.nil (s : State) : Idle [] s := fun _ h => absurd h List.not_mem_nil

theorem Idle.append {l k : List Signal} {s : State} (hl : Idle l s) (hk : Idle k s) : Idle (l ++ k) s :=
  fun sig h => (List.mem_append.mp h).elim (hl sig) (hk sig)

theorem idle_choose {s : State} (h : AtEase s) : Idle [.choose] s := by
  intro sig hsig
  rw [List.mem_singleton.mp hsig]
  exact choose_at_ease s h

/-- Away from a ready gate nothing reads a lamp that is OFF or WARMING. -/
theorem idle_lampDark {s : State} (hstate : s.transport.state ≠ .settling) (hlamp : s.lamp.state = .off ∨ s.lamp.state = .warming) :
    Idle [.lampChanged] s := by
  intro sig hsig
  rw [List.mem_singleton.mp hsig]
  exact lampChanged_dark hstate hlamp

/-! ### A fault with no pass and no sweep (R71) -/

theorem enterFaulted_alone (kind : FaultKind) {s : State} (hno : NoPassNoSweep s) (hempty : s.transport.state ≠ .empty)
    (hfaulted : s.transport.state ≠ .faulted) : enterFaulted kind s = faulted kind s := by
  obtain ⟨hpass, hsweep⟩ := hno
  simp [enterFaulted, hempty, hfaulted, finishPass, hpass, finishSweepBare, hsweep, enterState, lampOnEntering, faulted]

/-! ### Threading is judged (R86) -/

/-- A roll that is parked has the scheduler choose. -/
def threadCalls (s : State) : List Signal :=
  if s.transport.state = .threading ∧ s.roll.active.gauge = s.params.stationGauge ∧ s.roll.threadTaken = true then [.choose] else []

theorem gaugeAndThread_eq {s : State} (hload : s.roll.tagLoad = .complete) (h : ThreadsAlone s) :
    gaugeAndThread s = facing (s.todo ++ threadCalls s) (threadingChecked s) := by
  by_cases hstate : s.transport.state = .threading
  · obtain ⟨hwrong, hright⟩ := h hstate
    by_cases hgauge : s.roll.active.gauge = s.params.stationGauge
    · cases htaken : s.roll.threadTaken
      · simp [gaugeAndThread, threadCheck, threadingChecked, threadCalls, facing, hstate, hgauge, htaken]
      · obtain ⟨hgrant, -, hlamp⟩ := hright hgauge htaken
        simp [gaugeAndThread, threadCheck, threadingChecked, threadCalls, facing, hstate, hgauge, htaken, hload, enterState,
          lampOnEntering, idleStart, flagRoll, flagBoth, onLinks, emit, hgrant, hlamp]
    · simp [gaugeAndThread, threadingChecked, threadCalls, hstate, hgauge,
        enterFaulted_alone .threadFail (hwrong hgauge) (by simp [hstate]) (by simp [hstate]), facing, faulted, flagTransport, flagBoth, onLinks]
  · simp [gaugeAndThread, threadCheck, threadingChecked, threadCalls, hstate, facing]

/-! ### The unload is complete (R94) -/

/-- An unload that is complete with the lamp burning has the lamp's neighbours read that it is off. -/
def unloadCalls (s : State) : List Signal :=
  if s.transport.state = .rewinding ∧ s.roll.rewindTaken = true ∧ s.lamp.state ≠ .off then [.lampChanged] else []

theorem unloadComplete_eq (s : State) :
    unloadComplete s = facing (s.todo ++ if s.lamp.state = .off then [] else [.lampChanged]) (unloaded s) := by
  by_cases hlamp : s.lamp.state = .off
  · simp [unloadComplete, enterEmpty, emptyIndex, applyProfile, setPitch, setLevel, closeStreams, onLinks, flagRoll, flagBoth, enterState,
      lampOnEntering, hlamp, facing, unloaded]
  · simp [unloadComplete, enterEmpty, emptyIndex, applyProfile, setPitch, setLevel, closeStreams, onLinks, flagRoll, flagBoth, enterState,
      lampOnEntering, hlamp, facing, unloaded, setLamp, emit]

theorem writeReported_eq (s : State) : writeReported s = facing (s.todo ++ unloadCalls s) (writeBackEnded s) := by
  by_cases hstate : s.transport.state = .rewinding
  · cases htaken : s.roll.rewindTaken
    · simp [writeReported, unloadCheck, writeBackEnded, unloadCalls, hstate, htaken, facing]
    · simp only [writeReported, unloadCheck, hstate, htaken, if_true, and_self, unloadComplete_eq, writeBackEnded, unloadCalls]
      split_ifs <;> first | rfl | simp_all
  · simp [writeReported, writeBackEnded, unloadCalls, hstate, facing]

theorem writeFailed_eq (s : State) : writeFailed s = facing (s.todo ++ unloadCalls s) (writeBackFailed s) := writeReported_eq _

/-- What the decision on a write-back sets off. -/
def decideCalls (s : State) : List Signal :=
  if (s.tag.status = .absent ∨ s.tag.status = .none ∨ s.tag.dirty = false) ∨ s.bus.state = .failed then unloadCalls s else []

theorem decideWrite_eq (s : State) : decideWrite s = facing (s.todo ++ decideCalls s) (writeBackDecided s) := by
  by_cases hnone : s.tag.status = .absent ∨ s.tag.status = .none ∨ s.tag.dirty = false
  · simp only [decideWrite, decideCalls, writeBackDecided, hnone, if_true, true_or, writeReported_eq]
  · by_cases hbus : s.bus.state = .failed
    · simp only [decideWrite, decideCalls, writeBackDecided, hnone, hbus, if_false, if_true, or_true, writeFailed_eq]
      rfl
    · simp [decideWrite, decideCalls, writeBackDecided, hnone, hbus, askRecord, facing]

theorem writeBackEnded_unloaded {s : State} (h : s.transport.state = .rewinding) (htaken : s.roll.rewindTaken = true) :
    (writeBackEnded s).lamp.state = .off ∧ (writeBackEnded s).transport.state = .empty := by
  by_cases hlamp : s.lamp.state = .off <;> simp [writeBackEnded, h, htaken, unloaded, hlamp]

theorem idle_unloadCalls (s : State) {t : State}
    (h : s.transport.state = .rewinding → s.roll.rewindTaken = true → t.lamp.state = .off ∧ t.transport.state = .empty) :
    Idle (unloadCalls s) t := by
  unfold unloadCalls
  split_ifs with hdone
  · obtain ⟨hlamp, hstate⟩ := h hdone.1 hdone.2.1
    exact idle_lampDark (by simp [hstate]) (.inl hlamp)
  · exact Idle.nil t

theorem idle_decideCalls (s : State) : Idle (decideCalls s) (writeBackDecided s) := by
  unfold decideCalls
  split_ifs with h
  · refine idle_unloadCalls s fun hstate htaken => ?_
    unfold writeBackDecided
    split_ifs with hnone hbus
    · exact writeBackEnded_unloaded hstate htaken
    · exact writeBackEnded_unloaded (s := onLinks _ s) hstate htaken
    · exact absurd h (not_or.mpr ⟨hnone, hbus⟩)
  · exact Idle.nil _

theorem decideCalls_facing (l : List Signal) (s : State) : decideCalls (facing l s) = decideCalls s := rfl

theorem writeBackDecided_facing (l : List Signal) (s : State) : writeBackDecided (facing l s) = facing l (writeBackDecided s) := by
  unfold writeBackDecided writeBackFailed writeBackEnded
  split_ifs <;> first | rfl | contradiction

/-- The end of a write-back outside REWINDING is no end of an unload. -/
theorem writeBackEnded_away {s : State} (h : s.transport.state ≠ .rewinding) :
    writeBackEnded s = { s with tag := { s.tag with writeState := .idle, writePlan := [] } } := by
  simp [writeBackEnded, h]

/-- A decision on a write-back outside REWINDING touches nothing the scheduler reads. -/
theorem writeBackDecided_noWork {s : State} (hstate : s.transport.state ≠ .rewinding) (hease : AtEase s) :
    AtEase (writeBackDecided s) := by
  unfold writeBackDecided writeBackFailed
  rw [writeBackEnded_away hstate, writeBackEnded_away (s := onLinks _ s) hstate]
  split_ifs <;> exact hease

/-! ### The end of a tag load (R163) -/

/-- What a load that has ended hands on. -/
def loadKept (e : LoadEnd) (l : LoadRecord) : Option LoadRecord := if profileRead e l then some l else none

/-- What the end of a tag load sets off, judged from the state it leaves for the threading. -/
def loadCalls (u : State) (waiting : Bool) : List Signal :=
  threadCalls u ++ if waiting then decideCalls (threadingChecked u) else []

theorem threadingChecked_parks {u : State} (hstate : u.transport.state = .threading) (hgauge : u.roll.active.gauge = u.params.stationGauge)
    (htaken : u.roll.threadTaken = true) (h : ThreadsAlone u) :
    (threadingChecked u).transport.state = .parked ∧ AtEase (threadingChecked u) := by
  obtain ⟨-, hease, -⟩ := (h hstate).2 hgauge htaken
  simp only [threadingChecked, hstate, hgauge, htaken, ne_eq, not_true_eq_false, if_true, if_false]
  exact ⟨rfl, .inr hease⟩

/-- What a load's end sets off changes nothing. -/
theorem idle_loadCalls {u : State} (h : ThreadsAlone u) (waiting : Bool) :
    Idle (loadCalls u waiting) (if waiting then writeBackDecided (threadingChecked u) else threadingChecked u) := by
  have hthread : Idle (threadCalls u) (if waiting then writeBackDecided (threadingChecked u) else threadingChecked u) := by
    unfold threadCalls
    split_ifs with hpark hwait hwait
    · obtain ⟨hstate, hgauge, htaken⟩ := hpark
      obtain ⟨hparked, hease⟩ := threadingChecked_parks hstate hgauge htaken h
      exact idle_choose (writeBackDecided_noWork (by simp [hparked]) hease)
    · obtain ⟨hstate, hgauge, htaken⟩ := hpark
      exact idle_choose (threadingChecked_parks hstate hgauge htaken h).2
    · exact Idle.nil _
    · exact Idle.nil _
  refine hthread.append ?_
  split_ifs
  · exact idle_decideCalls _
  · exact Idle.nil _

/-- The tables of a load take the place of those held, and the tag is clean (R163). -/
def tablesLoaded (kept : Option LoadRecord) (s : State) : State :=
  { s with zones := (kept.map (·.zones)).getD []
           index := { s.index with checkpoints := (kept.map (·.checks)).getD [] }
           tag := { s.tag with dirty := false } }

theorem threadingChecked_tablesLoaded (kept : Option LoadRecord) (s : State) :
    threadingChecked (tablesLoaded kept s) = tablesLoaded kept (threadingChecked s) := by
  unfold threadingChecked
  split_ifs <;> first | rfl | contradiction

theorem threadingChecked_flagTag (r : TagReason) (s : State) : threadingChecked (flagTag r s) = flagTag r (threadingChecked s) := by
  unfold threadingChecked
  split_ifs <;> first | rfl | contradiction

/-- A load that has ended, its tables and its flag left aside. -/
def profileLoaded (st : TagStatus) (kept : Option LoadRecord) (s : State) : State :=
  let u : State := { s with tag := { s.tag with status := st, rollValid := kept.isSome, load := none }
                            roll := { s.roll with tagLoad := .complete } }
  if s.index.entries = [] then applyProfile ((kept.map (·.profile)).getD s.roll.default) u else u

theorem tagLoadEnded_eq (st : TagStatus) (kept : Option LoadRecord) (s : State) :
    tagLoadEnded st kept s = flagTag .loaded
      (if s.index.entries = [] then tablesLoaded kept (profileLoaded st kept s) else profileLoaded st kept s) := by
  by_cases hempty : s.index.entries = []
  · cases kept <;> simp [tagLoadEnded, hempty, tablesLoaded, profileLoaded, applyProfile, setPitch, flagTag, flagBoth, onLinks]
  · simp [tagLoadEnded, hempty, profileLoaded, flagTag, flagBoth]

theorem profileLoaded_todo (st : TagStatus) (kept : Option LoadRecord) (s : State) : (profileLoaded st kept s).todo = s.todo := by
  unfold profileLoaded
  split_ifs <;> rfl

theorem profileLoaded_tagLoad (st : TagStatus) (kept : Option LoadRecord) (s : State) :
    (profileLoaded st kept s).roll.tagLoad = .complete := by
  unfold profileLoaded
  split_ifs <;> rfl

theorem tagLoadEnded_waiting (st : TagStatus) (kept : Option LoadRecord) (s : State) :
    (threadingChecked (tagLoadEnded st kept s)).tag.writeState = s.tag.writeState := by
  unfold threadingChecked tagLoadEnded
  split_ifs <;> rfl

/-- A load's end with the threading judged, before the write-back that waits for it. -/
def loadHanded (st : TagStatus) (kept : Option LoadRecord) (s : State) : State :=
  flagTag .loaded
    (if s.index.entries = [] then tablesLoaded kept (gaugeAndThread (profileLoaded st kept s))
    else gaugeAndThread (profileLoaded st kept s))

theorem completeLoad_handed (e : LoadEnd) (l : LoadRecord) (s : State) :
    completeLoad e l s =
      if (loadHanded (loadStatus e l) (loadKept e l) s).tag.writeState = .waiting then
        decideWrite (loadHanded (loadStatus e l) (loadKept e l) s)
      else loadHanded (loadStatus e l) (loadKept e l) s := by
  by_cases hempty : s.index.entries = [] <;> cases hread : profileRead e l <;>
    simp [completeLoad, loadHanded, loadKept, hempty, hread, profileLoaded, tablesLoaded, State.extent]

theorem threadsAlone_profileLoaded {st : TagStatus} {kept : Option LoadRecord} {s : State} (h : ThreadsAlone (tagLoadEnded st kept s)) :
    ThreadsAlone (profileLoaded st kept s) := by
  rw [tagLoadEnded_eq] at h
  split_ifs at h <;> exact h

theorem loadHanded_eq {st : TagStatus} {kept : Option LoadRecord} {s : State} (h : ThreadsAlone (tagLoadEnded st kept s)) :
    loadHanded st kept s = facing (s.todo ++ threadCalls (tagLoadEnded st kept s)) (threadingChecked (tagLoadEnded st kept s)) := by
  rw [loadHanded, gaugeAndThread_eq (profileLoaded_tagLoad st kept s) (threadsAlone_profileLoaded h), tagLoadEnded_eq,
    threadingChecked_flagTag, profileLoaded_todo]
  split_ifs
  · rw [threadingChecked_tablesLoaded]
    rfl
  · rfl

theorem completeLoad_eq (e : LoadEnd) (l : LoadRecord) {s : State} (h : ThreadsAlone (tagLoadEnded (loadStatus e l) (loadKept e l) s)) :
    completeLoad e l s =
      facing (s.todo ++ loadCalls (tagLoadEnded (loadStatus e l) (loadKept e l) s) (decide (s.tag.writeState = .waiting)))
        (tagLoadFinished (loadStatus e l) (loadKept e l) s) := by
  rw [completeLoad_handed, loadHanded_eq h]
  generalize loadStatus e l = st at h ⊢
  generalize loadKept e l = kept at h ⊢
  have hwaiting := tagLoadEnded_waiting st kept s
  rw [show (facing (s.todo ++ threadCalls (tagLoadEnded st kept s)) (threadingChecked (tagLoadEnded st kept s))).tag.writeState =
    s.tag.writeState from hwaiting]
  by_cases hwait : s.tag.writeState = .waiting
  · rw [if_pos hwait, decideWrite_eq]
    rw [writeBackDecided_facing, decideCalls_facing]
    simp only [tagLoadFinished, hwait, if_true, loadCalls, decide_true, ← List.append_assoc]
    rfl
  · simp [tagLoadFinished, hwait, loadCalls]

theorem facing_todo {l : List Signal} {s : State} (h : s.todo = l) : facing l s = s := by
  subst h
  rfl

theorem tagLoadEnded_facing (l : List Signal) (st : TagStatus) (kept : Option LoadRecord) (s : State) :
    tagLoadEnded st kept (facing l s) = facing l (tagLoadEnded st kept s) := by
  simp only [tagLoadEnded, show (facing l s).index = s.index from rfl]
  split_ifs <;> rfl

theorem tagLoadFinished_facing (l : List Signal) (st : TagStatus) (kept : Option LoadRecord) (s : State) :
    tagLoadFinished st kept (facing l s) = facing l (tagLoadFinished st kept s) := by
  have hchecked (u : State) : threadingChecked (facing l u) = facing l (threadingChecked u) := by
    simp only [threadingChecked, show (facing l u).transport = u.transport from rfl, show (facing l u).roll = u.roll from rfl,
      show (facing l u).params = u.params from rfl]
    split_ifs <;> rfl
  simp only [tagLoadFinished, tagLoadEnded_facing, hchecked, writeBackDecided_facing, show (facing l s).tag = s.tag from rfl]
  split_ifs <;> rfl

theorem tagLoadFinished_todo (st : TagStatus) (kept : Option LoadRecord) (s : State) : (tagLoadFinished st kept s).todo = s.todo := by
  have := congrArg State.todo (tagLoadFinished_facing s.todo st kept s)
  exact this

theorem tagLoadFinished_eq (st : TagStatus) (kept : Option LoadRecord) (s : State) :
    tagLoadFinished st kept s =
      if decide (s.tag.writeState = .waiting) then writeBackDecided (threadingChecked (tagLoadEnded st kept s))
      else threadingChecked (tagLoadEnded st kept s) := by
  simp only [tagLoadFinished, decide_eq_true_eq]

theorem idle_tagLoadFinished {st : TagStatus} {kept : Option LoadRecord} {s : State} (h : ThreadsAlone (tagLoadEnded st kept s)) :
    Idle (loadCalls (tagLoadEnded st kept s) (decide (s.tag.writeState = .waiting))) (tagLoadFinished st kept s) := by
  rw [tagLoadFinished_eq]
  exact idle_loadCalls h _

end Sys2Proof.Machine
end

section
/-! PROOFS. LOAD (R84): the lamp, the tag load and the pull. -/

namespace Sys2Proof.Machine

open Sys2Proof

/-! ### A stream that is closed is closed before or after -/

theorem faulted_closeStream (l : Link) (kind : FaultKind) (s : State) : faulted kind (closeStream l s) = closeStream l (faulted kind s) := by
  cases l <;> rfl

theorem unloaded_closeStream (l : Link) (s : State) : unloaded (closeStream l s) = closeStream l (unloaded s) := by
  cases l <;> rfl

theorem threadingChecked_closeStream (l : Link) (s : State) : threadingChecked (closeStream l s) = closeStream l (threadingChecked s) := by
  unfold threadingChecked
  simp only [closeStream_transport, closeStream_roll, closeStream_params]
  split_ifs <;> cases l <;> rfl

theorem tagLoadEnded_closeStream (l : Link) (st : TagStatus) (kept : Option LoadRecord) (s : State) :
    tagLoadEnded st kept (closeStream l s) = closeStream l (tagLoadEnded st kept s) := by
  unfold tagLoadEnded
  simp only [closeStream_index]
  split_ifs <;> cases l <;> rfl

theorem writeBackEnded_closeStream (l : Link) (s : State) : writeBackEnded (closeStream l s) = closeStream l (writeBackEnded s) := by
  unfold writeBackEnded
  simp only [closeStream_transport, closeStream_roll]
  split_ifs <;> cases l <;> rfl

theorem writeBackFailed_closeStream (l : Link) (s : State) : writeBackFailed (closeStream l s) = closeStream l (writeBackFailed s) := by
  rw [writeBackFailed, writeBackFailed, ← writeBackEnded_closeStream]
  cases l <;> rfl

theorem writeBackDecided_closeStream (l : Link) (s : State) :
    writeBackDecided (closeStream l s) = closeStream l (writeBackDecided s) := by
  unfold writeBackDecided
  simp only [closeStream_tag, closeStream_bus]
  split_ifs
  · exact writeBackEnded_closeStream l s
  · exact writeBackFailed_closeStream l s
  · cases l <;> rfl

theorem tagLoadFinished_closeStream (l : Link) (st : TagStatus) (kept : Option LoadRecord) (s : State) :
    tagLoadFinished st kept (closeStream l s) = closeStream l (tagLoadFinished st kept s) := by
  unfold tagLoadFinished
  simp only [tagLoadEnded_closeStream, threadingChecked_closeStream, writeBackDecided_closeStream, closeStream_tag]
  split_ifs <;> rfl

/-! ### The lamp begins to warm (R87) -/

/-- The lamp as it warms, or with LAMP_WARM 0 as lamp-OK reads (R87). -/
def litUp (s : State) : State :=
  if s.params.lampWarm ≠ 0 then
    { s with lamp := { state := .warming, warmTimer := some s.params.lampWarm }, transport := { s.transport with pulse := none } }
  else if s.lampOk = true then
    { s with lamp := { state := .on, warmTimer := none }, transport := { s.transport with pulse := none } }
  else onLinks (fun k => { k with flags := { k.flags with lamp := true } })
    { s with lamp := { state := .failed, warmTimer := none }, transport := { s.transport with pulse := none } }

/-- The lamp's neighbours read each of its changes. -/
def warmCalls (s : State) : List Signal :=
  if s.params.lampWarm ≠ 0 then [.lampChanged] else [.lampChanged, .lampChanged]

theorem enterWarming_eq (s : State) : enterWarming s = facing (s.todo ++ warmCalls s) (litUp s) := by
  by_cases hwarm : s.params.lampWarm = 0
  · cases hok : s.lampOk <;>
      simp_all [enterWarming, litUp, warmCalls, warmExpired, State.lampOk, State.input, setLamp, emit, facing, flagLamp, flagBoth, onLinks]
  · simp [enterWarming, litUp, warmCalls, hwarm, setLamp, emit, facing]

/-! What the lamp leaves as it is. -/

@[simp] theorem litUp_roll (s : State) : (litUp s).roll = s.roll := by unfold litUp; split_ifs <;> rfl

@[simp] theorem litUp_tag (s : State) : (litUp s).tag = s.tag := by unfold litUp; split_ifs <;> rfl

@[simp] theorem litUp_bus (s : State) : (litUp s).bus = s.bus := by unfold litUp; split_ifs <;> rfl

@[simp] theorem litUp_poller (s : State) : (litUp s).poller = s.poller := by unfold litUp; split_ifs <;> rfl

@[simp] theorem litUp_params (s : State) : (litUp s).params = s.params := by unfold litUp; split_ifs <;> rfl

@[simp] theorem litUp_todo (s : State) : (litUp s).todo = s.todo := by unfold litUp; split_ifs <;> rfl

theorem litUp_closeStream (l : Link) (s : State) : litUp (closeStream l s) = closeStream l (litUp s) := by
  have hok : (closeStream l s).lampOk = s.lampOk := by cases l <;> rfl
  simp only [litUp, closeStream_params, hok]
  split_ifs <;> cases l <;> rfl

/-- Where no pass and no sweep stand behind it, the lamp is read by nothing but a ready gate. -/
theorem lampChanged_alone {s : State} (hno : NoPassNoSweep s) (hstate : s.transport.state ≠ .settling)
    (hparked : s.transport.state ≠ .parked) : lampChanged s = s := by
  obtain ⟨hpass, hsweep⟩ := hno
  cases hlamp : s.lamp.state <;> simp [lampChanged, hstate, hlamp, hsweep, endPass, hpass, passLampOn, hparked]

theorem idle_warmCalls {s t : State} (h : lampChanged t = t) : Idle (warmCalls s) t := by
  intro sig hsig
  have : sig = .lampChanged := by
    unfold warmCalls at hsig
    split at hsig <;> simpa using hsig
  rw [this]
  exact h

/-! ### A tag load begins (R160) -/

/-- A tag load has begun and asks for its first record. -/
def loadBegun (s : State) : State :=
  { s with
    tag := { s.tag with
      status := .reading, rollValid := false
      load := some { next := 0, stage := .rollA, profile := builtInProfile, zones := [], checks := [] } }
    bus := { s.bus with waiting := some .read } }

theorem beginLoad_running {s : State} (h : s.bus.state ≠ .failed) : beginLoad s = loadBegun s := by
  simp [beginLoad, h, askRecord, loadBegun, emptyLoad]

theorem beginLoad_failed {s : State} (h : s.bus.state = .failed) (halone : ThreadsAlone (tagLoadEnded .failed none s)) :
    beginLoad s =
      facing (s.todo ++ loadCalls (tagLoadEnded .failed none s) (decide (s.tag.writeState = .waiting))) (tagLoadFinished .failed none s) := by
  have := completeLoad_eq .busFailed emptyLoad
    (s := { s with tag := { s.tag with status := .reading, rollValid := false, load := some emptyLoad } }) halone
  simp only [beginLoad, h, if_true]
  exact this

/-- A roll whose thread arrival is still to come is not parked by the end of its load. -/
theorem loadCalls_pulling {st : TagStatus} {kept : Option LoadRecord} {s : State} (hstate : s.transport.state = .threading)
    (htaken : s.roll.threadTaken = false) (waiting : Bool) : loadCalls (tagLoadEnded st kept s) waiting = [] := by
  have hkept : (tagLoadEnded st kept s).transport.state = .threading ∧ (tagLoadEnded st kept s).roll.threadTaken = false := by
    unfold tagLoadEnded
    split_ifs <;> exact ⟨hstate, htaken⟩
  obtain ⟨hstate', htaken'⟩ := hkept
  have hstays : (threadingChecked (tagLoadEnded st kept s)).transport.state ≠ .rewinding := by
    simp only [threadingChecked, hstate', htaken', if_true, Bool.false_eq_true, if_false]
    split_ifs
    · simp [faulted, flagTransport, flagBoth]
    · simp [hstate']
  simp [loadCalls, threadCalls, htaken', decideCalls, unloadCalls, hstays]

theorem threadsAlone_pulling {st : TagStatus} {kept : Option LoadRecord} {s : State} (hno : NoPassNoSweep s)
    (htaken : s.roll.threadTaken = false) : ThreadsAlone (tagLoadEnded st kept s) := by
  have hkept : (tagLoadEnded st kept s).roll.threadTaken = false ∧ NoPassNoSweep (tagLoadEnded st kept s) := by
    unfold tagLoadEnded
    split_ifs <;> exact ⟨htaken, hno⟩
  exact fun _ => ⟨fun _ => hkept.2, fun _ h => absurd h (by simp [hkept.1])⟩

/-! ### LOAD is accepted (R84) -/

/-- The transport as an accepted LOAD enters THREADING. -/
def threadingEntered (s : State) : State :=
  { s with transport := { s.transport with state := .threading }, roll := { s.roll with threadTaken := false, idleTimer := none } }

/-- The tag load a LOAD asks for, where none has been asked for yet (R160). -/
def tagLoadAsked (s : State) : State :=
  let reading : State := { s with roll := { s.roll with tagLoad := .running } }
  if s.roll.tagLoad ≠ .none then s
  else if s.tag.status = .reading then reading
  else if s.tag.writeState = .writing then { reading with tag := { s.tag with loadAfterWrite := true } }
  else if s.bus.state = .failed then tagLoadFinished .failed none s
  else loadBegun reading

theorem threadingChecked_kept (s : State) : (threadingChecked s).poller = s.poller ∧ (threadingChecked s).params = s.params ∧
    (threadingChecked s).bus.nextByte = s.bus.nextByte := by
  unfold threadingChecked
  split_ifs <;> exact ⟨rfl, rfl, rfl⟩

theorem tagLoadEnded_kept (st : TagStatus) (kept : Option LoadRecord) (s : State) :
    (tagLoadEnded st kept s).poller = s.poller ∧ (tagLoadEnded st kept s).params = s.params ∧
      (tagLoadEnded st kept s).bus.nextByte = s.bus.nextByte := by
  unfold tagLoadEnded
  split_ifs <;> exact ⟨rfl, rfl, rfl⟩

theorem writeBackDecided_kept (s : State) : (writeBackDecided s).poller = s.poller ∧ (writeBackDecided s).params = s.params ∧
    (writeBackDecided s).bus.nextByte = s.bus.nextByte := by
  unfold writeBackDecided writeBackFailed writeBackEnded
  dsimp only
  split_ifs <;> exact ⟨rfl, rfl, rfl⟩

theorem tagLoadFinished_kept (st : TagStatus) (kept : Option LoadRecord) (s : State) :
    (tagLoadFinished st kept s).poller = s.poller ∧ (tagLoadFinished st kept s).params = s.params ∧
      (tagLoadFinished st kept s).bus.nextByte = s.bus.nextByte := by
  unfold tagLoadFinished
  dsimp only
  split_ifs
  · simp only [writeBackDecided_kept, threadingChecked_kept, tagLoadEnded_kept, and_self]
  · simp only [threadingChecked_kept, tagLoadEnded_kept, and_self]

theorem tagLoadAsked_kept (s : State) : (tagLoadAsked s).poller = s.poller ∧ (tagLoadAsked s).params = s.params ∧
    (tagLoadAsked s).bus.nextByte = s.bus.nextByte := by
  unfold tagLoadAsked
  dsimp only
  split_ifs
  iterate 3 exact ⟨rfl, rfl, rfl⟩
  · exact tagLoadFinished_kept _ _ s
  · exact ⟨rfl, rfl, rfl⟩

/-- The pull begins where the transport is still THREADING, or the tension faults it (R70, R85). -/
def pulled (s : State) : State :=
  if s.transport.state ≠ .threading then s
  else if tensionOut s.poller.values = true then faulted .tension s
  else
    { s with transport := { s.transport with capstan := some .forward, reels := .tension }
             roll := { s.roll with threadTimer := some s.params.threadTime } }

theorem startPull_eq {s : State} (hno : NoPassNoSweep s) : startPull s = pulled s := by
  by_cases hstate : s.transport.state = .threading
  · by_cases hout : tensionOut s.poller.values = true
    · simp [startPull, pulled, hstate, hout, enterFaulted_alone .tension hno]
    · simp [startPull, pulled, hstate, hout]
  · simp [startPull, pulled, hstate]

theorem pulled_closeStream (l : Link) (s : State) : pulled (closeStream l s) = closeStream l (pulled s) := by
  unfold pulled
  simp only [closeStream_transport, closeStream_poller, faulted_closeStream]
  split_ifs <;> cases l <;> rfl

theorem tagLoadAsked_closeStream (l : Link) (s : State) : tagLoadAsked (closeStream l s) = closeStream l (tagLoadAsked s) := by
  unfold tagLoadAsked
  simp only [closeStream_roll, closeStream_tag, closeStream_bus, tagLoadFinished_closeStream]
  split_ifs <;> cases l <;> rfl

theorem threadingEntered_closeStream (l : Link) (s : State) : threadingEntered (closeStream l s) = closeStream l (threadingEntered s) := by
  cases l <;> rfl

/-- In the pull, the tag load that LOAD asks for sets nothing off. -/
theorem startTagLoad_pulling {s : State} (hno : NoPassNoSweep s) (hstate : s.transport.state = .threading)
    (htaken : s.roll.threadTaken = false) : (if s.roll.tagLoad = .none then startTagLoad s else s) = tagLoadAsked s := by
  by_cases hload : s.roll.tagLoad = .none
  · by_cases hreading : s.tag.status = .reading
    · simp [startTagLoad, tagLoadAsked, hload, hreading]
    · by_cases hwriting : s.tag.writeState = .writing
      · simp [startTagLoad, tagLoadAsked, hload, hreading, hwriting]
      · by_cases hbus : s.bus.state = .failed
        · simp only [startTagLoad, tagLoadAsked, hload, hreading, hwriting, hbus, if_false, if_true, ne_eq, not_true_eq_false]
          rw [beginLoad_failed (by exact hbus) (threadsAlone_pulling (by exact hno) (by exact htaken)),
            loadCalls_pulling (by exact hstate) (by exact htaken)]
          simp only [List.append_nil]
          exact facing_todo (tagLoadFinished_todo _ _ s)
        · simp [startTagLoad, tagLoadAsked, hload, hreading, hwriting, beginLoad_running, hbus]
  · simp [tagLoadAsked, hload]

theorem tagLoadAsked_facing (l : List Signal) (s : State) : tagLoadAsked (facing l s) = facing l (tagLoadAsked s) := by
  simp only [tagLoadAsked, show (facing l s).roll = s.roll from rfl, show (facing l s).tag = s.tag from rfl,
    show (facing l s).bus = s.bus from rfl, tagLoadFinished_facing]
  split_ifs <;> rfl

theorem pulled_facing (l : List Signal) (s : State) : pulled (facing l s) = facing l (pulled s) := by
  simp only [pulled, show (facing l s).transport = s.transport from rfl, show (facing l s).poller = s.poller from rfl]
  split_ifs <;> rfl

/-- The pull goes on, or has been faulted. -/
def Pulling (s : State) : Prop := NoPassNoSweep s ∧ (s.transport.state = .threading ∨ s.transport.state = .faulted)

theorem lampChanged_pulling {s : State} (h : Pulling s) : lampChanged s = s := by
  obtain ⟨hno, hstate⟩ := h
  refine lampChanged_alone hno ?_ ?_ <;> rcases hstate with h | h <;> simp [h]

theorem tagLoadEnded_pulling {st : TagStatus} {kept : Option LoadRecord} {s : State} (h : Pulling s) :
    Pulling (tagLoadEnded st kept s) := by
  unfold tagLoadEnded
  split_ifs <;> exact h

theorem faulted_pulling {kind : FaultKind} {s : State} (h : Pulling s) : Pulling (faulted kind s) := ⟨h.1, .inr rfl⟩

theorem threadingChecked_pulling {s : State} (h : Pulling s) (htaken : s.roll.threadTaken = false) : Pulling (threadingChecked s) := by
  unfold threadingChecked
  simp only [htaken, Bool.false_eq_true, if_false]
  split_ifs
  · exact faulted_pulling h
  · exact h
  · exact h

theorem writeBackDecided_pulling {s : State} (h : Pulling s) : Pulling (writeBackDecided s) := by
  have hstate : s.transport.state ≠ .rewinding := by rcases h.2 with h | h <;> simp [h]
  unfold writeBackDecided writeBackFailed
  rw [writeBackEnded_away hstate, writeBackEnded_away (s := onLinks _ s) hstate]
  split_ifs <;> exact h

theorem tagLoadFinished_pulling {st : TagStatus} {kept : Option LoadRecord} {s : State} (h : Pulling s)
    (htaken : s.roll.threadTaken = false) : Pulling (tagLoadFinished st kept s) := by
  have hchecked : Pulling (threadingChecked (tagLoadEnded st kept s)) := by
    refine threadingChecked_pulling (tagLoadEnded_pulling h) ?_
    unfold tagLoadEnded
    split_ifs <;> exact htaken
  unfold tagLoadFinished
  dsimp only
  split_ifs
  · exact writeBackDecided_pulling hchecked
  · exact hchecked

theorem tagLoadAsked_pulling {s : State} (h : Pulling s) (htaken : s.roll.threadTaken = false) : Pulling (tagLoadAsked s) := by
  unfold tagLoadAsked
  dsimp only
  split_ifs
  iterate 3 exact h
  · exact tagLoadFinished_pulling h htaken
  · exact h

theorem pulled_pulling {s : State} (h : Pulling s) : Pulling (pulled s) := by
  unfold pulled
  split_ifs
  · exact h
  · exact faulted_pulling h
  · exact h

theorem loadAccepted_eq {s : State} (hq : Quiet s) (hno : NoPassNoSweep s) :
    loadAccepted s = facing (warmCalls s) (pulled (tagLoadAsked (litUp (threadingEntered s)))) := by
  have hentered : enterState .threading { s with roll := { s.roll with threadTaken := false } } = threadingEntered s := rfl
  have hlit : enterWarming (threadingEntered s) = facing (warmCalls s) (litUp (threadingEntered s)) := by
    rw [enterWarming_eq, show (threadingEntered s).todo = [] from hq]
    rfl
  have hkept : NoPassNoSweep (litUp (threadingEntered s)) ∧ (litUp (threadingEntered s)).transport.state = .threading ∧
      (litUp (threadingEntered s)).roll.threadTaken = false := by
    unfold litUp
    split_ifs <;> exact ⟨hno, rfl, rfl⟩
  obtain ⟨hno', hstate, htaken⟩ := hkept
  simp only [loadAccepted, hentered, hlit]
  rw [startTagLoad_pulling (by exact hno') (by exact hstate) (by exact htaken), tagLoadAsked_facing,
    startPull_eq (by exact (tagLoadAsked_pulling ⟨hno', .inl hstate⟩ htaken).1), pulled_facing]

/-- What an accepted LOAD leads to, on a part without a pass and a sweep. -/
def loaded (s : State) : State := pulled (tagLoadAsked (litUp (threadingEntered s)))

theorem litUp_pulling {s : State} (h : Pulling s) (htaken : s.roll.threadTaken = false) :
    Pulling (litUp s) ∧ (litUp s).roll.threadTaken = false := by
  unfold litUp
  split_ifs <;> exact ⟨h, htaken⟩

theorem loaded_pulling {s : State} (hno : NoPassNoSweep s) : Pulling (loaded s) := by
  obtain ⟨hlit, htaken⟩ := litUp_pulling (s := threadingEntered s) ⟨hno, .inl rfl⟩ rfl
  exact pulled_pulling (tagLoadAsked_pulling hlit htaken)

theorem loaded_closeStream (l : Link) (s : State) : loaded (closeStream l s) = closeStream l (loaded s) := by
  simp only [loaded, threadingEntered_closeStream, litUp_closeStream, tagLoadAsked_closeStream, pulled_closeStream]

theorem loaded_quiet {s : State} (hq : Quiet s) : Quiet (loaded s) := by
  have hlit : Quiet (litUp (threadingEntered s)) := (litUp_todo _).trans hq
  have hasked := congrArg State.todo (tagLoadAsked_facing [] (litUp (threadingEntered s)))
  have hpulled := congrArg State.todo (pulled_facing [] (tagLoadAsked (litUp (threadingEntered s))))
  rw [facing_nil hlit] at hasked
  rw [facing_nil (by exact hasked)] at hpulled
  exact hpulled

theorem load_taken {s : State} (hround : s.poller.firstRoundDone = true) (hroll : s.roll.cartridge = true)
    (hempty : s.transport.state = .empty) (hdoor : s.doorClosed = true)
    (hgauge : s.roll.tagLoad = .complete → s.roll.active.gauge = s.params.stationGauge) :
    load s = (loadAccepted s, refuse .accepted) := by
  simp only [load, hround, hroll, hempty, hdoor, Bool.true_eq_false, if_false, ne_eq, not_true_eq_false, or_self]
  rw [if_neg (fun h => h.2 (hgauge h.1))]

/-- What an accepted LOAD leads to where a tag load stands already and the lamp takes time to warm. -/
def pullBegun (s : State) : State :=
  { s with
    transport := { s.transport with state := .threading, capstan := some .forward, reels := .tension, pulse := none }
    lamp := { state := .warming, warmTimer := some s.params.lampWarm }
    roll := { s.roll with threadTaken := false, idleTimer := none, threadTimer := some s.params.threadTime } }

theorem loadAccepted_warms {s : State} (hq : Quiet s) (hload : s.roll.tagLoad ≠ .none) (htension : tensionOut s.poller.values = false)
    (hwarm : s.params.lampWarm ≠ 0) : loadAccepted s = facing [.lampChanged] (pullBegun s) := by
  simp [loadAccepted, enterState, lampOnEntering, enterWarming_eq, litUp, warmCalls, hwarm, hload, startPull, facing, htension,
    show s.todo = [] from hq, pullBegun]

/-- Settles O26. -/
theorem loadThreads : Obligations.LoadThreads := by
  refine ⟨?_, ?_, ?_, ?_, ?_, ?_⟩
  · intro l s hq hempty hround hroll hdoor hload hgauge htension hwarm
    refine request_taken (x := pullBegun s) (new := [.lampChanged]) (r := refuse .accepted) ?_
      (leads_lamp_dark (answered_quiet _ _ _ _ hq) (by simp [pullBegun]) (.inr (by simp [pullBegun]))) (by omega)
    rw [load_taken (by simpa using hround) (by simpa using hroll) (by simpa using hempty) (by cases l <;> exact hdoor)
      (by simpa using hgauge), loadAccepted_warms (closeStream_quiet l hq) (by simpa using hload) (by simpa using htension)
      (by simpa using hwarm)]
    cases l <;> rfl
  · intro l s hq hempty hround hroll hdoor hgauge hno entered lit reading asked
    have hlit : lit = litUp (threadingEntered s) := by
      simp only [lit, litUp]
      rfl
    have hasked : asked = tagLoadAsked lit := by
      simp only [asked, reading, tagLoadAsked, hlit, litUp_roll, litUp_tag, litUp_bus]
      rfl
    have hpulled : (if asked.transport.state ≠ .threading then asked
        else if tensionOut s.poller.values = true then faulted .tension asked
        else { asked with transport := { asked.transport with capstan := some .forward, reels := .tension }
                          roll := { asked.roll with threadTimer := some s.params.threadTime } }) = loaded s := by
      rw [loaded, pulled, hasked, hlit, (tagLoadAsked_kept _).1, (tagLoadAsked_kept _).2.1, litUp_poller, litUp_params]
      rfl
    rw [hpulled]
    refine request_taken (x := loaded s) (new := warmCalls s) (r := refuse .accepted) ?_ ?_ (n := (warmCalls s).length) ?_
    · rw [load_taken (by simpa using hround) (by simpa using hroll) (by simpa using hempty) (by cases l <;> exact hdoor)
        (by simpa using hgauge), loadAccepted_eq (closeStream_quiet l hq) (by cases l <;> exact hno)]
      have hcalls : warmCalls (closeStream l s) = warmCalls s := by cases l <;> rfl
      rw [hcalls]
      exact congrArg (fun t => (facing (warmCalls s) t, refuse .accepted)) (loaded_closeStream l s)
    · have hpulling : Pulling (answered l (refuse .accepted).code 0x05#8 (refuse .accepted).contents (loaded s)) := by
        cases l <;> exact loaded_pulling hno
      exact leads_idle (answered_quiet _ _ _ _ (loaded_quiet hq)) (idle_warmCalls (lampChanged_pulling hpulling))
    · unfold warmCalls
      split_ifs <;> simp
  · intro l s hq hround
    refine request_answered l _ _ s (refuse .busy) hq ?_
    simp [load, hround]
  · intro l s hq hround hroll
    refine request_answered l _ _ s (refuse .noRoll) hq ?_
    simp [load, hround, hroll]
  · intro l s hq hround hroll hstate
    refine request_answered l _ _ s (refuse .state) hq ?_
    have hdoor : (closeStream l s).doorClosed = s.doorClosed := by cases l <;> rfl
    simp only [load, closeStream_poller, closeStream_roll, closeStream_transport, hround, hroll, hdoor, Bool.true_eq_false, if_false]
    rw [if_pos hstate]
  · intro l s hq hround hroll hempty hdoor hload hgauge
    refine request_answered l _ _ s (refuse .mismatch) hq ?_
    have hclosed : (closeStream l s).doorClosed = true := by cases l <;> exact hdoor
    simp [load, hround, hroll, hempty, hload, hgauge, hclosed]

end Sys2Proof.Machine
end

section
/-! PROOFS. UNLOAD (R92, R93, R167) and the list of a write-back (R168 to R170). -/

namespace Sys2Proof.Machine

open Sys2Proof

/-! ### The list of a write-back (R168 to R170) -/

/-- The OBSERVED entries at multiples of a number, with their frames (R168). -/
def observedAt (interval : Nat) (l : List (Nat × Entry)) : List (Nat × Entry) :=
  l.filter (fun x => x.2.source == .observed && x.1 % interval == 0)

/-- The CHECK record of an entry, with its frame. -/
def entryRecord (x : Nat × Entry) : Nat × TagRecord := (x.1, checkRecord x.1 x.2.position x.2.cls)

theorem indexCandidates_eq (interval k : Nat) (es : List Entry) :
    indexCandidates interval k es = (observedAt interval (es.mapIdx fun j e => (j + k, e))).map entryRecord := by
  induction es generalizing k with
  | nil => rfl
  | cons e es ih =>
    have hshift : (fun (j : Nat) (e : Entry) => (j + 1 + k, e)) = fun j e => (j + (k + 1), e) := by
      funext j e
      rw [Nat.add_assoc, Nat.add_comm 1 k]
    rw [indexCandidates, ih, List.mapIdx_cons, Nat.zero_add, hshift, observedAt, observedAt, List.filter_cons]
    by_cases htaken : e.source = .observed ∧ k % interval = 0
    · simp [htaken, entryRecord]
    · have : (e.source == .observed && k % interval == 0) = false := by simpa using htaken
      simp [htaken, this]

/-- What stands at multiples of the double interval stands at multiples of the interval. -/
theorem observedAt_double (interval : Nat) (l : List (Nat × Entry)) :
    (observedAt interval l).filter (fun x => x.1 % (2 * interval) == 0) = observedAt (2 * interval) l := by
  rw [observedAt, List.filter_filter, observedAt]
  refine List.filter_congr fun x _ => ?_
  have hmul : x.1 % (2 * interval) = 0 → x.1 % interval = 0 := fun h =>
    Nat.mod_eq_zero_of_dvd ((Nat.dvd_mul_left interval 2).trans (Nat.dvd_of_mod_eq_zero h))
  by_cases h : x.1 % (2 * interval) = 0
  · simp [h, hmul h]
  · rw [beq_false_of_ne h, Bool.false_and, Bool.and_false]

theorem thin_eq (fuel c m n kept : Nat) (l : List (Nat × Entry)) (hle : m ≤ n) (hfuel : n ≤ m + fuel)
    (hfits : (observedAt (c * 2 ^ n) l).length + kept ≤ 96)
    (hleast : ∀ j, j < n → ¬ (observedAt (c * 2 ^ j) l).length + kept ≤ 96) :
    thin fuel (c * 2 ^ m) kept ((observedAt (c * 2 ^ m) l).map entryRecord) = (observedAt (c * 2 ^ n) l).map entryRecord := by
  induction fuel generalizing m with
  | zero =>
    obtain rfl : m = n := by omega
    rfl
  | succ fuel ih =>
    have hmax : Config.maxCheckpoints = 96 := rfl
    rw [thin, List.length_map, hmax]
    by_cases hm : (observedAt (c * 2 ^ m) l).length + kept ≤ 96
    · obtain rfl : m = n := by
        by_contra hne
        exact hleast m (by omega) hm
      rw [if_pos hm]
    · have hlt : m < n := by
        by_contra hge
        obtain rfl : m = n := by omega
        exact hm hfits
      have hdouble : 2 * (c * 2 ^ m) = c * 2 ^ (m + 1) := by ring
      have hkept : ((observedAt (c * 2 ^ m) l).map entryRecord).filter (fun x => x.1 % (2 * (c * 2 ^ m)) == 0) =
          (observedAt (c * 2 ^ (m + 1)) l).map entryRecord := by
        rw [List.filter_map, ← hdouble, ← observedAt_double]
        rfl
      rw [if_neg hm, hkept, hdouble]
      exact ih (m + 1) hlt (by omega)

/-- No frame of the index is a multiple of a number beyond it. -/
theorem observedAt_beyond {c : Nat} {es : List Entry} (h : es.length ≤ 16384) :
    observedAt (c * 2 ^ 16) (es.mapIdx fun j e => (j + 1, e)) = [] := by
  rw [observedAt, List.filter_eq_nil_iff]
  intro x hx
  obtain ⟨j, hj, rfl⟩ := List.mem_mapIdx.mp hx
  have hmod : (j + 1) % (c * 65536) ≠ 0 := by
    rcases Nat.eq_zero_or_pos c with rfl | hc
    · simp
    · rw [Nat.mod_eq_of_lt (by omega)]
      omega
  simp [hmod]

theorem numbered_eq (n : Nat) (l : List TagRecord) : numbered n l = l.mapIdx fun j x => (n + j, x) := by
  induction l generalizing n with
  | nil => rfl
  | cons r rs ih =>
    have hshift : (fun (j : Nat) (x : TagRecord) => (n + (j + 1), x)) = fun j x => (n + 1 + j, x) := by
      funext j x
      rw [Nat.add_assoc, Nat.add_comm 1 j]
    rw [numbered, ih, List.mapIdx_cons, hshift]
    rfl

/-- The records with the interval doubled as often as needed and no oftener (R168, R169). -/
theorem writeList_eq {s : State} {n : Nat} {kept : List Checkpoint} (hlength : s.index.entries.length ≤ 16384)
    (hkept : kept = s.index.checkpoints.filter (fun c => decide (s.index.entries.length < c.frame) && c.state != .diverged))
    (hfits : (observedAt (s.params.checkInterval * 2 ^ n) (s.index.entries.mapIdx fun j e => (j + 1, e))).length + kept.length ≤ 96)
    (hleast : ∀ m, m < n →
      ¬ (observedAt (s.params.checkInterval * 2 ^ m) (s.index.entries.mapIdx fun j e => (j + 1, e))).length + kept.length ≤ 96) :
    s.writeList = s.zones.map zoneRecord ++
      (observedAt (s.params.checkInterval * 2 ^ n) (s.index.entries.mapIdx fun j e => (j + 1, e))).map
        (fun x => checkRecord x.1 x.2.position x.2.cls) ++ kept.map (fun c => checkRecord c.frame c.position c.cls) := by
  have hn : n ≤ 16 := by
    by_contra hbeyond
    have := hleast 16 (by omega)
    rw [observedAt_beyond hlength] at this
    simp only [List.length_nil] at this
    omega
  have hthin := thin_eq 16 s.params.checkInterval 0 n kept.length (s.index.entries.mapIdx fun j e => (j + 1, e)) (Nat.zero_le n)
    (by omega) hfits hleast
  simp only [pow_zero, Nat.mul_one] at hthin
  have hcands : keptCandidates s.extent s.index.checkpoints = kept.map (fun c => checkRecord c.frame c.position c.cls) := by
    rw [hkept]
    rfl
  simp only [State.writeList, hcands, List.length_map, indexCandidates_eq, hthin, List.map_map]
  rfl

/-! ### UNLOAD is accepted (R92, R93) -/

theorem onUnload_eq (x : Slot) : x.onUnload = if x.resting then x else x.endedReached .unloaded := by
  simp only [Slot.onUnload, Slot.resting, Bool.or_eq_true, beq_iff_eq]

/-- The rewind has begun, and the write-back is still to be decided. -/
def rewound (s : State) : State :=
  { s with
    slots := s.slots.map (fun x => if x.resting then x else x.endedReached .unloaded)
    sched := { s.sched with grant := .none }
    marks := { s.marks with inProgress := none }
    transport := { s.transport with
      state := .rewinding, fault := .none, faultInThreading := false, capstan := some .reverse,
      reels := .winding, stallTimer := some s.params.stallTime,
      move := some { newMove .rewind none 0 none with
        leg := { direction := .reverse, cls := .shuttle, stop := .unbounded } } }
    roll := { s.roll with idleTimer := none, wakeCount := none, tensionTimer := none, rewindTaken := false,
                          writeBackTaken := false } }

/-- The same from STANDBY, where the tension timer runs first. -/
def tensioned (s : State) : State :=
  { s with
    slots := s.slots.map (fun x => if x.resting then x else x.endedReached .unloaded)
    sched := { s.sched with grant := .none }
    transport := { s.transport with
      state := .rewinding, fault := .none, faultInThreading := false, reels := .tension }
    roll := { s.roll with idleTimer := none, wakeCount := none, tensionTimer := some 500, rewindTaken := false,
                          writeBackTaken := false } }

theorem unloadAccepted_rewinds {s : State} (hsweep : s.sweep.active = none) (htail : s.input 3 = false)
    (hstate : s.transport.state ≠ .standby) : unloadAccepted s = writeStart (rewound s) := by
  have htail' : s.poller.values.getLsbD 3 = false := htail
  simp only [unloadAccepted, cancelQueued, endSweepBare, hsweep, enterState, lampOnEntering, rewindStart, State.input, htail',
    hstate, funext onUnload_eq, decide_false, Bool.false_eq_true, if_false, rewindDrive, discardMark, rewound, reduceCtorEq]
  rfl

theorem unloadAccepted_tensions {s : State} (hsweep : s.sweep.active = none) (htail : s.input 3 = false)
    (hstate : s.transport.state = .standby) : unloadAccepted s = writeStart (tensioned s) := by
  have htail' : s.poller.values.getLsbD 3 = false := htail
  simp only [unloadAccepted, cancelQueued, endSweepBare, hsweep, enterState, lampOnEntering, rewindStart, State.input, htail',
    hstate, funext onUnload_eq, decide_true, if_true, Bool.false_eq_true, if_false, tensioned, reduceCtorEq]
  rfl

/-- A rewind that has not ended takes the write-back's end, and is not ended by it. -/
theorem writeBackEnded_rewinding {s : State} (hstate : s.transport.state = .rewinding) (htaken : s.roll.rewindTaken = false) :
    writeBackEnded s = { s with tag := { s.tag with writeState := .idle, writePlan := [] }
                                roll := { s.roll with writeBackTaken := true } } := by
  simp [writeBackEnded, hstate, htaken]

theorem writeBackDecided_todo (s : State) : (writeBackDecided s).todo = s.todo := by
  have := congrArg State.todo (writeBackDecided_facing s.todo s)
  exact this

theorem writeStart_decides {s : State} (hwriting : s.tag.writeState ≠ .writing) (hreading : s.tag.status ≠ .reading)
    (htaken : s.roll.rewindTaken = false) : writeStart s = writeBackDecided s := by
  have hcalls : decideCalls s = [] := by simp [decideCalls, unloadCalls, htaken]
  rw [writeStart, if_neg hwriting, if_neg hreading, decideWrite_eq, hcalls, List.append_nil]
  exact facing_todo (writeBackDecided_todo s)

/-- The roll may be unloaded by this request (R92). -/
theorem unload_taken {s : State} (hpass : s.pass.state = .idle)
    (hstate : s.transport.state = .parked ∨ s.transport.state = .standby ∨ s.transport.state = .faulted)
    (hroll : s.roll.cartridge = true) (hdoor : s.doorClosed = true) (htension : tensionOut s.poller.values = false) :
    unload s = (unloadAccepted s, refuse .accepted) := by
  rcases hstate with h | h | h <;> simp [unload, hpass, h, hroll, hdoor, htension]

theorem rewound_closeStream (l : Link) (s : State) : rewound (closeStream l s) = closeStream l (rewound s) := by
  cases l <;> rfl

theorem tensioned_closeStream (l : Link) (s : State) : tensioned (closeStream l s) = closeStream l (tensioned s) := by
  cases l <;> rfl

/-- An UNLOAD that is taken, with what its write-back leaves. -/
theorem exec_unload {l : Link} {s u : State} (hpass : s.pass.state = .idle)
    (hstate : s.transport.state = .parked ∨ s.transport.state = .standby ∨ s.transport.state = .faulted)
    (hroll : s.roll.cartridge = true) (hdoor : s.doorClosed = true) (htension : tensionOut s.poller.values = false)
    (h : unloadAccepted (closeStream l s) = closeStream l u) (hu : Quiet u) :
    exec (.unload l) s = .next (answered l .accepted 0x06#8 .empty u) := by
  refine request_taken (x := u) (new := []) (r := refuse .accepted) ?_ (Leads.done (answered_quiet _ _ _ _ hu)) (Nat.zero_le _)
  rw [unload_taken (by simpa using hpass) (by simpa using hstate) (by simpa using hroll) (by cases l <;> exact hdoor)
    (by simpa using htension), h, facing_nil (closeStream_quiet l hu)]

/-- An UNLOAD from PARKED or FAULTED whose write-back is decided at once. -/
theorem exec_unload_decided {l : Link} {s : State} (hq : Quiet s) (hpass : s.pass.state = .idle)
    (hstate : s.transport.state = .parked ∨ s.transport.state = .faulted)
    (hroll : s.roll.cartridge = true) (hdoor : s.doorClosed = true) (htension : tensionOut s.poller.values = false)
    (htail : s.input 3 = false) (hsweep : s.sweep.active = none) (hwriting : s.tag.writeState ≠ .writing)
    (hreading : s.tag.status ≠ .reading) :
    exec (.unload l) s = .next (answered l .accepted 0x06#8 .empty (writeBackDecided (rewound s))) := by
  have hstandby : s.transport.state ≠ .standby := by rcases hstate with h | h <;> simp [h]
  refine exec_unload hpass (hstate.imp_right .inr) hroll hdoor htension ?_ ?_
  · rw [unloadAccepted_rewinds (by simpa using hsweep) (by cases l <;> exact htail) (by simpa using hstandby), rewound_closeStream,
      writeStart_decides (by simpa [rewound] using hwriting) (by simpa [rewound] using hreading) (by simp [rewound]),
      writeBackDecided_closeStream]
  · exact (writeBackDecided_todo _).trans hq

/-- Settles O27. -/
theorem unloadRewinds : Obligations.UnloadRewinds := by
  unfold Obligations.UnloadRewinds
  intro away free
  refine ⟨?_, ?_, ?_, ?_, ?_, ?_, ?_⟩
  · intro l s hq hfree hreading hclean
    obtain ⟨hpass, hstate, hroll, hdoor, htension, htail, hsweep, hwriting⟩ := hfree
    have hnone : (rewound s).tag.status = .absent ∨ (rewound s).tag.status = .none ∨ (rewound s).tag.dirty = false := by
      rcases hclean with h | h | h
      exacts [.inr (.inr h), .inr (.inl h), .inl h]
    rw [exec_unload_decided hq hpass hstate hroll hdoor htension htail hsweep hwriting hreading, writeBackDecided, if_pos hnone,
      writeBackEnded_rewinding rfl rfl]
    rfl
  · intro l s hq hfree hreading
    obtain ⟨hpass, hstate, hroll, hdoor, htension, htail, hsweep, hwriting⟩ := hfree
    have hstandby : s.transport.state ≠ .standby := by rcases hstate with h | h <;> simp [h]
    refine exec_unload hpass (hstate.imp_right .inr) hroll hdoor htension ?_ hq
    rw [unloadAccepted_rewinds (by simpa using hsweep) (by cases l <;> exact htail) (by simpa using hstandby), rewound_closeStream,
      writeStart, if_neg (by simpa [rewound] using hwriting), if_pos (by simpa [rewound] using hreading)]
    cases l <;> rfl
  · intro l s hq hfree hdirty hbus hstatus
    obtain ⟨hpass, hstate, hroll, hdoor, htension, htail, hsweep, hwriting⟩ := hfree
    have hreading : s.tag.status ≠ .reading := by rcases hstatus with h | h | h <;> simp [h]
    have hsome : ¬ ((rewound s).tag.status = .absent ∨ (rewound s).tag.status = .none ∨ (rewound s).tag.dirty = false) := by
      rcases hstatus with h | h | h <;> simp [rewound, h, hdirty]
    rw [exec_unload_decided hq hpass hstate hroll hdoor htension htail hsweep hwriting hreading, writeBackDecided, if_neg hsome,
      if_pos (by exact hbus), writeBackFailed, writeBackEnded_rewinding rfl rfl]
    rfl
  · intro l n s hq hfree hdirty hbus hstatus hlength found kept fits hfits hleast records body roll
    obtain ⟨hpass, hstate, hroll, hdoor, htension, htail, hsweep, hwriting⟩ := hfree
    have hreading : s.tag.status ≠ .reading := by rcases hstatus with h | h | h <;> simp [h]
    have hsome : ¬ ((rewound s).tag.status = .absent ∨ (rewound s).tag.status = .none ∨ (rewound s).tag.dirty = false) := by
      rcases hstatus with h | h | h <;> simp [rewound, h, hdirty]
    have hlist : (rewound s).writeList = records := writeList_eq (s := rewound s) (n := n) (kept := kept) hlength rfl hfits hleast
    have hwrites : (rewound s).writes = (3, endRecord) :: (body ++ roll) := by
      simp only [State.writes, hlist, body]
      cases records with
      | nil => rfl
      | cons r rs =>
        simp only [listWrites, numbered_eq, List.append_assoc]
        rfl
    rw [exec_unload_decided hq hpass hstate hroll hdoor htension htail hsweep hwriting hreading, writeBackDecided, if_neg hsome,
      if_neg (by exact hbus), hwrites]
    rfl
  · intro l s hq hpass hstate hroll hdoor htension htail hsweep hwriting hreading hdirty
    have hnone : (tensioned s).tag.status = .absent ∨ (tensioned s).tag.status = .none ∨ (tensioned s).tag.dirty = false :=
      .inr (.inr hdirty)
    refine exec_unload hpass (.inr (.inl hstate)) hroll hdoor htension ?_ hq
    rw [unloadAccepted_tensions (by simpa using hsweep) (by cases l <;> exact htail) (by simpa using hstate), tensioned_closeStream,
      writeStart_decides (by simpa [tensioned] using hwriting) (by simpa [tensioned] using hreading) (by simp [tensioned]),
      writeBackDecided_closeStream, writeBackDecided, if_pos hnone, writeBackEnded_rewinding rfl rfl]
    rfl
  · intro l s hq hbarred
    refine request_answered l _ _ s (refuse .state) hq ?_
    rw [unload, if_pos (by simpa using hbarred)]
  · intro l s hq hpass hstate hroll
    refine request_answered l _ _ s (refuse .noRoll) hq ?_
    rcases hstate with h | h | h <;> simp [unload, hpass, h, hroll]

end Sys2Proof.Machine
end

section
/-! PROOFS. The end of a tag record transfer (R160 to R163, R170, R171, R173) and bus faults (R180 to R182). -/

namespace Sys2Proof.Machine

open Sys2Proof

/-! ### The transfer on the bus and the suppressions -/

/-- The transfer on the bus is another, and the suppressions with it. -/
def transferSet (x : Option Transfer) (n : Nat) (timer : Option Nat) (p : Suppress → Suppress) (s : State) : State :=
  onLinks (fun k => { k with suppress := p k.suppress }) { s with bus := { s.bus with transfer := x, attempts := n, timer := timer } }

section
variable (x : Option Transfer) (n : Nat) (timer : Option Nat) (p : Suppress → Suppress) (s : State)

theorem tagLoadEnded_transferSet (st : TagStatus) (kept : Option LoadRecord) :
    tagLoadEnded st kept (transferSet x n timer p s) = transferSet x n timer p (tagLoadEnded st kept s) := by
  simp only [tagLoadEnded, show (transferSet x n timer p s).index = s.index from rfl]
  split_ifs <;> rfl

theorem threadingChecked_transferSet :
    threadingChecked (transferSet x n timer p s) = transferSet x n timer p (threadingChecked s) := by
  simp only [threadingChecked, show (transferSet x n timer p s).transport = s.transport from rfl,
    show (transferSet x n timer p s).roll = s.roll from rfl, show (transferSet x n timer p s).params = s.params from rfl]
  split_ifs <;> rfl

theorem writeBackEnded_transferSet : writeBackEnded (transferSet x n timer p s) = transferSet x n timer p (writeBackEnded s) := by
  simp only [writeBackEnded, show (transferSet x n timer p s).transport = s.transport from rfl,
    show (transferSet x n timer p s).roll = s.roll from rfl]
  split_ifs <;> rfl

theorem writeBackFailed_transferSet : writeBackFailed (transferSet x n timer p s) = transferSet x n timer p (writeBackFailed s) :=
  writeBackEnded_transferSet x n timer p (onLinks (fun k => { k with flags := { k.flags with tag := some .writeFailed } }) s)

theorem writeBackDecided_transferSet :
    writeBackDecided (transferSet x n timer p s) = transferSet x n timer p (writeBackDecided s) := by
  simp only [writeBackDecided, show (transferSet x n timer p s).tag = s.tag from rfl,
    show (transferSet x n timer p s).bus.state = s.bus.state from rfl, writeBackEnded_transferSet, writeBackFailed_transferSet]
  split_ifs <;> rfl

theorem tagLoadFinished_transferSet (st : TagStatus) (kept : Option LoadRecord) :
    tagLoadFinished st kept (transferSet x n timer p s) = transferSet x n timer p (tagLoadFinished st kept s) := by
  simp only [tagLoadFinished, tagLoadEnded_transferSet, threadingChecked_transferSet, writeBackDecided_transferSet,
    show (transferSet x n timer p s).tag = s.tag from rfl]
  split_ifs <;> rfl

end

/-- The transfer has ended, and the next is still to begin. -/
def transferEnded (s : State) : State := { s with bus := { s.bus with transfer := none, timer := none } }

theorem transferEnded_eq (s : State) : transferEnded s = transferSet none s.bus.attempts none id s := rfl

/-- A suppression that waits for the round begins with it (R179). -/
def roundSuppress (begins : Prop) [Decidable begins] (q : Suppress) : Suppress := if begins ∧ q = .waiting then .inRound else q

/-- The next poll byte is in progress (R173, R179). -/
def pollBegun (s : State) : State :=
  transferSet (some .poll) 0 (some s.params.auxTimeout) (roundSuppress (s.bus.nextByte = 0)) s

theorem beginTransfer_poll (s : State) : beginTransfer .poll s = pollBegun s := by
  by_cases h : s.bus.nextByte = 0
  · simp [beginTransfer, pollBegun, transferSet, roundSuppress, h, onLinks]
  · simp [beginTransfer, pollBegun, transferSet, roundSuppress, h, onLinks]

theorem recordEnded_eq (take : State → State) (s : State) : recordEnded take s = pollBegun (take (transferEnded s)) :=
  beginTransfer_poll _

/-- The next poll byte begins, and the wait for a record is this one. -/
def onwards (w : Option RecordTransfer) (s : State) : State :=
  onLinks (fun k => { k with suppress := if s.bus.nextByte = 0 ∧ k.suppress = .waiting then .inRound else k.suppress })
    { s with bus := { s.bus with transfer := some .poll, waiting := w, attempts := 0, timer := some s.params.auxTimeout } }

theorem onwards_same (s : State) : onwards s.bus.waiting s = pollBegun s := rfl

theorem pollBegun_facing (l : List Signal) (s : State) : pollBegun (facing l s) = facing l (pollBegun s) := rfl

/-- The next poll byte begins as well before what the end of a load makes of the part as after it. -/
theorem pollBegun_tagLoadFinished (st : TagStatus) (kept : Option LoadRecord) (s : State) :
    pollBegun (tagLoadFinished st kept (transferEnded s)) = tagLoadFinished st kept (pollBegun s) := by
  obtain ⟨-, hparams, hnext⟩ := tagLoadFinished_kept st kept (transferEnded s)
  rw [pollBegun, hparams, hnext, transferEnded_eq, tagLoadFinished_transferSet, pollBegun, tagLoadFinished_transferSet]
  rfl

theorem loadCalls_transferSet (x : Option Transfer) (n : Nat) (timer : Option Nat) (p : Suppress → Suppress) (u : State)
    (waiting : Bool) : loadCalls (transferSet x n timer p u) waiting = loadCalls u waiting := by
  rw [loadCalls, threadingChecked_transferSet]
  rfl

theorem loadCalls_length (u : State) (waiting : Bool) : (loadCalls u waiting).length ≤ 2 := by
  unfold loadCalls threadCalls decideCalls unloadCalls
  split_ifs <;> simp

/-- A read whose record ends the load (R161 to R163). -/
theorem exec_load_ends {a : Bool} {r : TagRecord} {s : State} {e : LoadEnd} {l : LoadRecord} (hq : Quiet s)
    (hbus : s.bus.state = .running) (htransfer : s.bus.transfer = some (.record .read))
    (hends : recordRead a r (transferEnded s) = completeLoad e l (transferEnded s))
    (halone : ThreadsAlone (tagLoadEnded (loadStatus e l) (loadKept e l) s)) :
    exec (.tagRecordRead a r) s = .next (tagLoadFinished (loadStatus e l) (loadKept e l) (onwards s.bus.waiting s)) := by
  rw [onwards_same]
  have halone' (x : Option Transfer) (n : Nat) (timer : Option Nat) (p : Suppress → Suppress) :
      ThreadsAlone (tagLoadEnded (loadStatus e l) (loadKept e l) (transferSet x n timer p s)) := by
    rw [tagLoadEnded_transferSet]
    exact halone
  refine takes_next (new := loadCalls (tagLoadEnded (loadStatus e l) (loadKept e l) s) (decide (s.tag.writeState = .waiting)))
    (z := tagLoadFinished (loadStatus e l) (loadKept e l) (pollBegun s)) ?_ (leads_idle ?_ ?_) ((loadCalls_length _ _).trans (by omega))
  · have htaken : transferring (.record .read) s = true := by simp [transferring, hbus, htransfer]
    have hended : ThreadsAlone (tagLoadEnded (loadStatus e l) (loadKept e l) (transferEnded s)) := by
      rw [transferEnded_eq]
      exact halone' _ _ _ _
    rw [if_pos htaken, recordEnded_eq, hends, completeLoad_eq e l hended, pollBegun_facing,
      pollBegun_tagLoadFinished, transferEnded_eq, tagLoadEnded_transferSet, loadCalls_transferSet]
    rw [show (transferSet none s.bus.attempts none id s).todo = [] from hq, List.nil_append]
    rfl
  · exact (tagLoadFinished_todo _ _ _).trans hq
  · have := idle_tagLoadFinished (halone' (some .poll) 0 (some s.params.auxTimeout) (roundSuppress (s.bus.nextByte = 0)))
    rw [tagLoadEnded_transferSet, loadCalls_transferSet] at this
    exact this

/-! ### Records read (R161, R162) -/

theorem rollTaken_iff (l : LoadRecord) : l.rollTaken = true ↔ l.stage = .zones ∨ l.stage = .checks := by
  simp [LoadRecord.rollTaken]

theorem loadKept_early (l : LoadRecord) : loadKept .early l = if l.stage = .zones ∨ l.stage = .checks then some l else none := by
  simp only [loadKept, profileRead, rollTaken_iff]

theorem recordRead_refused {r : TagRecord} {s : State} {l : LoadRecord} (hload : s.tag.load = some l) :
    recordRead false r s = completeLoad (if l.next = 0 then .notAcknowledged else .early) l s := by
  simp [recordRead, hload]

theorem recordRead_invalid {r : TagRecord} {s : State} {l : LoadRecord} (hload : s.tag.load = some l) (hr : readRecord r = none) :
    recordRead true r s = completeLoad .early l s := by
  simp [recordRead, hload, hr]

theorem recordRead_item {r : TagRecord} {s : State} {l : LoadRecord} {x : TagItem} (hload : s.tag.load = some l)
    (hr : readRecord r = some x) : recordRead true r s = takeRecord x l s := by
  simp [recordRead, hload, hr]

/-- A record's contents as the stage takes them (R161). -/
def itemTaken (l : LoadRecord) (x : TagItem) : Option LoadRecord :=
  match x with
  | .rollA i ld =>
    if l.stage = .rollA then some { l with stage := .rollB, profile := { l.profile with rollId := i, leader := ld } } else none
  | .rollB p g m a =>
    if l.stage = .rollB then
      some { l with stage := .rollC, profile := { l.profile with pitch := p, gateOffset := g, minMark := m, gauge := a } }
    else none
  | .rollC d b f =>
    if l.stage = .rollC then
      some { l with stage := .zones, profile := { l.profile with tDoc := d, tBatch := b, defaultStep := f } }
    else none
  | .zone st sp _ q =>
    if l.stage = .zones ∧ (∀ z ∈ l.zones.getLast?, z.start < st) ∧ l.zones.length < 32 then
      some { l with zones := l.zones ++ [{ start := st, step := sp, source := .tag, quality := q }] }
    else none
  | .check k p c =>
    if (l.stage = .zones ∨ l.stage = .checks) ∧ (∀ y ∈ l.checks.getLast?, y.frame < k) ∧ l.checks.length < 96 then
      some { l with stage := .checks, checks := l.checks ++ [{ frame := k, position := p, cls := c, state := .unverified }] }
    else none
  | .endMark => none

theorem takeItem_eq (x : TagItem) (l : LoadRecord) : takeItem x l = itemTaken l x := by
  have hzones : Config.maxZones = 32 := rfl
  have hchecks : Config.maxCheckpoints = 96 := rfl
  cases x with
  | rollA i ld => cases h : l.stage <;> simp [takeItem, itemTaken, h]
  | rollB p g m a => cases h : l.stage <;> simp [takeItem, itemTaken, h]
  | rollC d b f => cases h : l.stage <;> simp [takeItem, itemTaken, h]
  | zone st sp src q =>
    cases h : l.stage <;> cases hlast : l.zones.getLast? <;> simp [takeItem, itemTaken, h, hlast, hzones]
  | check k p c =>
    cases h : l.stage <;> cases hlast : l.checks.getLast? <;> simp [takeItem, itemTaken, h, hlast, hchecks, LoadRecord.rollTaken]
  | endMark => cases h : l.stage <;> simp [takeItem, itemTaken, h]

/-- A record that the load takes is kept, and the next one is asked for (R161). -/
theorem takeRecord_kept {x : TagItem} {l m : LoadRecord} {s : State} (h : itemTaken l x = some m) (hnext : l.next < 255) :
    takeRecord x l s =
      askRecord .read { s with tag := { s.tag with load := some { m with next := l.next + 1 }
                                                   rollValid := s.tag.rollValid || m.rollTaken } } := by
  have hend : ¬ (x = .endMark ∧ l.rollTaken = true) := by
    rintro ⟨rfl, -⟩
    cases h
  have hmore : ¬ 255 ≤ l.next := by omega
  simp only [takeRecord, hend, if_false, takeItem_eq, h, hmore]

/-- The last record that a load can take ends it (R161). -/
theorem takeRecord_last {x : TagItem} {l m : LoadRecord} {s : State} (h : itemTaken l x = some m) (hnext : 255 ≤ l.next) :
    takeRecord x l s = completeLoad .early m s := by
  have hend : ¬ (x = .endMark ∧ l.rollTaken = true) := by
    rintro ⟨rfl, -⟩
    cases h
  simp only [takeRecord, hend, if_false, takeItem_eq, h, hnext, if_true]

/-- A record that the stage does not take ends the load (R161). -/
theorem takeRecord_refused {x : TagItem} {l : LoadRecord} {s : State} (h : itemTaken l x = none)
    (hend : ¬ (x = .endMark ∧ l.rollTaken = true)) : takeRecord x l s = completeLoad .early l s := by
  simp only [takeRecord, hend, if_false, takeItem_eq, h]

/-! ### Records written (R170, R171) -/

/-- A load put off until the write-back's end begins (R160, log 43). -/
def deferredBegun (v : State) : State :=
  { v with
    roll := { v.roll with tagLoad := .running }
    bus := { v.bus with waiting := some .read }
    tag := { v.tag with
      loadAfterWrite := false, status := .reading, rollValid := false
      load := some { next := 0, stage := .rollA, profile := builtInProfile, zones := [], checks := [] } } }

theorem deferredLoad_running {v : State} (hbus : v.bus.state ≠ .failed) (hidle : v.tag.writeState = .idle) :
    deferredLoad v = if v.tag.loadAfterWrite then deferredBegun v else v := by
  cases h : v.tag.loadAfterWrite
  · simp [deferredLoad, h]
  · rw [deferredLoad, if_pos ⟨h, hidle⟩, beginLoad_running (by exact hbus), if_pos rfl]
    rfl

theorem writeBackEnded_kept (s : State) :
    (writeBackEnded s).params = s.params ∧ (writeBackEnded s).bus.nextByte = s.bus.nextByte ∧ (writeBackEnded s).bus.state = s.bus.state ∧
      (writeBackEnded s).tag.loadAfterWrite = s.tag.loadAfterWrite ∧ (writeBackEnded s).tag.writeState = .idle ∧
      (writeBackEnded s).todo = s.todo := by
  unfold writeBackEnded
  dsimp only
  split_ifs <;> exact ⟨rfl, rfl, rfl, rfl, rfl, rfl⟩

theorem deferredBegun_transferSet (x : Option Transfer) (n : Nat) (timer : Option Nat) (p : Suppress → Suppress) (v : State) :
    deferredBegun (transferSet x n timer p v) = transferSet x n timer p (deferredBegun v) := rfl

/-- The end of a write-back on a bus that runs, with the load put off behind it and the next poll byte. -/
theorem pollBegun_written {v : State} (hbus : v.bus.state ≠ .failed) (l : List Signal) :
    pollBegun (deferredLoad (facing l (writeBackEnded (transferEnded v)))) =
      facing l (if v.tag.loadAfterWrite then deferredBegun (writeBackEnded (pollBegun v)) else writeBackEnded (pollBegun v)) := by
  obtain ⟨hparams, hnext, hstate, hafter, hidle, -⟩ := writeBackEnded_kept (transferEnded v)
  obtain ⟨hparams', hnext', -⟩ := writeBackEnded_kept v
  have hdone : deferredLoad (facing l (writeBackEnded (transferEnded v))) =
      if v.tag.loadAfterWrite then deferredBegun (facing l (writeBackEnded (transferEnded v)))
      else facing l (writeBackEnded (transferEnded v)) := by
    rw [deferredLoad_running (v := facing l (writeBackEnded (transferEnded v))) (by rw [show (facing l (writeBackEnded (transferEnded v))).bus.state = _ from hstate]; exact hbus) hidle,
      show (facing l (writeBackEnded (transferEnded v))).tag.loadAfterWrite = v.tag.loadAfterWrite from hafter]
  have hpoll : pollBegun (writeBackEnded (transferEnded v)) = writeBackEnded (pollBegun v) := by
    rw [pollBegun, hparams, hnext, transferEnded_eq, writeBackEnded_transferSet, pollBegun, writeBackEnded_transferSet]
    rfl
  rw [hdone]
  split_ifs
  · rw [← hpoll]
    rfl
  · rw [← hpoll]
    rfl

/-- A write whose end ends the write-back (R170, R171). -/
theorem exec_write_ends {a : Bool} {s v : State} (hq : Quiet v) (hbus : v.bus.state = .running)
    (hs : s.bus.state = .running) (htransfer : s.bus.transfer = some (.record .write))
    (hends : recordWritten a (transferEnded s) = deferredLoad (writeReported (transferEnded v))) :
    exec (.tagRecordWrite a) s =
      .next (if v.tag.loadAfterWrite then deferredBegun (writeBackEnded (pollBegun v)) else writeBackEnded (pollBegun v)) := by
  refine takes_next (new := unloadCalls v)
    (z := if v.tag.loadAfterWrite then deferredBegun (writeBackEnded (pollBegun v)) else writeBackEnded (pollBegun v)) ?_
    (leads_idle ?_ ?_) ?_
  · have htaken : transferring (.record .write) s = true := by simp [transferring, hs, htransfer]
    rw [if_pos htaken, recordEnded_eq, hends, writeReported_eq, show (transferEnded v).todo = [] from hq, List.nil_append,
      pollBegun_written (by simp [hbus])]
    rfl
  · have hquiet : Quiet (writeBackEnded (pollBegun v)) := (writeBackEnded_kept (pollBegun v)).2.2.2.2.2.trans hq
    split_ifs <;> exact hquiet
  · refine idle_unloadCalls v fun hstate htaken => ?_
    have := writeBackEnded_unloaded (s := pollBegun v) hstate htaken
    split_ifs <;> exact this
  · unfold unloadCalls
    split_ifs <;> simp

theorem recordWritten_refused {s : State} (hwriting : s.tag.writeState = .writing) :
    recordWritten false s = deferredLoad (writeFailed s) := by
  simp [recordWritten, hwriting]

theorem recordWritten_next {s : State} {x y : Nat × TagRecord} {rest : List (Nat × TagRecord)} (hwriting : s.tag.writeState = .writing)
    (hplan : s.tag.writePlan = x :: y :: rest) :
    recordWritten true s = askRecord .write { s with tag := { s.tag with writePlan := y :: rest } } := by
  simp [recordWritten, hwriting, hplan]

theorem recordWritten_last {s : State} {x : Nat × TagRecord} (hwriting : s.tag.writeState = .writing) (hplan : s.tag.writePlan = [x]) :
    recordWritten true s = deferredLoad (writeReported { s with tag := { s.tag with dirty := false } }) := by
  simp [recordWritten, hwriting, hplan]

/-- A read that leaves the load going (R161, R173). -/
theorem exec_record_plain {a : Bool} {r : TagRecord} {s t : State} (htaken : transferring (.record .read) s = true)
    (h : pollBegun (recordRead a r (transferEnded s)) = t) (ht : Quiet t) : exec (.tagRecordRead a r) s = .next t := by
  refine takes_next (new := []) (z := t) ?_ (Leads.done ht) (by omega)
  rw [if_pos htaken, recordEnded_eq, h, facing_nil ht]

/-- Settles O59. -/
theorem tagRecordsAreTaken : Obligations.TagRecordsAreTaken := by
  unfold Obligations.TagRecordsAreTaken
  intro onward
  refine ⟨?_, ?_, ?_, ?_⟩
  · intro l r s hq hbus htransfer hload go rolled taken ends
    have htaken : taken = (readRecord r).bind (itemTaken l) := by
      simp only [taken, itemTaken]
      cases readRecord r with
      | none => rfl
      | some x => cases x <;> rfl
    have hrolled (m : LoadRecord) : rolled m ↔ m.rollTaken = true := (rollTaken_iff m).symm
    have hload' : (transferEnded s).tag.load = some l := hload
    have hkept (m : LoadRecord) : loadKept .early m = if rolled m then some m else none := loadKept_early m
    have hitem (x : TagItem) (hx : readRecord r = some x) : taken = itemTaken l x := by rw [htaken, hx]; rfl
    have hfound (m : LoadRecord) (hm : taken = some m) : ∃ x, readRecord r = some x ∧ itemTaken l x = some m := by
      cases hx : readRecord r with
      | none => simp [htaken, hx] at hm
      | some x => exact ⟨x, rfl, by rw [← hitem x hx, hm]⟩
    refine ⟨?_, ?_, ?_, ?_, ?_, ?_⟩
    · intro m hm hnext
      obtain ⟨x, hx, htakes⟩ := hfound m hm
      have hvalid : (s.tag.rollValid || m.rollTaken) = if rolled m then true else s.tag.rollValid := by
        by_cases h : rolled m
        · simp [h, (hrolled m).mp h]
        · have : m.rollTaken = false := by simpa [hrolled] using h
          simp [h, this]
      refine exec_record_plain (by simp [transferring, hbus, htransfer]) ?_ (by exact hq)
      rw [recordRead_item hload' hx, ← hvalid]
      exact congrArg pollBegun (takeRecord_kept htakes hnext)
    · intro m hm hnext halone
      obtain ⟨x, hx, htakes⟩ := hfound m hm
      rw [← hkept m] at halone ⊢
      refine exec_load_ends (e := .early) hq hbus htransfer ?_ halone
      rw [recordRead_item hload' hx]
      exact takeRecord_last htakes hnext
    · intro hnone hend halone
      rw [← hkept l] at halone ⊢
      refine exec_load_ends (e := .early) hq hbus htransfer ?_ halone
      cases hx : readRecord r with
      | none => exact recordRead_invalid hload' hx
      | some x =>
        rw [recordRead_item hload' hx]
        refine takeRecord_refused ((hitem x hx).symm.trans hnone) fun h => hend ⟨?_, (hrolled l).mpr h.2⟩
        rw [hx, h.1]
    · intro hr hl halone
      have hroll := (hrolled l).mp hl
      have hst : loadStatus .atEnd l = .valid := by simp [loadStatus, hroll]
      have hk : loadKept .atEnd l = some l := by simp [loadKept, profileRead, hroll]
      rw [← hst, ← hk] at halone ⊢
      refine exec_load_ends (e := .atEnd) hq hbus htransfer ?_ halone
      rw [recordRead_item hload' hr]
      simp [takeRecord, hroll]
    · intro hnext halone
      refine exec_load_ends (e := .notAcknowledged) (l := l) hq hbus htransfer ?_ halone
      rw [recordRead_refused hload', if_pos hnext]
    · intro hnext halone
      rw [← hkept l] at halone ⊢
      refine exec_load_ends (e := .early) hq hbus htransfer ?_ halone
      rw [recordRead_refused hload', if_neg hnext]
  · intro a r s hq hbus htransfer hload
    refine exec_record_plain (by simp [transferring, hbus, htransfer]) ?_ (by exact hq)
    have hplain : recordRead a r (transferEnded s) = transferEnded s := by
      simp only [recordRead, show (transferEnded s).tag.load = none from hload]
    rw [hplain]
    rfl
  · intro s hq hbus htransfer hwriting written
    have hwriting' : (transferEnded s).tag.writeState = .writing := hwriting
    refine ⟨?_, ?_, ?_⟩
    · intro x y rest hplan
      refine takes_next (new := []) ?_ (Leads.done (by exact hq)) (by omega)
      rw [if_pos (by simp [transferring, hbus, htransfer]), recordEnded_eq, recordWritten_next hwriting' (by exact hplan)]
      exact (facing_nil (by exact hq)).symm
    · intro x hplan
      refine exec_write_ends (v := { s with tag := { s.tag with dirty := false } }) hq hbus hbus htransfer ?_
      exact recordWritten_last hwriting' (by exact hplan)
    · refine exec_write_ends (v := onLinks (fun k => { k with flags := { k.flags with tag := some .writeFailed } }) s) hq hbus hbus
        htransfer ?_
      exact recordWritten_refused hwriting'
  · intro a r s hq
    refine ⟨fun h => ?_, fun h => ?_⟩
    · have hnot : transferring (.record .read) s = false := by
        rcases h with h | h <;> simp [transferring, h]
      refine takes_next (new := []) ?_ (Leads.done hq) (by omega)
      rw [hnot, facing_nil hq]
      rfl
    · have hnot : transferring (.record .write) s = false := by
        rcases h with h | h <;> simp [transferring, h]
      refine takes_next (new := []) ?_ (Leads.done hq) (by omega)
      rw [hnot, facing_nil hq]
      rfl

end Sys2Proof.Machine
end

section
/-! PROOFS. Bus faults (R180 to R182). -/

namespace Sys2Proof.Machine

open Sys2Proof

/-- The bus as it fails, before the tag load and the write-back that wait on it end (R182). -/
def busDown (s : State) : State :=
  onLinks (fun k => { k with suppress := .none, flags := { k.flags with transport := some .aux } })
    { s with bus := { s.bus with state := .failed, transfer := none, waiting := none, attempts := 0, timer := none }
             poller := { s.poller with stale := 0xFF#8 } }

theorem busFailed_eq (s : State) :
    busFailed s = if (tagBusFailed (busDown s)).poller.firstRoundDone then tagBusFailed (busDown s)
      else firstRoundComplete (tagBusFailed (busDown s)) := rfl

/-- A bus that fails with nothing of the tag in progress. -/
theorem tagBusFailed_plain {s : State} (hload : s.tag.load = none) (hwrite : s.tag.writeState ≠ .writing) : tagBusFailed s = s := by
  simp [tagBusFailed, hload, hwrite]

theorem writeBackDecided_failed {s : State} (hbus : s.bus.state = .failed) : (writeBackDecided s).tag.writeState = .idle := by
  unfold writeBackDecided
  split_ifs with hnone
  · exact (writeBackEnded_kept s).2.2.2.2.1
  · exact (writeBackEnded_kept (onLinks _ s)).2.2.2.2.1

theorem threadingEnded_bus (st : TagStatus) (kept : Option LoadRecord) (s : State) :
    (threadingChecked (tagLoadEnded st kept s)).bus = s.bus := by
  unfold threadingChecked tagLoadEnded
  split_ifs <;> rfl

theorem tagLoadFinished_failed {st : TagStatus} {kept : Option LoadRecord} {s : State} (hbus : s.bus.state = .failed)
    (hwrite : s.tag.writeState ≠ .writing) : (tagLoadFinished st kept s).tag.writeState ≠ .writing := by
  unfold tagLoadFinished
  dsimp only
  split_ifs
  · rw [writeBackDecided_failed (by rw [threadingEnded_bus]; exact hbus)]
    decide
  · rw [tagLoadEnded_waiting]
    exact hwrite

theorem tagLoadFinished_away {st : TagStatus} {kept : Option LoadRecord} {s : State} (hstate : s.transport.state ≠ .threading)
    (hwrite : s.tag.writeState ≠ .waiting) : tagLoadFinished st kept s = tagLoadEnded st kept s := by
  have hkept : (tagLoadEnded st kept s).transport.state ≠ .threading := by
    unfold tagLoadEnded
    split_ifs <;> exact hstate
  simp only [tagLoadFinished, hwrite, if_false, threadingChecked, hkept]

/-- A tag load in progress ends FAILED with the bus (R162). -/
theorem tagBusFailed_load {s : State} {l : LoadRecord} (hq : Quiet s) (hbus : s.bus.state = .failed) (hload : s.tag.load = some l)
    (hwrite : s.tag.writeState ≠ .writing) (halone : ThreadsAlone (tagLoadEnded .failed none s)) :
    tagBusFailed s = facing (loadCalls (tagLoadEnded .failed none s) (decide (s.tag.writeState = .waiting))) (tagLoadFinished .failed none s) := by
  have hended := completeLoad_eq .busFailed l halone
  have hidle : (completeLoad .busFailed l s).tag.writeState ≠ .writing := by
    rw [hended]
    exact tagLoadFinished_failed hbus hwrite
  simp only [tagBusFailed, hload, hidle, if_false]
  rw [hended, show s.todo = [] from hq]
  rfl

/-- A write-back in progress ends WRITE_FAILED with the bus (R171). -/
theorem tagBusFailed_write {s : State} (hq : Quiet s) (hload : s.tag.load = none) (hwrite : s.tag.writeState = .writing)
    (hafter : s.tag.loadAfterWrite = false) : tagBusFailed s = facing (unloadCalls s) (writeBackFailed s) := by
  have hnone : (writeBackFailed s).tag.loadAfterWrite = false := ((writeBackEnded_kept (onLinks _ s)).2.2.2.1).trans hafter
  simp only [tagBusFailed, hload, hwrite, if_true]
  rw [writeFailed_eq, show s.todo = [] from hq, List.nil_append, deferredLoad, if_neg]
  rintro ⟨h, -⟩
  rw [show (facing (unloadCalls s) (writeBackFailed s)).tag.loadAfterWrite = _ from hnone] at h
  cases h

theorem unloadCalls_length (s : State) : (unloadCalls s).length ≤ 1 := by
  unfold unloadCalls
  split_ifs <;> simp

theorem writeBackFailed_poller (s : State) : (writeBackFailed s).poller = s.poller := by
  unfold writeBackFailed writeBackEnded
  dsimp only
  split_ifs <;> rfl

/-- The load put off behind the write-back is to begin. -/
def putOffTaken (v : State) : State := { v with tag := { v.tag with loadAfterWrite := false } }

/-- The load put off begins from here. -/
def putOffAsked (v : State) : State := { putOffTaken v with roll := { v.roll with tagLoad := .running } }

theorem tagLoadEnded_putOffAsked (st : TagStatus) (kept : Option LoadRecord) (v : State) :
    tagLoadEnded st kept (putOffAsked v) = tagLoadEnded st kept (putOffTaken v) := by
  simp only [tagLoadEnded, show (putOffAsked v).index = (putOffTaken v).index from rfl]
  split_ifs <;> rfl

theorem tagLoadFinished_putOffAsked (st : TagStatus) (kept : Option LoadRecord) (v : State) :
    tagLoadFinished st kept (putOffAsked v) = tagLoadFinished st kept (putOffTaken v) := by
  simp only [tagLoadFinished, tagLoadEnded_putOffAsked]
  rfl

/-- The same with a load put off behind it, which is made and ends FAILED at once (R160). -/
theorem tagBusFailed_deferred {s : State} (hq : Quiet s) (hbus : s.bus.state = .failed) (hload : s.tag.load = none)
    (hwrite : s.tag.writeState = .writing) (hafter : s.tag.loadAfterWrite = true)
    (halone : ThreadsAlone (tagLoadEnded .failed none (putOffTaken (writeBackFailed s)))) :
    tagBusFailed s = facing (unloadCalls s ++ loadCalls (tagLoadEnded .failed none (putOffTaken (writeBackFailed s))) false)
      (tagLoadFinished .failed none (putOffTaken (writeBackFailed s))) := by
  obtain ⟨-, -, hkept, hput, hidle, -⟩ :=
    writeBackEnded_kept (onLinks (fun k => { k with flags := { k.flags with tag := some .writeFailed } }) s)
  have hput' : (writeBackFailed s).tag.loadAfterWrite = true := hput.trans hafter
  have hidle' : (writeBackFailed s).tag.writeState = .idle := hidle
  have hbus' : (writeBackFailed s).bus.state = .failed := hkept.trans hbus
  have hfails : beginLoad (facing (unloadCalls s) (putOffAsked (writeBackFailed s))) =
      facing (unloadCalls s ++ loadCalls (tagLoadEnded .failed none (putOffTaken (writeBackFailed s))) false)
        (tagLoadFinished .failed none (putOffTaken (writeBackFailed s))) := by
    have hended : tagLoadEnded .failed none (facing (unloadCalls s) (putOffAsked (writeBackFailed s))) =
        facing (unloadCalls s) (tagLoadEnded .failed none (putOffTaken (writeBackFailed s))) := by
      rw [← tagLoadEnded_putOffAsked]
      exact tagLoadEnded_facing _ _ _ _
    rw [beginLoad_failed (by exact hbus') (by rw [hended]; exact halone), hended, tagLoadFinished_facing, tagLoadFinished_putOffAsked,
      show decide ((facing (unloadCalls s) (putOffAsked (writeBackFailed s))).tag.writeState = .waiting) = false from
        decide_eq_false (by rw [show (facing _ (putOffAsked (writeBackFailed s))).tag.writeState = _ from hidle']; decide)]
    rfl
  simp only [tagBusFailed, hload, hwrite, if_true]
  rw [writeFailed_eq, show s.todo = [] from hq, List.nil_append, deferredLoad, if_pos ⟨hput', hidle'⟩]
  exact hfails

/-- What ends with the bus sets nothing off. -/
theorem idle_putOff {s : State} (halone : ThreadsAlone (tagLoadEnded .failed none (putOffTaken (writeBackFailed s)))) :
    Idle (unloadCalls s ++ loadCalls (tagLoadEnded .failed none (putOffTaken (writeBackFailed s))) false)
      (tagLoadFinished .failed none (putOffTaken (writeBackFailed s))) := by
  have hidle : (writeBackFailed s).tag.writeState = .idle := (writeBackEnded_kept (onLinks _ s)).2.2.2.2.1
  have hwait : decide ((putOffTaken (writeBackFailed s)).tag.writeState = .waiting) = false :=
    decide_eq_false (by rw [show (putOffTaken (writeBackFailed s)).tag.writeState = _ from hidle]; decide)
  refine Idle.append (idle_unloadCalls s fun hstate htaken => ?_) ?_
  · obtain ⟨hlamp, hempty⟩ := writeBackEnded_unloaded
      (s := onLinks (fun k => { k with flags := { k.flags with tag := some .writeFailed } }) s) hstate htaken
    have hempty' : (putOffTaken (writeBackFailed s)).transport.state = .empty := hempty
    rw [tagLoadFinished_away (by simp [hempty']) (by simpa using hwait)]
    unfold tagLoadEnded
    split_ifs <;> exact ⟨hlamp, hempty⟩
  · have := idle_tagLoadFinished halone
    rw [hwait] at this
    exact this

theorem busFailed_done {s : State} (h : (tagBusFailed (busDown s)).poller.firstRoundDone = true) :
    busFailed s = tagBusFailed (busDown s) := by
  rw [busFailed_eq, if_pos h]

/-- A fault on a transfer with three attempts: whether a poll byte was STALE before, it is now. -/
theorem busFault_fails {s : State} (h : 3 ≤ s.bus.attempts) : busFault s = busFailed s := by
  by_cases hpoll : s.bus.transfer = some .poll
  · simp only [busFault, hpoll, if_true, show (markStale s.bus.nextByte s).bus = s.bus from rfl, h]
    rfl
  · simp only [busFault, hpoll, if_false, h, if_true]

/-- The first round ends with no film in the gate (R95, R176). -/
theorem firstRoundComplete_bare {s : State} (hfilm : s.filmInGate = false) :
    firstRoundComplete s =
      { s with poller := { s.poller with firstRoundDone := true }, roll := { s.roll with cartridge := s.poller.values.getLsbD 0 }
               tracker := { s.tracker with level := .drifting, good := 0, miss := 0 } } := by
  have hnot : ¬ s.filmInGate = true := by simp [hfilm]
  exact (if_neg hnot).trans rfl

/-- Settles O60. -/
theorem busFaults : Obligations.BusFaults := by
  unfold Obligations.BusFaults
  intro s hq failed fails
  have hfails (out : Host.Outcome State Fault Refusal) (hout : out = .next (finish (busFailed s))) : fails out := by
    refine ⟨fun hload hwrite => ?_, fun hround => ⟨fun l hload hwrite halone => ?_, fun hload hwrite => ⟨fun hafter => ?_, ?_⟩⟩⟩
    · have hplain : tagBusFailed (busDown s) = busDown s := tagBusFailed_plain hload hwrite
      refine ⟨fun hround => ?_, fun hround hfilm => ?_⟩
      · rw [hout, busFailed_done (by rw [hplain]; exact hround), hplain, finish_quiet _ (by exact hq)]
        rfl
      · rw [hout, busFailed_eq, hplain, if_neg (by simp [show (busDown s).poller.firstRoundDone = false from hround]),
          firstRoundComplete_bare (by exact hfilm), finish_quiet _ (by exact hq)]
        rfl
    · have hended := tagBusFailed_load (s := busDown s) hq rfl hload hwrite halone
      rw [hout, busFailed_done (by rw [hended]; exact (congrArg _ (tagLoadFinished_kept _ _ _).1).trans hround), hended]
      exact congrArg _ (finish_of_leads (leads_idle ((tagLoadFinished_todo _ _ _).trans hq) (idle_tagLoadFinished halone))
        ((loadCalls_length _ _).trans (by omega)))
    · have hended := tagBusFailed_write (s := busDown s) hq hload hwrite hafter
      have hround' : (writeBackFailed (busDown s)).poller.firstRoundDone = true := by
        rw [writeBackFailed_poller]
        exact hround
      rw [hout, busFailed_done (by rw [hended]; exact hround'), hended]
      refine congrArg _ (finish_of_leads (leads_idle ((writeBackEnded_kept (onLinks _ (busDown s))).2.2.2.2.2.trans hq) ?_) ?_)
      · exact idle_unloadCalls _ fun hstate htaken => writeBackEnded_unloaded (s := onLinks _ (busDown s)) hstate htaken
      · exact (unloadCalls_length _).trans (by omega)
    · intro hafter u halone
      have hended := tagBusFailed_deferred (s := busDown s) hq rfl hload hwrite hafter halone
      have hround' : (tagLoadFinished .failed none (putOffTaken (writeBackFailed (busDown s)))).poller.firstRoundDone = true := by
        rw [(tagLoadFinished_kept _ _ _).1]
        exact (congrArg Poller.firstRoundDone (writeBackFailed_poller (busDown s))).trans hround
      rw [hout, busFailed_done (by rw [hended]; exact hround'), hended]
      refine congrArg _ (finish_of_leads (leads_idle ?_ (idle_putOff halone)) ?_)
      · exact (tagLoadFinished_todo _ _ _).trans ((writeBackEnded_kept (onLinks _ (busDown s))).2.2.2.2.2.trans hq)
      · rw [List.length_append]
        have := loadCalls_length (tagLoadEnded .failed none (putOffTaken (writeBackFailed (busDown s)))) false
        have := unloadCalls_length (busDown s)
        omega
  refine ⟨fun hbus htimer => ⟨fun hfew => ⟨fun hpoll => ?_, fun hpoll => ?_⟩, fun hmany => hfails _ ?_⟩,
    fun hbus => ⟨?_, fun hfew => ?_, fun htwo => hfails _ ?_⟩⟩
  · refine takes_next (new := []) ?_ (Leads.done (by exact hq)) (by omega)
    rw [facing_nil (by exact hq), if_pos ⟨hbus, Option.isSome_iff_ne_none.mpr htimer⟩]
    have : ¬ 3 ≤ s.bus.attempts := by omega
    simp [busFault, hpoll, this, markStale]
  · refine takes_next (new := []) ?_ (Leads.done (by exact hq)) (by omega)
    rw [facing_nil (by exact hq), if_pos ⟨hbus, Option.isSome_iff_ne_none.mpr htimer⟩]
    have : ¬ 3 ≤ s.bus.attempts := by omega
    simp [busFault, hpoll, this]
  · show takes _ s = _
    rw [takes, if_pos ⟨hbus, Option.isSome_iff_ne_none.mpr htimer⟩, busFault_fails hmany]
  · refine takes_next (new := []) ?_ (Leads.done (by exact hq)) (by omega)
    rw [facing_nil (by exact hq), if_pos hbus]
    rfl
  · refine takes_next (new := []) ?_ (Leads.done (by exact hq)) (by omega)
    rw [facing_nil (by exact hq), if_pos hbus]
    have : s.bus.attempts + 1 < 3 := by omega
    simp [recoveryEnded, this]
  · show takes _ s = _
    rw [takes, if_pos hbus]
    simp [recoveryEnded, htwo]

end Sys2Proof.Machine
end

section
/-! PROOFS. The thread, warm and tension timers, and the grant that WAKING has held (R50, R85, R87, R91, R93). -/

namespace Sys2Proof.Machine

open Sys2Proof

/-! ### The lamp's neighbours where no gate is ready (R88) -/

theorem lampChanged_on {s : State} (hgate : s.transport.gateReady = false) (hlamp : s.lamp.state = .on)
    (hpass : s.pass.state = .running → s.pass.after = .awaitLamp → s.transport.state ≠ .parked) : lampChanged s = s := by
  have hstays : passLampOn s = s := by
    rw [passLampOn, if_neg]
    rintro ⟨hrunning, hafter, -, hparked⟩
    exact hpass hrunning hafter hparked
  simp [lampChanged, hgate, hlamp, hstays]

theorem lampChanged_failed {s : State} (hgate : s.transport.gateReady = false) (hlamp : s.lamp.state = .failed)
    (hpass : s.pass.state = .idle) (hsweep : s.sweep.active = none) : lampChanged s = s := by
  simp [lampChanged, hgate, hlamp, hsweep, hpass]

theorem lampChanged_unlit {s : State} (hgate : s.transport.gateReady = false) (hlamp : s.lamp.state = .off ∨ s.lamp.state = .warming) :
    lampChanged s = s := by
  rcases hlamp with h | h <;> simp [lampChanged, hgate, h]

theorem leads_lamp {s : State} (hq : Quiet s) (h : lampChanged s = s) : Leads 1 [.lampChanged] s s := by
  refine leads_idle (l := [.lampChanged]) hq fun sig hsig => ?_
  rw [List.mem_singleton.mp hsig]
  exact h

/-! ### A grant begins in PARKED (R50) -/

/-- The grant of HOME begins its move (R66). -/
theorem beginGrant_home {s : State} (hgrant : s.sched.grant = .home) (hparked : s.transport.state = .parked)
    (hmove : s.transport.move = none) (hdoor : s.doorClosed = true) (htension : tensionOut s.poller.values = false) :
    beginGrant s = homeGranted s := by
  simp only [beginGrant, hparked, hmove, hgrant, and_self, if_true]
  rw [startMove_home hparked hdoor htension]
  cases hleader : s.transport.leaderIn <;> simp [homePlan, hleader, moveBegun, homeGranted, homeStarted, ← hgrant]

/-- The grant of a slot begins its FRAME move (R52, R53). -/
theorem beginGrant_slot {s : State} {i k : Nat} {x : Slot} (hgrant : s.sched.grant = .slot i) (hparked : s.transport.state = .parked)
    (hmay : MayMove s) (hx : s.slots[i]? = some x) (hframe : x.frame = some k) (hreach : InReach k s) :
    beginGrant s = approachBegun k s := by
  simp only [beginGrant, hparked, hmay.1, hgrant, and_self, if_true, slot_eq s i x hx, hframe]
  exact startMove_frame hparked hmay hreach

/-- DISCOVER begins its move (R61). -/
theorem beginGrant_discover {s : State} (hgrant : s.sched.grant = .discover) (hparked : s.transport.state = .parked) (hmay : MayMove s) :
    beginGrant s = discoverBegun s := by
  simp only [beginGrant, hparked, hmay.1, hgrant, and_self, if_true]
  exact startMove_discover hparked hmay

/-- WAKING becomes PARKED with the grant it has held (R91). -/
def awake (s : State) : State :=
  { s with transport := { s.transport with state := .parked }, roll := { s.roll with tensionTimer := none, idleTimer := none } }

theorem tensionExpired_held {s : State} (hq : Quiet s) (hwaking : s.transport.state = .waking) (hgrant : s.sched.grant ≠ .none)
    (hlamp : s.lamp.state ≠ .off) : tensionExpired s = facing [.choose, .beginGrant] (awake s) := by
  simp [tensionExpired, hwaking, enterState, lampOnEntering, hlamp, idleStart, hgrant, emit, facing, show s.todo = [] from hq, awake]

/-- The choice in PARKED leaves the grant, and the grant begins. -/
theorem exec_tension_held {s t : State} (hq : Quiet s) (hwaking : s.transport.state = .waking) (htimer : s.roll.tensionTimer ≠ none)
    (hgrant : s.sched.grant ≠ .none) (hlamp : s.lamp.state ≠ .off) (hbegun : beginGrant (awake s) = t) (ht : Quiet t) :
    exec .tensionTimerExpiry s = .next t := by
  refine takes_next (new := [.choose, .beginGrant]) (z := awake s) ?_
    (Leads.skip (n := 1) ?_ (Leads.cons (new := []) ?_ (Leads.done ht))) (by omega)
  · rw [if_pos (Option.isSome_iff_ne_none.mpr htimer), tensionExpired_held hq hwaking hgrant hlamp]
  · rw [facing_nil (by exact hq)]
    exact choose_at_ease _ (.inl hgrant)
  · rw [facing_nil (by exact hq), facing_nil ht]
    exact hbegun

/-- Settles O30. -/
theorem rollTimersExpire : Obligations.RollTimersExpire := by
  unfold Obligations.RollTimersExpire
  refine ⟨?_, ?_, ?_, ?_, ?_, ?_⟩
  · intro s hq hno hthreading htimer
    refine takes_next (new := []) ?_ (Leads.done (by exact hq)) (by omega)
    rw [if_pos ⟨hthreading, Option.isSome_iff_ne_none.mpr htimer⟩, facing_nil (by exact hq),
      enterFaulted_alone _ hno (by simp [hthreading]) (by simp [hthreading])]
  · intro s hq hwarming htimer hok hgate hpass
    refine takes_next (new := [.lampChanged]) ?_
      (leads_lamp (by exact hq) (lampChanged_on hgate rfl fun h => absurd h hpass)) (by omega)
    rw [if_pos ⟨hwarming, Option.isSome_iff_ne_none.mpr htimer⟩, warmExpired, if_pos hok, setLamp, emit_eq_facing _ (by exact hq)]
    rfl
  · intro s hq hwarming htimer hok hgate hpass hsweep
    refine takes_next (new := [.lampChanged]) ?_ (leads_lamp (by exact hq) (lampChanged_failed hgate rfl hpass hsweep)) (by omega)
    rw [if_pos ⟨hwarming, Option.isSome_iff_ne_none.mpr htimer⟩, warmExpired, if_neg (by simp [hok]), setLamp,
      emit_eq_facing _ (by exact hq)]
    rfl
  · intro s hq hwaking htimer hgrant hwork hlamp
    refine takes_next (new := [.choose]) ?_ (leads_at_ease (by exact hq) (.inr hwork)) (by omega)
    rw [if_pos (Option.isSome_iff_ne_none.mpr htimer)]
    simp [tensionExpired, hwaking, enterState, lampOnEntering, hlamp, idleStart, hgrant, emit, facing, show s.todo = [] from hq]
  · intro s hq hrewinding htimer
    refine takes_next (new := []) ?_ (Leads.done (by exact hq)) (by omega)
    rw [if_pos (Option.isSome_iff_ne_none.mpr htimer), facing_nil (by exact hq)]
    simp [tensionExpired, hrewinding, rewindDrive, discardMark, rewindLeg]
  · intro s hq hwaking htimer hlamp go u
    refine ⟨fun hmay => ⟨?_, ?_, ?_⟩, ?_⟩
    · intro i x k hgrant hx hframe hreach
      exact exec_tension_held hq hwaking htimer (by simp [hgrant]) hlamp
        (beginGrant_slot (s := awake s) hgrant rfl hmay hx hframe hreach) ((approachBegun_todo k _).trans hq)
    · intro x hgrant hx htravelling hreach
      exact exec_tension_held hq hwaking htimer (by simp [hgrant]) hlamp
        (beginGrant_sweep (s := awake s) hgrant rfl hmay hx htravelling hreach) ((approachBegun_todo _ _).trans hq)
    · intro hgrant
      exact exec_tension_held hq hwaking htimer (by simp [hgrant]) hlamp
        (beginGrant_discover (s := awake s) hgrant rfl hmay) ((discoverBegun_todo _).trans hq)
    · intro hgrant hmove hdoor htension
      exact exec_tension_held hq hwaking htimer (by simp [hgrant]) hlamp
        (beginGrant_home (s := awake s) hgrant rfl hmove hdoor htension) hq

end Sys2Proof.Machine
end

section
/-! PROOFS. CLEAR FAULT (R72, R66, R160) and the start of a tag load (R160). -/

namespace Sys2Proof.Machine

open Sys2Proof

/-! ### The part goes HOME from PARKED (R66, R123) -/

/-- HOME is chosen, with what is owed looked at (R123, R125, R128). -/
def homeChosen (s : State) : State :=
  { s with sched := { s.sched with grant := .home, yieldOwed := s.owes }, roll := { s.roll with idleTimer := none } }

theorem leads_home_chosen {n : Nat} {s t : State} (hq : Quiet s) (hgrant : s.sched.grant = .none) (hparked : s.transport.state = .parked)
    (hlost : s.tracker.level = .lost) (hbegun : beginGrant (homeChosen s) = t) (ht : Quiet t) (hn : n = 2) :
    Leads n [.choose] s t := by
  subst hn
  refine Leads.cons (new := [.beginGrant]) (u := homeChosen s) ?_ (Leads.cons (new := []) ?_ (Leads.done ht))
  · show choose (facing [] s) = _
    rw [facing_nil hq, choose_taken ⟨hgrant, .inl hparked⟩ (by simp [anyCandidate, hlost]), owedChecked_eq,
      rowTaken_home (by exact hlost), makeGrant_parked _ (by exact hq) (by exact hparked)]
    rfl
  · rw [facing_nil (by exact hq), facing_nil ht]
    exact hbegun

/-- With the door closed and the tension in band the part is on its way HOME. -/
theorem leads_home_begun {s : State} (hq : Quiet s) (hgrant : s.sched.grant = .none) (hparked : s.transport.state = .parked)
    (hlost : s.tracker.level = .lost) (hmove : s.transport.move = none) (hdoor : s.doorClosed = true)
    (htension : tensionOut s.poller.values = false) : Leads 2 [.choose] s (homeGranted (homeChosen s)) :=
  leads_home_chosen hq hgrant hparked hlost
    (beginGrant_home (s := homeChosen s) rfl hparked hmove hdoor htension) hq rfl

/-- With the door open the HOME grant is faulted (R70). -/
theorem beginGrant_home_doorOpen {s : State} (hno : NoPassNoSweep s) (hgrant : s.sched.grant = .home)
    (hparked : s.transport.state = .parked) (hmove : s.transport.move = none) (hdoor : s.doorClosed = false) :
    beginGrant s = faulted .door s := by
  simp only [beginGrant, hparked, hmove, hgrant, and_self, if_true]
  simp only [startMove, hparked, ne_eq, not_true_eq_false, if_false, newMove, and_false, planFor, hdoor, if_true]
  exact enterFaulted_alone .door hno (by simp [hparked]) (by simp [hparked])

/-! ### CLEAR FAULT with film in the gate (R72) -/

/-- The part as CLEAR FAULT parks it (log 51). -/
def clearedParked (s : State) : State :=
  onLinks (fun k => { k with flags := { k.flags with roll := if s.transport.faultInThreading then true else k.flags.roll } })
    { s with
      tracker := { s.tracker with level := .lost, good := 0, miss := 0 }
      marks := { s.marks with inProgress := none }
      transport := { s.transport with state := .parked, fault := .none, faultInThreading := false, reels := .tension }
      roll := { s.roll with idleTimer := idleStart s } }

theorem clearIntoParked_eq {s : State} (hq : Quiet s) (hlamp : s.lamp.state ≠ .off) :
    clearIntoParked s = facing [.choose] (clearedParked s) := by
  cases hthreading : s.transport.faultInThreading <;>
    simp [clearIntoParked, hthreading, enterState, lampOnEntering, hlamp, setLevel, discardMark, holdTension, flagRoll, flagBoth, onLinks,
      emit, facing, show s.todo = [] from hq, clearedParked, idleStart]

theorem clearedParked_closeStream (l : Link) (s : State) : clearedParked (closeStream l s) = closeStream l (clearedParked s) := by
  cases l <;> rfl

/-! ### The start of a tag load (R160) -/

/-- A tag load is asked for. -/
def tagLoadStarted (s : State) : State :=
  let reading : State := { s with roll := { s.roll with tagLoad := .running } }
  if s.tag.status = .reading then reading
  else if s.tag.writeState = .writing then { reading with tag := { s.tag with loadAfterWrite := true } }
  else if s.bus.state = .failed then tagLoadFinished .failed none s
  else loadBegun reading

/-- Outside THREADING and REWINDING the end of a load sets nothing off. -/
theorem loadCalls_still {st : TagStatus} {kept : Option LoadRecord} {s : State} (hthreading : s.transport.state ≠ .threading)
    (hrewinding : s.transport.state ≠ .rewinding) (waiting : Bool) : loadCalls (tagLoadEnded st kept s) waiting = [] := by
  have hkept : (tagLoadEnded st kept s).transport.state = s.transport.state := by
    unfold tagLoadEnded
    split_ifs <;> rfl
  have hsame : threadingChecked (tagLoadEnded st kept s) = tagLoadEnded st kept s := by
    rw [threadingChecked, hkept, if_neg hthreading]
  simp [loadCalls, threadCalls, hsame, hkept, hthreading, decideCalls, unloadCalls, hrewinding]

theorem startTagLoad_still {s : State} (hthreading : s.transport.state ≠ .threading) (hrewinding : s.transport.state ≠ .rewinding) :
    startTagLoad s = tagLoadStarted s := by
  unfold startTagLoad tagLoadStarted
  dsimp only
  split_ifs with hreading hwriting hbus
  · rfl
  · rfl
  · have halone : ThreadsAlone (tagLoadEnded .failed none { s with roll := { s.roll with tagLoad := .running } }) := by
      intro h
      have hkept : (tagLoadEnded .failed none { s with roll := { s.roll with tagLoad := .running } }).transport.state = s.transport.state := by
        unfold tagLoadEnded
        split_ifs <;> rfl
      exact absurd (hkept.symm.trans h) hthreading
    rw [beginLoad_failed (by exact hbus) halone, loadCalls_still (by exact hthreading) (by exact hrewinding), List.append_nil]
    exact facing_todo (tagLoadFinished_todo _ _ s)
  · exact beginLoad_running (by exact hbus)

/-! ### CLEAR FAULT with no film in the gate (R72, R24) -/

/-- The transport has entered EMPTY with the lamp burning, and what belongs to the roll is emptied (R24, R72). -/
def emptied (s : State) : State :=
  onLinks (fun k => { k with stream := none, flags := { k.flags with roll := true } })
    { s with
      transport := { s.transport with state := .empty, reels := .off, move := none, gateFrame := none, pulse := none }
      lamp := { state := .off, warmTimer := none }
      tracker := { s.tracker with level := .drifting, good := 0, miss := 0 }
      marks := { inProgress := none, lastSplice := none }
      index := { s.index with
        entries := [], closure := none, counters := { batch := 0, document := 0, page := 0 }, widening := false,
        pitchQ := 16 * s.roll.default.pitch, checkpoints := [], trailer := none }
      zones := []
      roll := { s.roll with active := s.roll.default, modified := false, idleTimer := none }
      tag := { s.tag with dirty := false }
      sched := { s.sched with direction := .forward } }

theorem enterEmpty_eq {s : State} (hlamp : s.lamp.state ≠ .off) : enterEmpty s = facing (s.todo ++ [.lampChanged]) (emptied s) := by
  simp [enterEmpty, emptyIndex, applyProfile, setPitch, setLevel, closeStreams, onLinks, flagRoll, flagBoth, enterState, lampOnEntering,
    hlamp, facing, emptied, setLamp, emit]

/-- The fault is cleared and the open slots end UNLOADED (R72). -/
def faultCleared (s : State) : State :=
  { s with transport := { s.transport with fault := .none, faultInThreading := false }
           slots := s.slots.map (fun x => if x.resting then x else x.endedReached .unloaded) }

/-- The tag load asked for in EMPTY, of a roll that is there. -/
def cartridgeAsked (s : State) : State := if s.roll.cartridge then tagLoadStarted s else s

/-- The tag as a tag load has it that has just begun. -/
def Tag.begun (g : Tag) : Tag :=
  { g with
    status := .reading, rollValid := false
    load := some { next := 0, stage := .rollA, profile := builtInProfile, zones := [], checks := [] } }

/-- On an emptied roll the start of a tag load touches the tag, the bus and the TAG flag alone. -/
theorem cartridgeAsked_emptied (s : State) : ∃ g r b f, cartridgeAsked (emptied s) =
    onLinks f { emptied s with tag := g, roll := { (emptied s).roll with tagLoad := r }, bus := b } ∧ g.dirty = false ∧
      (∀ k, (f k).flags.roll = k.flags.roll ∧ (f k).stream = k.stream ∧ (f k).answer = k.answer) ∧
      (s.roll.cartridge = false → b = s.bus ∧ g = { s.tag with dirty := false } ∧ r = s.roll.tagLoad) ∧
      (s.roll.cartridge = true → s.tag.status ≠ .reading → s.tag.writeState ≠ .writing → s.bus.state ≠ .failed →
        b = { s.bus with waiting := some .read } ∧ r = .running ∧ g = (emptied s).tag.begun) := by
  by_cases hcartridge : s.roll.cartridge = true
  · by_cases hreading : s.tag.status = .reading
    · refine ⟨(emptied s).tag, .running, s.bus, id, ?_, rfl, fun _ => ⟨rfl, rfl, rfl⟩, fun h => ?_, fun _ h => absurd hreading h⟩
      · rw [cartridgeAsked, if_pos (by exact hcartridge), tagLoadStarted, if_pos (by exact hreading)]
        rfl
      · simp [hcartridge] at h
    · by_cases hwriting : s.tag.writeState = .writing
      · refine ⟨{ (emptied s).tag with loadAfterWrite := true }, .running, s.bus, id, ?_, rfl, fun _ => ⟨rfl, rfl, rfl⟩, fun h => ?_,
          fun _ _ h => absurd hwriting h⟩
        · rw [cartridgeAsked, if_pos (by exact hcartridge), tagLoadStarted, if_neg (by exact hreading), if_pos (by exact hwriting)]
          rfl
        · simp [hcartridge] at h
      · by_cases hbus : s.bus.state = .failed
        · have hended : cartridgeAsked (emptied s) =
              (if s.tag.writeState = .waiting then
                writeBackDecided (tagLoadEnded .failed none (emptied s)) else tagLoadEnded .failed none (emptied s)) := by
            rw [cartridgeAsked, if_pos (by exact hcartridge), tagLoadStarted, if_neg (by exact hreading), if_neg (by exact hwriting),
              if_pos (by exact hbus)]
            rfl
          have hdecided : writeBackDecided (tagLoadEnded .failed none (emptied s)) =
              { tagLoadEnded .failed none (emptied s) with
                tag := { (tagLoadEnded .failed none (emptied s)).tag with writeState := .idle, writePlan := [] } } := by
            rw [writeBackDecided, if_pos (.inr (.inr rfl)), writeBackEnded_away (by simp [tagLoadEnded, emptied])]
          rw [hended, hdecided]
          split_ifs
          · exact ⟨_, _, _, fun k => { k with flags := { k.flags with tag := some .loaded } }, rfl, rfl, fun _ => ⟨rfl, rfl, rfl⟩,
              fun h => by simp [hcartridge] at h, fun _ _ _ h => absurd hbus h⟩
          · exact ⟨_, _, _, fun k => { k with flags := { k.flags with tag := some .loaded } }, rfl, rfl, fun _ => ⟨rfl, rfl, rfl⟩,
              fun h => by simp [hcartridge] at h, fun _ _ _ h => absurd hbus h⟩
        · refine ⟨(emptied s).tag.begun, .running, { s.bus with waiting := some .read }, id, ?_, rfl, fun _ => ⟨rfl, rfl, rfl⟩,
            fun h => ?_, fun _ _ _ _ => ⟨rfl, rfl, rfl⟩⟩
          · rw [cartridgeAsked, if_pos (by exact hcartridge), tagLoadStarted, if_neg (by exact hreading), if_neg (by exact hwriting),
              if_neg (by exact hbus)]
            rfl
          · simp [hcartridge] at h
  · refine ⟨(emptied s).tag, s.roll.tagLoad, s.bus, id, ?_, rfl, fun _ => ⟨rfl, rfl, rfl⟩, fun _ => ⟨rfl, rfl, rfl⟩,
      fun h => absurd h hcartridge⟩
    rw [cartridgeAsked, if_neg (by exact hcartridge)]
    rfl

theorem tagLoadStarted_facing (l : List Signal) (s : State) : tagLoadStarted (facing l s) = facing l (tagLoadStarted s) := by
  simp only [tagLoadStarted, show (facing l s).tag = s.tag from rfl, show (facing l s).bus = s.bus from rfl, tagLoadFinished_facing]
  split_ifs <;> rfl

theorem clearIntoEmpty_eq {s : State} (hq : Quiet s) (hlamp : s.lamp.state ≠ .off) :
    clearIntoEmpty s = facing [.lampChanged] (cartridgeAsked (emptied (faultCleared s))) := by
  have hempty : enterEmpty { s with transport := { s.transport with fault := .none, faultInThreading := false }
                                    slots := s.slots.map Slot.onUnload } = facing [.lampChanged] (emptied (faultCleared s)) := by
    rw [funext onUnload_eq, show { s with transport := _, slots := _ } = faultCleared s from rfl, enterEmpty_eq (by exact hlamp),
      show (faultCleared s).todo = [] from hq]
    rfl
  simp only [clearIntoEmpty, hempty, cartridgeAsked]
  split_ifs with hcartridge hno hno
  · rw [startTagLoad_still (by simp [facing, emptied]) (by simp [facing, emptied]), tagLoadStarted_facing]
  · exact absurd hcartridge hno
  · exact absurd hno hcartridge
  · rfl

theorem cartridgeAsked_closeStream (l : Link) (s : State) : cartridgeAsked (closeStream l s) = closeStream l (cartridgeAsked s) := by
  unfold cartridgeAsked tagLoadStarted
  simp only [closeStream_roll, closeStream_tag, closeStream_bus, tagLoadFinished_closeStream]
  split_ifs <;> cases l <;> rfl

/-- The part as CLEAR FAULT empties it. -/
def clearedEmpty (s : State) : State := cartridgeAsked (emptied (faultCleared s))

theorem clearedEmpty_closeStream (l : Link) (s : State) : clearedEmpty (closeStream l s) = closeStream l (clearedEmpty s) := by
  rw [clearedEmpty, clearedEmpty, ← cartridgeAsked_closeStream]
  cases l <;> rfl

/-- CLEAR FAULT with film in the gate runs to where the choice in PARKED leads. -/
theorem exec_clearFault_parked {l : Link} {s t : State} {n : Nat} (hq : Quiet s) (hfaulted : s.transport.state = .faulted)
    (hfilm : s.filmInGate = true) (hlamp : s.lamp.state ≠ .off)
    (ht : Leads n [.choose] (answered l .ok 0x09#8 .empty (clearedParked s)) t) (hn : n ≤ 100) : exec (.clearFault l) s = .next t := by
  refine request_taken (x := clearedParked s) (new := [.choose]) (r := okReply) ?_ ht hn
  have hfilm' : (closeStream l s).filmInGate = true := by cases l <;> exact hfilm
  simp only [clearFault, closeStream_transport, hfaulted, hfilm', if_true]
  rw [clearIntoParked_eq (closeStream_quiet l hq) (by simpa using hlamp), clearedParked_closeStream]

/-- CLEAR FAULT with no film in the gate. -/
theorem exec_clearFault_empty {l : Link} {s : State} (hq : Quiet s) (hfaulted : s.transport.state = .faulted)
    (hfilm : s.filmInGate = false) (hlamp : s.lamp.state ≠ .off) :
    exec (.clearFault l) s = .next (answered l .ok 0x09#8 .empty (clearedEmpty s)) := by
  obtain ⟨g, r, b, f, hasked, -⟩ := cartridgeAsked_emptied (faultCleared s)
  refine request_taken (x := clearedEmpty s) (new := [.lampChanged]) (r := okReply) ?_
    (leads_lamp_dark (answered_quiet _ _ _ _ ?_) ?_ (.inl ?_)) (by omega)
  · have hfilm' : (closeStream l s).filmInGate = false := by cases l <;> exact hfilm
    simp only [clearFault, closeStream_transport, hfaulted, hfilm', if_true, Bool.false_eq_true, if_false]
    rw [clearIntoEmpty_eq (closeStream_quiet l hq) (by simpa using hlamp), ← clearedEmpty, clearedEmpty_closeStream]
  · rw [clearedEmpty, hasked]
    exact hq
  · rw [answered_transport, clearedEmpty, hasked]
    show TState.empty ≠ .settling
    decide
  · rw [answered_lamp, clearedEmpty, hasked]
    rfl

/-- Settles O29. -/
theorem clearFaultLeavesFaulted : Obligations.ClearFaultLeavesFaulted := by
  unfold Obligations.ClearFaultLeavesFaulted
  refine ⟨?_, ?_, ?_, ?_⟩
  · intro l s hq hfaulted hfilm hlamp
    refine ⟨answered l .ok 0x09#8 .empty (clearedEmpty s), exec_clearFault_empty hq hfaulted hfilm hlamp, ?_⟩
    obtain ⟨g, r, b, f, hasked, hdirty, hlinks, hnone, hasks⟩ := cartridgeAsked_emptied (faultCleared s)
    rw [clearedEmpty, hasked]
    simp only [answered_transport, answered_lamp, answered_index, answered_zones, answered_roll, answered_tag, answered_tracker,
      answered_slots, answered_poller, answered_params, answered_pass, answered_sweep, answered_focus, answered_marks, answered_sched,
      answered_pending, answered_bus]
    refine ⟨rfl, rfl, rfl, rfl, rfl, rfl, rfl, rfl, rfl, rfl, rfl, rfl, rfl, hdirty, rfl, rfl, rfl, fun m => ?_, ?_, ?_, ?_, rfl, rfl, rfl,
      rfl, rfl, rfl, rfl, rfl, hnone, hasks⟩
    · cases l <;> cases m <;> exact (hlinks _).1
    · cases l
      · rfl
      · exact (hlinks _).2.1
    · cases l
      · exact (hlinks _).2.1
      · rfl
    · cases l <;> rfl
  · intro l s hq hfaulted hfilm hdoor htension hlamp hmove hgrant
    refine ⟨homeGranted (homeChosen (answered l .ok 0x09#8 .empty (clearedParked s))), ?_, ?_⟩
    · refine exec_clearFault_parked hq hfaulted hfilm hlamp (leads_home_begun ?_ ?_ ?_ ?_ ?_ ?_ ?_) (by omega)
      · exact answered_quiet _ _ _ _ hq
      all_goals cases l <;> first | rfl | assumption
    · have hlinks : ((homeGranted (homeChosen (answered l .ok 0x09#8 .empty (clearedParked s)))).link l).answer =
          { code := .ok, request := 0x09#8, contents := .empty } := by cases l <;> rfl
      simp only [homeGranted, homeChosen, homeStarted, answered_transport, answered_index, answered_zones, answered_tag, answered_tracker,
        answered_slots, answered_poller, answered_params, answered_pass, answered_sweep, answered_focus, answered_pending, answered_bus]
      refine ⟨trivial, rfl, rfl, trivial, rfl, ⟨_, rfl, rfl, fun hleader => ?_, fun hleader => ?_⟩, rfl, rfl, rfl, rfl, hlinks, rfl, rfl, rfl, rfl,
        rfl, rfl, rfl, rfl⟩
      all_goals
        rw [show (clearedParked s).transport.leaderIn = _ from hleader]
        exact ⟨rfl, rfl⟩
  · intro l s hq hno hfaulted hfilm hdoor hlamp hmove hgrant howed
    refine exec_clearFault_parked (n := 2) hq hfaulted hfilm hlamp ?_ (by omega)
    refine leads_home_chosen (answered_quiet _ _ _ _ hq) ?_ ?_ ?_ (?_ : beginGrant _ = _) ?_ rfl
    · cases l <;> exact hgrant
    · cases l <;> rfl
    · cases l <;> rfl
    · rw [beginGrant_home_doorOpen]
      · have howes : (answered l .ok 0x09#8 .empty (clearedParked s)).owes = false := by
          simp [State.owes, show (clearedParked s).sched.yieldOwed = false from howed]
        have hsched : s.sched = { s.sched with yieldOwed := false } := by rw [← howed]
        rw [homeChosen, howes]
        cases l <;> simp only [faulted, flagTransport, flagBoth, answered, onLinks, onLink, clearedParked] <;> rw [hsched]
      all_goals cases l <;> first | rfl | assumption
    · cases l <;> exact hq
  · intro l s hq hstate
    refine request_answered l _ _ s (refuse .state) hq ?_
    simp [clearFault, hstate]

end Sys2Proof.Machine
end

section
/-! PROOFS. The end of a poll byte read (R172 to R179). -/

namespace Sys2Proof.Machine

open Sys2Proof

/-! ### The deliveries of one read (R175) -/

/-- An input has risen. -/
def rises (n : Nat) (old new : Inputs) : Bool := !old.getLsbD n && new.getLsbD n

/-- An input has fallen. -/
def falls (n : Nat) (old new : Inputs) : Bool := old.getLsbD n && !new.getLsbD n

/-- The tension has passed out of band. -/
def pullsOut (old new : Inputs) : Bool := !(tensionOut old) && tensionOut new

/-- A delivery that is made or not. -/
def gated (c : Bool) (f : State → State) (s : State) : State := if c then f s else s

@[simp] theorem gated_false (f : State → State) (s : State) : gated false f s = s := rfl

@[simp] theorem gated_true (f : State → State) (s : State) : gated true f s = f s := rfl

theorem gated_still {c : Bool} {f : State → State} {s : State} (h : f s = s) : gated c f s = s := by
  cases c
  · rfl
  · exact h

/-- The changes of inputs 0 to 8 are delivered one after another, each in the state the one before leaves. -/
theorem deliverAll_deliveries (old new : Inputs) (s : State) :
    deliverAll (deliveries old new) s =
      gated (falls 8 old new) (lampOkChanged false) (gated (rises 8 old new) (lampOkChanged true)
        (gated (pullsOut old new) tensionPassedOut (gated (rises 3 old new) rewindEnd (gated (falls 1 old new) doorOpened
          (gated (falls 0 old new) cartridgeRemoved (gated (rises 0 old new) cartridgeInserted s)))))) := by
  have happend (l k : List Delivery) (x : State) : deliverAll (l ++ k) x = deliverAll k (deliverAll l x) := List.foldl_append
  have hone (c : Bool) (d : Delivery) (x : State) : deliverAll (if c = true then [d] else []) x = gated c (deliver d) x := by
    cases c <;> rfl
  simp only [deliveries, happend, hone]
  rfl

/-! ### The transfer after a poll byte (R173) -/

/-- The transfer that goes next. -/
def nextTransfer (s : State) : Transfer := (s.bus.waiting.map Transfer.record).getD .poll

/-- A transfer is in progress, its timer running anew. -/
def transferTo (t : Transfer) (s : State) : State :=
  { s with bus := { s.bus with transfer := some t, waiting := none, attempts := 0, timer := some s.params.auxTimeout } }

theorem afterPoll_eq {s : State} (h : s.bus.nextByte ≠ 0) : afterPoll s = transferTo (nextTransfer s) s := by
  cases hw : s.bus.waiting with
  | none => simp [afterPoll, hw, beginTransfer, h, nextTransfer, transferTo]
  | some k => simp [afterPoll, hw, beginTransfer, nextTransfer, transferTo]

theorem afterPoll_facing (l : List Signal) (s : State) : afterPoll (facing l s) = facing l (afterPoll s) := by
  simp only [afterPoll, show (facing l s).bus = s.bus from rfl]
  cases s.bus.waiting <;> simp only [beginTransfer, show (facing l s).bus = s.bus from rfl] <;> split_ifs <;> rfl

/-- The byte has been read, and its transfer has ended. -/
def byteTaken (s : State) : State :=
  { s with bus := { s.bus with nextByte := (s.bus.nextByte + 1) % 8, transfer := none, timer := none } }

/-- The inputs with the byte in their place. -/
def pollInputs (v : Byte) (s : State) : Inputs := putByte s.bus.nextByte v s.poller.values

/-- The byte acknowledged, each change latched (R174). -/
def byteHeld (v : Byte) (s : State) : State :=
  latchBoth (s.poller.values ^^^ pollInputs v s) (takeByte s.bus.nextByte v (byteTaken s))

theorem pollEnded_early (a : Bool) (v : Byte) {s : State} (h : s.bus.nextByte < 7) :
    pollEnded a v s =
      afterPoll (if a then byteAcknowledged s.bus.nextByte v (byteTaken s) else markStale s.bus.nextByte (byteTaken s)) := by
  have h7 : s.bus.nextByte ≠ 7 := by omega
  simp only [pollEnded, h7, if_false, false_and]
  rfl

theorem byteAcknowledged_done (v : Byte) {s : State} (h : s.poller.firstRoundDone = true) :
    byteAcknowledged s.bus.nextByte v (byteTaken s) =
      deliverAll (deliveries s.poller.values (pollInputs v s)) (byteHeld v s) := by
  rw [byteAcknowledged]
  exact if_pos h

theorem byteAcknowledged_first (v : Byte) {s : State} (h : s.poller.firstRoundDone = false) :
    byteAcknowledged s.bus.nextByte v (byteTaken s) = takeByte s.bus.nextByte v (byteTaken s) := by
  rw [byteAcknowledged]
  exact if_neg (by rw [show (byteTaken s).poller.firstRoundDone = _ from h]; decide)

/-- A poll byte that leads to this state, with consequences that change nothing there. -/
theorem exec_poll {a : Bool} {v : Byte} {s t : State} {calls : List Signal} (hbus : s.bus.state = .running)
    (htransfer : s.bus.transfer = some .poll) (h : pollEnded a v s = facing calls t) (ht : Quiet t) (hidle : Idle calls t)
    (hlength : calls.length ≤ 100) : exec (.pollByteRead a v) s = .next t := by
  refine takes_next (new := calls) (z := t) ?_ (leads_idle ht hidle) hlength
  rw [if_pos (by simp [transferring, hbus, htransfer]), h]

/-! ### What each delivery does (R70, R78, R79, R87, R93) -/

/-- The film is driven, or about to be (R70). -/
def Driven (s : State) : Prop :=
  s.transport.state = .moving ∨ s.transport.state = .settling ∨ s.transport.state = .settled ∨ s.transport.state = .recovering ∨
    s.transport.state = .threading ∨ s.transport.state = .rewinding

theorem doorOpened_still {s : State} (h : ¬ Driven s) : doorOpened s = s := by
  cases hstate : s.transport.state <;> simp_all [doorOpened, Driven]

theorem tensionPassedOut_still {s : State} (h : ¬ Driven s) : tensionPassedOut s = s := by
  cases hstate : s.transport.state <;> simp_all [tensionPassedOut, Driven]

theorem rewindEnd_still {s : State} (h : s.transport.state ≠ .rewinding) : rewindEnd s = s := by simp [rewindEnd, h]

theorem Driven.faults {s : State} (h : Driven s) : s.transport.state ≠ .empty ∧ s.transport.state ≠ .faulted := by
  rcases h with h | h | h | h | h | h <;> simp [h]

theorem doorOpened_driven {s : State} (h : Driven s) (hno : NoPassNoSweep s) : doorOpened s = faulted .door s := by
  rw [← enterFaulted_alone .door hno h.faults.1 h.faults.2]
  rcases h with h | h | h | h | h | h <;> simp only [doorOpened, h]

theorem tensionPassedOut_driven {s : State} (h : Driven s) (hno : NoPassNoSweep s) : tensionPassedOut s = faulted .tension s := by
  rw [← enterFaulted_alone .tension hno h.faults.1 h.faults.2]
  rcases h with h | h | h | h | h | h <;> simp only [tensionPassedOut, h]

theorem not_driven_of {s : State} (h : s.transport.state = .empty ∨ s.transport.state = .faulted) : ¬ Driven s := by
  rcases h with h | h <;> simp [Driven, h]

/-- The cartridge is gone, its load and its write-back with it (R79, R171). -/
def cartridgeGone (s : State) : State :=
  onLinks (fun k => if decide (s.tag.writeState ≠ .idle) then { k with flags := { k.flags with tag := some .writeFailed } } else k)
    { s with
      roll := { s.roll with cartridge := false, tagLoad := .none }
      tag := { s.tag with
        status := .none, load := none, loadAfterWrite := false, rollValid := s.tag.rollValid && s.tag.load.isNone
        writeState := .idle, writePlan := if decide (s.tag.writeState ≠ .idle) then [] else s.tag.writePlan }
      bus := { s.bus with waiting := none } }

theorem cartridgeRemoved_eq (s : State) : cartridgeRemoved s =
    if s.transport.state = .empty then applyProfile s.roll.default (cartridgeGone s)
    else if s.transport.state = .faulted then cartridgeGone s
    else enterFaulted .cartridge (cartridgeGone s) := by
  have hgone : abandonTag { s with roll := { s.roll with cartridge := false, tagLoad := .none } } = cartridgeGone s := by
    by_cases hidle : s.tag.writeState = .idle
    · simp [abandonTag, cartridgeGone, hidle, onLinks]
    · simp [abandonTag, cartridgeGone, hidle, onLinks, flagTag, flagBoth]
  simp only [cartridgeRemoved, hgone, show (cartridgeGone s).transport = s.transport from rfl]
  cases s.transport.state <;> rfl

/-- What a removal makes of the part in a transport state (R79). -/
def removed (x : TState) (p : Profile) (s : State) : State :=
  if x = .empty then applyProfile p (cartridgeGone s)
  else if x = .faulted then cartridgeGone s
  else faulted .cartridge (cartridgeGone s)

theorem cartridgeRemoved_removed {s : State} (hno : s.transport.state = .empty ∨ s.transport.state = .faulted ∨ NoPassNoSweep s) :
    cartridgeRemoved s = removed s.transport.state s.roll.default s := by
  rw [cartridgeRemoved_eq, removed]
  split_ifs with hempty hfaulted
  · rfl
  · rfl
  · have hno' : NoPassNoSweep s := (hno.resolve_left hempty).resolve_left hfaulted
    exact enterFaulted_alone _ hno' hempty hfaulted

theorem removed_state {s : State} (p : Profile) :
    (removed s.transport.state p s).transport.state = .empty ∨ (removed s.transport.state p s).transport.state = .faulted := by
  unfold removed
  split_ifs with hempty hfaulted
  · exact .inl hempty
  · exact .inr hfaulted
  · exact .inr rfl

theorem removed_transferTo (x : TState) (p : Profile) (s : State) :
    transferTo (nextTransfer (removed x p s)) (removed x p s) = removed x p (transferTo .poll s) := by
  unfold removed
  split_ifs <;> rfl

theorem removed_kept (x : TState) (p : Profile) (s : State) :
    (removed x p s).todo = s.todo ∧ (removed x p s).bus.nextByte = s.bus.nextByte := by
  unfold removed
  split_ifs <;> exact ⟨rfl, rfl⟩

/-- After a removal no other input is delivered to anything. -/
theorem removal_last {old new : Inputs} {x : State} (h : x.transport.state = .empty ∨ x.transport.state = .faulted) :
    gated (pullsOut old new) tensionPassedOut (gated (rises 3 old new) rewindEnd (gated (falls 1 old new) doorOpened x)) = x := by
  rw [gated_still (f := doorOpened) (doorOpened_still (not_driven_of h)),
    gated_still (f := rewindEnd) (rewindEnd_still (by rcases h with h | h <;> simp [h])),
    gated_still (f := tensionPassedOut) (tensionPassedOut_still (not_driven_of h))]

/-- The tail-out is taken in a rewind (R93, log 79). -/
def tailTaken (s : State) : State :=
  { s with transport := { s.transport with capstan := none, reels := .off, stallTimer := none, move := none }
           roll := { s.roll with rewindTaken := true, tensionTimer := none } }

theorem rewindEnd_taken {s : State} (hstate : s.transport.state = .rewinding) (htaken : s.roll.rewindTaken = false) :
    rewindEnd s = if s.roll.writeBackTaken = true then unloadComplete (tailTaken s) else tailTaken s := by
  rw [rewindEnd, if_pos ⟨hstate, htaken⟩, unloadCheck]
  cases hback : s.roll.writeBackTaken <;> simp [hstate, hback, tailTaken]

/-! ### A byte that is not the round's last -/

/-- A byte delivered, with the transfer that goes next. -/
theorem exec_poll_delivered {v : Byte} {s u t : State} {calls : List Signal} (hbus : s.bus.state = .running)
    (htransfer : s.bus.transfer = some .poll) (hb : s.bus.nextByte < 7) (hround : s.poller.firstRoundDone = true)
    (h : deliverAll (deliveries s.poller.values (pollInputs v s)) (byteHeld v s) = facing calls u)
    (hnext : u.bus.nextByte ≠ 0) (ht : transferTo (nextTransfer u) u = t) (hq : Quiet t) (hidle : Idle calls t)
    (hlength : calls.length ≤ 100) : exec (.pollByteRead true v) s = .next t := by
  refine exec_poll (calls := calls) hbus htransfer ?_ hq hidle hlength
  rw [pollEnded_early true v hb, if_pos rfl, byteAcknowledged_done v hround, h, afterPoll_facing, afterPoll_eq hnext, ht]

theorem byteHeld_nextByte (v : Byte) {s : State} (hb : s.bus.nextByte < 7) : (byteHeld v s).bus.nextByte ≠ 0 := by
  show (s.bus.nextByte + 1) % 8 ≠ 0
  omega

section
variable {b n : Nat} {v : Byte} {y : Inputs}

theorem rises_other (hn : n < 64) (h : n / 8 ≠ b) : rises n y (putByte b v y) = false := by
  rw [rises, putByte_getLsbD v y hn, if_neg h]
  cases y.getLsbD n <;> rfl

theorem falls_other (hn : n < 64) (h : n / 8 ≠ b) : falls n y (putByte b v y) = false := by
  rw [falls, putByte_getLsbD v y hn, if_neg h]
  cases y.getLsbD n <;> rfl

theorem tensionOut_other (h : b ≠ 0) : tensionOut (putByte b v y) = tensionOut y := by
  have hbit (n : Nat) (hn : n < 8) : (putByte b v y).getLsbD n = y.getLsbD n := by
    rw [putByte_getLsbD v y (by omega), if_neg (by omega)]
  simp only [tensionOut, hbit 4 (by omega), hbit 5 (by omega), hbit 6 (by omega), hbit 7 (by omega)]

theorem pullsOut_other (h : b ≠ 0) : pullsOut y (putByte b v y) = false := by
  rw [pullsOut, tensionOut_other h]
  cases tensionOut y <;> rfl

/-- A byte beyond the first two delivers nothing. -/
theorem deliver_beyond (hb : 2 ≤ b) (s : State) : deliverAll (deliveries y (putByte b v y)) s = s := by
  rw [deliverAll_deliveries, falls_other (by omega) (by omega), rises_other (n := 8) (by omega) (by omega), pullsOut_other (by omega),
    rises_other (n := 3) (by omega) (by omega), falls_other (n := 1) (by omega) (by omega), falls_other (n := 0) (by omega) (by omega),
    rises_other (n := 0) (by omega) (by omega)]
  rfl

end

/-- Byte 0 delivers the cartridge, the door, the tail-out and the tension. -/
theorem deliver_first {v : Byte} {s : State} (hb : s.bus.nextByte = 0) (z : State) :
    deliverAll (deliveries s.poller.values (pollInputs v s)) z =
      gated (pullsOut s.poller.values (pollInputs v s)) tensionPassedOut (gated (rises 3 s.poller.values (pollInputs v s)) rewindEnd
        (gated (falls 1 s.poller.values (pollInputs v s)) doorOpened (gated (falls 0 s.poller.values (pollInputs v s)) cartridgeRemoved
          (gated (rises 0 s.poller.values (pollInputs v s)) cartridgeInserted z)))) := by
  rw [deliverAll_deliveries, pollInputs, hb, falls_other (n := 8) (by omega) (by omega), rises_other (n := 8) (by omega) (by omega)]
  rfl

/-- Byte 1 delivers lamp-OK. -/
theorem deliver_second {v : Byte} {s : State} (hb : s.bus.nextByte = 1) (z : State) :
    deliverAll (deliveries s.poller.values (pollInputs v s)) z =
      gated (falls 8 s.poller.values (pollInputs v s)) (lampOkChanged false)
        (gated (rises 8 s.poller.values (pollInputs v s)) (lampOkChanged true) z) := by
  rw [deliverAll_deliveries, pollInputs, hb, pullsOut_other (by omega),
    rises_other (n := 3) (by omega) (by omega), falls_other (n := 1) (by omega) (by omega), falls_other (n := 0) (by omega) (by omega),
    rises_other (n := 0) (by omega) (by omega)]
  rfl

/-- A byte that is not acknowledged is STALE, and nothing is delivered (R176). -/
theorem exec_poll_stale {v : Byte} {s : State} (hq : Quiet s) (hbus : s.bus.state = .running) (htransfer : s.bus.transfer = some .poll)
    (hb : s.bus.nextByte < 7) :
    exec (.pollByteRead false v) s = .next (transferTo (nextTransfer s) (markStale s.bus.nextByte (byteTaken s))) := by
  refine exec_poll (calls := []) hbus htransfer ?_ (by exact hq) (Idle.nil _) (Nat.zero_le _)
  rw [pollEnded_early false v hb, if_neg (by decide), afterPoll_eq (by exact byteHeld_nextByte v hb), facing_nil (by exact hq)]
  rfl

/-- A byte of the first round is taken silently (R174). -/
theorem exec_poll_silent {v : Byte} {s : State} (hq : Quiet s) (hbus : s.bus.state = .running) (htransfer : s.bus.transfer = some .poll)
    (hb : s.bus.nextByte < 7) (hround : s.poller.firstRoundDone = false) :
    exec (.pollByteRead true v) s = .next (transferTo (nextTransfer s) (takeByte s.bus.nextByte v (byteTaken s))) := by
  refine exec_poll (calls := []) hbus htransfer ?_ (by exact hq) (Idle.nil _) (Nat.zero_le _)
  rw [pollEnded_early true v hb, if_pos rfl, byteAcknowledged_first v hround, afterPoll_eq (by exact byteHeld_nextByte v hb),
    facing_nil (by exact hq)]
  rfl

/-- A byte whose changes do nothing. -/
theorem exec_poll_plain {v : Byte} {s : State} (hq : Quiet s) (hbus : s.bus.state = .running) (htransfer : s.bus.transfer = some .poll)
    (hb : s.bus.nextByte < 7) (hround : s.poller.firstRoundDone = true)
    (h : deliverAll (deliveries s.poller.values (pollInputs v s)) (byteHeld v s) = byteHeld v s) :
    exec (.pollByteRead true v) s = .next (transferTo (nextTransfer s) (byteHeld v s)) :=
  exec_poll_delivered (calls := []) hbus htransfer hb hround (h.trans (facing_nil (by exact hq)).symm) (byteHeld_nextByte v hb) rfl
    (by exact hq) (Idle.nil _) (Nat.zero_le _)

theorem falls_of_rises {n : Nat} {y z : Inputs} (h : rises n y z = true) : falls n y z = false := by
  simp only [rises, falls, Bool.and_eq_true, Bool.not_eq_true'] at h ⊢
  simp [h.1]

theorem rises_of_falls {n : Nat} {y z : Inputs} (h : falls n y z = true) : rises n y z = false := by
  simp only [rises, falls, Bool.and_eq_true, Bool.not_eq_true'] at h ⊢
  simp [h.1]

/-! ### Byte 0 -/

theorem faulted_quiet {v : Byte} {s : State} (kind : FaultKind) (t : Transfer) (h : Quiet s) :
    Quiet (faulted kind (transferTo t (byteHeld v s))) := by
  have htransfer : (transferTo t (byteHeld v s)).todo = [] := h
  generalize transferTo t (byteHeld v s) = u at htransfer ⊢
  exact htransfer

theorem transferTo_faulted (kind : FaultKind) (v : Byte) (s : State) :
    transferTo (nextTransfer (faulted kind (byteHeld v s))) (faulted kind (byteHeld v s)) =
      faulted kind (transferTo (nextTransfer s) (byteHeld v s)) := by
  generalize hu : byteHeld v s = u
  have hsame : nextTransfer s = nextTransfer u := by rw [← hu]; rfl
  rw [hsame]
  rfl

section
variable {v : Byte} {s : State} (hq : Quiet s) (hbus : s.bus.state = .running) (htransfer : s.bus.transfer = some .poll)
  (hb : s.bus.nextByte = 0) (hround : s.poller.firstRoundDone = true)

include hq hbus htransfer hb hround

omit hq in
/-- A byte 0 whose deliveries leave this. -/
theorem exec_first {u t : State} {calls : List Signal}
    (h : gated (pullsOut s.poller.values (pollInputs v s)) tensionPassedOut (gated (rises 3 s.poller.values (pollInputs v s)) rewindEnd
        (gated (falls 1 s.poller.values (pollInputs v s)) doorOpened (gated (falls 0 s.poller.values (pollInputs v s)) cartridgeRemoved
          (gated (rises 0 s.poller.values (pollInputs v s)) cartridgeInserted (byteHeld v s))))) = facing calls u)
    (hnext : u.bus.nextByte ≠ 0) (ht : transferTo (nextTransfer u) u = t) (hquiet : Quiet t) (hidle : Idle calls t)
    (hlength : calls.length ≤ 100) : exec (.pollByteRead true v) s = .next t :=
  exec_poll_delivered hbus htransfer (by omega) hround ((deliver_first hb _).trans h) hnext ht hquiet hidle hlength

/-- A byte 0 that is delivered to nothing. -/
theorem exec_first_still
    (h : gated (pullsOut s.poller.values (pollInputs v s)) tensionPassedOut (gated (rises 3 s.poller.values (pollInputs v s)) rewindEnd
        (gated (falls 1 s.poller.values (pollInputs v s)) doorOpened (gated (falls 0 s.poller.values (pollInputs v s)) cartridgeRemoved
          (gated (rises 0 s.poller.values (pollInputs v s)) cartridgeInserted (byteHeld v s))))) = byteHeld v s) :
    exec (.pollByteRead true v) s = .next (transferTo (nextTransfer s) (byteHeld v s)) :=
  exec_poll_plain hq hbus htransfer (by omega) hround ((deliver_first hb _).trans h)

theorem exec_first_undriven (hin : rises 0 s.poller.values (pollInputs v s) = false)
    (hgone : falls 0 s.poller.values (pollInputs v s) = false) (hstill : ¬ Driven s) :
    exec (.pollByteRead true v) s = .next (transferTo (nextTransfer s) (byteHeld v s)) := by
  have hstill' : ¬ Driven (byteHeld v s) := hstill
  have hstate : (byteHeld v s).transport.state ≠ .rewinding := fun h => hstill' (by simp [Driven, h])
  refine exec_first_still hq hbus htransfer hb hround ?_
  rw [hin, hgone, gated_false, gated_false, gated_still (doorOpened_still hstill'), gated_still (rewindEnd_still hstate),
    gated_still (tensionPassedOut_still hstill')]

/-- An insertion (R78, R160). -/
theorem exec_first_inserted (hin : rises 0 s.poller.values (pollInputs v s) = true)
    (hdoor : falls 1 s.poller.values (pollInputs v s) = false) (htail : rises 3 s.poller.values (pollInputs v s) = false)
    (hpull : pullsOut s.poller.values (pollInputs v s) = false) (hreading : s.tag.status ≠ .reading)
    (hwriting : s.tag.writeState ≠ .writing) :
    exec (.pollByteRead true v) s = .next (transferTo (.record .read)
      (loadBegun { byteHeld v s with roll := { s.roll with cartridge := true, tagLoad := .running } })) := by
  have hbus' : s.bus.state ≠ .failed := by simp [hbus]
  refine exec_first (calls := []) (u := loadBegun { byteHeld v s with roll := { s.roll with cartridge := true, tagLoad := .running } })
    hbus htransfer hb hround ?_ (byteHeld_nextByte v (by omega)) rfl (by exact hq) (Idle.nil _) (Nat.zero_le _)
  rw [hin, falls_of_rises hin, hdoor, htail, hpull, facing_nil (by exact hq)]
  simp only [gated_true, gated_false, cartridgeInserted, startTagLoad]
  rw [if_neg (by exact hreading), if_neg (by exact hwriting), beginLoad_running (by exact hbus')]
  rfl

/-- A removal (R79). -/
theorem exec_first_removed (hgone : falls 0 s.poller.values (pollInputs v s) = true)
    (hno : s.transport.state = .empty ∨ s.transport.state = .faulted ∨ NoPassNoSweep s) :
    exec (.pollByteRead true v) s =
      .next (removed s.transport.state s.roll.default (transferTo .poll (byteHeld v s))) := by
  have hheld : (byteHeld v s).transport = s.transport ∧ (byteHeld v s).roll = s.roll ∧ Quiet (byteHeld v s) ∧
      (byteHeld v s).bus.nextByte ≠ 0 ∧ ((byteHeld v s).transport.state = .empty ∨ (byteHeld v s).transport.state = .faulted ∨
        NoPassNoSweep (byteHeld v s)) := ⟨rfl, rfl, hq, byteHeld_nextByte v (by omega), hno⟩
  obtain ⟨htransport, hroll, hquiet, hnext, hno'⟩ := hheld
  have hremoved := cartridgeRemoved_removed hno'
  have hlast := removal_last (old := s.poller.values) (new := pollInputs v s) (removed_state (s := byteHeld v s) (byteHeld v s).roll.default)
  rw [← htransport, ← hroll, ← removed_transferTo]
  refine exec_first (calls := []) hbus htransfer hb hround ?_ ?_ rfl ?_ (Idle.nil _) (Nat.zero_le _)
  · rw [hgone, rises_of_falls hgone, gated_false, gated_true, hremoved, hlast, facing_nil ((removed_kept _ _ _).1.trans hquiet)]
  · rw [(removed_kept _ _ _).2]
    exact hnext
  · rw [removed_transferTo]
    exact (removed_kept _ _ _).1.trans hquiet

/-- The door opens (R70). -/
theorem exec_first_door (hin : rises 0 s.poller.values (pollInputs v s) = false)
    (hgone : falls 0 s.poller.values (pollInputs v s) = false) (hdriven : Driven s) (hno : NoPassNoSweep s)
    (hdoor : falls 1 s.poller.values (pollInputs v s) = true) :
    exec (.pollByteRead true v) s = .next (faulted .door (transferTo (nextTransfer s) (byteHeld v s))) := by
  have hfaulted : (faulted .door (byteHeld v s)).transport.state = .empty ∨ (faulted .door (byteHeld v s)).transport.state = .faulted :=
    .inr rfl
  refine exec_first (calls := []) (u := faulted .door (byteHeld v s)) hbus htransfer hb hround ?_ (byteHeld_nextByte v (by omega))
    (transferTo_faulted _ v s) (faulted_quiet _ _ hq) (Idle.nil _) (Nat.zero_le _)
  rw [hin, hgone, hdoor, gated_false, gated_false, gated_true, doorOpened_driven (by exact hdriven) (by exact hno),
    facing_nil (by exact hq)]
  have := removal_last (old := s.poller.values) (new := pollInputs v s) hfaulted
  rw [hdoor, gated_true, doorOpened_still (not_driven_of hfaulted)] at this
  exact this

/-- The tension passes out of band (R70). -/
theorem exec_first_tension (hin : rises 0 s.poller.values (pollInputs v s) = false)
    (hgone : falls 0 s.poller.values (pollInputs v s) = false) (hdriven : Driven s) (hno : NoPassNoSweep s)
    (hdoor : falls 1 s.poller.values (pollInputs v s) = false) (hpull : pullsOut s.poller.values (pollInputs v s) = true)
    (htail : s.transport.state ≠ .rewinding ∨ rises 3 s.poller.values (pollInputs v s) = false) :
    exec (.pollByteRead true v) s = .next (faulted .tension (transferTo (nextTransfer s) (byteHeld v s))) := by
  have hwound : gated (rises 3 s.poller.values (pollInputs v s)) rewindEnd (byteHeld v s) = byteHeld v s := by
    rcases htail with h | h
    · exact gated_still (rewindEnd_still h)
    · rw [h, gated_false]
  refine exec_first (calls := []) (u := faulted .tension (byteHeld v s)) hbus htransfer hb hround ?_ (byteHeld_nextByte v (by omega))
    (transferTo_faulted _ v s) (faulted_quiet _ _ hq) (Idle.nil _) (Nat.zero_le _)
  rw [hin, hgone, hdoor, gated_false, gated_false, gated_false, hwound, hpull, gated_true,
    tensionPassedOut_driven (by exact hdriven) (by exact hno), facing_nil (by exact hq)]

/-- The tail-out ends a rewind (R93), and with the write-back's end taken the unload is complete (R94). -/
theorem exec_first_tail (hin : rises 0 s.poller.values (pollInputs v s) = false)
    (hgone : falls 0 s.poller.values (pollInputs v s) = false) (hdoor : falls 1 s.poller.values (pollInputs v s) = false)
    (hpull : pullsOut s.poller.values (pollInputs v s) = false) (htail : rises 3 s.poller.values (pollInputs v s) = true)
    (hstate : s.transport.state = .rewinding) (htaken : s.roll.rewindTaken = false) :
    exec (.pollByteRead true v) s = .next (if s.roll.writeBackTaken = true then unloaded (transferTo .poll (tailTaken (byteHeld v s)))
      else transferTo (nextTransfer s) (tailTaken (byteHeld v s))) := by
  have hwound := rewindEnd_taken (s := byteHeld v s) hstate htaken
  have hback : (byteHeld v s).roll.writeBackTaken = s.roll.writeBackTaken := rfl
  rw [hback] at hwound
  cases hbacked : s.roll.writeBackTaken
  · rw [if_neg (by decide)]
    refine exec_first (calls := []) (u := tailTaken (byteHeld v s)) hbus htransfer hb hround ?_ (byteHeld_nextByte v (by omega)) rfl
      (by exact hq) (Idle.nil _) (Nat.zero_le _)
    rw [hin, hgone, hdoor, hpull, htail]
    simp only [gated_false, gated_true, hwound, hbacked, Bool.false_eq_true, if_false]
    exact (facing_nil (by exact hq)).symm
  · rw [if_pos rfl]
    refine exec_first (calls := if s.lamp.state = .off then [] else [.lampChanged]) (u := unloaded (tailTaken (byteHeld v s)))
      hbus htransfer hb hround ?_ (byteHeld_nextByte v (by omega)) rfl (by exact hq) ?_ ?_
    · rw [hin, hgone, hdoor, hpull, htail]
      simp only [gated_false, gated_true, hwound, hbacked, if_true, unloadComplete_eq,
        show (tailTaken (byteHeld v s)).todo = [] from hq, List.nil_append]
      rfl
    · split_ifs with hlamp
      · exact Idle.nil _
      · refine idle_lampDark (by simp [unloaded]) (.inl ?_)
        exact (congrArg Lamp.state (if_neg (by exact hlamp))).trans rfl
    · split_ifs <;> simp

end

/-! ### Byte 1 -/

/-- The lamp is FAILED, and LAMP is flagged (R87). -/
def lampFailed (s : State) : State :=
  onLinks (fun k => { k with flags := { k.flags with lamp := true } })
    { s with lamp := { state := .failed, warmTimer := none }, transport := { s.transport with pulse := none } }

theorem lampOkChanged_rises {s : State} (hq : Quiet s) (hlamp : s.lamp.state = .failed) :
    lampOkChanged true s = facing (warmCalls s) (litUp s) := by
  simp only [lampOkChanged, hlamp, if_true, enterWarming_eq, show s.todo = [] from hq, List.nil_append]

theorem lampOkChanged_falls {s : State} (hq : Quiet s) (hlamp : s.lamp.state = .warming ∨ s.lamp.state = .on) :
    lampOkChanged false s = facing [.lampChanged] (lampFailed s) := by
  rcases hlamp with h | h <;>
    simp [lampOkChanged, h, setLamp, flagLamp, flagBoth, onLinks, emit, facing, show s.todo = [] from hq, lampFailed]

section
variable {v : Byte} {s : State} (hq : Quiet s) (hbus : s.bus.state = .running) (htransfer : s.bus.transfer = some .poll)
  (hb : s.bus.nextByte = 1) (hround : s.poller.firstRoundDone = true)

include hq hbus htransfer hb hround

/-- A byte 1 that is delivered to nothing. -/
theorem exec_second_still
    (hup : rises 8 s.poller.values (pollInputs v s) = true → lampOkChanged true (byteHeld v s) = byteHeld v s)
    (hdown : falls 8 s.poller.values (pollInputs v s) = true → lampOkChanged false (byteHeld v s) = byteHeld v s) :
    exec (.pollByteRead true v) s = .next (transferTo (nextTransfer s) (byteHeld v s)) := by
  refine exec_poll_plain hq hbus htransfer (by omega) hround ((deliver_second hb _).trans ?_)
  have hrisen : gated (rises 8 s.poller.values (pollInputs v s)) (lampOkChanged true) (byteHeld v s) = byteHeld v s := by
    cases h : rises 8 s.poller.values (pollInputs v s)
    · rfl
    · exact hup h
  rw [hrisen]
  cases h : falls 8 s.poller.values (pollInputs v s)
  · rfl
  · exact hdown h

/-- Lamp-OK rises with the lamp FAILED: the lamp warms, or is ON at once (R87). -/
theorem exec_second_rises {t : State} (hup : rises 8 s.poller.values (pollInputs v s) = true) (hlamp : s.lamp.state = .failed)
    (ht : transferTo (nextTransfer s) (litUp (byteHeld v s)) = t) (hquiet : Quiet t) (hidle : lampChanged t = t) :
    exec (.pollByteRead true v) s = .next t := by
  have hheld : Quiet (byteHeld v s) ∧ (byteHeld v s).lamp = s.lamp ∧ nextTransfer (byteHeld v s) = nextTransfer s ∧
      (byteHeld v s).bus.nextByte ≠ 0 := ⟨hq, rfl, rfl, byteHeld_nextByte v (by omega)⟩
  obtain ⟨hquiet', hlamp', hnext, hbyte⟩ := hheld
  refine exec_poll_delivered (calls := warmCalls (byteHeld v s)) (u := litUp (byteHeld v s)) hbus htransfer (by omega) hround ?_ ?_ ?_
    hquiet (idle_warmCalls hidle) ?_
  · rw [deliver_second hb, hup, falls_of_rises hup, gated_true, gated_false]
    exact lampOkChanged_rises hquiet' (by rw [hlamp']; exact hlamp)
  · rw [litUp_bus]
    exact hbyte
  · rw [← ht, ← hnext, nextTransfer, litUp_bus]
    rfl
  · unfold warmCalls
    split_ifs <;> simp

/-- Lamp-OK does not change. -/
theorem exec_second_same (hup : rises 8 s.poller.values (pollInputs v s) = false)
    (hdown : falls 8 s.poller.values (pollInputs v s) = false) :
    exec (.pollByteRead true v) s = .next (transferTo (nextTransfer s) (byteHeld v s)) :=
  exec_second_still hq hbus htransfer hb hround (fun h => absurd (hup.symm.trans h) (by decide))
    (fun h => absurd (hdown.symm.trans h) (by decide))

/-- Lamp-OK rises with the lamp not FAILED. -/
theorem exec_second_rises_still (hup : rises 8 s.poller.values (pollInputs v s) = true) (hlamp : s.lamp.state ≠ .failed) :
    exec (.pollByteRead true v) s = .next (transferTo (nextTransfer s) (byteHeld v s)) := by
  refine exec_second_still hq hbus htransfer hb hround (fun _ => ?_) (fun h => absurd ((falls_of_rises hup).symm.trans h) (by decide))
  have hlamp' : (byteHeld v s).lamp.state ≠ .failed := hlamp
  generalize byteHeld v s = u at hlamp'
  cases h : u.lamp.state <;> simp_all [lampOkChanged]

/-- Lamp-OK falls with the lamp neither WARMING nor ON. -/
theorem exec_second_falls_still (hdown : falls 8 s.poller.values (pollInputs v s) = true)
    (hlamp : s.lamp.state = .off ∨ s.lamp.state = .failed) :
    exec (.pollByteRead true v) s = .next (transferTo (nextTransfer s) (byteHeld v s)) := by
  refine exec_second_still hq hbus htransfer hb hround (fun h => absurd ((rises_of_falls hdown).symm.trans h) (by decide)) (fun _ => ?_)
  have hlamp' : (byteHeld v s).lamp.state = .off ∨ (byteHeld v s).lamp.state = .failed := hlamp
  generalize byteHeld v s = u at hlamp'
  rcases hlamp' with h | h <;> simp [lampOkChanged, h]

/-- Lamp-OK rises with the lamp FAILED and LAMP_WARM above 0. -/
theorem exec_second_warms (hup : rises 8 s.poller.values (pollInputs v s) = true) (hlamp : s.lamp.state = .failed)
    (hwarm : s.params.lampWarm ≠ 0) (hgate : s.transport.gateReady = false) :
    exec (.pollByteRead true v) s = .next
      { transferTo (nextTransfer s) (byteHeld v s) with
        lamp := { state := .warming, warmTimer := some s.params.lampWarm }, transport := { s.transport with pulse := none } } := by
  refine exec_second_rises hq hbus htransfer hb hround hup hlamp ?_ (by exact hq) (lampChanged_unlit (by exact hgate) (.inr rfl))
  rw [litUp, if_pos (by exact hwarm)]
  rfl

/-- Lamp-OK rises with the lamp FAILED and LAMP_WARM 0. -/
theorem exec_second_lights (hup : rises 8 s.poller.values (pollInputs v s) = true) (hlamp : s.lamp.state = .failed)
    (hwarm : s.params.lampWarm = 0) (hgate : s.transport.gateReady = false)
    (hpass : s.pass.after = .awaitLamp → s.transport.state ≠ .parked) :
    exec (.pollByteRead true v) s = .next
      { transferTo (nextTransfer s) (byteHeld v s) with
        lamp := { state := .on, warmTimer := none }, transport := { s.transport with pulse := none } } := by
  have hok : (byteHeld v s).lampOk = true := by
    simp only [rises, Bool.and_eq_true] at hup
    exact hup.2
  refine exec_second_rises hq hbus htransfer hb hround hup hlamp ?_ (by exact hq)
    (lampChanged_on (by exact hgate) rfl fun _ => by exact hpass)
  rw [litUp, if_neg (by exact not_not.mpr hwarm), if_pos hok]
  rfl

/-- Lamp-OK falls with the lamp WARMING or ON (R87). -/
theorem exec_second_falls (hdown : falls 8 s.poller.values (pollInputs v s) = true)
    (hlamp : s.lamp.state = .warming ∨ s.lamp.state = .on) (hgate : s.transport.gateReady = false) (hpass : s.pass.state = .idle)
    (hsweep : s.sweep.active = none) :
    exec (.pollByteRead true v) s = .next (lampFailed (transferTo (nextTransfer s) (byteHeld v s))) := by
  have hheld : Quiet (byteHeld v s) ∧ (byteHeld v s).lamp = s.lamp ∧ nextTransfer (byteHeld v s) = nextTransfer s ∧
      (byteHeld v s).bus.nextByte ≠ 0 ∧ (byteHeld v s).transport = s.transport ∧ (byteHeld v s).pass = s.pass ∧
      (byteHeld v s).sweep = s.sweep := ⟨hq, rfl, rfl, byteHeld_nextByte v (by omega), rfl, rfl, rfl⟩
  obtain ⟨hquiet, hlamp', hnext, hbyte, htransport, hpass', hsweep'⟩ := hheld
  have hfalls := deliver_second (v := v) hb (byteHeld v s)
  rw [hdown, rises_of_falls hdown, gated_true, gated_false, lampOkChanged_falls hquiet (by rw [hlamp']; exact hlamp)] at hfalls
  rw [← hnext]
  generalize hu : byteHeld v s = u at hfalls hquiet hbyte htransport hpass' hsweep' ⊢
  refine exec_poll (calls := [.lampChanged]) hbus htransfer ?_ (by exact hquiet) ?_ (by simp)
  · rw [pollEnded_early true v (by omega), if_pos rfl, byteAcknowledged_done v hround, hu, hfalls, afterPoll_facing,
      afterPoll_eq (by exact hbyte)]
    rfl
  · intro sig hsig
    rw [List.mem_singleton.mp hsig]
    refine lampChanged_failed ?_ rfl ?_ ?_
    · exact (congrArg Transport.gateReady htransport).trans hgate
    · exact (congrArg Pass.state hpass').trans hpass
    · exact (congrArg Sweep.active hsweep').trans hsweep

end

end Sys2Proof.Machine
end

section
/-! PROOFS. What the lamp's neighbours do in a PARKED part that is LOST and has no grant: the end of a scoring sweep and of the pass
(R116, R156), and then the way HOME (R95). -/

namespace Sys2Proof.Machine

open Sys2Proof

/-! ### Ends that leave a part without a grant at rest -/

/-- A consequence that touches nothing where the part goes HOME. -/
def Harmless (sig : Signal) : Prop :=
  sig = .choose ∨ sig = .focusArrived .back ∨ sig = .passSweepDone .dark ∨ sig = .passSweepDone .cancelled

/-- From `z` to `y` nothing has changed but the lens, the sweep, the pass, the holder, the idle timer and flags, and no more than `n`
harmless consequences are set off. -/
def Calms (n : Nat) (z y : State) : Prop :=
  (∃ l, y.todo = z.todo ++ l ∧ l.length ≤ n ∧ ∀ sig ∈ l, Harmless sig) ∧
    y.transport = { z.transport with holder := y.transport.holder } ∧ y.roll = { z.roll with idleTimer := y.roll.idleTimer } ∧
    y.sched = z.sched ∧ y.tracker = z.tracker ∧ y.lamp = z.lamp ∧ y.poller = z.poller ∧ y.index = z.index ∧ y.slots = z.slots ∧
    y.tag = z.tag ∧ y.bus = z.bus ∧ (∀ l, (y.link l).flags.roll = (z.link l).flags.roll) ∧
    (y.sweep.active = none ∨ y.sweep.active = z.sweep.active) ∧ (y.pass.owner = none ∨ y.pass.owner = z.pass.owner)

theorem Calms.refl (z : State) : Calms 0 z z :=
  ⟨⟨[], by simp, by simp, by simp⟩, rfl, rfl, rfl, rfl, rfl, rfl, rfl, rfl, rfl, rfl, fun _ => rfl, .inr rfl, .inr rfl⟩

theorem Calms.trans {n m : Nat} {x y z : State} (h : Calms n x y) (k : Calms m y z) : Calms (n + m) x z := by
  obtain ⟨⟨l, htodo, hlength, hharmless⟩, htransport, hroll, hsched, htracker, hlamp, hpoller, hindex, hslots, htag, hbus, hflags, hsweep,
    hpass⟩ := h
  obtain ⟨⟨l', htodo', hlength', hharmless'⟩, htransport', hroll', hsched', htracker', hlamp', hpoller', hindex', hslots', htag', hbus',
    hflags', hsweep', hpass'⟩ := k
  refine ⟨⟨l ++ l', by rw [htodo', htodo, List.append_assoc], by rw [List.length_append]; omega, fun sig hsig => ?_⟩, ?_, ?_,
    hsched'.trans hsched, htracker'.trans htracker, hlamp'.trans hlamp, hpoller'.trans hpoller, hindex'.trans hindex,
    hslots'.trans hslots, htag'.trans htag, hbus'.trans hbus, fun l => (hflags' l).trans (hflags l),
    ?_, ?_⟩
  · exact (List.mem_append.mp hsig).elim (hharmless sig) (hharmless' sig)
  · rw [htransport', htransport]
  · rw [hroll', hroll]
  · exact hsweep'.elim .inl fun h => hsweep.imp h.trans h.trans
  · exact hpass'.elim .inl fun h => hpass.imp h.trans h.trans

theorem Calms.le {n m : Nat} {z y : State} (h : Calms n z y) (hle : n ≤ m) : Calms m z y := by
  obtain ⟨⟨l, htodo, hlength, hharmless⟩, hrest⟩ := h
  exact ⟨⟨l, htodo, hlength.trans hle, hharmless⟩, hrest⟩

/-- A harmless consequence. -/
theorem Calms.emit {sig : Signal} (h : Harmless sig) (z : State) : Calms 1 z (Machine.emit sig z) :=
  ⟨⟨[sig], rfl, by simp, by simpa using h⟩, rfl, rfl, rfl, rfl, rfl, rfl, rfl, rfl, rfl, rfl, fun l => by cases l <;> rfl, .inr rfl, .inr rfl⟩

/-- The lens takes a target from a requester that waits for nothing. -/
theorem calms_setFocusTarget (t : Nat) (z : State) : Calms 1 z (setFocusTarget t .back z) := by
  have htodo : (setFocusTarget t .back z).todo = z.todo ∨ (setFocusTarget t .back z).todo = z.todo ++ [.focusArrived .back] := by
    unfold setFocusTarget planLens lensArrived
    dsimp only
    (repeat' split) <;> simp_all [Machine.emit]
  rw [setFocusTarget_eq]
  refine ⟨?_, rfl, rfl, rfl, rfl, rfl, rfl, rfl, rfl, rfl, rfl, fun l => by cases l <;> rfl, .inr rfl, .inr rfl⟩
  rcases htodo with h | h
  · exact ⟨[], by simpa using h, by simp, by simp⟩
  · exact ⟨[.focusArrived .back], h, by simp, by simp [Harmless]⟩

theorem calms_flagOne (l : Link) (f : Flags → Flags) (z : State) (h : ∀ k, (f k).roll = k.roll) : Calms 0 z (flagOne l f z) := by
  refine ⟨⟨[], by cases l <;> simp [flagOne, onLink], by simp, by simp⟩, ?_⟩
  cases l <;> refine ⟨rfl, rfl, rfl, rfl, rfl, rfl, rfl, rfl, rfl, rfl, fun m => ?_, .inr rfl, .inr rfl⟩ <;> cases m <;>
    simp [flagOne, onLink, State.link, h]

theorem calms_sweep {w : Sweep} (hw : w.active = none) (z : State) : Calms 0 z { z with sweep := w } :=
  ⟨⟨[], by simp, by simp, by simp⟩, rfl, rfl, rfl, rfl, rfl, rfl, rfl, rfl, rfl, rfl, fun l => by cases l <;> rfl, .inl hw, .inr rfl⟩

theorem calms_pass {p : Pass} (hp : p.owner = none) (z : State) : Calms 0 z { z with pass := p } :=
  ⟨⟨[], by simp, by simp, by simp⟩, rfl, rfl, rfl, rfl, rfl, rfl, rfl, rfl, rfl, rfl, fun l => by cases l <;> rfl, .inr rfl, .inl hp⟩

theorem calms_finishSweep (r : SweepResult) (st : Option Nat) (q : Option Quality) (o : StoreOutcome) (z : State) :
    Calms 1 z (finishSweep r st q o z) := by
  unfold finishSweep
  split
  · exact (Calms.refl z).le (by omega)
  · next x _ =>
    dsimp only
    refine Calms.trans (n := 1) (m := 0) ?_ (calms_flagOne x.link _ _ fun _ => rfl)
    by_cases hback : x.points ≠ [] ∧ r.fitGaveTarget = false
    · rw [if_pos hback]
      exact (calms_sweep rfl z).trans (calms_setFocusTarget _ _)
    · rw [if_neg hback]
      exact (calms_sweep rfl z).le (by omega)

theorem calms_freeGate {z : State} (hparked : z.transport.state = .parked) (hlamp : z.lamp.state ≠ .off) : Calms 1 z (freeGate z) := by
  have hfreed : freeGate z = emit .choose { z with transport := { z.transport with holder := none }
                                                   roll := { z.roll with idleTimer := idleStart z } } := by
    simp [freeGate, enterState, lampOnEntering, hlamp, idleStart, ← hparked]
  rw [hfreed]
  exact ⟨⟨[.choose], rfl, by simp, by simp [Harmless]⟩, rfl, rfl, rfl, rfl, rfl, rfl, rfl, rfl, rfl, rfl, fun l => by cases l <;> rfl, .inr rfl, .inr rfl⟩

/-- A part without a grant, PARKED, with the lamp lit or failed. -/
def Resting (z : State) : Prop := z.transport.state = .parked ∧ z.sched.grant = .none ∧ z.lamp.state ≠ .off

theorem Calms.resting {n : Nat} {z y : State} (h : Calms n z y) (hz : Resting z) : Resting y := by
  obtain ⟨-, htransport, -, hsched, -, hlamp, -⟩ := h
  obtain ⟨hparked, hgrant, hlit⟩ := hz
  exact ⟨by rw [htransport]; exact hparked, by rw [hsched]; exact hgrant, by rw [hlamp]; exact hlit⟩

theorem Calms.sweep_idle {n : Nat} {z y : State} (h : Calms n z y) (hz : z.sweep.active = none) : y.sweep.active = none := by
  obtain ⟨-, -, -, -, -, -, -, -, -, -, -, -, hsweep, -⟩ := h
  exact hsweep.elim id fun h => h.trans hz

theorem Calms.pass_idle {n : Nat} {z y : State} (h : Calms n z y) (hz : z.pass.owner = none) : y.pass.owner = none := by
  obtain ⟨-, -, -, -, -, -, -, -, -, -, -, -, -, hpass⟩ := h
  exact hpass.elim id fun h => h.trans hz

theorem finishSweep_idle (r : SweepResult) (st : Option Nat) (q : Option Quality) (o : StoreOutcome) (z : State) :
    (finishSweep r st q o z).sweep.active = none := by
  unfold finishSweep
  split
  · assumption
  · next x _ =>
    dsimp only
    by_cases hback : x.points ≠ [] ∧ r.fitGaveTarget = false
    · rw [if_pos hback, setFocusTarget_eq]
      cases x.link <;> rfl
    · rw [if_neg hback]
      cases x.link <;> rfl

theorem finishPass_idle (o : PassOutcome) (z : State) : (finishPass o z).pass.owner = none := by
  unfold finishPass
  split
  · assumption
  · next l _ => cases l <;> rfl

theorem calms_endSweep {r : SweepResult} (hr : r = .dark ∨ r = .cancelled) (st : Option Nat) (q : Option Quality) (o : StoreOutcome)
    {z : State} (hz : Resting z) : Calms 3 z (endSweep r st q o z) ∧ (endSweep r st q o z).sweep.active = none := by
  unfold endSweep
  split
  · next hnone => exact ⟨(Calms.refl z).le (by omega), hnone⟩
  · next x _ =>
    extract_lets s1 s2
    have hfinished : Calms 1 z s1 := calms_finishSweep r st q o z
    have hidle : s1.sweep.active = none := finishSweep_idle r st q o z
    have hfreed : Calms 1 s1 s2 := by
      simp only [s2]
      split_ifs
      · exact calms_freeGate (hfinished.resting hz).1 (hfinished.resting hz).2.2
      · exact (Calms.refl _).le (by omega)
    have hgrant := (hfreed.resting (hfinished.resting hz)).2.1
    have hended : Calms 2 s1 (match x.origin with
        | .standAlone => if s2.sched.grant = .sweep then endGrant s2 else s2
        | .pass => emit (.passSweepDone r) s2) := by
      cases x.origin with
      | standAlone =>
        simp only [hgrant, reduceCtorEq, if_false]
        exact hfreed.le (by omega)
      | pass => exact hfreed.trans (Calms.emit (by rcases hr with rfl | rfl <;> simp [Harmless]) _)
    exact ⟨hfinished.trans hended, hended.sweep_idle hidle⟩

theorem calms_endSweepBare {r : SweepResult} (hr : r = .dark ∨ r = .cancelled) {z : State} (hz : Resting z) :
    Calms 3 z (endSweepBare r z) ∧ (endSweepBare r z).sweep.active = none := by
  unfold endSweepBare
  split
  · next hnone => exact ⟨(Calms.refl z).le (by omega), hnone⟩
  · exact calms_endSweep hr _ _ _ hz

theorem calms_onOutcome (i : Nat) (f : SegOutcome → SegOutcome) (z : State) : Calms 0 z (onOutcome i f z) := Calms.refl z

theorem calms_finishPass (o : PassOutcome) (z : State) : Calms 0 z (finishPass o z) := by
  unfold finishPass
  split
  · exact Calms.refl z
  · next l _ =>
    have hstopped (y : State) : Calms 0 y (stopHolding o y) := by
      unfold stopHolding
      (repeat' split) <;> exact Calms.refl y
    have hended := hstopped (onOutcome (z.pass.current.getD 1 - 1) (fun r => { r with state := o.segState }) z)
    exact (Calms.trans (n := 0) (m := 0) (hended.trans (calms_pass rfl _)) (calms_flagOne l _ _ fun _ => rfl))

theorem calms_cancelSweep {z : State} (hz : Resting z) : Calms 3 z (cancelSweep .cancelled z) := by
  unfold cancelSweep
  split
  · exact (Calms.refl z).le (by omega)
  · next x _ =>
    have hholds : sweepHolds x z = false := by cases h : x.origin <;> simp [sweepHolds, h, hz.2.1]
    rw [if_neg (by simp [hholds])]
    exact (calms_endSweepBare (.inr rfl) hz).1

theorem calms_endPass (o : PassOutcome) {z : State} (hz : Resting z) : Calms 4 z (endPass o z) ∧ (endPass o z).pass.owner = none := by
  unfold endPass
  split
  · next hnone => exact ⟨(Calms.refl z).le (by omega), hnone⟩
  · next l _ =>
    extract_lets s1 s2 s3
    have hfinished : Calms 0 z s1 := calms_finishPass o z
    have hrest := hfinished.resting hz
    have hcancelled : Calms 3 s1 s2 := by
      simp only [s2]
      split
      · split_ifs
        · exact calms_cancelSweep hrest
        · exact (Calms.refl _).le (by omega)
      · exact (Calms.refl _).le (by omega)
    have hfreed : Calms 4 s1 s3 := by
      simp only [s3]
      split_ifs
      · exact hcancelled.trans (calms_freeGate (hcancelled.resting hrest).1 (hcancelled.resting hrest).2.2)
      · exact hcancelled.le (by omega)
    rw [if_neg (by rw [(hfreed.resting hrest).2.1]; decide)]
    exact ⟨(hfinished.trans hfreed).le (by omega), hfreed.pass_idle (finishPass_idle o z)⟩

/-! ### The lamp is read (R88) -/

/-- Nothing stands behind the lamp that it could end. -/
def LampRead (z : State) : Prop :=
  z.lamp.state ≠ .failed ∨
    ((∀ x ∈ z.sweep.active, x.state ≠ .movingLens ∧ x.state ≠ .awaitingScore) ∧ (z.pass.state = .idle ∨ z.pass.owner = none))

theorem lampChanged_read {z : State} (hread : LampRead z) (hstate : z.transport.state ≠ .settling) (hgrant : z.sched.grant ≠ .pass) :
    lampChanged z = z := by
  have hlit : passLampOn z = z := by
    rw [passLampOn, if_neg]
    exact fun h => hgrant h.2.2.1
  cases hlamp : z.lamp.state
  · simp [lampChanged, hstate, hlamp]
  · simp [lampChanged, hstate, hlamp]
  · simp [lampChanged, hstate, hlamp, hlit]
  · obtain ⟨hsweep, hpass⟩ := hread.resolve_left (by simp [hlamp])
    have hended : endPass .lamp z = z ∨ z.pass.state = .idle := by
      rcases hpass with h | h
      · exact .inr h
      · exact .inl (by simp [endPass, h])
    cases hx : z.sweep.active with
    | none => rcases hended with h | h <;> simp [lampChanged, hstate, hlamp, hx, h]
    | some x =>
      obtain ⟨hmoving, hscore⟩ := hsweep x (by simp [hx])
      rcases hended with h | h <;> simp [lampChanged, hstate, hlamp, hx, hmoving, hscore, h]

/-- The lamp is read in a part at rest: a FAILED one ends a scoring sweep and the pass (R116, R156). -/
theorem calms_lampChanged {z : State} (hz : Resting z) : Calms 7 z (lampChanged z) ∧ LampRead (lampChanged z) := by
  by_cases hfailed : z.lamp.state = .failed
  · have hsettling : z.transport.state ≠ .settling := by simp [hz.1]
    have hswept : ∃ y, Calms 3 z y ∧ (∀ x ∈ y.sweep.active, x.state ≠ .movingLens ∧ x.state ≠ .awaitingScore) ∧
        lampChanged z = if y.pass.state = .idle then y else endPass .lamp y := by
      cases hx : z.sweep.active with
      | none => exact ⟨z, (Calms.refl z).le (by omega), by simp [hx], by simp [lampChanged, hsettling, hfailed, hx]⟩
      | some x =>
        by_cases hscoring : x.state = .movingLens ∨ x.state = .awaitingScore
        · obtain ⟨hcalms, hidle⟩ := calms_endSweepBare (r := .dark) (.inl rfl) hz
          exact ⟨endSweepBare .dark z, hcalms, by simp [hidle], by simp [lampChanged, hsettling, hfailed, hx, hscoring]⟩
        · refine ⟨z, (Calms.refl z).le (by omega), ?_, by simp [lampChanged, hsettling, hfailed, hx, hscoring]⟩
          simpa [hx] using hscoring
    obtain ⟨y, hcalms, hsweep, heq⟩ := hswept
    rw [heq]
    split_ifs with hidle
    · exact ⟨hcalms.le (by omega), .inr ⟨hsweep, .inl hidle⟩⟩
    · obtain ⟨hended, howner⟩ := calms_endPass .lamp (hcalms.resting hz)
      refine ⟨(hcalms.trans hended).le (by omega), .inr ⟨fun x hx => ?_, .inr howner⟩⟩
      obtain ⟨-, -, -, -, -, -, -, -, -, -, -, -, hkept, -⟩ := hended
      rcases hkept with h | h
      · simp [h] at hx
      · exact hsweep x (by rw [← h]; exact hx)
  · have hread : LampRead z := .inl hfailed
    have hsame := lampChanged_read hread (by simp [hz.1]) (by simp [hz.2.1])
    rw [hsame]
    exact ⟨(Calms.refl z).le (by omega), hread⟩

/-! ### The way HOME (R95) -/

/-- The part is parked, LOST and without a grant, and its HOME move may begin. -/
def GoesHome (z : State) : Prop :=
  Resting z ∧ z.tracker.level = .lost ∧ z.transport.move = none ∧ z.doorClosed = true ∧ tensionOut z.poller.values = false

theorem Calms.goesHome {n : Nat} {z y : State} (h : Calms n z y) (hz : GoesHome z) : GoesHome y := by
  obtain ⟨hrest, hlost, hmove, hdoor, htension⟩ := hz
  refine ⟨h.resting hrest, ?_⟩
  obtain ⟨-, htransport, -, -, htracker, -, hpoller, -⟩ := h
  have hinput : y.doorClosed = z.doorClosed := by rw [State.doorClosed, State.input, hpoller]; rfl
  exact ⟨by rw [htracker]; exact hlost, by rw [htransport]; exact hmove, hinput.trans hdoor, by rw [hpoller]; exact htension⟩

/-- The pass takes nothing from a sweep that the lamp or a cancellation has ended. -/
theorem passSweepEnded_unheeded {r : SweepResult} (hr : r = .dark ∨ r = .cancelled) (z : State) : passSweepEnded r z = z := by
  cases hk : z.pass.frameInHand with
  | none => simp [passSweepEnded, hk]
  | some k => cases hg : z.segment <;> rcases hr with rfl | rfl <;> simp [passSweepEnded, hk, hg]

/-- A harmless consequence other than the choice touches nothing, and none does once the part is on its way. -/
theorem handle_harmless {sig : Signal} (h : Harmless sig) {z : State} (hz : sig = .choose → z.sched.grant ≠ .none) : handle sig z = z := by
  rcases h with rfl | rfl | rfl | rfl
  · exact choose_at_ease z (.inl (hz rfl))
  · rfl
  · exact passSweepEnded_unheeded (.inl rfl) z
  · exact passSweepEnded_unheeded (.inr rfl) z

/-- The consequences of the lamp and of the ends lead to the way HOME, as soon as the scheduler chooses. -/
theorem leads_homes {l : List Signal} {z : State} (hq : Quiet z) (hz : GoesHome z) (hread : LampRead z)
    (hl : ∀ sig ∈ l, Harmless sig ∨ sig = .lampChanged) (hchoose : .choose ∈ l) :
    Leads (l.length + 1) l z (homeGranted (homeChosen z)) := by
  obtain ⟨hrest, hlost, hmove, hdoor, htension⟩ := hz
  have hread' : LampRead (homeGranted (homeChosen z)) := hread
  induction l with
  | nil => simp at hchoose
  | cons sig rest ih =>
    by_cases hsig : sig = .choose
    · subst hsig
      refine Leads.cons (new := [.beginGrant]) (u := homeChosen z) ?_ (Leads.cons (new := []) ?_ (leads_idle (by exact hq) ?_))
      · show choose (facing [] z) = _
        rw [facing_nil hq, choose_taken ⟨hrest.2.1, .inl hrest.1⟩ (by simp [anyCandidate, hlost]), owedChecked_eq,
          rowTaken_home (by exact hlost), makeGrant_parked _ (by exact hq) (by exact hrest.1)]
        rfl
      · rw [facing_nil (by exact hq), facing_nil (by exact hq)]
        exact beginGrant_home (s := homeChosen z) rfl hrest.1 hmove hdoor htension
      · intro x hx
        rcases hl x (List.mem_cons_of_mem _ hx) with h | h
        · exact handle_harmless h fun _ => by simp [homeGranted]
        · rw [h]
          exact lampChanged_read hread' (by simp [homeGranted, homeStarted]) (by simp [homeGranted])
    · refine Leads.skip ?_ (ih (fun x hx => hl x (List.mem_cons_of_mem _ hx)) ?_)
      · rw [facing_nil hq]
        rcases hl sig List.mem_cons_self with h | h
        · exact handle_harmless h fun h => absurd h hsig
        · rw [h]
          exact lampChanged_read hread (by simp [hrest.1]) (by simp [hrest.2.1])
      · exact (List.mem_cons.mp hchoose).resolve_left fun h => hsig h.symm

/-- The lamp is read first, and what it ends leads to the way HOME. -/
theorem leads_lamp_homes {rest : List Signal} {z : State} (hq : Quiet z) (hz : GoesHome z)
    (hrest : ∀ sig ∈ rest, Harmless sig ∨ sig = .lampChanged) (hchoose : .choose ∈ rest) (hlength : rest.length ≤ 2) :
    ∃ n y, n ≤ 100 ∧ Calms 7 z y ∧ Leads n (.lampChanged :: rest) z (homeGranted (homeChosen (facing [] y))) := by
  obtain ⟨hcalms, hread⟩ := calms_lampChanged hz.1
  have hgoes := hcalms.goesHome hz
  have htodo := hcalms.1
  obtain ⟨l, htodo, hl, hharmless⟩ := htodo
  refine ⟨(l ++ rest).length + 1 + 1, lampChanged z, ?_, hcalms, Leads.cons (new := l) (u := facing [] (lampChanged z)) ?_ ?_⟩
  · rw [List.length_append]
    omega
  · show lampChanged (facing [] z) = facing l (lampChanged z)
    rw [facing_nil hq]
    exact (facing_todo (htodo.trans (by rw [show z.todo = [] from hq]; rfl))).symm
  · refine leads_homes rfl (by exact hgoes) (by exact hread) (fun sig h => ?_) (List.mem_append_right _ hchoose)
    exact (List.mem_append.mp h).elim (fun h => .inl (hharmless sig h)) (hrest sig)

/-! ### The first round ends with film in the gate (R95) -/

/-- The part as it parks, LOST, with the film it has found (R95). -/
def filmFound (s : State) : State :=
  onLinks (fun k => { k with flags := { k.flags with roll := true } })
    { s with
      poller := { s.poller with firstRoundDone := true }
      tracker := { s.tracker with level := .lost, good := 0, miss := 0 }
      marks := { s.marks with inProgress := none }
      transport := { s.transport with state := .parked, reels := .tension }
      roll := { s.roll with cartridge := s.poller.values.getLsbD 0, idleTimer := idleStart s } }

/-- The tag load of a cartridge that is there. -/
def cartridgeFound (s : State) : State := cartridgeAsked (litUp s)

theorem firstRoundComplete_film {s : State} (hq : Quiet s) (hfilm : s.filmInGate = true) (hlamp : s.lamp.state = .off) :
    firstRoundComplete s = facing (warmCalls (filmFound s) ++ [.choose]) (cartridgeFound (filmFound s)) := by
  have hparked : enterState .parked (flagRoll (setLevel .lost (holdTension
      { s with poller := { s.poller with firstRoundDone := true }, roll := { s.roll with cartridge := s.input 0 } }))) =
      facing (warmCalls (filmFound s) ++ [.choose]) (litUp (filmFound s)) := by
    have hentered : enterState .parked (flagRoll (setLevel .lost (holdTension
        { s with poller := { s.poller with firstRoundDone := true }, roll := { s.roll with cartridge := s.input 0 } }))) =
        emit .choose (enterWarming (filmFound s)) := by
      simp only [enterState, lampOnEntering, if_true]
      rw [if_pos (by exact hlamp)]
      rfl
    rw [hentered, enterWarming_eq, show (filmFound s).todo = [] from hq]
    rfl
  have hstate : (litUp (filmFound s)).transport.state = .parked := by
    unfold litUp
    split_ifs <;> rfl
  have hcomplete : firstRoundComplete s =
      if (litUp (filmFound s)).roll.cartridge then startTagLoad (facing (warmCalls (filmFound s) ++ [.choose]) (litUp (filmFound s)))
      else facing (warmCalls (filmFound s) ++ [.choose]) (litUp (filmFound s)) := by
    rw [← hparked]
    have hcartridge := congrArg (fun z => z.roll.cartridge) hparked
    exact (if_pos hfilm).trans (by rw [← show _ = (litUp (filmFound s)).roll.cartridge from hcartridge])
  rw [hcomplete, cartridgeFound, cartridgeAsked]
  split_ifs
  · rw [startTagLoad_still (by exact fun h => absurd (hstate.symm.trans h) (by decide))
      (by exact fun h => absurd (hstate.symm.trans h) (by decide)), tagLoadStarted_facing]
  · rfl

/-- What the lamp leaves as it is, and that it burns or has failed. -/
theorem litUp_kept (s : State) : ∃ m p f, litUp s = onLinks f { s with lamp := m, transport := { s.transport with pulse := p } } ∧
    m.state ≠ .off ∧ ∀ k, (f k).flags.roll = k.flags.roll := by
  unfold litUp
  split_ifs
  · exact ⟨{ state := .warming, warmTimer := some s.params.lampWarm }, none, id, rfl, by simp, fun _ => rfl⟩
  · exact ⟨{ state := .on, warmTimer := none }, none, id, rfl, by decide, fun _ => rfl⟩
  · exact ⟨{ state := .failed, warmTimer := none }, none, fun k => { k with flags := { k.flags with lamp := true } }, rfl, by decide,
      fun _ => rfl⟩

/-- The next transfer touches the bus and the suppressions alone. -/
theorem afterPoll_kept (s : State) : ∃ f, afterPoll s = onLinks f { s with bus := (transferTo (nextTransfer s) s).bus } ∧
    ∀ k, (f k).flags.roll = k.flags.roll := by
  have hpoll : ∃ f, beginTransfer .poll s = onLinks f { s with bus := (beginTransfer .poll s).bus } ∧ ∀ k, (f k).flags.roll = k.flags.roll := by
    unfold beginTransfer
    dsimp only
    split_ifs
    · exact ⟨_, rfl, fun k => by split_ifs <;> rfl⟩
    · exact ⟨id, rfl, fun _ => rfl⟩
  cases hw : s.bus.waiting with
  | none =>
    obtain ⟨f, hf, hroll⟩ := hpoll
    have hbus : (beginTransfer .poll s).bus = (transferTo (nextTransfer s) s).bus := by
      unfold beginTransfer
      dsimp only
      split_ifs <;> simp [nextTransfer, transferTo, hw, onLinks]
    refine ⟨f, ?_, hroll⟩
    simp only [afterPoll, hw]
    rw [hf, hbus]
  | some k =>
    refine ⟨id, ?_, fun _ => rfl⟩
    simp [afterPoll, hw, beginTransfer, nextTransfer, transferTo, onLinks]

/-- On a running bus the tag load touches the tag, the bus and the tag load field alone. -/
theorem cartridgeAsked_kept {s : State} (hbus : s.bus.state = .running) :
    ∃ g r b, cartridgeAsked s = { s with tag := g, roll := { s.roll with tagLoad := r }, bus := b } ∧
      (s.roll.cartridge = false → b = s.bus ∧ r = s.roll.tagLoad) ∧
      (s.roll.cartridge = true → s.tag.status ≠ .reading → s.tag.writeState ≠ .writing →
        b = { s.bus with waiting := some .read } ∧ r = .running ∧ g.status = .reading) := by
  have hfailed : s.bus.state ≠ .failed := by simp [hbus]
  cases hcartridge : s.roll.cartridge
  · exact ⟨s.tag, s.roll.tagLoad, s.bus, by rw [cartridgeAsked, if_neg (by simp [hcartridge])], fun _ => ⟨rfl, rfl⟩, fun h => by simp at h⟩
  · rw [cartridgeAsked, if_pos hcartridge, tagLoadStarted]
    dsimp only
    split_ifs with hreading hwriting
    · exact ⟨s.tag, .running, s.bus, rfl, fun h => by simp at h, fun _ h => absurd hreading h⟩
    · exact ⟨{ s.tag with loadAfterWrite := true }, .running, s.bus, rfl, fun h => by simp at h, fun _ _ h => absurd hwriting h⟩
    · exact ⟨_, _, _, rfl, fun h => by simp at h, fun _ _ _ => ⟨rfl, rfl, rfl⟩⟩

/-- The first round ends with film in the gate: the part is on its way HOME. -/
theorem leads_film_found {s : State} (hq : Quiet s) (hbus : s.bus.state = .running) (hwaiting : s.bus.waiting = none)
    (hfilm : s.filmInGate = true) (hdoor : s.doorClosed = true) (htension : tensionOut s.poller.values = false)
    (hgrant : s.sched.grant = .none) (hmove : s.transport.move = none) (hlamp : s.lamp.state = .off) :
    ∃ n l z t, afterPoll (firstRoundComplete s) = facing l z ∧ Leads n l z t ∧ n ≤ 100 ∧
      t.transport.state = .moving ∧ t.sched.grant = .home ∧ t.tracker.level = .lost ∧
      t.poller = { s.poller with firstRoundDone := true } ∧ t.roll.cartridge = s.poller.values.getLsbD 0 ∧
      (∀ l, (t.link l).flags.roll = true) ∧ t.index = s.index ∧ t.slots = s.slots ∧
      (s.poller.values.getLsbD 0 = true → s.tag.status ≠ .reading → s.tag.writeState ≠ .writing →
        t.roll.tagLoad = .running ∧ t.tag.status = .reading ∧ t.bus = (transferTo (.record .read) s).bus) ∧
      (s.poller.values.getLsbD 0 = false → t.roll.tagLoad = s.roll.tagLoad ∧ t.bus = (transferTo .poll s).bus) := by
  obtain ⟨m, p, f, hlit, hunlit, hfroll⟩ := litUp_kept (filmFound s)
  obtain ⟨g, r, b, hasked, hgone, hthere⟩ := cartridgeAsked_kept (s := litUp (filmFound s)) (by rw [litUp_bus]; exact hbus)
  obtain ⟨k, hafter, hkroll⟩ := afterPoll_kept (cartridgeAsked (litUp (filmFound s)))
  rw [hasked, hlit] at hafter
  rw [hlit] at hgone hthere
  generalize hz : afterPoll (cartridgeFound (filmFound s)) = z
  have hzeq : z = onLinks k _ := hz.symm.trans ((congrArg afterPoll (hasked.trans (by rw [hlit]))).trans hafter)
  have hgoes : GoesHome z := by
    rw [hzeq]
    exact ⟨⟨rfl, hgrant, hunlit⟩, rfl, hmove, hdoor, htension⟩
  have hzq : Quiet z := by
    rw [hzeq]
    exact hq
  obtain ⟨rest, hcalls, hrest, hchoose, hlength⟩ : ∃ rest, warmCalls (filmFound s) ++ [.choose] = .lampChanged :: rest ∧
      (∀ sig ∈ rest, Harmless sig ∨ sig = .lampChanged) ∧ .choose ∈ rest ∧ rest.length ≤ 2 := by
    unfold warmCalls
    split_ifs
    · exact ⟨[.choose], rfl, by simp [Harmless], by simp, by simp⟩
    · exact ⟨[.lampChanged, .choose], rfl, by simp [Harmless], by simp, by simp⟩
  obtain ⟨n, y, hn, hcalms, hleads⟩ := leads_lamp_homes hzq hgoes hrest hchoose hlength
  obtain ⟨-, -, hroll, -, htracker, -, hpoller, hindex, hslots, htag, hbus', hflags, -⟩ := hcalms
  refine ⟨n, .lampChanged :: rest, z, _, ?_, hleads, hn, rfl, rfl, ?_, ?_, ?_, fun l => ?_, ?_, ?_, fun hcart hreading hwriting => ?_,
    fun hcart => ?_⟩
  · rw [firstRoundComplete_film hq hfilm hlamp, afterPoll_facing, hz, hcalls]
  · show y.tracker.level = _
    rw [htracker, hzeq]
    rfl
  · show y.poller = _
    rw [hpoller, hzeq]
    rfl
  · show y.roll.cartridge = _
    rw [hroll, hzeq]
    rfl
  · show (y.link l).flags.roll = true
    rw [hflags, hzeq]
    cases l <;> exact (hkroll _).trans ((hfroll _).trans rfl)
  · show y.index = _
    rw [hindex, hzeq]
    rfl
  · show y.slots = _
    rw [hslots, hzeq]
    rfl
  · obtain ⟨hb, hr, hg⟩ := hthere hcart hreading hwriting
    refine ⟨?_, ?_, ?_⟩
    · show y.roll.tagLoad = _
      rw [hroll, hzeq]
      exact hr
    · show y.tag.status = _
      rw [htag, hzeq]
      exact hg
    · show y.bus = _
      rw [hbus', hzeq, hb]
      rfl
  · obtain ⟨hb, hr⟩ := hgone hcart
    refine ⟨?_, ?_⟩
    · show y.roll.tagLoad = _
      rw [hroll, hzeq]
      exact hr
    · show y.bus = _
      rw [hbus', hzeq, hb]
      show (transferTo (nextTransfer s) s).bus = _
      rw [nextTransfer, hwaiting]
      rfl

/-! ### The round's last byte (R174, R176, R179) -/

/-- A suppression in its round has ended, and one that waits begins with the read of byte 0 (R179). -/
def roundTurned (t : Transfer) (s : State) : State :=
  onLinks (fun k => { k with suppress :=
    if k.suppress = .inRound then .none else if t = .poll ∧ k.suppress = .waiting then .inRound else k.suppress }) s

theorem afterPoll_endSuppression {s : State} (h : s.bus.nextByte = 0) :
    afterPoll (endSuppression s) = roundTurned (nextTransfer s) (transferTo (nextTransfer s) s) := by
  cases hw : s.bus.waiting with
  | none =>
    cases ha : s.linkA.suppress <;> cases hb : s.linkB.suppress <;>
      simp [afterPoll, endSuppression, onLinks, hw, beginTransfer, h, nextTransfer, transferTo, roundTurned, ha, hb]
  | some k => simp [afterPoll, endSuppression, onLinks, hw, beginTransfer, nextTransfer, transferTo, roundTurned]

section
variable {v : Byte} {s : State} (hq : Quiet s) (hbus : s.bus.state = .running) (htransfer : s.bus.transfer = some .poll)
  (hb : s.bus.nextByte = 7)

theorem pollEnded_eq (a : Bool) (v : Byte) (s : State) :
    pollEnded a v s = afterPoll
      (if s.bus.nextByte = 7 ∧ s.poller.firstRoundDone = false then firstRoundComplete
        (if s.bus.nextByte = 7 then endSuppression
          (if a then byteAcknowledged s.bus.nextByte v (byteTaken s) else markStale s.bus.nextByte (byteTaken s))
        else if a then byteAcknowledged s.bus.nextByte v (byteTaken s) else markStale s.bus.nextByte (byteTaken s))
      else if s.bus.nextByte = 7 then endSuppression
        (if a then byteAcknowledged s.bus.nextByte v (byteTaken s) else markStale s.bus.nextByte (byteTaken s))
      else if a then byteAcknowledged s.bus.nextByte v (byteTaken s) else markStale s.bus.nextByte (byteTaken s)) := rfl

include hb in
theorem pollEnded_last (a : Bool) (hround : s.poller.firstRoundDone = true) :
    pollEnded a v s = afterPoll (endSuppression (if a then byteHeld v s else markStale s.bus.nextByte (byteTaken s))) := by
  have hdelivered := byteAcknowledged_done v hround
  rw [pollInputs, deliver_beyond (by omega)] at hdelivered
  rw [pollEnded_eq, if_neg (by simp [hround]), if_pos hb, hdelivered]

include hb in
theorem pollEnded_first (a : Bool) (hround : s.poller.firstRoundDone = false) :
    pollEnded a v s = afterPoll (firstRoundComplete (endSuppression
      (if a then takeByte s.bus.nextByte v (byteTaken s) else markStale s.bus.nextByte (byteTaken s)))) := by
  rw [pollEnded_eq, if_pos ⟨hb, hround⟩, if_pos hb, byteAcknowledged_first v hround]

include hbus htransfer hb

/-- The last byte of a later round, whose reading leads to `w`. -/
theorem exec_last (a : Bool) (hround : s.poller.firstRoundDone = true) {w : State}
    (hw : (if a then byteHeld v s else markStale s.bus.nextByte (byteTaken s)) = w) (hquiet : Quiet w) (hbyte : w.bus.nextByte = 0) :
    exec (.pollByteRead a v) s = .next (roundTurned (nextTransfer w) (transferTo (nextTransfer w) w)) := by
  refine exec_poll (calls := []) hbus htransfer ?_ (by exact hquiet) (Idle.nil _) (Nat.zero_le _)
  rw [pollEnded_last hb a hround, hw, afterPoll_endSuppression hbyte]
  exact (facing_nil (by exact hquiet)).symm

include hq

/-- The last byte of the first round, with no film in the gate (R95). -/
theorem exec_last_bare (a : Bool) (hround : s.poller.firstRoundDone = false) (hwaiting : s.bus.waiting = none)
    {p : Poller} (hp : (if a then takeByte s.bus.nextByte v (byteTaken s) else markStale s.bus.nextByte (byteTaken s)) =
      { byteTaken s with poller := p }) (hvalues : ∀ n < 8, p.values.getLsbD n = s.poller.values.getLsbD n)
    (hfilm : s.poller.values.getLsbD 2 = false) :
    exec (.pollByteRead a v) s = .next
      { roundTurned .poll (transferTo .poll { byteTaken s with
          poller := { p with firstRoundDone := true }, roll := { s.roll with cartridge := s.poller.values.getLsbD 0 } }) with
        tracker := { s.tracker with level := .drifting, good := 0, miss := 0 } } := by
  have hnext : (s.bus.nextByte + 1) % 8 = 0 := by omega
  refine exec_poll (calls := []) hbus htransfer ?_ (by exact hq) (Idle.nil _) (Nat.zero_le _)
  rw [pollEnded_first hb a hround, hp, firstRoundComplete_bare (by exact (hvalues 2 (by omega)).trans hfilm), ← hvalues 0 (by omega)]
  have hturned := afterPoll_endSuppression (s := { byteTaken s with
    poller := { p with firstRoundDone := true }, roll := { s.roll with cartridge := p.values.getLsbD 0 }
    tracker := { s.tracker with level := .drifting, good := 0, miss := 0 } }) hnext
  rw [nextTransfer, show ({ byteTaken s with
    poller := { p with firstRoundDone := true }, roll := { s.roll with cartridge := p.values.getLsbD 0 }
    tracker := { s.tracker with level := .drifting, good := 0, miss := 0 } } : State).bus.waiting = none from hwaiting] at hturned
  exact hturned.trans (facing_nil (by exact hq)).symm

/-- The last byte of the first round, with film in the gate (R95). -/
theorem exec_last_film (a : Bool) (hround : s.poller.firstRoundDone = false) (hwaiting : s.bus.waiting = none)
    {p : Poller} (hp : (if a then takeByte s.bus.nextByte v (byteTaken s) else markStale s.bus.nextByte (byteTaken s)) =
      { byteTaken s with poller := p }) (hvalues : ∀ n < 8, p.values.getLsbD n = s.poller.values.getLsbD n)
    (hfilm : s.poller.values.getLsbD 2 = true) (hdoor : s.poller.values.getLsbD 1 = true) (htension : tensionOut s.poller.values = false)
    (hgrant : s.sched.grant = .none) (hmove : s.transport.move = none) (hlamp : s.lamp.state = .off) :
    ∃ t, exec (.pollByteRead a v) s = .next t ∧
      t.transport.state = .moving ∧ t.sched.grant = .home ∧ t.tracker.level = .lost ∧
      t.poller = { p with firstRoundDone := true } ∧ t.roll.cartridge = s.poller.values.getLsbD 0 ∧
      (∀ l, (t.link l).flags.roll = true) ∧ t.index = s.index ∧ t.slots = s.slots ∧
      (s.poller.values.getLsbD 0 = true → s.tag.status ≠ .reading → s.tag.writeState ≠ .writing →
        t.roll.tagLoad = .running ∧ t.tag.status = .reading ∧ t.bus = (transferTo (.record .read) (byteTaken s)).bus) ∧
      (s.poller.values.getLsbD 0 = false → t.roll.tagLoad = s.roll.tagLoad ∧ t.bus = (transferTo .poll (byteTaken s)).bus) := by
  have htension' : tensionOut p.values = false := by
    rw [← htension]
    simp only [tensionOut, hvalues 4 (by omega), hvalues 5 (by omega), hvalues 6 (by omega), hvalues 7 (by omega)]
  obtain ⟨n, l, z, t, heffect, hleads, hn, hfacts⟩ := leads_film_found (s := endSuppression { byteTaken s with poller := p }) hq hbus
    hwaiting ((hvalues 2 (by omega)).trans hfilm) ((hvalues 1 (by omega)).trans hdoor) htension' hgrant hmove hlamp
  refine ⟨t, takes_next (new := l) (z := z) ?_ hleads hn, ?_⟩
  · rw [if_pos (by simp [transferring, hbus, htransfer]), pollEnded_first hb a hround, hp, heffect]
  · rw [← hvalues 0 (by omega)]
    exact hfacts

end

/-- Settles O58. -/
theorem pollBytesAreTaken : Obligations.PollBytesAreTaken := by
  unfold Obligations.PollBytesAreTaken
  intro v s hq hbus htransfer hb8 b after next stale x fresh read go rose fell out pulls driven suppressed
  have hx : x = pollInputs v s := rfl
  have hnext : next = nextTransfer s := by
    simp only [next, nextTransfer]
    cases s.bus.waiting <;> rfl
  have hread (hround : s.poller.firstRoundDone = true) (t : Transfer) : read t = transferTo t (byteHeld v s) := by
    simp only [read, hround, if_true]
    rfl
  have hrose (n : Nat) : rose n ↔ rises n s.poller.values x = true := by simp [rose, rises]
  have hfell (n : Nat) : fell n ↔ falls n s.poller.values x = true := by simp [fell, falls]
  have hout (y : Inputs) : out y ↔ tensionOut y = true := by simp [out, tensionOut, or_assoc]
  have hpulls : pulls ↔ pullsOut s.poller.values x = true := by simp [pulls, hout, pullsOut]
  have hdriven : driven ↔ Driven s := Iff.rfl
  refine ⟨?_, ?_, ?_, ?_, ?_, ?_, ?_⟩
  · exact fun n hn => putByte_getLsbD v s.poller.values hn
  · intro hb
    rw [exec_poll_stale hq hbus htransfer hb, ← hnext]
    rfl
  · intro hb hplain
    cases hround : s.poller.firstRoundDone
    · simp only [go]
      rw [exec_poll_silent hq hbus htransfer hb hround, ← hnext]
      simp only [read, hround, Bool.false_eq_true, if_false]
      rfl
    · have htwo : 2 ≤ s.bus.nextByte := by simpa [hround] using hplain
      rw [hread hround, hnext]
      exact exec_poll_plain hq hbus htransfer hb hround (deliver_beyond htwo _)
  · intro hb hround
    simp -zeta only [hrose, hfell, hpulls, hdriven, Bool.not_eq_true, hread hround, hnext]
    refine ⟨?_, exec_first_undriven hq hbus htransfer hb hround, exec_first_inserted hq hbus htransfer hb hround, ?_, ?_, ?_⟩
    · intro hin hgone hdoor htail hpull
      exact exec_first_still hq hbus htransfer hb hround (by rw [← hx, hin, hgone, hdoor, htail, hpull]; rfl)
    · intro hgone writes gone
      have hgone' : gone = cartridgeGone (transferTo .poll (byteHeld v s)) := by
        simp only [gone, writes]
        rfl
      have hremoved := exec_first_removed hq hbus htransfer hb hround hgone
      refine ⟨fun hstate => ?_, fun hstate => ?_, fun hempty hfaulted hno => ?_⟩
      · have := hremoved (.inl hstate)
        rw [removed, if_pos hstate, ← hgone'] at this
        exact this
      · have := hremoved (.inr (.inl hstate))
        rw [removed, if_neg (by simp [hstate]), if_pos hstate, ← hgone'] at this
        exact this
      · have := hremoved (.inr (.inr hno))
        rw [removed, if_neg hempty, if_neg hfaulted, ← hgone'] at this
        exact this
    · intro hin hgone hfilm hno
      exact ⟨exec_first_door hq hbus htransfer hb hround hin hgone hfilm hno,
        exec_first_tension hq hbus htransfer hb hround hin hgone hfilm hno⟩
    · intro hin hgone hdoor hpull htail
      refine ⟨fun hstate => ?_, fun hstate htaken => ⟨fun hback => ?_, fun hback => ?_⟩⟩
      · refine exec_first_still hq hbus htransfer hb hround ?_
        rw [← hx, hin, hgone, hdoor, hpull]
        exact gated_still (s := byteHeld v s) (rewindEnd_still (by exact hstate))
      · have := exec_first_tail hq hbus htransfer hb hround hin hgone hdoor hpull htail hstate htaken
        rw [if_neg (by simp [hback])] at this
        exact this
      · have := exec_first_tail hq hbus htransfer hb hround hin hgone hdoor hpull htail hstate htaken
        rw [if_pos hback] at this
        exact this
  · intro hb hround
    simp only [hrose, hfell, hread hround, hnext, Bool.not_eq_true]
    exact ⟨exec_second_same hq hbus htransfer hb hround, fun hup => ⟨exec_second_rises_still hq hbus htransfer hb hround hup,
      exec_second_warms hq hbus htransfer hb hround hup, exec_second_lights hq hbus htransfer hb hround hup⟩,
      fun hdown => ⟨exec_second_falls_still hq hbus htransfer hb hround hdown, exec_second_falls hq hbus htransfer hb hround hdown⟩⟩
  · intro hb hround
    rw [hread hround, hnext]
    have hbyte : (s.bus.nextByte + 1) % 8 = 0 := by omega
    have hturned (u : State) : suppressed u = roundTurned (nextTransfer s) u := by
      simp only [suppressed, hnext]
      rfl
    rw [hturned, hturned]
    exact ⟨exec_last hbus htransfer hb true hround (w := byteHeld v s) rfl hq hbyte,
      exec_last hbus htransfer hb false hround (w := markStale s.bus.nextByte (byteTaken s)) rfl hq hbyte⟩
  · intro hb hround hwait hempty begun
    have hkept : ∀ n < 8, fresh.values.getLsbD n = s.poller.values.getLsbD n := fun n hn => by
      show (putByte s.bus.nextByte v s.poller.values).getLsbD n = _
      rw [putByte_getLsbD v s.poller.values (by omega), if_neg (by omega)]
    have hturned (u : State) : suppressed u = roundTurned .poll u := by
      simp only [suppressed, hnext, nextTransfer, hwait]
      rfl
    simp only [begun, hturned]
    refine ⟨fun hfilm => ⟨?_, ?_⟩, fun hfilm hdoor htension hgrant hmove hlamp => ⟨?_, ?_⟩⟩
    · exact exec_last_bare (p := fresh) hq hbus htransfer hb true hround hwait rfl hkept hfilm
    · exact exec_last_bare (p := stale) hq hbus htransfer hb false hround hwait rfl (fun _ _ => rfl) hfilm
    · exact exec_last_film (p := fresh) hq hbus htransfer hb true hround hwait rfl hkept hfilm hdoor
        (by simpa [hout] using htension) hgrant hmove hlamp
    · exact exec_last_film (p := stale) hq hbus htransfer hb false hround hwait rfl (fun _ _ => rfl) hfilm hdoor
        (by simpa [hout] using htension) hgrant hmove hlamp

end Sys2Proof.Machine
end

section
/-! PROOFS. INDEX WRITE and the growth of the index (R13, R19, R20, R42). -/

namespace Sys2Proof.Machine

open Sys2Proof

/-! ### The growth of the index (R20, R42) -/

/-- Nothing waits for the growth of the index: no choice is to be made, no slot is RESOLVING and no pass runs. -/
def Unheeding (s : State) : Prop := AtEase s ∧ (∀ x ∈ s.slots, x.state ≠ .resolving) ∧ s.pass.state ≠ .running

/-- With no slot RESOLVING a new resolution asks the scheduler to choose, and that is all (R121). -/
theorem reresolve_unheeded {s : State} (h : ∀ x ∈ s.slots, x.state ≠ .resolving) : reresolve s = emit .choose s := by
  have hsame : s.slots.map (Slot.reresolved s) = s.slots := by
    conv_rhs => rw [← List.map_id s.slots]
    refine List.map_congr_left fun x hx => ?_
    simp [Slot.reresolved, h x hx]
  have hnone : s.slots.any (Slot.becomesPending s) = false := by
    simpa [Slot.becomesPending] using fun x hx hresolving => absurd hresolving (h x hx)
  have hurgent : s.slots.any (fun x => x.becomesPending s && x.priority == .urgent) = false := by
    simpa [Slot.becomesPending] using fun x hx hresolving => absurd hresolving (h x hx)
  have hresolving : s.anyResolving = false := by simpa [State.anyResolving] using h
  simp [reresolve, hsame, hnone, hurgent, hresolving]

/-- The consequences of the growth of the index and of its closing change nothing (R121, R122, R143, R149). -/
theorem leads_growth {s : State} (hq : Quiet s) (h : Unheeding s) (l : List Signal)
    (hl : ∀ sig ∈ l, sig = .choose ∨ sig = .indexGrew ∨ sig = .indexClosed) : ∃ n, n ≤ 2 * l.length ∧ Leads n l s s := by
  obtain ⟨hease, hresolving, hpass⟩ := h
  have hrun : inRun s = false := inRun_not_flying s (flyMoving_state s hpass)
  have hgrew : passGrew s = s := by
    unfold passGrew
    split
    · rfl
    · rw [if_neg (by simp [passDiscovers, hpass]), armNext_no_run s hrun]
  have hclosed : passClosed (emit .choose s) = emit .choose s := by
    have hrun' : inRun (emit .choose s) = false := hrun
    have hout : runningOut (emit .choose s) = false := by simp [runningOut, flyMoving_state (emit .choose s) hpass]
    unfold passClosed
    rw [if_neg (by simp [hpass]), if_neg (by simp [hrun'])]
    split
    · simp [hout]
    · rfl
  induction l with
  | nil => exact ⟨0, le_refl _, Leads.done hq⟩
  | cons sig rest ih =>
    obtain ⟨n, hn, hleads⟩ := ih fun x hx => hl x (List.mem_cons_of_mem _ hx)
    have hlength : (sig :: rest).length = rest.length + 1 := rfl
    rcases hl sig List.mem_cons_self with rfl | rfl | rfl
    · refine ⟨n + 1, by omega, Leads.skip ?_ hleads⟩
      rw [facing_nil hq]
      exact choose_at_ease s hease
    · refine ⟨n + 1, by omega, Leads.skip ?_ hleads⟩
      rw [facing_nil hq]
      exact hgrew
    · refine ⟨n + 1 + 1, by omega, Leads.cons (new := [.choose]) (u := s) ?_ (Leads.skip ?_ hleads)⟩
      · rw [facing_nil hq, ← emit_eq_facing _ hq]
        show passClosed (reresolve s) = _
        rw [reresolve_unheeded hresolving, hclosed]
      · rw [facing_nil hq]
        exact choose_at_ease s hease

/-- New entries at the end of the index, numbered from the one before (R13); the tag is dirty where the index was empty (R166). -/
def grownBy (es : List Entry) (s : State) : State :=
  { s with
    index := { s.index with
      entries := s.index.entries ++ (renumberList s.index.counters es).1
      counters := (renumberList s.index.counters es).2 }
    tag := { s.tag with dirty := s.tag.dirty || decide (s.index.entries = []) } }

/-- The index is closed with reason CAPACITY (R42). -/
def closedFull (s : State) : State :=
  onLinks (fun k => { k with flags := { k.flags with index := some .closed } })
    { s with index := { s.index with closure := some .capacity } }

/-- New entries from frame `first` on are handed on, with no checkpoint to compare them with. -/
theorem handOn_eq {first : Nat} {s : State} (hfirst : 1 ≤ first) (hle : first ≤ s.extent) (hchecks : s.index.checkpoints = [])
    (hresolving : ∀ x ∈ s.slots, x.state ≠ .resolving) :
    handOn first s = emit .indexGrew (if first = 1 then setDirty (emit .choose s) else emit .choose s) := by
  have hcompare (n k : Nat) : compareNew n k s = s := by
    induction n generalizing k with
    | zero => rfl
    | succ n ih =>
      have hsame : compareCheckpoint k s = s := by
        unfold compareCheckpoint
        split
        · next _ hfound => simp [hchecks] at hfound
        · rfl
      rw [compareNew, hsame, ih]
  have hdirty : (first - 1 ≤ highestCheck s ∧ highestCheck s < s.extent) ↔ first = 1 := by
    simp only [highestCheck, hchecks, List.getLast?_nil]
    omega
  unfold handOn
  rw [if_neg (by omega)]
  dsimp only
  rw [hcompare, reresolve_unheeded hresolving]
  by_cases h : first = 1
  · rw [if_pos (hdirty.mpr h), if_pos h]
  · rw [if_neg (fun hd => h (hdirty.mp hd)), if_neg h]

theorem extent_append (es : List Entry) (s : State) : (appendEntries es s).extent = s.extent + es.length := by
  rw [appendEntries_eq]
  simp [State.extent]

/-- Entries that fit are stored (R20). -/
theorem storeEntries_fit {es : List Entry} {s : State} (hq : Quiet s) (hsome : es ≠ []) (hfit : s.extent + es.length ≤ 16384)
    (hchecks : s.index.checkpoints = []) (hresolving : ∀ x ∈ s.slots, x.state ≠ .resolving) :
    storeEntries es s = facing [.choose, .indexGrew] (grownBy es s) := by
  have hmax : Config.maxFrames = 16384 := rfl
  have hpos : 0 < es.length := List.length_pos_iff.mpr hsome
  have htake : es.take (Config.maxFrames - s.extent) = es := List.take_of_length_le (by omega)
  unfold storeEntries
  dsimp only
  rw [htake, if_neg (by omega), handOn_eq (by omega) (by rw [extent_append]; omega) (by rw [appendEntries_eq]; exact hchecks)
    (by rw [appendEntries_eq]; exact hresolving), appendEntries_eq]
  have hempty : s.extent + 1 = 1 ↔ s.index.entries = [] := by simp [State.extent]
  by_cases h : s.index.entries = []
  · rw [if_pos (hempty.mpr h)]
    simp [emit, setDirty, facing, grownBy, h, show s.todo = [] from hq]
  · rw [if_neg (fun hone => h (hempty.mp hone))]
    simp [emit, facing, grownBy, h, show s.todo = [] from hq]

/-- Entries that do not all fit: those that do are stored, and the index closes (R20, R42). -/
theorem storeEntries_full {es : List Entry} {s : State} (hq : Quiet s) (hopen : s.index.closure = none) (hroom : s.extent ≤ 16384)
    (hfull : 16384 < s.extent + es.length) (hchecks : s.index.checkpoints = []) (hresolving : ∀ x ∈ s.slots, x.state ≠ .resolving) :
    storeEntries es s = facing (.indexClosed :: (if s.extent = 16384 then [] else [.choose, .indexGrew]))
      (closedFull (grownBy (es.take (16384 - s.extent)) s)) := by
  have hmax : Config.maxFrames = 16384 := rfl
  have hlength : (es.take (16384 - s.extent)).length = 16384 - s.extent := by
    rw [List.length_take]
    omega
  have hclose (z : State) (hz : z.index.closure = none) : closeIndex .capacity z = facing (z.todo ++ [.indexClosed]) (closedFull z) := by
    simp [closeIndex, State.indexOpen, hz, emit, facing, closedFull, flagIndex, flagBoth, onLinks]
  have hempty : s.extent + 1 = 1 ↔ s.index.entries = [] := by simp [State.extent]
  unfold storeEntries
  dsimp only
  rw [hmax, if_pos (by omega), hclose _ (by rw [appendEntries_eq]; exact hopen)]
  have hextent : (facing ((appendEntries (es.take (16384 - s.extent)) s).todo ++ [.indexClosed])
      (closedFull (appendEntries (es.take (16384 - s.extent)) s))).extent = 16384 := by
    show (appendEntries (es.take (16384 - s.extent)) s).extent = 16384
    rw [extent_append, hlength]
    omega
  by_cases hnone : s.extent = 16384
  · have hsome : s.index.entries ≠ [] := fun h => by simp [State.extent, h] at hnone
    rw [if_pos hnone, handOn, if_pos (by rw [hextent]; omega), appendEntries_eq]
    simp [grownBy, hsome, facing, closedFull, show s.todo = [] from hq]
  · rw [if_neg hnone, handOn_eq (by omega) (by rw [hextent]; omega) (by rw [appendEntries_eq]; exact hchecks)
      (by rw [appendEntries_eq]; exact hresolving), appendEntries_eq]
    by_cases h : s.index.entries = []
    · rw [if_pos (hempty.mpr h)]
      simp [emit, setDirty, facing, grownBy, h, closedFull, onLinks, show s.todo = [] from hq]
    · rw [if_neg (fun hone => h (hempty.mp hone))]
      simp [emit, facing, grownBy, h, closedFull, onLinks, show s.todo = [] from hq]

/-! ### INDEX WRITE (R19, R20) -/

theorem importEntry_isSome (d : ImportDesc) : (importEntry d).isSome = true ↔ d.cls ≤ 0x02#8 ∧ d.lengthPresent ≤ 0x01#8 := by
  have hcls : (decodeClass d.cls).isSome = true ↔ d.cls ≤ 0x02#8 := by
    unfold decodeClass
    split_ifs <;> simp only [Option.isSome_some, Option.isSome_none, Bool.false_eq_true, true_iff, false_iff] <;> bv_omega
  have hpresent : (decodeYesNo d.lengthPresent).isSome = true ↔ d.lengthPresent ≤ 0x01#8 := by
    unfold decodeYesNo
    split_ifs <;> simp only [Option.isSome_some, Option.isSome_none, Bool.false_eq_true, true_iff, false_iff] <;> bv_omega
  rw [← hcls, ← hpresent, importEntry]
  cases decodeClass d.cls <;> cases decodeYesNo d.lengthPresent <;> simp

theorem importEntry_fields {d : ImportDesc} {e : Entry} (h : importEntry d = some e) :
    e.position = d.position.toNat ∧ e.source = .imported ∧ e.capture = .none ∧ e.captureCount = 0 ∧ e.focusStep = none ∧
      e.flags = EntryFlags.clear ∧ e.length = (if d.lengthPresent = 0x01#8 then some d.length.toNat else none) := by
  have hpresent (p : Bool) (hp : decodeYesNo d.lengthPresent = some p) : (d.lengthPresent = 0x01#8) ↔ p = true := by
    unfold decodeYesNo at hp
    split_ifs at hp with hno hyes <;> cases hp
    · simp [hno]
    · simp [hyes]
  unfold importEntry at h
  split at h
  · next c p _ hp =>
    cases h
    refine ⟨rfl, rfl, rfl, rfl, rfl, rfl, ?_⟩
    simp only [newEntry, hpresent p hp]
  · cases h

/-- A description with an unknown code leaves no entries. -/
theorem importEntries_none {ds : List ImportDesc} (h : ∃ d ∈ ds, 0x02#8 < d.cls ∨ 0x01#8 < d.lengthPresent) : importEntries ds = none := by
  induction ds with
  | nil => simp at h
  | cons d rest ih =>
    obtain ⟨x, hx, hbad⟩ := h
    rcases List.mem_cons.mp hx with rfl | hrest
    · have hnone : importEntry x = none := by
        rw [← Option.not_isSome_iff_eq_none, importEntry_isSome]
        rintro ⟨hcls, hpresent⟩
        rcases hbad with h | h <;> bv_omega
      simp [importEntries, hnone]
    · cases hd : importEntry d <;> simp [importEntries, hd, ih ⟨x, hrest, hbad⟩]

theorem importEntries_length {ds : List ImportDesc} {es : List Entry} (h : importEntries ds = some es) : es.length = ds.length := by
  induction ds generalizing es with
  | nil =>
    cases h
    rfl
  | cons d rest ih =>
    unfold importEntries at h
    split at h
    · next e es' _ hrest =>
      cases h
      simp [ih hrest]
    · cases h

theorem spacedFrom_iff (gap p : Nat) (es : List Entry) : spacedFrom gap p es = true ↔
    (∀ e ∈ es.head?, p + gap ≤ e.position) ∧ ∀ x ∈ es.zip es.tail, x.1.position + gap ≤ x.2.position := by
  induction es generalizing p with
  | nil => simp [spacedFrom]
  | cons e rest ih =>
    rw [spacedFrom, Bool.and_eq_true, ih, decide_eq_true_iff]
    cases rest with
    | nil => simp
    | cons e' rest' => simp

theorem spacingHolds_iff (s : State) (es : List Entry) : spacingHolds s es = true ↔
    (∀ e ∈ es.head?, if s.index.entries = [] then s.roll.active.leader ≤ e.position
      else s.pos s.index.entries.length + s.roll.active.pitch / 2 ≤ e.position) ∧
    (∀ x ∈ es.zip es.tail, x.1.position + s.roll.active.pitch / 2 ≤ x.2.position) ∧
    (∀ t ∈ s.index.trailer, ∀ e ∈ es, e.position ≤ t) := by
  have hempty : s.extent = 0 ↔ s.index.entries = [] := by simp [State.extent]
  by_cases h : s.index.entries = []
  · cases es with
    | nil => cases htrailer : s.index.trailer <;> simp [spacingHolds, hempty, h, htrailer]
    | cons e rest =>
      have hzip : (∀ x ∈ (e :: rest).zip rest, x.1.position + s.roll.active.pitch / 2 ≤ x.2.position) ↔
          spacedFrom (s.roll.active.pitch / 2) e.position rest = true := by
        rw [spacedFrom_iff]
        cases rest <;> simp
      simp only [List.head?_cons, Option.mem_some_iff, forall_eq', List.tail_cons, hzip, h, if_true]
      cases htrailer : s.index.trailer <;> simp [spacingHolds, hempty, h, htrailer, and_assoc]
  · have hfrom := spacedFrom_iff (s.roll.active.pitch / 2) (s.pos s.extent) es
    simp only [spacingHolds, hempty, h, if_false, Bool.and_eq_true, hfrom, and_assoc]
    cases htrailer : s.index.trailer <;> simp [State.extent]

/-- Settles O32. -/
theorem indexWriteAppends : Obligations.IndexWriteAppends := by
  unfold Obligations.IndexWriteAppends
  refine ⟨?_, fun _ _ _ => rfl, fun _ => rfl, fun _ => rfl, fun _ => rfl, renumberList_length, importEntry_isSome,
    fun _ _ => importEntry_fields⟩
  intro l n d1 d2 d3 d4 s hq go refusal ds
  have hrefuse (code : AnswerCode) (h : indexWrite n.toNat [d1, d2, d3, d4] (closeStream l s) = (closeStream l s, refuse code)) :
      refusal code := request_answered l _ _ s (refuse code) hq h
  refine ⟨fun hstate => ?_, fun hempty hthreading => ⟨fun hcount => ?_, fun hone hfour => ⟨fun hbad => ?_, ?_⟩⟩⟩
  · refine hrefuse _ ?_
    unfold indexWrite
    rw [if_pos (by simpa using hstate)]
  · refine hrefuse _ ?_
    unfold indexWrite
    rw [if_neg (by simp [hempty, hthreading]), if_pos (by bv_omega)]
  · refine hrefuse _ ?_
    unfold indexWrite
    rw [if_neg (by simp [hempty, hthreading]), if_neg (by bv_omega), importEntries_none hbad]
  · intro es hes spaced barred
    have hcount : ¬ (n.toNat = 0 ∨ 4 < n.toNat) := by bv_omega
    have hlength : es.length = n.toNat := by
      have htaken := importEntries_length hes
      simp only [ds, List.length_take, List.length_cons, List.length_nil] at htaken
      omega
    have htake : indexWrite n.toNat [d1, d2, d3, d4] (closeStream l s) =
        if barred then (closeStream l s, refuse .state)
        else if spacingHolds s es = false then (closeStream l s, refuse .range)
        else (storeEntries es (closeStream l s),
          if 16384 - s.extent < n.toNat then { code := .full, contents := .number 1 (16384 - s.extent) }
          else { code := .ok, contents := .number 1 n.toNat }) := by
      have hbarred : ((closeStream l s).transport.state = .rewinding ∨ (closeStream l s).indexOpen = false ∨
          (closeStream l s).discoveryActive = true) ↔ barred := by
        have hactive : (closeStream l s).discoveryActive = s.discoveryActive := by cases l <;> rfl
        simp [barred, State.indexOpen, hactive, Option.isSome_iff_ne_none]
      have hspacing : spacingHolds (closeStream l s) es = spacingHolds s es := by cases l <;> rfl
      have hextent : (closeStream l s).extent = s.extent := by cases l <;> rfl
      unfold indexWrite
      rw [if_neg (by simp [hempty, hthreading]), if_neg hcount, hes]
      dsimp only
      rw [hextent, hspacing]
      simp only [hbarred]
      rfl
    have hspaced : spacingHolds s es = true ↔ spaced := spacingHolds_iff s es
    refine ⟨fun hbar => hrefuse _ (by rw [htake, if_pos hbar]), fun hbar hwrong => hrefuse _ ?_, ?_⟩
    · rw [htake, if_neg hbar, if_pos (by simpa using fun h => hwrong (hspaced.mp h))]
    · intro hbar hright hease hchecks hresolving hpass room grown
      have hopen : s.index.closure = none := by
        by_contra h
        exact hbar (.inr (.inl h))
      have hwrite : indexWrite n.toNat [d1, d2, d3, d4] (closeStream l s) = (storeEntries es (closeStream l s),
          if 16384 - s.extent < n.toNat then { code := .full, contents := .number 1 (16384 - s.extent) }
          else { code := .ok, contents := .number 1 n.toNat }) := by
        rw [htake, if_neg hbar, if_neg (by simp [hspaced.mpr hright])]
      have hextent : (closeStream l s).extent = s.extent := by cases l <;> rfl
      have hsome : es ≠ [] := by
        rintro rfl
        rw [List.length_nil] at hlength
        exact hcount (.inl hlength.symm)
      refine ⟨fun hfit => ?_, fun hroom hfull => ?_⟩
      · have htake' : es.take room = es := List.take_of_length_le (by omega)
        have hgrown : grown = grownBy es s := by simp only [grown, htake', grownBy]
        have hanswered : Unheeding (answered l .ok 0x12#8 (.number 1 n.toNat) (grownBy es s)) := by
          cases l <;> exact ⟨hease, hresolving, hpass⟩
        obtain ⟨m, hm, hleads⟩ := leads_growth (answered_quiet _ _ _ _ (by exact hq)) hanswered [.choose, .indexGrew] (by simp)
        rw [hgrown]
        refine request_taken (x := grownBy es s) (new := [.choose, .indexGrew]) (r := { code := .ok, contents := .number 1 n.toNat }) ?_
          hleads (hm.trans (by decide))
        rw [hwrite, if_neg (by simp only [State.extent]; omega), storeEntries_fit (closeStream_quiet l hq) hsome
          (by rw [hextent, hlength]; exact hfit) (by simpa using hchecks) (by simpa using hresolving)]
        cases l <;> rfl
      · have hanswered : Unheeding (answered l .full 0x12#8 (.number 1 room) (closedFull (grownBy (es.take room) s))) := by
          cases l <;> exact ⟨hease, hresolving, hpass⟩
        obtain ⟨m, hm, hleads⟩ := leads_growth (answered_quiet _ _ _ _ (by exact hq)) hanswered
          (.indexClosed :: (if s.extent = 16384 then [] else [.choose, .indexGrew])) (by split_ifs <;> simp)
        refine request_taken (x := closedFull (grownBy (es.take room) s)) (r := { code := .full, contents := .number 1 room }) ?_
          hleads (hm.trans ?_)
        · rw [hwrite, if_pos (by simp only [State.extent]; omega), storeEntries_full (closeStream_quiet l hq) (by simpa using hopen)
            (by rw [hextent]; exact hroom) (by rw [hextent, hlength]; exact hfull) (by simpa using hchecks) (by simpa using hresolving),
            hextent]
          cases l <;> rfl
        · split_ifs <;> decide

end Sys2Proof.Machine
end

section
/-! PROOFS. The Mark Reader, the splice sensor and resighting (R25, R26, R30, R34, R44, R45). -/

namespace Sys2Proof.Machine

open Sys2Proof

/-! ### The leg in flight -/

theorem motionLeg_of_move {m : Move} {s : State} (hm : s.transport.move = some m)
    (hstate : s.transport.state = .moving ∨ s.transport.state = .recovering) : s.motionLeg = some m.leg := by
  rcases hstate with h | h <;> simp [State.motionLeg, h, hm]

theorem motionLeg_away {s : State} (hmoving : s.transport.state ≠ .moving) (hrecovering : s.transport.state ≠ .recovering) :
    s.motionLeg = none := by
  cases h : s.transport.state <;> simp_all [State.motionLeg]

theorem motionLeg_no_move {s : State} (h : s.transport.move = none) : s.motionLeg = none := by
  cases hstate : s.transport.state <;> simp [State.motionLeg, hstate, h]

/-! ### The mark that goes to resighting (R44) -/

/-- The nearest of the entries `es` from place `i` on and the best one before them, the lower of equals. -/
theorem nearestFrom_least {m : Nat} (dist : Nat → Nat) : ∀ (es : List Entry) (i best : Nat),
    (∀ j (hj : j < es.length), dist (i + j) = distance m es[j].position) → best < i →
    (∀ j < i, dist best < dist j ∨ (dist best = dist j ∧ best ≤ j)) →
    nearestFrom m es i best (dist best) < i + es.length ∧
      ∀ j < i + es.length, dist (nearestFrom m es i best (dist best)) < dist j ∨
        (dist (nearestFrom m es i best (dist best)) = dist j ∧ nearestFrom m es i best (dist best) ≤ j)
  | [], i, best, _, hbest, hleast => ⟨hbest, hleast⟩
  | e :: rest, i, best, hdist, hbest, hleast => by
    have hhere : distance m e.position = dist i := (hdist 0 (by simp)).symm
    have hrest : ∀ j (hj : j < rest.length), dist (i + 1 + j) = distance m rest[j].position := fun j hj => by
      have := hdist (j + 1) (by simpa using hj)
      rwa [List.getElem_cons_succ, show i + (j + 1) = i + 1 + j by omega] at this
    have hlength : i + (e :: rest).length = i + 1 + rest.length := by
      rw [List.length_cons]
      omega
    rw [nearestFrom, hlength, hhere]
    split_ifs with hnearer
    · refine nearestFrom_least dist rest (i + 1) i hrest (by omega) fun j hj => ?_
      rcases Nat.lt_succ_iff_lt_or_eq.mp hj with hlt | rfl
      · rcases hleast j hlt with h | ⟨h, -⟩ <;> exact .inl (by omega)
      · exact .inr ⟨rfl, le_refl _⟩
    · refine nearestFrom_least dist rest (i + 1) best hrest (by omega) fun j hj => ?_
      rcases Nat.lt_succ_iff_lt_or_eq.mp hj with hlt | rfl
      · exact hleast j hlt
      · omega

/-- The entry to which no other is nearer, and none as near lies below it, is the nearest (R44). -/
theorem nearestFrame_eq {c k : Nat} {e : Entry} {s : State} (he : s.entry k = some e)
    (hnearest : ∀ j y, j ≠ k → s.entry j = some y →
      distance c e.position < distance c y.position ∨ (distance c e.position = distance c y.position ∧ k < j)) :
    nearestFrame c s.index.entries = k := by
  have hk : k ≠ 0 := by
    rintro rfl
    simp [State.entry] at he
  rw [entry_eq_getElem? hk] at he
  have hplace (j : Nat) (y : Entry) (hj : j ≠ k - 1) (hy : s.index.entries[j]? = some y) :
      distance c e.position < distance c y.position ∨ (distance c e.position = distance c y.position ∧ k - 1 < j) := by
    have := hnearest (j + 1) y (by omega) (by rw [entry_eq_getElem? (by omega)]; exact hy)
    omega
  obtain ⟨hlt, hat⟩ := List.getElem?_eq_some_iff.mp he
  cases hentries : s.index.entries with
  | nil => simp [hentries] at hlt
  | cons x xs =>
    rw [hentries] at hplace hlt
    have hdist (j : Nat) (hj : j < (x :: xs).length) :
        (((x :: xs)[j]?.map fun y => distance c y.position).getD 0) = distance c (x :: xs)[j].position := by
      rw [List.getElem?_eq_getElem hj]
      rfl
    obtain ⟨hbound, hleast⟩ := nearestFrom_least (m := c) (fun j => (((x :: xs)[j]?.map fun y => distance c y.position).getD 0)) xs 1 0
      (fun j hj => by
        rw [hdist (1 + j) (by rw [List.length_cons]; omega)]
        simp [Nat.add_comm 1 j]) (by omega) (fun j hj => by
        obtain rfl : j = 0 := by omega
        exact .inr ⟨rfl, le_refl _⟩)
    have hlength : 1 + xs.length = (x :: xs).length := by
      rw [List.length_cons]
      omega
    rw [hlength] at hbound hleast
    show nearestFrom c xs 1 0 (distance c x.position) + 1 = k
    have hfirst : distance c x.position = (((x :: xs)[0]?.map fun y => distance c y.position).getD 0) := rfl
    rw [hfirst]
    generalize nearestFrom c xs 1 0 _ = r at hbound hleast ⊢
    by_contra hne
    have hr : r ≠ k - 1 := by omega
    have hfar := hplace r _ hr (List.getElem?_eq_getElem hbound)
    have hnear := hleast (k - 1) hlt
    simp only [hdist r hbound, hdist (k - 1) hlt] at hnear
    have hentry : (x :: xs)[k - 1].position = e.position := by
      have hat' : (x :: xs)[k - 1]? = some e := by
        rw [← hentries]
        exact he
      rw [List.getElem?_eq_getElem hlt] at hat'
      rw [Option.some.inj hat']
    rw [hentry] at hnear
    omega

/-! ### The register has moved, and no FLY-RUN reads it (R54, R74, R149, R151) -/

/-- Outside a FLY-RUN the pass, told of the register, does nothing. -/
theorem leads_passTick {s : State} (hq : Quiet s) (hfly : flyMoving s = false) (hfill : ∀ g, fillDue s g = false) :
    ∃ n, n ≤ 2 ∧ Leads n [.passTick] s s := by
  rcases tickPass_no_fill s hfill with h | h
  · refine ⟨1, by omega, Leads.skip ?_ (Leads.done hq)⟩
    rw [facing_nil hq]
    exact h
  · refine ⟨2, le_refl _, Leads.cons (new := [.passCheck]) (u := s) ?_ (Leads.skip ?_ (Leads.done hq))⟩
    · rw [facing_nil hq, ← emit_eq_facing _ hq]
      exact h
    · rw [facing_nil hq]
      exact checkRun_no_run s (inRun_not_flying s hfly)

/-- With no move in flight a corrected register is read by nothing. -/
theorem leads_corrected {s : State} (hq : Quiet s) (hmove : s.transport.move = none) : ∃ n, n ≤ 3 ∧ Leads n [.corrected] s s := by
  have hfly := flyMoving_no_move s hmove
  obtain ⟨n, hn, hleads⟩ := leads_passTick hq hfly fun g => fillDue_no_move s g hmove
  refine ⟨n + 1, by omega, Leads.cons (new := [.passTick]) (u := s) ?_ hleads⟩
  rw [facing_nil hq, ← emit_eq_facing _ hq]
  show emit .passTick (motionCheck none (passTrigger s)) = _
  rw [passTrigger_not_flying s hfly, motionCheck, runningLeg_none s hmove]

/-! ### Resighting (R44, R45) -/

/-- The class of the entry of frame `k` is doubted where the mark measures another (R45). -/
def doubted (k : Nat) (cls : MarkClass) (s : State) : State :=
  { s with index := { s.index with entries := s.index.entries.modify (k - 1) (fun y =>
      if y.cls = cls then y else { y with flags := { y.flags with classDoubt := true } }) } }

/-- The register less the error of a mark at `c` for an entry at `p` (R2). -/
def correctedRegister (c p : Nat) (s : State) : Nat := min 16777215 ((s.tracker.register : Int) - ((c : Int) - (p : Int))).toNat

/-- The confidence after a good resighting (R45). -/
def goodTracker (c p : Nat) (s : State) : Tracker :=
  { s.tracker with
    miss := 0, register := correctedRegister c p s
    level := if s.tracker.level = .drifting ∧ 2 ≤ s.tracker.good then .locked else s.tracker.level
    good := if s.tracker.level = .drifting then (if 2 ≤ s.tracker.good then 0 else s.tracker.good + 1) else s.tracker.good }

/-- The confidence after a resighting beyond the window (R45). -/
def driftedTracker (c p : Nat) (s : State) : Tracker :=
  { s.tracker with miss := 0, good := 0, register := correctedRegister c p s, level := .drifting }

section
variable {c k len : Nat} {cls : MarkClass} {e : Entry} {s : State}

theorem entry_ne_zero (he : s.entry k = some e) : k ≠ 0 := by
  rintro rfl
  simp [State.entry] at he

theorem slipCorrect_accepted (hq : Quiet s) (hmark : s.marks.inProgress = none) (p : Nat) :
    slipCorrect ((c : Int) - (p : Int)) (resightAccepted s) =
      facing [.corrected] { s with tracker := { s.tracker with miss := 0, register := correctedRegister c p s } } := by
  have hmarks : ({ inProgress := none, lastSplice := s.marks.lastSplice } : Marks) = s.marks := by rw [← hmark]
  have hregister : clampCoord ((s.tracker.register : Int) - ((c : Int) - (p : Int))) = correctedRegister c p s := Nat.min_comm _ _
  simp only [slipCorrect, resightAccepted, emit, facing, show s.todo = [] from hq, hmark, hregister, List.nil_append]
  rw [← hmarks]
  rfl

/-- A mark within the window of the nearest entry, an OBSERVED one, corrects the register (R45). -/
theorem resight_near (hq : Quiet s) (hmark : s.marks.inProgress = none) (hk : nearestFrame c s.index.entries = k)
    (he : s.entry k = some e) (hobserved : e.source = .observed) (hnear : distance c e.position ≤ s.w) :
    resight c len cls s = facing [.corrected] (doubted k cls { s with tracker := goodTracker c e.position s }) := by
  have hk0 := entry_ne_zero he
  unfold resight
  simp only [hk, he, hobserved, if_true, hnear]
  rw [slipCorrect_accepted hq hmark, doubtClass, onEntry_of_ne hk0, goodResighting]
  by_cases hdrift : s.tracker.level = .drifting
  · by_cases hgood : 2 ≤ s.tracker.good <;> simp [facing, doubted, goodTracker, hdrift, hgood, setLevel]
  · simp [facing, doubted, goodTracker, hdrift]

/-- A mark beyond the window, within three, corrects it too, the level DRIFTING then (R45). -/
theorem resight_drifts (hq : Quiet s) (hmark : s.marks.inProgress = none) (hk : nearestFrame c s.index.entries = k)
    (he : s.entry k = some e) (hobserved : e.source = .observed) (hfar : s.w < distance c e.position)
    (hnear : distance c e.position ≤ 3 * s.w) :
    resight c len cls s = facing [.corrected] (onLinks (fun x => { x with flags := { x.flags with transport := some .drift } })
      (doubted k cls { s with tracker := driftedTracker c e.position s })) := by
  have hk0 := entry_ne_zero he
  unfold resight
  simp only [hk, he, hobserved, if_true, hnear, if_neg (by omega : ¬ distance c e.position ≤ s.w)]
  rw [slipCorrect_accepted hq hmark, doubtClass, onEntry_of_ne hk0]
  simp [facing, doubted, driftedTracker, setLevel, flagTransport, flagBoth, onLinks]

end

/-! ### A completed mark (R26, R34) -/

section
variable {c : Nat} {s : State} (hmark : s.marks.inProgress = some c)

include hmark

theorem trailingEdge_short (hshort : min 65535 (s.tracker.register - c) < s.roll.active.minMark) : trailingEdge s = discardMark s := by
  rw [trailingEdge, hmark]
  exact if_pos hshort

theorem trailingEdge_placed (hstate : s.transport.state ≠ .faulted)
    (hlong : s.roll.active.minMark ≤ min 65535 (s.tracker.register - c)) :
    trailingEdge s = placeMark c (min 65535 (s.tracker.register - c))
      (classOfLength s.roll.active (min 65535 (s.tracker.register - c))) (discardMark s) := by
  rw [trailingEdge, hmark]
  exact (if_neg (by omega)).trans (if_neg hstate)

end

section
variable {c len : Nat} {cls : MarkClass} {s : State} (hlevel : s.tracker.level ≠ .lost) (hleader : s.roll.active.leader ≤ c)

include hlevel hleader

theorem placeMark_first (hempty : s.index.entries = []) (hopen : s.index.closure = none) :
    placeMark c len cls s = firstFrame c len cls s := by
  have hextent : s.extent = 0 := by simp [State.extent, hempty]
  have hisopen : s.indexOpen = true := by simp [State.indexOpen, hopen]
  rw [placeMark, if_neg hlevel, if_neg (by omega), if_pos hextent, if_pos hisopen]

theorem placeMark_beyond (hsome : s.index.entries ≠ []) (hbeyond : s.pos s.extent + s.w < c) :
    placeMark c len cls s = if s.index.closure = none then discoverMark c len cls s else s := by
  have hextent : s.extent ≠ 0 := by simpa [State.extent] using hsome
  rw [placeMark, if_neg hlevel, if_neg (by omega), if_neg hextent, if_pos hbeyond]
  cases h : s.index.closure <;> simp [State.indexOpen, h]

theorem placeMark_within (hsome : s.index.entries ≠ []) (hwithin : c ≤ s.pos s.extent + s.w) :
    placeMark c len cls s = resight c len cls s := by
  have hextent : s.extent ≠ 0 := by simpa [State.extent] using hsome
  rw [placeMark, if_neg hlevel, if_neg (by omega), if_neg hextent, if_neg (by omega)]

end

/-! ### The entry that a splice flags (R30) -/

/-- In an ordered index the entries at or below a coordinate are the first ones. -/
theorem spliceEntry_eq {k c : Nat} {s : State} (hle : k ≤ s.index.entries.length)
    (hbelow : ∀ e ∈ s.index.entries.take k, e.position ≤ c) (habove : ∀ e ∈ s.index.entries.drop k, c < e.position) :
    spliceEntry s c = k := by
  unfold spliceEntry
  rw [← List.take_append_drop k s.index.entries, List.filter_append, List.length_append,
    List.filter_eq_self.mpr fun e he => by simpa using hbelow e he,
    List.filter_eq_nil_iff.mpr fun e he => by simpa using habove e he]
  simpa using hle

/-- A splice is recorded, and flags the entry of frame `k` (R30). -/
def spliceNoted (k : Nat) (s : State) : State :=
  onEntry k (fun e => { e with flags := { e.flags with splice := true } })
    { s with marks := { s.marks with lastSplice := some s.tracker.register } }

theorem spliceFired_recorded {k : Nat} {s : State} (hforward : s.filmForward = true) (hk : spliceEntry s s.tracker.register = k)
    (hwidens : ¬ (s.extent = 0 ∨ (k = s.extent ∧ s.pos s.extent < s.tracker.register))) : spliceFired s = spliceNoted k s := by
  subst hk
  rw [spliceFired, if_pos hforward]
  exact if_neg hwidens

theorem spliceFired_widens {k : Nat} {s : State} (hforward : s.filmForward = true) (hk : spliceEntry s s.tracker.register = k)
    (hwidens : s.extent = 0 ∨ (k = s.extent ∧ s.pos s.extent < s.tracker.register)) :
    spliceFired s = { spliceNoted k s with index := { (spliceNoted k s).index with widening := true } } := by
  subst hk
  rw [spliceFired, if_pos hforward]
  exact if_pos hwidens

theorem spliceFired_first {s : State} (hforward : s.filmForward = true) (hempty : s.index.entries = []) :
    spliceFired s = { s with marks := { s.marks with lastSplice := some s.tracker.register }, index := { s.index with widening := true } } :=
  spliceFired_widens (k := 0) hforward (by simp [spliceEntry, hempty]) (.inl (by simp [State.extent, hempty]))

theorem spliceFired_beyond {s : State} (hforward : s.filmForward = true) (hsome : s.index.entries ≠ [])
    (hall : ∀ e ∈ s.index.entries, e.position < s.tracker.register) :
    spliceFired s = { s with
      marks := { s.marks with lastSplice := some s.tracker.register }
      index := { s.index with
        widening := true
        entries := s.index.entries.modify (s.index.entries.length - 1) (fun e => { e with flags := { e.flags with splice := true } }) } } := by
  have hlength : s.index.entries.length ≠ 0 := by simpa using hsome
  have hlast : s.pos s.extent < s.tracker.register := by
    have hentry : s.entry s.extent = some (s.index.entries[s.index.entries.length - 1]'(by omega)) := by
      rw [entry_eq_getElem? (by exact hlength)]
      exact List.getElem?_eq_getElem _
    simp only [State.pos, hentry]
    exact hall _ (List.getElem_mem _)
  have hk : spliceEntry s s.tracker.register = s.extent :=
    spliceEntry_eq (le_refl _) (fun e he => (hall e (List.mem_of_mem_take he)).le) (by simp [State.extent])
  rw [spliceFired_widens hforward hk (.inr ⟨rfl, hlast⟩), spliceNoted, onEntry_of_ne (by exact hlength)]
  rfl

/-- In an ordered index a splice flags the entry of frame `k` where it lies at or beyond it and before the next (R30). -/
theorem spliceEntry_between {k : Nat} {e : Entry} {s : State} (horder : OrderLaw s) (he : s.entry k = some e)
    (hat : e.position ≤ s.tracker.register) (hnext : ∀ y ∈ s.entry (k + 1), s.tracker.register < y.position) :
    spliceEntry s s.tracker.register = k := by
  have hk := entry_ne_zero he
  rw [entry_eq_getElem? hk] at he
  obtain ⟨hlt, hat'⟩ := List.getElem?_eq_some_iff.mp he
  have hsorted (p q : Nat) (hp : p < s.index.entries.length) (hq : q < s.index.entries.length) (hpq : p < q) :
      s.index.entries[p].position < s.index.entries[q].position := List.pairwise_iff_getElem.mp horder p q hp hq hpq
  refine spliceEntry_eq (by omega) (fun x hx => ?_) (fun x hx => ?_)
  · obtain ⟨j, hj, rfl⟩ := List.mem_take_iff_getElem.mp hx
    rcases Nat.lt_or_ge j (k - 1) with hlow | hhigh
    · have := hsorted j (k - 1) (by omega) hlt hlow
      rw [hat'] at this
      omega
    · obtain rfl : j = k - 1 := by omega
      rw [hat']
      exact hat
  · obtain ⟨j, hj, rfl⟩ := List.mem_drop_iff_getElem.mp hx
    have hfirst : s.tracker.register < (s.index.entries[k]'(by omega)).position :=
      hnext _ (by rw [entry_eq_getElem? (by omega)]; exact List.getElem?_eq_getElem _)
    rcases Nat.eq_zero_or_pos j with rfl | hpos
    · exact hfirst
    · exact hfirst.trans (hsorted k (k + j) (by omega) (by omega) (by omega))

/-- Settles O53. -/
theorem marksAreRead : Obligations.MarksAreRead := by
  unfold Obligations.MarksAreRead
  refine ⟨?_, ?_, ?_, ?_, ?_, ?_, ?_, ?_, ?_⟩
  · intro m s hm hstate
    show Host.Outcome.next (leadingEdge s) = _
    have hleg := motionLeg_of_move hm hstate
    cases hmotion : s.tracker.inMotion
    · simp [leadingEdge_at_rest s hmotion]
    · simp only [leadingEdge, carryingLeg_in_motion s hmotion, hleg, Leg.readsMarks]
      simp [and_assoc]
  · intro s hmoving hrecovering
    show Host.Outcome.next (leadingEdge s) = _
    cases hmotion : s.tracker.inMotion
    · rw [leadingEdge_at_rest s hmotion]
    · simp only [leadingEdge, carryingLeg_in_motion s hmotion, motionLeg_away hmoving hrecovering]
  · intro s hq hmark
    refine takes_next (new := []) (z := s) ?_ (Leads.done hq) (Nat.zero_le _)
    rw [trailingEdge, hmark, facing_nil hq]
  · intro c s hq hmark hshort
    refine takes_next (new := []) (z := discardMark s) ?_ (Leads.done (by exact hq)) (Nat.zero_le _)
    rw [trailingEdge_short hmark hshort, facing_nil (by exact hq)]
  · intro c s hq hease hmark hstate hlevel hempty hopen hchecks hleader hlong hresolving hpass len cls triple
    have hstored : trailingEdge s = facing [.choose, .indexGrew] (grownBy [newEntry c .observed cls (some len)]
        { discardMark s with index := { s.index with widening := false } }) := by
      rw [trailingEdge_placed hmark hstate hlong, placeMark_first (by exact hlevel) (by exact hleader) (by exact hempty) (by exact hopen),
        firstFrame, storeEntries_fit (by exact hq) (by simp) (by simp [State.extent, discardMark, hempty]) (by exact hchecks)
          (by exact hresolving)]
      rfl
    obtain ⟨n, hn, hleads⟩ := leads_growth (s := grownBy [newEntry c .observed cls (some len)]
      { discardMark s with index := { s.index with widening := false } }) (by exact hq) ⟨hease, hresolving, hpass⟩ [.choose, .indexGrew]
      (by simp)
    have hgrown := takes_next hstored hleads (hn.trans (by decide))
    rw [show exec .markTrailingEdge s = takes trailingEdge s from rfl, hgrown]
    simp [grownBy, discardMark, hempty, renumberList, newEntry, triple]
  · intro c k e s hq hmark hstate hmove hlevel hleader hlong hwithin he hobserved hnear hcls hnearest
    have hk := entry_ne_zero he
    have hplace := he
    rw [entry_eq_getElem? hk] at hplace
    have hsome : s.index.entries ≠ [] := by
      rintro h
      simp [h] at hplace
    have hfound : nearestFrame c s.index.entries = k := nearestFrame_eq he fun j y hj hy => .inl (hnearest j y hj hy)
    obtain ⟨n, hn, hleads⟩ := leads_corrected (s := doubted k e.cls { discardMark s with tracker := goodTracker c e.position (discardMark s) })
      (by exact hq) (by exact hmove)
    have hsame : s.index.entries.modify (k - 1)
        (fun y => if y.cls = e.cls then y else { y with flags := { y.flags with classDoubt := true } }) = s.index.entries := by
      refine List.ext_getElem? fun j => ?_
      rw [List.getElem?_modify]
      by_cases hj : k - 1 = j
      · subst hj
        simp [hplace]
      · simp [hj]
    refine (takes_next (z := doubted k e.cls { discardMark s with tracker := goodTracker c e.position (discardMark s) }) ?_ hleads
      (hn.trans (by omega))).trans ?_
    · rw [trailingEdge_placed hmark hstate hlong, placeMark_within (by exact hlevel) (by exact hleader) (by exact hsome) (by exact hwithin),
        ← hcls]
      exact resight_near (by exact hq) rfl hfound he hobserved hnear
    · simp only [doubted, discardMark, hsame]
      rfl
  · intro s hforward
    refine ⟨fun hempty => congrArg _ (spliceFired_first hforward hempty), fun hsome hall => congrArg _ (spliceFired_beyond hforward hsome hall),
      fun horder => ⟨fun e he hbefore => ?_, fun k e he hat hlast hnext => ?_⟩⟩
    · obtain ⟨hlt, hat⟩ := List.getElem?_eq_some_iff.mp ((entry_eq_getElem? one_ne_zero).symm.trans he)
      have hfirst : s.tracker.register < (s.index.entries[0]'(by omega)).position := lt_of_lt_of_eq hbefore (congrArg _ hat.symm)
      have hsplice : spliceEntry s s.tracker.register = 0 := by
        refine spliceEntry_eq (Nat.zero_le _) (by simp) fun x hx => ?_
        obtain ⟨j, hj, rfl⟩ := List.mem_iff_getElem.mp (List.mem_of_mem_drop hx)
        rcases Nat.eq_zero_or_pos j with rfl | hpos
        · exact hfirst
        · exact hfirst.trans (List.pairwise_iff_getElem.mp horder 0 j (by omega) hj hpos)
      refine congrArg Host.Outcome.next ((spliceFired_recorded hforward hsplice ?_).trans ?_)
      · have hextent : s.extent ≠ 0 := by
          simp only [State.extent]
          omega
        exact fun h => h.elim hextent fun h => hextent h.1.symm
      · rfl
    · have hk := entry_ne_zero he
      have hpos : s.pos k = e.position := by simp [State.pos, he]
      refine congrArg Host.Outcome.next ((spliceFired_recorded hforward (spliceEntry_between horder he hat hnext) ?_).trans ?_)
      · rintro (h | ⟨h, hbeyond⟩)
        · simp [State.extent] at h
          simp [State.entry, h] at he
        · rw [← h, hpos] at hbeyond
          exact absurd (hlast h) hbeyond.ne'
      · rw [spliceNoted, onEntry_of_ne hk]
  · intro s hforward
    show Host.Outcome.next (spliceFired s) = _
    rw [spliceFired, hforward]
    rfl
  · intro s
    cases hm : s.transport.move with
    | none => simp [State.filmForward, motionLeg_no_move hm]
    | some m =>
      by_cases hstate : s.transport.state = .moving ∨ s.transport.state = .recovering
      · simp [State.filmForward, motionLeg_of_move hm hstate, hstate]
      · have hleg := motionLeg_away (fun h => hstate (.inl h)) (fun h => hstate (.inr h))
        simp [State.filmForward, hleg, hstate]

end Sys2Proof.Machine
end

section
/-! PROOFS. Marks beyond frame 1: discovery, checkpoints, conversions and misses (R34, R36 to R42, R44 to R47). -/

namespace Sys2Proof.Machine

open Sys2Proof

/-! ### A new entry with a checkpoint (R41) -/

/-- The checkpoint of frame `k` takes a state. -/
def checkMarked (k : Nat) (v : CheckState) (s : State) : State :=
  { s with index := { s.index with checkpoints := s.index.checkpoints.map (fun x => if x.frame = k then { x with state := v } else x) } }

/-- The checkpoint of a frame is the only one of that frame. -/
theorem find_checkpoint {y : Checkpoint} {l : List Checkpoint} (hy : y ∈ l) (hascend : checksAscend l) :
    l.find? (fun c => c.frame == y.frame) = some y := by
  induction l with
  | nil => cases hy
  | cons x rest ih =>
    obtain ⟨hfirst, hrest⟩ := List.pairwise_cons.mp hascend
    rcases List.mem_cons.mp hy with rfl | hmem
    · simp
    · have hlt := hfirst y hmem
      rw [List.find?_cons_of_neg (by simp; omega), ih hmem hrest]

/-- The last checkpoint of an ascending list lies at or beyond each other. -/
theorem le_highestCheck {y : Checkpoint} {s : State} (hy : y ∈ s.index.checkpoints) (hascend : checksAscend s.index.checkpoints) :
    y.frame ≤ highestCheck s := by
  unfold highestCheck
  cases hlast : s.index.checkpoints.getLast? with
  | none => simp [List.getLast?_eq_none_iff.mp hlast] at hy
  | some z =>
    obtain ⟨l, hl⟩ := List.getLast?_eq_some_iff.mp hlast
    rw [hl] at hy hascend
    rcases List.mem_append.mp hy with hmem | hmem
    · exact ((List.pairwise_append.mp hascend).2.2 y hmem z (by simp)).le
    · rw [List.mem_singleton.mp hmem]

theorem checkMarked_highest (k : Nat) (v : CheckState) (s : State) : highestCheck (checkMarked k v s) = highestCheck s := by
  simp only [highestCheck, checkMarked, List.getLast?_map]
  cases s.index.checkpoints.getLast? with
  | none => rfl
  | some z =>
    simp only [Option.map_some]
    split_ifs <;> rfl

/-- The new entry agrees with its checkpoint (R41). -/
def agrees (x : Entry) (y : Checkpoint) (s : State) : Prop := distance x.position y.position ≤ s.w ∧ x.cls = y.cls

/-- What the comparison of a new entry with its checkpoint leaves (R41). -/
theorem compareCheckpoint_eq {x : Entry} {y : Checkpoint} {s : State} (hx : s.entry y.frame = some x) (hy : y ∈ s.index.checkpoints)
    (hascend : checksAscend s.index.checkpoints) :
    (agrees x y s → compareCheckpoint y.frame s =
      onEntry y.frame (fun e => { e with flags := { e.flags with verified := true } }) (checkMarked y.frame .verified s)) ∧
    (¬ agrees x y s → compareCheckpoint y.frame s = setDirty (flagIndex .diverge (checkMarked y.frame .diverged s))) := by
  have hfind := find_checkpoint hy hascend
  refine ⟨fun h => ?_, fun h => ?_⟩
  · simp [compareCheckpoint, hx, hfind, h.1, h.2, checkMarked]
  · have hok : (decide (distance x.position y.position ≤ s.w) && x.cls == y.cls) = false := by
      simpa [agrees] using h
    simp [compareCheckpoint, hx, hfind, hok, checkMarked]

/-- New entries that the checkpoints beyond them leave the tag as it is are handed on. -/
theorem handOn_compared {first : Nat} {s u : State} (hle : first ≤ s.extent) (hcompared : compareNew (s.extent + 1 - first) first s = u)
    (hresolving : ∀ x ∈ u.slots, x.state ≠ .resolving) (hhigh : s.extent ≤ highestCheck s) :
    handOn first s = emit .indexGrew (emit .choose u) := by
  unfold handOn
  rw [if_neg (by omega)]
  dsimp only
  rw [hcompared, reresolve_unheeded hresolving, if_neg (by omega)]

section
variable {x : Entry} {y : Checkpoint} {s : State} (hq : Quiet s) (hroom : s.extent < 16384) (hsome : s.index.entries ≠ [])
  (hy : y ∈ s.index.checkpoints) (hframe : y.frame = s.extent + 1) (hascend : checksAscend s.index.checkpoints)
  (hresolving : ∀ x ∈ s.slots, x.state ≠ .resolving)

include hq hroom hsome hy hframe hascend hresolving

/-- One new entry with a checkpoint of its frame is stored (R20, R41). -/
theorem storeEntries_compared :
    (agrees x y s → storeEntries [x] s = facing [.choose, .indexGrew]
      (checkMarked y.frame .verified (grownBy [{ x with flags := { x.flags with verified := true } }] s))) ∧
    (¬ agrees x y s → storeEntries [x] s = facing [.choose, .indexGrew]
      (onLinks (fun k => { k with flags := { k.flags with index := some .diverge } })
        (setDirty (checkMarked y.frame .diverged (grownBy [x] s))))) := by
  have hmax : Config.maxFrames = 16384 := rfl
  have hdirty : (s.tag.dirty || decide (s.index.entries = [])) = s.tag.dirty := by simp [hsome]
  have htag : ({ s.tag with dirty := s.tag.dirty || decide (s.index.entries = []) } : Tag) = s.tag := by rw [hdirty]
  have happended : appendEntries [x] s = grownBy [x] s := by
    rw [appendEntries_eq, grownBy, htag]
  have hextent : (grownBy [x] s).extent = s.extent + 1 := by rw [← happended, extent_append]; rfl
  have hentry : (grownBy [x] s).entry y.frame = some { x with triple := nextTriple s.index.counters x.cls } := by
    rw [entry_eq_getElem? (by omega), hframe]
    simp [grownBy, renumberList, State.extent]
  obtain ⟨hyes, hno⟩ := compareCheckpoint_eq hentry (by exact hy) (by exact hascend)
  have hstore (u : State) (hu : compareCheckpoint y.frame (grownBy [x] s) = u) (hslots : u.slots = s.slots) :
      storeEntries [x] s = emit .indexGrew (emit .choose u) := by
    unfold storeEntries
    dsimp only
    rw [List.take_of_length_le (by simp; omega), happended, if_neg (by simp; omega)]
    refine handOn_compared (by omega) ?_ (by rw [hslots]; exact hresolving) ?_
    · rw [hextent, Nat.add_sub_cancel_left]
      show compareNew 0 (s.extent + 1 + 1) (compareCheckpoint (s.extent + 1) (grownBy [x] s)) = u
      rw [← hframe]
      exact hu
    · rw [hextent, ← hframe]
      exact le_highestCheck (s := grownBy [x] s) hy hascend
  refine ⟨fun h => ?_, fun h => ?_⟩
  · rw [hstore _ (hyes h) (by rw [onEntry_of_ne (by omega)]; rfl), onEntry_of_ne (by omega), hframe]
    have hlast : (grownBy [x] s).index.entries.modify (s.extent + 1 - 1) (fun e => { e with flags := { e.flags with verified := true } }) =
        (grownBy [{ x with flags := { x.flags with verified := true } }] s).index.entries := by
      refine List.ext_getElem? fun j => ?_
      simp only [grownBy, renumberList, State.extent, Nat.add_sub_cancel, List.getElem?_modify]
      by_cases hj : s.index.entries.length = j
      · subst hj
        simp
      · rcases Nat.lt_or_gt_of_ne hj with h | h <;> simp [hj, List.getElem?_append, h]
    simp only [emit, facing, checkMarked, hlast, show (grownBy [x] s).todo = [] from hq]
    rfl
  · rw [hstore _ (hno h) rfl]
    simp [emit, facing, checkMarked, setDirty, flagIndex, flagBoth, onLinks, show (grownBy [x] s).todo = [] from hq]

end

/-! ### A mark beyond the frontier (R36 to R39) -/

/-- The wider window of a splice is used up (R38). -/
def widenUsed (s : State) : State := { s with index := { s.index with widening := false } }

/-- pitch_q after an acceptance of the `j`th frame on, at `c` (R39). -/
def nextPitch (c j : Nat) (s : State) : Nat :=
  if j = 1 ∧ pitchUpdateAllowed s c s.index.widening = true then
    updatedPitch s.roll.active.pitch s.index.pitchQ (c - s.pos s.extent)
  else s.index.pitchQ

/-- The index with this pitch, the wider window used up. -/
def pitched (q : Nat) (s : State) : State := { s with index := { s.index with widening := false, pitchQ := q } }

/-- The window of the test, twice as wide after a splice (R38). -/
def testWindow (s : State) : Nat := if s.index.widening then 2 * s.w else s.w

section
variable {c len : Nat} {cls : MarkClass} {s : State}

/-- The frames counted from entry E to the mark (R36). -/
def framesOn (c : Nat) (s : State) : Nat := framesBetween s.index.pitchQ (c - s.pos s.extent)

theorem discoverMark_none (hj : framesOn c s = 0) : discoverMark c len cls s = strayMark (widenUsed s) := if_pos hj

theorem discoverMark_gap (hj : framesOn c s ≠ 0) (hmany : s.params.maxFill < framesOn c s - 1) :
    discoverMark c len cls s =
      storeEntries [{ newEntry c .observed cls (some len) with flags := { EntryFlags.clear with gap := true } }] (widenUsed s) :=
  (if_neg hj).trans (if_pos hmany)

theorem discoverMark_far (hj : framesOn c s ≠ 0) (hfew : framesOn c s - 1 ≤ s.params.maxFill)
    (hfar : testWindow s < distance c (s.predFromE (s.extent + framesOn c s))) : discoverMark c len cls s = strayMark (widenUsed s) :=
  ((if_neg hj).trans (if_neg (not_lt.mpr hfew))).trans (if_neg (not_le.mpr hfar))

theorem discoverMark_near (hj : framesOn c s ≠ 0) (hfew : framesOn c s - 1 ≤ s.params.maxFill)
    (hnear : distance c (s.predFromE (s.extent + framesOn c s)) ≤ testWindow s) :
    discoverMark c len cls s = storeEntries (fillEntries s (framesOn c s - 1) ++ [newEntry c .observed cls (some len)])
      (pitched (nextPitch c (framesOn c s) s) s) := by
  refine (((if_neg hj).trans (if_neg (not_lt.mpr hfew))).trans (if_pos hnear)).trans ?_
  show storeEntries _ (if framesOn c s = 1 ∧ pitchUpdateAllowed s c s.index.widening = true then _ else _) = _
  unfold nextPitch
  split_ifs <;> rfl

theorem predFromE_on (i : Nat) : s.predFromE (s.extent + i) = s.pos s.extent + (i * s.index.pitchQ + 8) / 16 := by
  simp only [State.predFromE, predict, Nat.add_sub_cancel_left]

/-- pitch_q moves with a mark one frame on, after an OBSERVED entry without GAP, with no splice between and the window not widened (R39). -/
theorem pitchUpdateAllowed_iff {m : Nat} (hsome : 1 ≤ s.extent) (hroom : s.extent < 16384) :
    pitchUpdateAllowed s m s.index.widening = true ↔
      (∀ e ∈ s.entry s.extent, e.source = .observed ∧ e.flags.gap = false) ∧ s.index.widening = false ∧
        ∀ x ∈ s.marks.lastSplice, ¬ (s.pos s.extent < x ∧ x ≤ m) := by
  have hmax : Config.maxFrames = 16384 := rfl
  obtain ⟨e, he⟩ : ∃ e, s.entry s.extent = some e := by
    rw [entry_eq_getElem? (by omega)]
    exact ⟨_, List.getElem?_eq_getElem (by simp only [State.extent] at hsome ⊢; omega)⟩
  cases hsplice : s.marks.lastSplice with
  | none => simp [pitchUpdateAllowed, he, hsplice, hmax, hroom, and_assoc]
  | some x =>
    have hbetween : (x ≤ s.pos s.extent ∨ m < x) ↔ ¬ (s.pos s.extent < x ∧ x ≤ m) := by omega
    simp [pitchUpdateAllowed, he, hsplice, hmax, hroom, and_assoc, hbetween]

end

/-! ### Conversion and a miss (R46, R47) -/

section
variable {c k len : Nat} {cls : MarkClass} {e : Entry} {s : State}

theorem betweenNeighbours_iff (s : State) (k c : Nat) : betweenNeighbours s k c = true ↔
    (∀ y ∈ s.entry (k - 1), y.position < c) ∧ ∀ y ∈ s.entry (k + 1), c < y.position := by
  cases hlow : s.entry (k - 1) <;> cases hhigh : s.entry (k + 1) <;> simp [betweenNeighbours, hlow, hhigh]

theorem resight_converts (hk : nearestFrame c s.index.entries = k) (he : s.entry k = some e) (hsource : e.source ≠ .observed)
    (hnear : distance c e.position ≤ s.w) (hbetween : betweenNeighbours s k c = true) :
    resight c len cls s = convertEntry k c len cls s := by
  simp [resight, hk, he, hsource, hnear, hbetween]

/-- A conversion that leaves the class (R47). -/
theorem convertEntry_same (he : s.entry k = some e) (hcls : e.cls = cls) :
    convertEntry k c len cls s = { resightAccepted s with index := { s.index with
      entries := s.index.entries.modify (k - 1) (fun _ => Entry.converted c len cls e) } } := by
  have hk := entry_ne_zero he
  have hplace := he
  rw [entry_eq_getElem? hk] at hplace
  have hsame : s.index.entries.modify (k - 1) (Entry.converted c len cls) =
      s.index.entries.modify (k - 1) (fun _ => Entry.converted c len cls e) := by
    refine List.ext_getElem? fun j => ?_
    rw [List.getElem?_modify, List.getElem?_modify]
    by_cases hj : k - 1 = j
    · subst hj
      simp [hplace]
    · simp [hj]
  rw [convertEntry_eq he, if_pos hcls, onEntry_of_ne hk, ← hsame]
  rfl

/-- A conversion that changes the class renumbers the index from the entry on (R14, R47). -/
theorem convertEntry_renumbers (he : s.entry k = some e) (hcls : e.cls ≠ cls) :
    let start := ((s.entry (k - 1)).map Entry.triple).getD { batch := 0, document := 0, page := 0 }
    let r := renumberList start (Entry.converted c len cls e :: s.index.entries.drop k)
    convertEntry k c len cls s = onLinks (fun x => { x with flags := { x.flags with index := some .renumbered } })
      { resightAccepted s with index := { s.index with entries := s.index.entries.take (k - 1) ++ r.1, counters := r.2 } } := by
  intro start r
  have hk := entry_ne_zero he
  have hplace := he
  rw [entry_eq_getElem? hk] at hplace
  obtain ⟨hlt, hat⟩ := List.getElem?_eq_some_iff.mp hplace
  have hparts : s.index.entries.modify (k - 1) (Entry.converted c len cls) =
      s.index.entries.take (k - 1) ++ Entry.converted c len cls e :: s.index.entries.drop k := by
    rw [List.modify_eq_take_cons_drop hlt, hat, Nat.sub_add_cancel (Nat.pos_of_ne_zero hk)]
  have hlength : (s.index.entries.take (k - 1)).length = k - 1 := by
    rw [List.length_take]
    omega
  have hbefore : (onEntry k (Entry.converted c len cls) (resightAccepted s)).entry (k - 1) = s.entry (k - 1) := by
    rw [onEntry_of_ne hk]
    by_cases hfirst : k - 1 = 0
    · simp [State.entry, hfirst]
    · rw [entry_eq_getElem? hfirst, entry_eq_getElem? hfirst, List.getElem?_modify]
      simp [resightAccepted, show k - 1 ≠ k - 1 - 1 by omega]
  rw [convertEntry_eq he, if_neg hcls, renumberFrom_eq, hbefore, onEntry_of_ne hk]
  simp only [show (resightAccepted s).index = s.index from rfl, hparts, List.take_left' hlength, List.drop_left' hlength]
  rfl

theorem resight_misses (hk : nearestFrame c s.index.entries = k) (he : s.entry k = some e)
    (hmiss : (e.source = .observed ∧ 3 * s.w < distance c e.position) ∨
      (e.source ≠ .observed ∧ (s.w < distance c e.position ∨ ¬ betweenNeighbours s k c = true))) :
    resight c len cls s = resightMiss s := by
  unfold resight
  simp only [hk, he]
  rcases hmiss with ⟨hsource, hfar⟩ | ⟨hsource, hfar⟩
  · rw [if_pos hsource, if_neg (by omega), if_neg (by omega)]
  · rw [if_neg hsource, if_neg]
    rintro ⟨hnear, hbetween⟩
    exact hfar.elim (fun h => by omega) fun h => h hbetween

end

/-- The level LOST touches no move where none is in flight (R46). -/
theorem loseConfidence_no_move {s : State} (hmove : s.transport.move = none) : loseConfidence s = emit .choose (setLevel .lost s) := by
  have hkept : (emit .choose (setLevel .lost s)).transport.move = none := hmove
  simp only [loseConfidence, hkept]

/-- A move that runs stops for the level LOST (R46, R60). -/
theorem loseConfidence_running {m : Move} {s : State} (hm : s.transport.move = some m) (hstate : s.transport.state = .moving)
    (hphase : m.phase = .running) (hhome : m.purpose ≠ .home) (hrewind : m.purpose ≠ .rewind) :
    loseConfidence s = comingToRest m .lost (emit .choose (setLevel .lost s)) := by
  have hkept : (emit .choose (setLevel .lost s)).transport.move = some m := hm
  have hmoving : (emit .choose (setLevel .lost s)).transport.state = .moving := hstate
  simp only [loseConfidence, hkept, hmoving, hhome, hrewind, or_self, if_false, hphase, if_true]
  exact stopFor_eq m .lost hkept

/-- Settles O54. -/
theorem discoveryAndResighting : Obligations.DiscoveryAndResighting := by
  unfold Obligations.DiscoveryAndResighting
  intro c s hq hease hmark hstate hlevel hleader len E hlong hsome cls w base go
  have hne : s.index.entries ≠ [] := by
    rintro h
    simp [E, h] at hsome
  have hplaced {l : List Signal} {n : Nat} {z t : State} (h : placeMark c len cls base = facing l z) (hl : Leads n l z t) (hn : n ≤ 100) :
      go = .next t :=
    takes_next ((trailingEdge_placed hmark hstate hlong).trans h) hl hn
  refine ⟨fun hbeyond => ?_, fun hwithin => ?_⟩
  · have hdiscover := placeMark_beyond (len := len) (cls := cls) (s := base) hlevel hleader hne hbeyond
    refine ⟨fun hclosed => ?_, ?_⟩
    · refine hplaced (l := []) (hdiscover.trans ?_) (Leads.done hq) (Nat.zero_le _)
      rw [if_neg hclosed, facing_nil (by exact hq)]
    · intro hopen hresolving hpass delta j window predicted tested stray made seen placed grown closed step nominal pitch
      rw [if_pos (by exact hopen)] at hdiscover
      have hE : base.extent = E := rfl
      have hj : framesOn c base = j := rfl
      have hpredicted (i : Nat) : base.predFromE (base.extent + i) = predicted i := predFromE_on i
      have hwindow : testWindow base = window := rfl
      have hstray : strayMark (widenUsed base) = stray := by
        rw [strayMark, onEntry_of_ne (by exact Nat.pos_iff_ne_zero.mp hsome)]
        rfl
      have hgrown (es : List Entry) (q : Nat) : grownBy es (pitched q base) = grown es q := by
        simp only [grownBy, grown, tested, pitched, show base.index.entries = s.index.entries from rfl, hne, decide_false, Bool.or_false]
        rfl
      have hgoes {l : List Signal} {n : Nat} {z t : State} (h : discoverMark c len cls base = facing l z) (hl : Leads n l z t)
          (hn : n ≤ 100) : go = .next t := hplaced (hdiscover.trans h) hl hn
      have hstrays (h : discoverMark c len cls base = strayMark (widenUsed base)) : go = .next stray :=
        hgoes (l := []) (h.trans (hstray.trans (facing_nil (by exact hq)).symm)) (Leads.done (by exact hq)) (Nat.zero_le _)
      have hfits (es : List Entry) (q : Nat) (hes : es ≠ []) (hchecks : s.index.checkpoints = []) (hroom : E + es.length ≤ 16384)
          (h : discoverMark c len cls base = storeEntries es (pitched q base)) : go = .next (grown es q) := by
        obtain ⟨n, hn, hleads⟩ := leads_growth (s := grown es q) hq ⟨hease, hresolving, hpass⟩ [.choose, .indexGrew] (by simp)
        refine hgoes (h.trans ((storeEntries_fit (s := pitched q base) hq hes hroom hchecks hresolving).trans ?_)) hleads
          (hn.trans (by decide))
        rw [hgrown]
      have hfills (es : List Entry) (q : Nat) (hchecks : s.index.checkpoints = []) (hroom : E ≤ 16384) (hfull : 16384 < E + es.length)
          (h : discoverMark c len cls base = storeEntries es (pitched q base)) :
          go = .next (closed (grown (es.take (16384 - E)) q)) := by
        obtain ⟨n, hn, hleads⟩ := leads_growth (s := closed (grown (es.take (16384 - E)) q)) hq ⟨hease, hresolving, hpass⟩
          (.indexClosed :: (if E = 16384 then [] else [.choose, .indexGrew])) (by split_ifs <;> simp)
        refine hgoes (h.trans ((storeEntries_full (s := pitched q base) hq hopen hroom hfull hchecks hresolving).trans ?_)) hleads
          (hn.trans ?_)
        · rw [← hgrown]
          rfl
        · split_ifs <;> decide
      have hmade : fillEntries base (j - 1) ++ [newEntry c .observed cls (some len)] = placed := by
        refine congrArg (· ++ [seen]) (List.map_congr_left fun i _ => ?_)
        rw [← hpredicted, show base.extent + 1 + i = base.extent + (i + 1) by omega]
        rfl
      have hlength : placed.length = j - 1 + 1 := by simp [placed]
      have hpitch (hroom : E < 16384) : nextPitch c j base = pitch := by
        have hallowed : pitchUpdateAllowed base c base.index.widening = true ↔
            (∀ e ∈ s.entry E, e.source = .observed ∧ e.flags.gap = false) ∧ s.index.widening = false ∧
              ∀ x ∈ s.marks.lastSplice, ¬ (s.pos E < x ∧ x ≤ c) := pitchUpdateAllowed_iff (s := base) hsome hroom
        simp only [nextPitch, hallowed]
        rfl
      refine ⟨fun hnone => hstrays (discoverMark_none hnone), fun hone hfew hfar => hstrays (discoverMark_far ?_ hfew ?_), ?_, ?_, ?_⟩
      · exact Nat.pos_iff_ne_zero.mp hone
      · rw [hj, hpredicted]
        exact hfar
      · intro hchecks hmany gap
        have hstores : discoverMark c len cls base = storeEntries [gap] (pitched s.index.pitchQ base) := by
          refine discoverMark_gap ?_ hmany
          rw [hj]
          omega
        refine ⟨fun hroom => hfits [gap] _ (by simp) hchecks (by simpa using hroom) hstores, fun hfull => ?_⟩
        have := hfills [gap] s.index.pitchQ hchecks hfull.le (by simp [hfull]) hstores
        rwa [hfull, Nat.sub_self, List.take_zero] at this
      · intro hchecks hone hfew hnear
        have hstores : discoverMark c len cls base = storeEntries placed (pitched (nextPitch c j base) base) := by
          rw [← hmade]
          refine discoverMark_near (Nat.pos_iff_ne_zero.mp hone) hfew ?_
          rw [hj, hpredicted]
          exact hnear
        refine ⟨fun hroom => ?_, fun hroom hfull => ?_⟩
        · rw [hpitch (by omega)] at hstores
          exact hfits placed pitch (by simp [placed]) hchecks (by rw [hlength]; omega) hstores
        · have hkept : nextPitch c j base = s.index.pitchQ := by
            refine if_neg ?_
            rintro ⟨hj1, hallowed⟩
            have hextent : ¬ base.extent < Config.maxFrames := by
              rw [hE, show Config.maxFrames = 16384 from rfl]
              omega
            simp [pitchUpdateAllowed, hextent] at hallowed
          rw [hkept] at hstores
          exact hfills placed _ hchecks hroom (by rw [hlength]; omega) hstores
      · intro y hy hframe hascend hroom hj1 hnear mark
        have hstores : discoverMark c len cls base = storeEntries [seen] (pitched pitch base) := by
          rw [← hpitch hroom]
          refine (discoverMark_near (by rw [hj]; omega) (by rw [hj]; omega) ?_).trans ?_
          · rw [hj, hpredicted, hj1]
            exact hnear
          · rw [hj, hj1]
            rfl
        have hcompared := storeEntries_compared (x := seen) (y := y) (s := pitched pitch base) hq hroom hne hy hframe hascend hresolving
        have hagrees : agrees seen y (pitched pitch base) ↔ distance c y.position ≤ max 40 (pitch / 64) ∧ cls = y.cls := Iff.rfl
        have hleads (z : State) (hz : Quiet z) (hunheeding : Unheeding z) (h : storeEntries [seen] (pitched pitch base) =
            facing [.choose, .indexGrew] z) : go = .next z := by
          obtain ⟨n, hn, hleads⟩ := leads_growth hz hunheeding [.choose, .indexGrew] (by simp)
          exact hgoes (hstores.trans h) hleads (hn.trans (by decide))
        split_ifs with hsame
        · refine hleads _ hq ⟨hease, hresolving, hpass⟩ ((hcompared.1 (hagrees.mpr hsame)).trans ?_)
          rw [hgrown, hframe]
          rfl
        · refine hleads _ hq ⟨hease, hresolving, hpass⟩ ((hcompared.2 (mt hagrees.mp hsame)).trans ?_)
          rw [hgrown, hframe]
          rfl
  · intro k e he hnearest d between doubted' moved miss
    have hresight := placeMark_within (len := len) (cls := cls) (s := base) hlevel hleader hne hwithin
    have hk := entry_ne_zero he
    have hfound : nearestFrame c base.index.entries = k := nearestFrame_eq he hnearest
    refine ⟨fun hobserved hmove hnear => ?_, fun hobserved hmove hfar hnear => ?_, fun hsource hnear hbetween => ?_, fun hmiss => ?_⟩
    · have hleads := leads_corrected (s := doubted k cls { base with tracker := goodTracker c e.position base }) hq hmove
      obtain ⟨n, hn, hleads⟩ := hleads
      exact hplaced (hresight.trans (resight_near hq rfl hfound he hobserved hnear)) hleads (by omega)
    · have hleads := leads_corrected (s := onLinks (fun x => { x with flags := { x.flags with transport := some .drift } })
        (doubted k cls { base with tracker := driftedTracker c e.position base })) hq hmove
      obtain ⟨n, hn, hleads⟩ := hleads
      exact hplaced (hresight.trans (resight_drifts hq rfl hfound he hobserved hfar hnear)) hleads (by omega)
    · have hconverts := resight_converts (len := len) (cls := cls) (s := base) hfound he hsource hnear
        ((betweenNeighbours_iff base k c).mpr hbetween)
      refine ⟨fun hsame => ?_, fun hother => ?_⟩
      · refine hplaced (l := []) (hresight.trans (hconverts.trans ((convertEntry_same (s := base) he hsame).trans ?_))) (Leads.done ?_) (Nat.zero_le _)
        · exact (facing_nil (by exact hq)).symm
        · exact hq
      · intro start r
        have hstart : start = ((base.entry (k - 1)).map Entry.triple).getD { batch := 0, document := 0, page := 0 } := by
          show (_ : Triple) = ((s.entry (k - 1)).map Entry.triple).getD _
          cases hprev : s.entry (k - 1) <;> simp [start, hprev]
        simp only [r, hstart]
        refine hplaced (l := []) (hresight.trans (hconverts.trans ((convertEntry_renumbers (s := base) he hother).trans ?_))) (Leads.done ?_)
          (Nat.zero_le _)
        · exact (facing_nil (by exact hq)).symm
        · exact hq
    · have hmissed := resight_misses (len := len) (cls := cls) (s := base) hfound he
        (hmiss.imp id (And.imp id (Or.imp id (mt (betweenNeighbours_iff base k c).mp))))
      refine ⟨fun hfirst => ?_, ?_⟩
      · refine hplaced (l := []) (hresight.trans (hmissed.trans ((if_pos hfirst).trans ?_))) (Leads.done ?_) (Nat.zero_le _)
        · exact (facing_nil (by exact hq)).symm
        · exact hq
      intro hsecond hgrant lost
      refine ⟨fun hmove => ?_, fun m hm hmoving hphase hhome hrewind => ?_⟩
      · refine hplaced (l := [.choose]) (n := 1) (z := lost) (hresight.trans (hmissed.trans ((if_neg hsecond).trans ?_)))
          (leads_idle (s := lost) (by exact hq) (idle_choose (.inl hgrant))) (by omega)
        rw [loseConfidence_no_move (s := base) hmove]
        exact emit_eq_facing _ (by exact hq)
      · refine hplaced (l := [.choose]) (n := 1) (z := comingToRest m .lost lost)
          (hresight.trans (hmissed.trans ((if_neg hsecond).trans ?_)))
          (leads_idle (s := comingToRest m .lost lost) (by exact hq) (idle_choose (.inl hgrant))) (by omega)
        rw [loseConfidence_running (s := base) hm hmoving hphase hhome hrewind, ← emit_eq_facing _ (by exact hq)]
        rfl

end Sys2Proof.Machine
end

section
/-! PROOFS. The rules of a move in flight: its legs, its stops, its final approach and what the running leg makes of the register
(R50, R51, R54, R55, R59). -/

namespace Sys2Proof.Machine

open Sys2Proof

/-! ### Consequences one after another (log 4) -/

/-- More fuel leads to the same state. -/
theorem Leads.more {n m : Nat} {l : List Signal} {s t : State} (h : Leads n l s t) (hle : n ≤ m) : Leads m l s t :=
  ⟨(settle_more n m _ hle (h.1 ▸ h.2)).trans h.1, h.2⟩

/-- Two lists of consequences run one after the other. -/
theorem Leads.append {n m : Nat} {l k : List Signal} {s u t : State} (hl : Leads n l s u) (hk : Leads m k u t) :
    Leads (n + m) (l ++ k) s t := by
  induction n generalizing l s with
  | zero =>
    obtain ⟨rfl, hquiet⟩ := hl
    obtain rfl : l = [] := hquiet
    rw [Nat.zero_add, List.nil_append]
    exact hk
  | succ n ih =>
    cases l with
    | nil =>
      have hsame : facing [] s = u := by rw [← hl.1, settle_nil _ _ rfl]
      subst hsame
      exact Leads.more hk (by omega)
    | cons sig rest =>
      have hnext : Leads n ((handle sig (facing [] s)).todo ++ rest) (handle sig (facing [] s)) u := by
        refine ⟨?_, hl.2⟩
        rw [← hl.1, settle_cons n (facing (sig :: rest) s) sig rest rfl]
        rfl
      have hboth := ih hnext
      rw [show n + 1 + m = n + m + 1 by omega, List.cons_append]
      refine Leads.cons (new := (handle sig (facing [] s)).todo) (u := handle sig (facing [] s)) rfl ?_
      rwa [← List.append_assoc]

/-! ### Legs (R51) -/

/-- The leg `g` of the move `m` begins, the plan `rest` still to run. -/
def legBegun (m : Move) (g : Leg) (rest : List Leg) (afterRest : Bool) (s : State) : State :=
  { s with
    transport := { s.transport with
      capstan := some g.direction
      stallTimer := if afterRest then some s.params.stallTime else s.transport.stallTimer
      move := some { m with leg := g, plan := rest, travel := 0, atRest := none, finalApproach := false } }
    marks := { s.marks with inProgress := if g.cls = .shuttle then none else s.marks.inProgress } }

/-- The drive is stopped, and the move awaits rest for `a` (R51). -/
def restAwaited (m : Move) (a : RestAction) (s : State) : State :=
  { s with transport := { s.transport with
      capstan := none, stallTimer := none, move := some { m with finalApproach := false, atRest := some a } } }

/-- The move has arrived and settles (R55). -/
def settles (m : Move) (s : State) : State :=
  { s with
    transport := { s.transport with
      state := .settling, capstan := none, stallTimer := none, settleTimer := some s.params.settleTime, gateReady := false
      move := some { m with finalApproach := false, settleTaken := false, atRest := none } }
    roll := { s.roll with idleTimer := none } }

section
variable {m : Move} {g : Leg} {rest : List Leg} {s : State} (hm : s.transport.move = some m)

include hm

theorem beginLeg_eq (afterRest : Bool) : beginLeg g rest afterRest s = legBegun m g rest afterRest s := by
  by_cases hcls : g.cls = .shuttle <;> simp [beginLeg, onMove, hm, hcls, discardMark, legBegun]

theorem takeLeg_plain (afterRest forward : Bool) (hstop : g.stop ≠ .target) (hfly : rest = [] → m.purpose ≠ .flyRun) :
    takeLeg g rest afterRest forward s = legBegun m g rest afterRest s := by
  simp only [takeLeg, beginLeg_eq hm, hstop, if_false]
  split_ifs with hrest
  · simp [legBegun, hfly hrest]
  · rfl

theorem pauseFor_eq (a : RestAction) : pauseFor a s = restAwaited m a s := by simp [pauseFor, onMove, hm, restAwaited]

theorem arrive_settles (hclamped : m.clamped = false) (hattempts : m.attempts = 0) : arrive s = settles m s := by
  simp [arrive, hm, retrySucceeded, hattempts, hclamped, onMove, enterState, lampOnEntering, settles]

theorem runningLeg_eq (hstate : s.transport.state = .moving ∨ s.transport.state = .recovering) (hphase : m.phase = .running)
    (hrest : m.atRest = none) : s.runningLeg = some m.leg := by
  simp [State.runningLeg, hm, hphase, hrest, motionLeg_of_move hm hstate]

theorem runningLeg_waits (h : m.phase = .stopping ∨ m.atRest ≠ none) : s.runningLeg = none := by
  simp only [State.runningLeg, hm]
  refine if_neg fun hboth => h.elim (fun hphase => ?_) (fun hrest => hrest hboth.2)
  rw [hphase] at hboth
  exact absurd hboth.1 (by decide)

theorem legEnded_turns (hplan : m.plan = g :: rest) (hturn : g.direction ≠ m.leg.direction) : legEnded s = restAwaited m .nextLeg s := by
  simp only [legEnded, hm, hplan, hturn, if_false, pauseFor_eq hm]

theorem legEnded_goes_on (hplan : m.plan = g :: rest) (hsame : g.direction = m.leg.direction) :
    legEnded s = takeLeg g rest false (decide (m.leg.direction = .forward)) s := by
  simp only [legEnded, hm, hplan, hsame, if_true]

end

/-! ### The running leg looks at the register (R51, R54) -/

theorem motionCheck_idle {s : State} (ev : Option Direction) (h : s.runningLeg = none) : motionCheck ev s = s := by
  simp only [motionCheck, h]

section
variable {m : Move} {s : State} (hm : s.transport.move = some m) (hleg : s.runningLeg = some m.leg)

include hm hleg

/-- No open run has reached the trailer: the leg looks at its end (R61, R62). -/
theorem motionCheck_stop (ev : Option Direction) (hfinal : m.finalApproach = false)
    (hopen : m.purpose = .frame ∨ m.plan ≠ [] ∨ ∀ t ∈ s.index.trailer, s.tracker.register < t) :
    (m.leg.stop = .unbounded → motionCheck ev s = s) ∧
    (∀ c, m.leg.stop = .coord c → m.leg.direction = .forward →
      motionCheck ev s = if c ≤ s.tracker.register then legEnded s else s) := by
  have hnot (b : Bool) (hsome : ∀ t, s.index.trailer = some t → b = decide (t ≤ s.tracker.register))
      (hnone : s.index.trailer = none → b = false) : ¬ (s.transport.state = .moving ∧ isOpenRun m = true ∧ b = true) := by
    rintro ⟨-, hrun, hpassed⟩
    rcases hopen with h | h | h
    · simp [isOpenRun, h] at hrun
    · simp [isOpenRun, h] at hrun
    · cases ht : s.index.trailer with
      | none => simp [hnone ht] at hpassed
      | some t =>
        rw [hsome t ht] at hpassed
        exact absurd (h t ht) (not_lt.mpr (of_decide_eq_true hpassed))
  refine ⟨fun hstop => ?_, fun c hstop hdir => ?_⟩
  · unfold motionCheck
    rw [hleg, hm]
    simp only [hfinal, Bool.false_eq_true, if_false, hstop]
    exact if_neg (hnot _ (fun t ht => by rw [ht]) fun ht => by rw [ht])
  · unfold motionCheck
    rw [hleg, hm]
    simp only [hfinal, Bool.false_eq_true, if_false, hstop, hdir]
    exact if_neg (hnot _ (fun t ht => by rw [ht]) fun ht => by rw [ht])

/-- The final leg looks at the arrival band (R54). -/
theorem motionCheck_final {t : Nat} (ev : Option Direction) (hfinal : m.finalApproach = true) (htarget : m.target = some t) :
    (s.tracker.register + s.params.arriveTol < t → motionCheck ev s = s) ∧
    (t ≤ s.tracker.register + s.params.arriveTol → s.tracker.register ≤ t + s.params.arriveTol → ev ≠ some .reverse →
      motionCheck ev s = arrive s) ∧
    (t + s.params.arriveTol < s.tracker.register → motionCheck ev s = pauseFor .replan s) := by
  have hcheck : motionCheck ev s =
      if inBand s t = true ∧ ev ≠ some .reverse then arrive s
      else if t + s.params.arriveTol < s.tracker.register then pauseFor .replan s
      else s := by
    unfold motionCheck
    rw [hleg, hm]
    simp only [hfinal, if_true, htarget, Option.getD_some]
  rw [hcheck]
  refine ⟨fun h => ?_, fun hlow hhigh hev => ?_, fun h => ?_⟩
  · rw [if_neg (by simp [inBand]; omega), if_neg (by omega)]
  · rw [if_pos ⟨by simp [inBand, hlow, hhigh], hev⟩]
  · rw [if_neg (by simp [inBand]; omega), if_pos h]

end

/-! ### The final leg (R54, R101) -/

/-- The final leg drives the film towards the target. -/
def aimed (t : Nat) (clamped : Bool) (m : Move) (s : State) : State :=
  { s with transport := { s.transport with
      capstan := some .forward
      move := some { m with
        leg := { direction := .forward, cls := .creep, stop := .target }, plan := [], travel := 0, atRest := none,
        target := some t, clamped := clamped, finalApproach := true, focusTaken := false } } }

/-- The lens is sent to the frame's step. -/
def lensCalled (k : Nat) (s : State) : State := { s with focus := lensSent (min 4095 (s.zoneStep k)) (.approach k) s }

/-- What the lens reports that is at the frame's step already. -/
def finalCalls (k : Nat) (s : State) : List Signal :=
  if lensThere (min 4095 (s.zoneStep k)) s = true then [.focusArrived (.approach k)] else []

theorem setFocusTarget_quiet {s : State} (k : Nat) (hq : Quiet s) :
    setFocusTarget (s.zoneStep k) (.approach k) s = facing (finalCalls k s) (lensCalled k s) := by
  have hmax : Config.maxStep = 4095 := rfl
  have hmin : setFocusTarget (s.zoneStep k) (.approach k) s = setFocusTarget (min 4095 (s.zoneStep k)) (.approach k) s := by
    have htwice : min (min 4095 (s.zoneStep k)) Config.maxStep = min (s.zoneStep k) Config.maxStep := by omega
    simp only [setFocusTarget, htwice]
  rw [hmin, setFocusTarget_sent _ (Nat.min_le_left _ _), show s.todo = [] from hq]
  rfl

/-- The stall timer as a leg that begins after rest starts it (R63). -/
def stallBegun (afterRest : Bool) (s : State) : State :=
  { s with transport := { s.transport with
      stallTimer := if afterRest then some s.params.stallTime else s.transport.stallTimer } }

/-- The final CREEP leg begins short of its arrival (R54). -/
theorem takeLeg_final {k : Nat} {m : Move} {t : Nat × Bool} {s : State} (afterRest forward : Bool) (hq : Quiet s)
    (hm : s.transport.move = some m) (hframe : m.frame = some k) (htarget : frameTarget s k = some t)
    (hout : forward = true → s.tracker.register + s.params.arriveTol < t.1) (hbefore : s.tracker.register ≤ t.1 + s.params.arriveTol) :
    takeLeg finalLeg [] afterRest forward s =
      facing (finalCalls k s) (lensCalled k (aimed t.1 t.2 m (stallBegun afterRest s))) := by
  have hkept : frameTarget (legBegun m finalLeg [] afterRest s) k = some t := htarget
  have hlens := setFocusTarget_quiet (s := aimed t.1 t.2 m (stallBegun afterRest s)) k hq
  have hchecked (z : State) (hregister : z.tracker = s.tracker) (hparams : z.params = s.params) :
      (if forward = true ∧ inBand z t.1 = true then arrive z
        else if t.1 + z.params.arriveTol < z.tracker.register then pauseFor .replan z else z) = z := by
    rw [if_neg, if_neg]
    · rw [hregister, hparams]
      omega
    · rintro ⟨hforward, hband⟩
      have := hout hforward
      simp [inBand, hregister, hparams] at hband
      omega
  have hstart : startFinal forward (legBegun m finalLeg [] afterRest s) =
      facing (finalCalls k s) (lensCalled k (aimed t.1 t.2 m (stallBegun afterRest s))) := by
    have hmove : (legBegun m finalLeg [] afterRest s).transport.move =
        some { m with leg := finalLeg, plan := [], travel := 0, atRest := none, finalApproach := false } := rfl
    unfold startFinal
    simp only [hmove, hframe, Option.getD_some, hkept]
    refine (congrArg (fun z => if forward = true ∧ inBand z t.1 = true then arrive z
        else if t.1 + z.params.arriveTol < z.tracker.register then pauseFor .replan z else z) hlens).trans ?_
    exact hchecked _ rfl rfl
  simp only [takeLeg, beginLeg_eq hm, show finalLeg.stop = .target from rfl, if_true, hstart]

/-- The lens reports what it has reached already, and the move creeps on. -/
theorem leads_final {k t : Nat} {clamped : Bool} {m : Move} {s : State} (hq : Quiet s) (hpurpose : m.purpose = .frame)
    (hframe : m.frame = some k) (hstate : s.transport.state ≠ .settling) :
    ∃ n, n ≤ 1 ∧ Leads n (finalCalls k s) (lensCalled k (aimed t clamped m s)) (creeping k t clamped m s) := by
  unfold finalCalls
  by_cases hthere : lensThere (min 4095 (s.zoneStep k)) s = true
  · rw [if_pos hthere]
    have hcreeping : creeping k t clamped m s = { lensCalled k (aimed t clamped m s) with
        transport := { (lensCalled k (aimed t clamped m s)).transport with move := some { m with
          leg := { direction := .forward, cls := .creep, stop := .target }, plan := [], travel := 0, atRest := none,
          target := some t, clamped := clamped, finalApproach := true, focusTaken := true } } } := by
      rw [creeping, hthere]
      rfl
    rw [hcreeping]
    have harrived := leads_approach_early (k := k) (s := lensCalled k (aimed t clamped m s)) hq rfl hpurpose hframe (.inl hstate)
    exact ⟨1, le_refl _, harrived⟩
  · rw [if_neg hthere]
    have hcreeping : creeping k t clamped m s = lensCalled k (aimed t clamped m s) := by
      rw [creeping, Bool.eq_false_iff.mpr hthere]
      rfl
    rw [hcreeping]
    exact ⟨0, by omega, Leads.done (by exact hq)⟩

end Sys2Proof.Machine
end

section
/-! PROOFS. One encoder count (R1, R28, R50, R51, R54, R55, R63, R69, R75). -/

namespace Sys2Proof.Machine

open Sys2Proof

/-! ### What a count makes of the register, the travel and the pulse -/

/-- The film has been carried on by one count. -/
def carried (d : Direction) (r : Nat) (s : State) : State :=
  { s with tracker := { s.tracker with register := r, direction := d, inMotion := true } }

/-- A count that brings the running INDEX leg to exactly a frame's gate coordinate (R75). -/
def previewMeets (m : Move) (s : State) : Bool :=
  s.lamp.state == .on && m.phase == .running && m.atRest.isNone && m.leg.cls == .index &&
    s.index.entries.any (fun e => e.position + s.roll.active.gateOffset == s.tracker.register + 1)

/-- A count of the leg that runs: its travel, its stall timer and a preview pulse, if there is one. -/
def travelled (m : Move) (preview : Bool) (s : State) : State :=
  { carried .forward (s.tracker.register + 1) s with
    transport := { s.transport with
      move := some { m with travel := m.travel + 1 }
      stallTimer := s.transport.stallTimer.map (fun _ => s.params.stallTime)
      pulse := if preview then some (s.transport.pulse.getD s.params.gatePulse) else s.transport.pulse } }

theorem previewDue_no_move {d : Direction} {s : State} (h : s.transport.move = none) : previewDue d s = false := by
  simp [previewDue, runningLeg_none s h]

theorem countTaken_no_move (d : Direction) {s : State} (h : s.transport.move = none) :
    countTaken d s = if d = .reverse then discardMark (countRegister d s) else countRegister d s := by
  have htravel (z : State) (hz : z.transport.move = none) : countTravel d z = z := by simp only [countTravel, hz]
  simp only [countTaken]
  split_ifs with hd hp hp
  · rw [htravel _ (by exact h), previewDue_no_move (by exact h)] at hp
    exact absurd hp (by decide)
  · exact htravel _ h
  · rw [htravel _ (by exact h), previewDue_no_move (by exact h)] at hp
    exact absurd hp (by decide)
  · exact htravel _ h

section
variable {m : Move} {s : State} (hm : s.transport.move = some m) (hstate : s.transport.state = .moving)
  (hfly : m.purpose ≠ .flyRun)

include hm hstate hfly

theorem countTaken_forward (hdir : m.leg.direction = .forward) (hroom : s.tracker.register + 1 < 16777215) :
    countTaken .forward s = travelled m (s.params.gatePreview && previewMeets m s) s := by
  have hmax : Config.maxCoord = 16777215 := rfl
  have hregister : min Config.maxCoord (s.tracker.register + 1) = s.tracker.register + 1 := by omega
  have htravel : countTravel .forward (countRegister .forward s) = travelled m false s := by
    simp [countTravel, hdir, onMove, hm, countRegister, hregister, travelled, carried]
  have hleg : (travelled m false s).runningLeg = if m.phase = .running ∧ m.atRest = none then some m.leg else none := by
    simp [State.runningLeg, travelled, State.motionLeg, hstate]
  have hpreview : previewDue .forward (travelled m false s) = (s.params.gatePreview && previewMeets m s) := by
    simp only [previewDue, previewMeets, hleg]
    by_cases hrunning : m.phase = .running ∧ m.atRest = none
    · obtain ⟨hphase, hrest⟩ := hrunning
      have hpurpose : (m.purpose != .flyRun) = true := by simpa using hfly
      simp [hphase, hrest, travelled, carried, hpurpose, Bool.and_assoc]
    · rw [if_neg hrunning]
      have hnot : (m.phase == .running && m.atRest.isNone) = false := by
        simpa [Bool.and_eq_false_iff, ← Option.isNone_iff_eq_none] using fun h => not_and.mp hrunning h
      simp [Bool.and_assoc, hnot]
  simp only [countTaken, reduceCtorEq, if_false, htravel, hpreview]
  split_ifs with h
  · rw [h]
    simp only [givePulse, travelled, Bool.false_eq_true, if_false, if_true]
    cases s.transport.pulse <;> rfl
  · rw [Bool.eq_false_iff.mpr h]

/-- A count in a move that is no FLY-RUN, as the running leg reads it. -/
theorem encoderCount_forward (hdir : m.leg.direction = .forward) (hroom : s.tracker.register + 1 < 16777215) :
    encoderCount .forward s =
      emit .passTick (motionCheck (some .forward) (travelled m (s.params.gatePreview && previewMeets m s) s)) := by
  have hmax : Config.maxCoord = 16777215 := rfl
  have hover : overruns .forward s = false := by
    have hne : s.tracker.register + 1 ≠ Config.maxCoord := by omega
    simp [overruns, hne]
  have htaken := countTaken_forward hm hstate hfly hdir hroom
  rw [encoderCount, if_neg (by simp [hover]), htaken,
    passTrigger_not_flying _ (flyMoving_purpose _ { m with travel := m.travel + 1 } rfl hfly)]

/-- A count whose leg sets off these consequences. -/
theorem exec_count {calls : List Signal} {n : Nat} {u t : State} (hdir : m.leg.direction = .forward)
    (hroom : s.tracker.register + 1 < 16777215)
    (hcheck : motionCheck (some .forward) (travelled m (s.params.gatePreview && previewMeets m s) s) = facing calls u)
    (hleads : Leads n calls u t) (ht : ∀ x ∈ t.transport.move, x.purpose ≠ .flyRun) (hn : n ≤ 90) :
    exec (.encoderCount .forward) s = .next t := by
  have hlast : ∃ k, k ≤ 2 ∧ Leads k [.passTick] t t := by
    cases hmove : t.transport.move with
    | none => exact leads_passTick hleads.2 (flyMoving_no_move t hmove) fun g => fillDue_no_move t g hmove
    | some x =>
      have hx := ht x (by simp [hmove])
      exact leads_passTick hleads.2 (flyMoving_purpose t x hmove hx) fun g => fillDue_purpose t g x hmove hx
  obtain ⟨k, hk, hticks⟩ := hlast
  refine takes_next (new := calls ++ [.passTick]) (z := u) ?_ (hleads.append hticks) (by omega)
  rw [encoderCount_forward hm hstate hfly hdir hroom, hcheck]
  rfl

/-- A count after which the move goes on as it is, or as its leg's end has it. -/
theorem exec_count_still {t : State} (hdir : m.leg.direction = .forward) (hroom : s.tracker.register + 1 < 16777215)
    (hcheck : motionCheck (some .forward) (travelled m (s.params.gatePreview && previewMeets m s) s) = t) (hquiet : Quiet t)
    (ht : ∀ x ∈ t.transport.move, x.purpose ≠ .flyRun) : exec (.encoderCount .forward) s = .next t := by
  refine exec_count (calls := []) (n := 0) hm hstate hfly hdir hroom ?_ (Leads.done hquiet) ht (by omega)
  rw [hcheck, facing_nil hquiet]

end

/-! ### The legs of a move on a count (R51, R53, R54) -/

section
variable {m : Move} {s : State} (hq : Quiet s) (hm : s.transport.move = some m) (hstate : s.transport.state = .moving)
  (hfly : m.purpose ≠ .flyRun) (hdir : m.leg.direction = .forward) (hroom : s.tracker.register + 1 < 16777215)
  (hfinal : m.finalApproach = false)

include hq hm hstate hfly hdir hroom

/-- A move that comes to rest only counts. -/
theorem exec_count_waits (h : m.phase = .stopping ∨ m.atRest ≠ none) :
    exec (.encoderCount .forward) s = .next (travelled m (s.params.gatePreview && previewMeets m s) s) :=
  exec_count_still hm hstate hfly hdir hroom
    (motionCheck_idle _ (runningLeg_waits (m := { m with travel := m.travel + 1 }) rfl h)) hq (by simpa [travelled] using hfly)

variable (hphase : m.phase = .running) (hrest : m.atRest = none)
  (hopen : m.purpose = .frame ∨ m.plan ≠ [] ∨ ∀ t ∈ s.index.trailer, s.tracker.register + 1 < t)

include hphase hrest hopen hfinal

omit hq hm hfly hroom in
/-- The running leg looks at the register after a count. -/
theorem motionCheck_travelled (p : Bool) :
    (m.leg.stop = .unbounded → motionCheck (some .forward) (travelled m p s) = travelled m p s) ∧
    (∀ c, m.leg.stop = .coord c → motionCheck (some .forward) (travelled m p s) =
      if c ≤ s.tracker.register + 1 then legEnded (travelled m p s) else travelled m p s) := by
  have hcheck := motionCheck_stop (m := { m with travel := m.travel + 1 }) (s := travelled m p s) rfl
    (runningLeg_eq rfl (.inl hstate) hphase hrest) (some .forward) hfinal hopen
  exact ⟨hcheck.1, fun c hstop => hcheck.2 c hstop hdir⟩

/-- An unbounded leg goes on. -/
theorem exec_count_unbounded (hstop : m.leg.stop = .unbounded) :
    exec (.encoderCount .forward) s = .next (travelled m (s.params.gatePreview && previewMeets m s) s) :=
  exec_count_still hm hstate hfly hdir hroom
    ((motionCheck_travelled hstate hdir hfinal hphase hrest hopen _).1 hstop) hq (by simpa [travelled] using hfly)

/-- A leg short of its end goes on. -/
theorem exec_count_short {c : Nat} (hstop : m.leg.stop = .coord c) (hshort : s.tracker.register + 1 < c) :
    exec (.encoderCount .forward) s = .next (travelled m (s.params.gatePreview && previewMeets m s) s) := by
  have hcheck := (motionCheck_travelled hstate hdir hfinal hphase hrest hopen
    (s.params.gatePreview && previewMeets m s)).2 c hstop
  rw [if_neg (by omega)] at hcheck
  exact exec_count_still hm hstate hfly hdir hroom hcheck hq (by simpa [travelled] using hfly)

variable {c : Nat} {g : Leg} {rest : List Leg} (hstop : m.leg.stop = .coord c) (hreached : c ≤ s.tracker.register + 1)
  (hplan : m.plan = g :: rest)

include hstop hreached hplan

/-- A leg at its end, before one in the other direction. -/
theorem exec_count_turns (hturn : g.direction = .reverse) :
    exec (.encoderCount .forward) s =
      .next (restAwaited { m with travel := m.travel + 1 } .nextLeg (travelled m (s.params.gatePreview && previewMeets m s) s)) := by
  have hcheck := (motionCheck_travelled hstate hdir hfinal hphase hrest hopen
    (s.params.gatePreview && previewMeets m s)).2 c hstop
  rw [if_pos hreached, legEnded_turns (m := { m with travel := m.travel + 1 }) rfl hplan (by rw [hturn, hdir]; decide)] at hcheck
  exact exec_count_still hm hstate hfly hdir hroom hcheck hq (by simpa [restAwaited] using hfly)

/-- A leg at its end, before one in the same direction. -/
theorem exec_count_goes_on (hsame : g.direction = .forward) (hplain : g.stop ≠ .target) :
    exec (.encoderCount .forward) s =
      .next (legBegun { m with travel := m.travel + 1 } g rest false (travelled m (s.params.gatePreview && previewMeets m s) s)) := by
  have hcheck := (motionCheck_travelled hstate hdir hfinal hphase hrest hopen
    (s.params.gatePreview && previewMeets m s)).2 c hstop
  rw [if_pos hreached, legEnded_goes_on (m := { m with travel := m.travel + 1 }) rfl hplan (by rw [hsame]; exact hdir.symm),
    takeLeg_plain (m := { m with travel := m.travel + 1 }) rfl _ _ hplain (fun _ => hfly)] at hcheck
  exact exec_count_still hm hstate hfly hdir hroom hcheck hq (by simpa [legBegun] using hfly)

/-- A leg at its end, before the final leg, short of the arrival. -/
theorem exec_count_final {k : Nat} {t : Nat × Bool} (hlast : g = finalLeg) (hnone : rest = []) (hpurpose : m.purpose = .frame)
    (hframe : m.frame = some k) (htarget : frameTarget s k = some t)
    (hbefore : s.tracker.register + 1 + s.params.arriveTol < t.1) :
    exec (.encoderCount .forward) s = .next (creeping k t.1 t.2 { m with travel := m.travel + 1 }
      (travelled m (s.params.gatePreview && previewMeets m s) s)) := by
  subst hlast hnone
  have hcheck := (motionCheck_travelled hstate hdir hfinal hphase hrest hopen
    (s.params.gatePreview && previewMeets m s)).2 c hstop
  have hfinally := takeLeg_final (k := k) (m := { m with travel := m.travel + 1 }) (t := t)
    (s := travelled m (s.params.gatePreview && previewMeets m s) s) false true hq rfl hframe htarget (fun _ => hbefore)
    (by show s.tracker.register + 1 ≤ t.1 + s.params.arriveTol; omega)
  rw [if_pos hreached, legEnded_goes_on (m := { m with travel := m.travel + 1 }) rfl hplan hdir.symm,
    show decide (m.leg.direction = .forward) = true by simp [hdir], hfinally] at hcheck
  obtain ⟨n, hn, hleads⟩ := leads_final (k := k) (t := t.1) (clamped := t.2) (m := { m with travel := m.travel + 1 })
    (s := stallBegun false (travelled m (s.params.gatePreview && previewMeets m s) s)) hq hpurpose hframe
    (by show s.transport.state ≠ _; simp [hstate])
  exact exec_count hm hstate hfly hdir hroom hcheck hleads (by simpa [creeping] using hfly) (by omega)

end

/-! ### The final leg on a count (R54, R55) -/

section
variable {m : Move} {t : Nat} {s : State} (hq : Quiet s) (hm : s.transport.move = some m) (hstate : s.transport.state = .moving)
  (hfly : m.purpose ≠ .flyRun) (hdir : m.leg.direction = .forward) (hroom : s.tracker.register + 1 < 16777215)
  (hphase : m.phase = .running) (hrest : m.atRest = none) (hfinal : m.finalApproach = true) (htarget : m.target = some t)

include hq hm hstate hfly hdir hroom hphase hrest hfinal htarget

theorem exec_count_creeps (hbefore : s.tracker.register + 1 + s.params.arriveTol < t) :
    exec (.encoderCount .forward) s = .next (travelled m (s.params.gatePreview && previewMeets m s) s) :=
  exec_count_still hm hstate hfly hdir hroom
    ((motionCheck_final (m := { m with travel := m.travel + 1 }) (s := travelled m (s.params.gatePreview && previewMeets m s) s) rfl
      (runningLeg_eq rfl (.inl hstate) hphase hrest) (some .forward) hfinal htarget).1 hbefore)
    hq (by simpa [travelled] using hfly)

theorem exec_count_arrives (hclamped : m.clamped = false) (hattempts : m.attempts = 0)
    (hlow : t ≤ s.tracker.register + 1 + s.params.arriveTol) (hhigh : s.tracker.register + 1 ≤ t + s.params.arriveTol) :
    exec (.encoderCount .forward) s =
      .next (settles { m with travel := m.travel + 1 } (travelled m (s.params.gatePreview && previewMeets m s) s)) :=
  exec_count_still hm hstate hfly hdir hroom
    (((motionCheck_final (m := { m with travel := m.travel + 1 }) (s := travelled m (s.params.gatePreview && previewMeets m s) s) rfl
      (runningLeg_eq rfl (.inl hstate) hphase hrest) (some .forward) hfinal htarget).2.1 hlow hhigh (by decide)).trans
      (arrive_settles rfl hclamped hattempts))
    hq (by simpa [settles] using hfly)

theorem exec_count_passes (hpast : t + s.params.arriveTol < s.tracker.register + 1) :
    exec (.encoderCount .forward) s =
      .next (restAwaited { m with travel := m.travel + 1 } .replan (travelled m (s.params.gatePreview && previewMeets m s) s)) :=
  exec_count_still hm hstate hfly hdir hroom
    (((motionCheck_final (m := { m with travel := m.travel + 1 }) (s := travelled m (s.params.gatePreview && previewMeets m s) s) rfl
      (runningLeg_eq rfl (.inl hstate) hphase hrest) (some .forward) hfinal htarget).2.2 hpast).trans (pauseFor_eq rfl _))
    hq (by simpa [restAwaited] using hfly)

end

/-- The target of a FRAME move, by the entry of its frame (R52). -/
theorem frameTarget_entry {k : Nat} {e : Entry} {s : State} (he : s.entry k = some e)
    (hreach : e.position + s.roll.active.gateOffset ≤ 16777215 - s.params.arriveTol) :
    frameTarget s k = some (gateTarget k s) := by
  have hk := entry_ne_zero he
  have hpos : s.pos k = e.position := by simp [State.pos, he]
  have hplace := he
  rw [entry_eq_getElem? hk] at hplace
  obtain ⟨hlt, -⟩ := List.getElem?_eq_some_iff.mp hplace
  exact frameTarget_inReach ⟨by omega, by omega, by rw [hpos]; exact hreach⟩

/-- The same target, from the entry and the trailer (R52, R68). -/
theorem gateTarget_entry {k : Nat} {e : Entry} {s : State} (he : s.entry k = some e) : gateTarget k s =
    (if (s.index.trailer.map fun t => decide (t < e.position + s.roll.active.gateOffset)).getD false then s.index.trailer.getD 0
      else e.position + s.roll.active.gateOffset,
      (s.index.trailer.map fun t => decide (t < e.position + s.roll.active.gateOffset)).getD false) := by
  have hpos : s.pos k = e.position := by simp [State.pos, he]
  unfold gateTarget
  cases htrailer : s.index.trailer with
  | none => simp [hpos]
  | some t => by_cases h : t < e.position + s.roll.active.gateOffset <;> simp [hpos, h]

/-- A forward count touches the transport in its move, its stall timer and its pulse alone. -/
theorem countTaken_transport (s : State) : ∃ x w p, countTaken .forward s =
    { countRegister .forward s with transport := { s.transport with move := x, stallTimer := w, pulse := p } } := by
  have htravel : ∃ x w, countTravel .forward (countRegister .forward s) =
      { countRegister .forward s with transport := { s.transport with move := x, stallTimer := w } } := by
    unfold countTravel
    split
    · exact ⟨_, _, rfl⟩
    · dsimp only
      split_ifs
      · exact ⟨_, _, rfl⟩
      · exact ⟨_, _, rfl⟩
  obtain ⟨x, w, htravel⟩ := htravel
  simp only [countTaken, reduceCtorEq, if_false, htravel]
  split_ifs
  · exact ⟨x, w, _, rfl⟩
  · exact ⟨x, w, s.transport.pulse, rfl⟩

theorem faulted_todo (kind : FaultKind) (s : State) : (faulted kind s).todo = s.todo := rfl

/-- Settles O52. -/
theorem encoderCounts : Obligations.EncoderCounts := by
  unfold Obligations.EncoderCounts
  have hmax : Config.maxCoord = 16777215 := rfl
  refine ⟨?_, ?_, ?_, ?_⟩
  · intro s hq hmove
    have hcount (d : Direction) (z : State) (hz : countTaken d s = z) (hquiet : Quiet z) (hzmove : z.transport.move = none)
        (hover : overruns d s = false) : exec (.encoderCount d) s = .next z := by
      obtain ⟨n, hn, hleads⟩ := leads_passTick hquiet (flyMoving_no_move z hzmove) fun g => fillDue_no_move z g hzmove
      refine takes_next (new := [.passTick]) (z := z) ?_ hleads (by omega)
      rw [encoderCount, if_neg (by simp [hover]), hz, passTrigger_not_flying z (flyMoving_no_move z hzmove),
        motionCheck_idle _ (runningLeg_none z hzmove)]
      exact emit_eq_facing _ hquiet
    refine ⟨fun hroom => ?_, ?_⟩
    · refine hcount .forward _ ((countTaken_no_move .forward hmove).trans (if_neg (by decide))) hq hmove ?_
      rcases hroom with h | h
      · have hne : s.tracker.register + 1 ≠ Config.maxCoord := by omega
        simp [overruns, hne]
      · simp [overruns, h]
    · exact hcount .reverse _ ((countTaken_no_move .reverse hmove).trans (if_pos rfl)) hq hmove rfl
  · intro m v s hq hm hstate htimer hpurpose hphase hrest hplain hdir hroom on
    have hfly : m.purpose ≠ .flyRun := by simp [hpurpose]
    have hpreview : (s.params.gatePreview && previewMeets m s) = false := by
      rcases hplain with h | h
      · simp [h]
      · have hcls : (m.leg.cls == .index) = false := by simpa using h
        simp [previewMeets, hcls]
    have hon : travelled m (s.params.gatePreview && previewMeets m s) s = on (fun x => x) := by
      rw [hpreview]
      simp only [travelled, htimer, Option.map_some, Bool.false_eq_true, if_false]
      rfl
    refine ⟨?_, ?_, ?_⟩
    · intro c hfinal hstop hshort
      rw [exec_count_short hq hm hstate hfly hdir hroom hfinal hphase hrest (.inl hpurpose) hstop hshort, hon]
    · intro c g rest hfinal hstop hreached hplan
      refine ⟨fun hturn => ?_, fun hsame hcls hplain => ?_, ?_⟩
      · rw [exec_count_turns hq hm hstate hfly hdir hroom hfinal hphase hrest (.inl hpurpose) hstop hreached hplan hturn, hon]
        simp [restAwaited, on, hfinal]
      · rw [exec_count_goes_on hq hm hstate hfly hdir hroom hfinal hphase hrest (.inl hpurpose) hstop hreached hplan hsame hplain, hon]
        simp [legBegun, on, hfinal, hrest, hsame, hcls]
      · intro k e hlast hnone hframe he hreach gate beyond t hbefore
        have hgate : gateTarget k s = (t, beyond) := by
          rw [gateTarget_entry he]
          simp only [t, beyond, gate]
          cases s.index.trailer <;> rfl
        have htarget := (frameTarget_entry he hreach).trans (congrArg some hgate)
        rw [exec_count_final hq hm hstate hfly hdir hroom hfinal hphase hrest (.inl hpurpose) hstop hreached hplan hlast hnone hpurpose
          hframe htarget hbefore, hon]
        rfl
    · intro t hfinal htarget hclamped hattempts
      refine ⟨fun hbefore => ?_, fun hlow hhigh => ?_, fun hpast => ?_⟩
      · rw [exec_count_creeps hq hm hstate hfly hdir hroom hphase hrest hfinal htarget hbefore, hon]
      · refine ⟨_, ?_, rfl⟩
        rw [exec_count_arrives hq hm hstate hfly hdir hroom hphase hrest hfinal htarget hclamped hattempts hlow hhigh, hon]
        simp [settles, on, hrest]
      · rw [exec_count_passes hq hm hstate hfly hdir hroom hphase hrest hfinal htarget hpast, hon]
        simp [restAwaited, on]
  · intro m v s hq hm hstate htimer hpurpose hpreview hdir hfinal hroom go reached meets counted
    have hfly : m.purpose ≠ .flyRun := by rcases hpurpose with h | h <;> simp [h]
    have hcounted : travelled m (s.params.gatePreview && previewMeets m s) s = counted := by
      rw [hpreview, Bool.true_and]
      subst htimer
      rfl
    refine ⟨fun hwaits => ?_, fun hphase hrest hopen => ⟨fun hstop => ?_, fun c hstop hshort => ?_, ?_⟩⟩
    · rw [← hcounted]
      exact exec_count_waits hq hm hstate hfly hdir hroom hwaits
    · rw [← hcounted]
      exact exec_count_unbounded hq hm hstate hfly hdir hroom hfinal hphase hrest hopen hstop
    · rw [← hcounted]
      exact exec_count_short hq hm hstate hfly hdir hroom hfinal hphase hrest hopen hstop hshort
    · intro c g rest hstop hreached hplan
      refine ⟨fun hturn => ?_, fun hsame hcls hplain => ?_, ?_⟩
      · simp only [go, exec_count_turns hq hm hstate hfly hdir hroom hfinal hphase hrest hopen hstop hreached hplan hturn, hcounted]
        simp [restAwaited, hfinal]
      · simp only [go, exec_count_goes_on hq hm hstate hfly hdir hroom hfinal hphase hrest hopen hstop hreached hplan hsame hplain, hcounted]
        simp [legBegun, hfinal, hrest, hsame, hcls]
      · intro k e hlast hnone hframepurpose hframe he hreach gate beyond t hbefore
        have hgate : gateTarget k s = (t, beyond) := by
          rw [gateTarget_entry he]
          simp only [t, beyond, gate]
          cases s.index.trailer <;> rfl
        have htarget := (frameTarget_entry he hreach).trans (congrArg some hgate)
        rw [← hcounted]
        exact exec_count_final hq hm hstate hfly hdir hroom hfinal hphase hrest hopen hstop hreached hplan hlast hnone hframepurpose
          hframe htarget hbefore
  · intro s hq hno hregister hstate
    obtain ⟨x, w, p, htaken⟩ := countTaken_transport s
    have hcan : s.transport.state.canOverrun = true := by rcases hstate with h | h | h | h | h <;> simp [h, TState.canOverrun]
    have hover : overruns .forward s = true := by simp [overruns, hregister, hmax, hcan]
    have hfaulted : encoderCount .forward s = faulted .overrun
        { s with tracker := { s.tracker with register := 16777215, direction := .forward, inMotion := true } } := by
      rw [encoderCount, if_pos hover, htaken, enterFaulted_alone .overrun (by exact hno)]
      · simp [faulted, countRegister, hregister, hmax]
      · rcases hstate with h | h | h | h | h <;> simp [h]
      · rcases hstate with h | h | h | h | h <;> simp [h]
    have hquiet : Quiet (faulted .overrun
        { s with tracker := { s.tracker with register := 16777215, direction := .forward, inMotion := true } }) := (faulted_todo _ _).trans hq
    exact takes_next (new := []) (hfaulted.trans (facing_nil hquiet).symm) (Leads.done hquiet) (Nat.zero_le _)

end Sys2Proof.Machine
end

section
/-! PROOFS. What follows a stop of the drive: the film at rest, stalls, back-offs and a lost leader (R50, R51, R59, R63 to R66). -/

namespace Sys2Proof.Machine

open Sys2Proof

/-! ### The move ends at rest (R51, R59, R126) -/

/-- The move has ended, the film at rest, in PARKED under a grant. -/
def parkedAtRest (s : State) : State :=
  { s with
    transport := { s.transport with state := .parked, move := none, stallTimer := none, settleTimer := none, gateReady := false,
                                    capstan := none }
    roll := { s.roll with idleTimer := none } }

theorem finishMove_granted {m : Move} {o : MoveOutcome} {s : State} (hq : Quiet s) (hm : s.transport.move = some m)
    (hlamp : s.lamp.state ≠ .off) (hgrant : s.sched.grant ≠ .none)
    (hfirst : (m.purpose = .discover ∨ m.purpose = .flyRun) ∧ (o = .arrived ∨ o = .stopped) → m.attempts = 0) :
    finishMove o s = facing [.moveDone o, .choose] (parkedAtRest s) := by
  have hkept : (if (m.purpose = .discover ∨ m.purpose = .flyRun) ∧ (o = .arrived ∨ o = .stopped)
      then retrySucceeded m s else s) = s := by
    split_ifs with h
    · simp [retrySucceeded, hfirst h]
    · rfl
  simp only [finishMove, hm, hkept]
  simp [enterState, lampOnEntering, hlamp, idleStart, hgrant, emit, facing, parkedAtRest, show s.todo = [] from hq]

/-- What a move does that has waited for rest. -/
def restDoes (m : Move) (s : State) : RestAction → State
  | .nextLeg => nextLegAfterRest s
  | .replan => replan s
  | .backOff => beginLeg (backOffLeg s.params.recoverDist m.leg) [] true s
  | .retry => replan (onMove (fun x => { x with aside := [] }) (enterState .moving s))
  | .finish o => finishMove o s

theorem filmRested_eq {m : Move} {a : RestAction} {s : State} (hm : s.transport.move = some m)
    (hstate : s.transport.state = .moving ∨ s.transport.state = .recovering) (hrest : m.atRest = some a) :
    filmRested s = restDoes m (filmStill s) a := by
  have hleg : (filmStill s).motionLeg = some m.leg := motionLeg_of_move (by exact hm) hstate
  have hmove : (filmStill s).transport.move = some m := hm
  simp only [filmRested, restTaken, hleg, hmove, hrest]
  cases a <;> rfl

/-- What waits for rest is taken with the film still. -/
theorem exec_filmAtRest {m : Move} {a : RestAction} {n : Nat} {calls : List Signal} {s u t : State} (hm : s.transport.move = some m)
    (hstate : s.transport.state = .moving ∨ s.transport.state = .recovering) (hrest : m.atRest = some a)
    (hdoes : restDoes m (filmStill s) a = facing calls u) (hleads : Leads n calls u t) (hn : n ≤ 100) :
    exec .filmAtRest s = .next t :=
  takes_next ((filmRested_eq hm hstate hrest).trans hdoes) hleads hn

section
variable {m : Move} {o : MoveOutcome} {s : State} (hq : Quiet s) (hm : s.transport.move = some m) (hstate : s.transport.state = .moving)
  (hrest : m.atRest = some (.finish o)) (hlamp : s.lamp.state ≠ .off)

include hq hm hstate hrest hlamp

/-- A move that ends at rest, its outcome handed to the work that holds the grant. -/
theorem exec_rest_finishes {n : Nat} {u t : State} (hgrant : s.sched.grant ≠ .none)
    (hfirst : (m.purpose = .discover ∨ m.purpose = .flyRun) ∧ (o = .arrived ∨ o = .stopped) → m.attempts = 0)
    (hdone : moveDone o (parkedAtRest (filmStill s)) = facing [.choose] u) (hleads : Leads n [.choose, .choose] u t) (hn : n ≤ 90) :
    exec .filmAtRest s = .next t := by
  refine exec_filmAtRest (n := n + 1) hm (.inl hstate) hrest
    (finishMove_granted (s := filmStill s) hq hm hlamp hgrant hfirst) (Leads.cons (new := [.choose]) (u := u) ?_ hleads) (by omega)
  show moveDone o (facing [] _) = _
  rw [facing_nil (by exact hq)]
  exact hdone

/-- The same with nothing else to do. -/
theorem exec_rest_frees {x : State} (hgrant : s.sched.grant ≠ .none)
    (hfirst : (m.purpose = .discover ∨ m.purpose = .flyRun) ∧ (o = .arrived ∨ o = .stopped) → m.attempts = 0)
    (hdone : moveDone o (parkedAtRest (filmStill s)) = endGrant x) (hquiet : Quiet x) (hparked : x.transport.state = .parked)
    (hwork : NoWork x) : exec .filmAtRest s = .next (grantEnded x) := by
  obtain ⟨hend, -⟩ := leads_grantEnded hquiet hparked hwork
  exact exec_rest_finishes hq hm hstate hrest hlamp hgrant hfirst (hdone.trans hend)
    (leads_at_ease_twice (s := grantEnded x) hquiet (.inr hwork)) (by omega)

/-- The same with the level LOST: the part goes HOME (R123). -/
theorem exec_rest_homes {x : State} (hgrant : s.sched.grant ≠ .none)
    (hfirst : (m.purpose = .discover ∨ m.purpose = .flyRun) ∧ (o = .arrived ∨ o = .stopped) → m.attempts = 0)
    (hdone : moveDone o (parkedAtRest (filmStill s)) = endGrant x) (hquiet : Quiet x) (hparked : x.transport.state = .parked)
    (hlost : x.tracker.level = .lost) (hmove : x.transport.move = none) (hdoor : x.doorClosed = true)
    (htension : tensionOut x.poller.values = false) : exec .filmAtRest s = .next (homeGranted (homeChosen (grantEnded x))) := by
  have hend : endGrant x = facing [.choose] (grantEnded x) := by
    rw [endGrant_parked hparked, show x.todo = [] from hquiet]
    rfl
  have hhome := leads_home_begun (s := grantEnded x) hquiet rfl hparked hlost hmove hdoor htension
  exact exec_rest_finishes hq hm hstate hrest hlamp hgrant hfirst (hdone.trans hend)
    (hhome.append (leads_idle (l := [.choose]) hquiet (idle_choose (.inl (by simp [homeGranted]))))) (by simp)

end

/-! ### A move is planned anew (R64) -/

theorem modify_congr_at {α : Type} {f g : α → α} {l : List α} {i : Nat} {x : α} (hx : l[i]? = some x) (h : f x = g x) :
    l.modify i f = l.modify i g := by
  refine List.ext_getElem? fun j => ?_
  rw [List.getElem?_modify, List.getElem?_modify]
  by_cases hj : i = j
  · subst hj
    simp [hx, h]
  · simp [hj]

theorem withTarget_purpose (s : State) (m : Move) : (withTarget s m).purpose = m.purpose := by
  unfold withTarget
  split
  · split <;> rfl
  · rfl
  · rfl

theorem replan_legs {m : Move} {g : Leg} {rest : List Leg} {s : State} (hm : s.transport.move = some m)
    (hplan : planFor s m = some (g :: rest)) (hstop : g.stop ≠ .target) (hfly : rest = [] → m.purpose ≠ .flyRun) :
    replan s = legBegun (withTarget s m) g rest true s := by
  have hmove : (onMove (withTarget s) s).transport.move = some (withTarget s m) := by simp [onMove, hm]
  simp only [replan, hm, hplan, beginPlan]
  rw [takeLeg_plain hmove true false hstop fun h => by rw [withTarget_purpose]; exact hfly h]
  rfl

/-- A back-off at rest: the move goes on with the legs of its purpose (R64). -/
theorem exec_rest_retries {m y : Move} {g : Leg} {rest : List Leg} {s : State} (hq : Quiet s)
    (hstate : s.transport.state = .recovering) (hm : s.transport.move = some m) (hrest : m.atRest = some .retry)
    (hplan : ∀ z : State, z = onMove (fun x => { x with aside := [] }) (enterState .moving (filmStill s)) →
      planFor z { m with aside := [] } = some (g :: rest) ∧ withTarget z { m with aside := [] } = { y with aside := [] })
    (hstop : g.stop ≠ .target) (hfly : rest = [] → m.purpose ≠ .flyRun) :
    exec .filmAtRest s = .next
      { s with
        tracker := { s.tracker with inMotion := false }
        transport := { s.transport with
          state := .moving, capstan := some g.direction, stallTimer := some s.params.stallTime
          move := some { y with leg := g, plan := rest, aside := [], travel := 0, atRest := none, finalApproach := false } }
        roll := { s.roll with idleTimer := none }
        marks := { s.marks with inProgress := if g.cls = .shuttle then none else s.marks.inProgress } } := by
  obtain ⟨hlegs, htarget⟩ := hplan _ rfl
  have hmove : (onMove (fun x => { x with aside := [] }) (enterState .moving (filmStill s))).transport.move =
      some { m with aside := [] } := by simp [onMove, enterState, lampOnEntering, filmStill, hm]
  have hagain := replan_legs hmove hlegs hstop hfly
  rw [htarget] at hagain
  exact exec_filmAtRest (calls := []) hm (.inr hstate) hrest (hagain.trans (facing_nil (by exact hq)).symm)
    (Leads.done (by exact hq)) (by omega)

/-! ### The outcome of a move, by the work that holds the grant (R126, R127, R130) -/

section
variable {o : MoveOutcome} {s : State} (hparked : s.transport.state = .parked)

include hparked

theorem moveDone_home (hgrant : s.sched.grant = .home) : moveDone o s = endGrant s := by simp [moveDone, hparked, hgrant]

theorem moveDone_slot {i : Nat} (hgrant : s.sched.grant = .slot i) : moveDone o s = endGrant (onSlot i (Slot.onMoveEnd o) s) := by
  simp [moveDone, hparked, hgrant]

theorem moveDone_discover (hgrant : s.sched.grant = .discover) :
    moveDone o s = endGrant (if o = .endOfFilm then { s with slots := s.slots.map Slot.onDiscoverEnd } else s) := by
  simp [moveDone, hparked, hgrant]

/-- The TRAVELLING slot ends NOT_FOUND at END_OF_FILM (R130). -/
theorem moveDone_slot_endOfFilm {i : Nat} {x : Slot} (hgrant : s.sched.grant = .slot i) (hx : s.slots[i]? = some x)
    (htravelling : x.state = .travelling) : moveDone .endOfFilm s = endGrant { s with slots := s.slots.modify i (fun y => { y with
      state := .done, holdTimer := none
      result := some { code := .notFound, frame := y.frame, position := none, focusStep := none } }) } := by
  rw [moveDone_slot hparked hgrant, onSlot,
    modify_congr_at (g := Slot.endedBare .notFound) hx (by simp only [Slot.onMoveEnd, htravelling, if_true])]
  rfl

/-- The TRAVELLING slot waits again at LOST (R130). -/
theorem moveDone_slot_lost {i : Nat} {x : Slot} (hgrant : s.sched.grant = .slot i) (hx : s.slots[i]? = some x)
    (htravelling : x.state = .travelling) : moveDone .lost s =
      endGrant { s with slots := s.slots.modify i (fun y => { y with state := .pending, reached := none }) } := by
  rw [moveDone_slot hparked hgrant, onSlot, modify_congr_at hx (by simp only [Slot.onMoveEnd, htravelling, if_true]; rfl)]

/-- A stand-alone sweep under way ends at END_OF_FILM (R108, R115). -/
theorem moveDone_sweep_endOfFilm {x : SweepRecord} (hgrant : s.sched.grant = .sweep) (hx : s.sweep.active = some x)
    (halone : x.origin = .standAlone) (htravelling : x.state = .travelling) (hpoints : x.points = []) (hholder : s.transport.holder = none) :
    moveDone .endOfFilm s = endGrant (sweepEnded x .endOfFilm s) := by
  have hended : (endGrant (sweepEnded x .endOfFilm s)).sched.grant = .none := by
    simp only [endGrant]
    split_ifs <;> rfl
  simp only [moveDone, hparked, hgrant, ne_eq, not_true_eq_false, if_false, sweepMoveDone, hx, halone, htravelling, and_self, if_true,
    endSweepBare_granted .endOfFilm hx hpoints halone (by simp [hholder]) hgrant, hended, reduceCtorEq]

/-- A stand-alone sweep under way is QUEUED again at LOST (R108). -/
theorem moveDone_sweep_lost {x : SweepRecord} (hgrant : s.sched.grant = .sweep) (hx : s.sweep.active = some x)
    (halone : x.origin = .standAlone) (htravelling : x.state = .travelling) :
    moveDone .lost s = endGrant { s with sweep := { s.sweep with active := some { x with state := .queued } } } := by
  simp [moveDone, hparked, hgrant, sweepMoveDone, hx, halone, htravelling, onSweep]

end

/-! ### The plans a retry makes (R53, R61, R62, R66) -/

theorem discoverPlan_eq (s : State) : discoverPlan s = discoverLegs s := by
  simp only [discoverPlan, discoverLegs, frontierCoord_eq]
  split_ifs <;> rfl

theorem flyPlan_eq (s : State) (u : Nat) (z : Option Nat) : flyPlan s u z = flyLegs u z s := by
  simp only [flyPlan, flyLegs, frontierCoord_eq]
  by_cases hrunup : s.tracker.register ≤ u <;> by_cases hbeyond : s.frontier < u <;> cases z <;>
    simp [hrunup, hbeyond, legTo, openIndexLeg]

theorem homePlan_eq (s : State) : homePlan s =
    if s.transport.leaderIn = .film then
      [{ direction := .reverse, cls := .shuttle, stop := .leaderReads .leader },
        { direction := .forward, cls := .creep, stop := .leaderReads .film }]
    else [{ direction := .forward, cls := .creep, stop := .leaderReads .film }] := by
  cases hleader : s.transport.leaderIn <;> simp [homePlan, hleader]

theorem discoverLegs_stops (s : State) : ∀ g ∈ discoverLegs s, g.stop ≠ .target := by
  unfold discoverLegs
  split_ifs <;> simp

theorem flyLegs_stops (u : Nat) (z : Option Nat) (s : State) :
    ∃ g rest, flyLegs u z s = g :: rest ∧ g.stop ≠ .target ∧ rest ≠ [] := by
  unfold flyLegs
  split_ifs <;> exact ⟨_, _, rfl, by simp, by simp⟩

/-- With no yield owed, the HOME grant is the only thing that changes when the transport is given back (R123). -/
theorem homeGranted_owing {s : State} (howed : s.sched.yieldOwed = false) :
    homeGranted (homeChosen (grantEnded s)) = homeGranted s := by
  have howes : (grantEnded s).owes = s.sched.yieldOwed := by simp [State.owes, grantEnded, howed]
  simp only [homeChosen, howes]
  rfl

/-! ### A stall (R64, R65) -/

theorem stalled_recovers {m : Move} {s : State} (hmoving : s.transport.state = .moving) (hm : s.transport.move = some m)
    (hattempts : m.attempts < s.params.recoverTries) : stalled s = { s with
      transport := { s.transport with
        state := .recovering, capstan := none, stallTimer := none
        move := some { m with attempts := m.attempts + 1, aside := m.leg :: m.plan, plan := [],
                              finalApproach := false, atRest := some .backOff } }
      roll := { s.roll with idleTimer := none } } := by
  simp [stalled, hmoving, hm, Nat.not_le.mpr hattempts, pauseFor, onMove, enterState, lampOnEntering]

theorem stalled_jams {s : State}
    (hjams : (s.transport.state = .moving ∧ ∃ m, s.transport.move = some m ∧ s.params.recoverTries ≤ m.attempts) ∨
      s.transport.state = .recovering ∨ s.transport.state = .rewinding) : stalled s = enterFaulted .jam s := by
  rcases hjams with ⟨hmoving, m, hm, hattempts⟩ | hstate | hstate
  · simp [stalled, hmoving, hm, hattempts]
  · simp [stalled, hstate]
  · simp [stalled, hstate]

/-- Settles O56. -/
theorem restsAndStalls : Obligations.RestsAndStalls := by
  unfold Obligations.RestsAndStalls
  intro rested freed
  refine ⟨?_, ?_, ?_, ?_, ?_, ?_, ?_, ?_, ?_, ?_⟩
  · intro m s hq hstate hm hlamp go idle homes
    refine ⟨fun i x hgrant hx htravelling hpurpose => ⟨fun hrest hidle hsweep hothers => ?_, fun hrest hhomes => ?_⟩,
      fun hgrant hpurpose hidle hsweep => ⟨fun hrest hslots => ?_, fun hrest hattempts hslots => ?_⟩,
      fun x hgrant hx halone htravelling hpoints hpurpose hholder => ⟨fun hrest hidle hslots => ?_, fun hrest hhomes => ?_⟩⟩
    · refine exec_rest_frees hq hm hstate hrest hlamp (by simp [hgrant]) (by simp [hpurpose])
        (moveDone_slot_endOfFilm (s := parkedAtRest (filmStill s)) rfl hgrant hx htravelling) hq rfl ⟨hidle.1, ?_, hsweep, hidle.2⟩
      intro y hy
      obtain ⟨j, hj⟩ := List.mem_iff_getElem?.mp hy
      rcases getElem?_modify_cases hj with ⟨rfl, z, -, rfl⟩ | ⟨hne, hz⟩
      · rfl
      · exact hothers j y hne hz
    · obtain ⟨hlost, hdoor, htension, howed⟩ := hhomes
      refine (exec_rest_homes hq hm hstate hrest hlamp (by simp [hgrant]) (by simp [hpurpose])
        (moveDone_slot_lost (s := parkedAtRest (filmStill s)) rfl hgrant hx htravelling) hq rfl hlost rfl hdoor htension).trans ?_
      exact congrArg Host.Outcome.next (homeGranted_owing howed)
    · refine (exec_rest_frees (x := { parkedAtRest (filmStill s) with slots := s.slots.map Slot.onDiscoverEnd }) hq hm hstate hrest hlamp
        (by simp [hgrant]) (by simp) ((moveDone_discover (s := parkedAtRest (filmStill s)) rfl hgrant).trans (by simp; rfl)) hq rfl
        ⟨hidle.1, ?_, hsweep, hidle.2⟩).trans ?_
      · intro y hy
        obtain ⟨x, hx, rfl⟩ := List.mem_map.mp hy
        rcases hslots x hx with hresting | hresolving
        · have hnot : x.state ≠ .resolving := fun h => by simp [Slot.resting, h] at hresting
          simpa [Slot.onDiscoverEnd, hnot] using hresting
        · simp [Slot.onDiscoverEnd, hresolving, Slot.endedBare, Slot.ended, Slot.resting]
      · rfl
    · exact exec_rest_frees (x := parkedAtRest (filmStill s)) hq hm hstate hrest hlamp (by simp [hgrant]) (fun _ => hattempts)
        ((moveDone_discover (s := parkedAtRest (filmStill s)) rfl hgrant).trans (by simp)) hq rfl ⟨hidle.1, hslots, hsweep, hidle.2⟩
    · refine (exec_rest_frees (x := sweepEnded x .endOfFilm (parkedAtRest (filmStill s))) hq hm hstate hrest hlamp (by simp [hgrant])
        (by simp [hpurpose]) (moveDone_sweep_endOfFilm (s := parkedAtRest (filmStill s)) rfl hgrant hx halone htravelling hpoints hholder)
        ((onLink_todo _ _ _).trans hq) (by simp [sweepEnded, parkedAtRest]) ⟨?_, ?_, ?_, ?_⟩).trans ?_
      · simpa [sweepEnded, parkedAtRest, filmStill] using hidle.1
      · simpa [sweepEnded, parkedAtRest, filmStill] using hslots
      · simp [sweepEnded]
      · simpa [sweepEnded, State.passActive, parkedAtRest, filmStill] using hidle.2
      · cases hlink : x.link <;> simp [sweepEnded, hlink, onLink, grantEnded, freed, rested, parkedAtRest, filmStill]
    · obtain ⟨hlost, hdoor, htension, howed⟩ := hhomes
      refine (exec_rest_homes hq hm hstate hrest hlamp (by simp [hgrant]) (by simp [hpurpose])
        (moveDone_sweep_lost (s := parkedAtRest (filmStill s)) rfl hgrant hx halone htravelling) hq rfl hlost rfl hdoor htension).trans ?_
      exact congrArg Host.Outcome.next (homeGranted_owing howed)
  · intro m k s hq hstate hm hrest hpurpose hframe hreach hplan t hbefore
    have htarget : frameTarget (filmStill s) k = some t := frameTarget_inReach hreach
    have hfinal := takeLeg_final (k := k) (m := m) (t := t) (s := filmStill s) true false hq hm hframe htarget (by simp) hbefore
    obtain ⟨n, hn, hleads⟩ := leads_final (k := k) (t := t.1) (clamped := t.2) (m := m) (s := stallBegun true (filmStill s)) hq hpurpose hframe
      (by show s.transport.state ≠ _; simp [hstate])
    refine exec_filmAtRest hm (.inl hstate) hrest ?_ hleads (by omega)
    have hnext : nextLegAfterRest (filmStill s) = takeLeg finalLeg [] true false (filmStill s) := by
      have hmove : (filmStill s).transport.move = some m := hm
      simp only [nextLegAfterRest, hmove, hplan]
      rfl
    exact hnext.trans hfinal
  · intro m s hq hstate hm hrest go again
    refine ⟨fun hpurpose => ?_, fun hpurpose => ?_, fun hpurpose => ?_, fun k hpurpose hframe hreach => ?_⟩
    · intro creep g rest hlegs
      refine exec_rest_retries hq hstate hm hrest (y := m) (fun z hz => ⟨?_, ?_⟩) ?_ (fun _ => by simp [hpurpose])
      · simp only [planFor, hpurpose, homePlan_eq, ← hlegs, hz]
        rfl
      · simp [withTarget, hpurpose]
      · have hmem : g ∈ [({ direction := .reverse, cls := .shuttle, stop := .leaderReads .leader } : Leg), creep] := by
          split_ifs at hlegs <;> simp_all
        simp only [List.mem_cons, List.not_mem_nil, or_false] at hmem
        rcases hmem with rfl | rfl <;> simp [creep]
    · intro g rest hlegs
      refine exec_rest_retries hq hstate hm hrest (y := m) (fun z hz => ⟨?_, ?_⟩) ?_ (fun _ => by simp [hpurpose])
      · simp only [planFor, hpurpose, discoverPlan_eq, ← hlegs, hz]
        rfl
      · simp [withTarget, hpurpose]
      · exact discoverLegs_stops s g (by simp [hlegs])
    · intro g rest hlegs
      obtain ⟨g', rest', hfly, hstop, hmore⟩ := flyLegs_stops m.runUp m.runEnd s
      obtain ⟨rfl, rfl⟩ : g' = g ∧ rest' = rest := by simpa [hfly] using hlegs
      refine exec_rest_retries hq hstate hm hrest (fun z hz => ⟨?_, ?_⟩) hstop (fun h => absurd h hmore)
      · simp only [planFor, hpurpose, flyPlan_eq, ← hlegs, hz]
        rfl
      · simp [withTarget, hpurpose]
    · intro t g rest hlegs
      obtain ⟨g', rest', hplan, hstop, hmore⟩ := frameLegs_cons s t.1
      obtain ⟨rfl, rfl⟩ : g' = g ∧ rest' = rest := by simpa [hplan] using hlegs
      have htarget := frameTarget_inReach hreach
      refine exec_rest_retries hq hstate hm hrest (fun z hz => ?_) hstop (fun h => absurd h hmore)
      have hz' : frameTarget z k = some t := by subst hz; exact htarget
      have hlegs' : framePlan z t.1 = g' :: rest' := by subst hz; exact (framePlan_eq s t.1).trans hplan
      exact ⟨by simp only [planFor, hpurpose, hframe, Option.getD_some, hz', hlegs'],
        by simp only [withTarget, hpurpose, hframe, Option.getD_some, hz']⟩
  · intro m s hq hstate hm hpurpose hrest hgrant hlamp hwork
    refine exec_rest_frees (x := parkedAtRest (filmStill s)) hq hm hstate hrest hlamp (by simp [hgrant]) (by simp [hpurpose]) ?_ hq rfl hwork
    exact moveDone_home (s := parkedAtRest (filmStill s)) rfl hgrant
  · intro m g rest s hq hstate hm hrest hplan hstop hfly
    have hmove : (filmStill s).transport.move = some m := hm
    have hnext : nextLegAfterRest (filmStill s) = legBegun m g rest true (filmStill s) := by
      simp only [nextLegAfterRest, hmove, hplan, takeLeg_plain hmove true false hstop fun _ => hfly]
    refine (exec_filmAtRest (calls := []) hm (.inl hstate) hrest (hnext.trans (facing_nil (by exact hq)).symm)
      (Leads.done (by exact hq)) (by omega)).trans ?_
    by_cases hcls : g.cls = .shuttle <;> simp [legBegun, filmStill, hcls]
  · intro m s hq hstate hm hrest
    have hmove : (filmStill s).transport.move = some m := hm
    refine (exec_filmAtRest (calls := []) hm (.inr hstate) hrest ((beginLeg_eq (g := backOffLeg s.params.recoverDist m.leg) (rest := []) hmove true).trans (facing_nil (by exact hq)).symm)
      (Leads.done (by exact hq)) (by omega)).trans ?_
    cases hdir : m.leg.direction <;> simp [legBegun, filmStill, backOffLeg, flipDirection, hdir]
  · intro m s hq hstate htimer hm hattempts
    refine takes_next (new := []) (n := 0) ?_ (Leads.done (by exact hq)) (by omega)
    rw [facing_nil (by exact hq), if_pos (Option.isSome_iff_ne_none.mpr htimer)]
    exact stalled_recovers hstate hm hattempts
  · intro s hq hno htimer hjams
    have hstate : s.transport.state ≠ .empty ∧ s.transport.state ≠ .faulted := by
      rcases hjams with ⟨h, -⟩ | h | h <;> simp [h]
    refine takes_next (new := []) (n := 0) (z := faulted .jam s) ?_ (Leads.done (by exact hq)) (by omega)
    rw [facing_nil (by exact hq), if_pos (Option.isSome_iff_ne_none.mpr htimer), stalled_jams hjams]
    exact enterFaulted_alone .jam hno hstate.1 hstate.2
  · intro m d s hq hstate hm hphase hrest hstop htravel
    have hdone : backOffDone s = true := by
      simp [backOffDone, hstate, runningLeg_eq hm (.inr hstate) hphase hrest, hm, hstop, htravel]
    refine takes_next (new := []) (n := 0) (z := restAwaited m .retry s) ?_ (Leads.done (by exact hq)) (by omega)
    rw [facing_nil (by exact hq), if_pos hdone]
    exact pauseFor_eq hm .retry
  · intro m x s hq hno hstate hm hphase hrest hstop htravel
    have hlost : leaderLost s = true := by
      simpa [leaderLost, hstate, runningLeg_eq hm (.inl hstate) hphase hrest, hm, hstop] using (by exact htravel : Config.maxCoord ≤ m.travel)
    refine takes_next (new := []) (n := 0) (z := faulted .leaderLost s) ?_ (Leads.done (by exact hq)) (by omega)
    rw [facing_nil (by exact hq), if_pos hlost]
    exact enterFaulted_alone .leaderLost hno (by simp [hstate]) (by simp [hstate])

end Sys2Proof.Machine
end

section
/-! PROOFS. LEADER_IN zeroes the register and turns the film, TRAILER_IN closes the index (R3, R10, R11, R66, R67, R68, R85, R86). -/

namespace Sys2Proof.Machine

open Sys2Proof

/-! ### A change of LEADER_IN (R66, R67) -/

/-- LEADER_IN reads this level. -/
def leaderRead (x : LeaderLevel) (s : State) : State := { s with transport := { s.transport with leaderIn := x } }

theorem leaderChanged_in_move {x : LeaderLevel} {s : State} (hchange : s.transport.leaderIn ≠ x) (hstate : s.transport.state ≠ .threading) :
    leaderChanged x s = leaderChangedInMove x (leaderRead x s) := by
  simp only [leaderChanged, hchange, hstate, if_false]
  rfl

/-- A change that the move in flight does not take is noted alone. -/
theorem leaderChanged_noted {x : LeaderLevel} {s : State} (hstate : s.transport.state ≠ .threading)
    (h : leaderChangedInMove x (leaderRead x s) = leaderRead x s) : leaderChanged x s = leaderRead x s := by
  by_cases hchange : s.transport.leaderIn = x
  · subst hchange
    simp [leaderChanged, leaderRead]
  · rw [leaderChanged_in_move hchange hstate, h]

section
variable {m : Move} {x : LeaderLevel} {s : State} (hm : s.transport.move = some m)

include hm

theorem leaderChangedInMove_moving (hstate : s.transport.state = .moving) (hphase : m.phase = .running) (hrest : m.atRest = none) :
    leaderChangedInMove x s =
      if m.purpose = .home then
        if m.leg.stop = .leaderReads x then if x = .film then stopFor .arrived (zeroAtLeader s) else legEnded s else s
      else if m.leg.direction = .reverse ∧ x = .leader then legEnded s else s := by
  simp only [leaderChangedInMove, runningLeg_eq hm (.inl hstate) hphase hrest, hm, hstate]

theorem leaderChangedInMove_recovering (hstate : s.transport.state = .recovering) (hphase : m.phase = .running) (hrest : m.atRest = none) :
    leaderChangedInMove x s = if m.leg.direction = .reverse ∧ x = .leader then pauseFor .retry s else s := by
  simp only [leaderChangedInMove, runningLeg_eq hm (.inr hstate) hphase hrest, hm, hstate]

end

/-- With no leg that runs the change bears on no move. -/
theorem leaderChangedInMove_no_leg {x : LeaderLevel} {s : State} (h : s.runningLeg = none) : leaderChangedInMove x s = s := by
  simp only [leaderChangedInMove, h]

theorem leaderChangedInMove_forward {m : Move} {x : LeaderLevel} {s : State} (hm : s.transport.move = some m)
    (hforward : m.leg.direction = .forward) (hstop : m.leg.stop ≠ .leaderReads x) : leaderChangedInMove x s = s := by
  by_cases hruns : s.runningLeg = none
  · exact leaderChangedInMove_no_leg hruns
  · have hphase : m.phase = .running ∧ m.atRest = none := by
      by_contra hnot
      simp [State.runningLeg, hm, hnot] at hruns
    have hmotion : s.motionLeg ≠ none := by simpa [State.runningLeg, hm, hphase] using hruns
    by_cases hmoving : s.transport.state = .moving
    · simp [leaderChangedInMove_moving hm hmoving hphase.1 hphase.2, hforward, hstop]
    · by_cases hrecovering : s.transport.state = .recovering
      · simp [leaderChangedInMove_recovering hm hrecovering hphase.1 hphase.2, hforward]
      · exact absurd (motionLeg_away hmoving hrecovering) hmotion

/-- A change of LEADER_IN that sets nothing off. -/
theorem exec_leaderIn {x : LeaderLevel} {s t : State} (h : leaderChanged x s = t) (ht : Quiet t) :
    exec (.leaderInChange x) s = .next t :=
  takes_next (new := []) (n := 0) (h.trans (facing_nil ht).symm) (Leads.done ht) (by omega)

/-! ### The thread arrival (R85, R86) -/

/-- The pull has brought the film under the gate: the register is 0 and the confidence LOCKED. -/
def filmThreaded (s : State) : State :=
  { s with
    tracker := { s.tracker with register := 0, level := .locked, good := 0, miss := 0 }
    marks := { s.marks with inProgress := none }
    transport := { s.transport with leaderIn := .film, capstan := none }
    roll := { s.roll with threadTimer := none, threadTaken := true } }

theorem leaderChanged_threads {s : State} (hchange : s.transport.leaderIn = .leader) (hstate : s.transport.state = .threading)
    (hpull : s.transport.capstan = some .forward) : leaderChanged .film s = threadCheck (filmThreaded s) := by
  simp only [leaderChanged, hchange, hstate, hpull, reduceCtorEq, if_false, if_true, and_self]
  simp [threadArrived, zeroAtLeader, setLevel, discardMark, filmThreaded, hstate]

/-- A threaded roll whose tag load is complete. -/
def filmParked (s : State) : State :=
  onLinks (fun k => { k with flags := { k.flags with roll := true } })
    { s with
      transport := { s.transport with state := .parked }
      roll := { s.roll with idleTimer := if s.params.standbyIdle = 0 then none else some s.params.standbyIdle } }

theorem threadCheck_parks {s : State} (hq : Quiet s) (hstate : s.transport.state = .threading) (htaken : s.roll.threadTaken = true)
    (hload : s.roll.tagLoad = .complete) (hgrant : s.sched.grant = .none) (hlamp : s.lamp.state ≠ .off) :
    threadCheck s = facing [.choose] (filmParked s) := by
  have htodo : s.todo = [] := hq
  by_cases hidle : s.params.standbyIdle = 0 <;>
    simp [threadCheck, hstate, htaken, hload, enterState, lampOnEntering, flagRoll, flagBoth, onLinks, emit, idleStart, hgrant, hlamp,
      facing, filmParked, htodo, hidle]

/-! ### TRAILER_IN (R10, R68) -/

/-- The trailer is recorded and the move stops for it. -/
def trailerMet (m : Move) (s : State) : State :=
  { s with
    index := { s.index with trailer := some s.tracker.register }
    transport := { s.transport with
      state := .moving, capstan := none, stallTimer := none
      move := some { m with finalApproach := false, phase := .stopping, plan := [], aside := [], atRest := some (.finish .endOfFilm) } }
    roll := { s.roll with idleTimer := if s.transport.state = .recovering then none else s.roll.idleTimer } }

/-- The index has closed at the trailer. -/
def closedTrailer (s : State) : State :=
  onLinks (fun k => { k with flags := { k.flags with index := some .closed } }) { s with index := { s.index with closure := some .trailer } }

section
variable {m : Move} {s : State} (hstate : s.transport.state = .moving ∨ s.transport.state = .recovering) (hm : s.transport.move = some m)
  (hforward : m.leg.direction = .forward) (hmotion : s.tracker.inMotion = true)

include hstate hm hforward hmotion

theorem trailerFired_closed (hclosed : s.index.closure ≠ none) : trailerFired s = trailerMet m s := by
  simp only [trailerFired, carryingLeg_in_motion s hmotion, motionLeg_of_move hm hstate, hforward, if_true, closeIndex, State.indexOpen]
  rcases hstate with h | h <;>
    simp [hclosed, h, enterState, lampOnEntering, stopFor, onMove, hm, trailerMet, Option.isNone_iff_eq_none]

theorem trailerFired_open (hq : Quiet s) (hopen : s.index.closure = none) :
    trailerFired s = facing [.indexClosed] (closedTrailer (trailerMet m s)) := by
  have htodo : s.todo = [] := hq
  simp only [trailerFired, carryingLeg_in_motion s hmotion, motionLeg_of_move hm hstate, hforward, if_true, closeIndex, State.indexOpen]
  rcases hstate with h | h <;>
    simp [hopen, h, enterState, lampOnEntering, stopFor, onMove, hm, trailerMet, closedTrailer, flagIndex, flagBoth, onLinks, emit, facing, htodo]

end

/-- Settles O55. -/
theorem leaderAndTrailer : Obligations.LeaderAndTrailer := by
  unfold Obligations.LeaderAndTrailer
  refine ⟨?_, ?_, ?_, ?_, ?_, ?_, ?_⟩
  · intro x s hq hsame
    exact exec_leaderIn (by simp [leaderChanged, hsame]) hq
  · intro m s hq hchange hstate hm hpurpose hphase hrest hstop
    refine exec_leaderIn ?_ hq
    rw [leaderChanged_in_move (by simp [hchange]) (by simp [hstate]),
      leaderChangedInMove_moving (s := leaderRead .film s) hm hstate hphase hrest]
    simp only [hpurpose, hstop, if_true]
    rw [stopFor_eq m .arrived (by exact hm)]
    simp [comingToRest, zeroAtLeader, setLevel, discardMark, leaderRead, hpurpose]
  · intro m s hq hchange hm hphase hrest turned creep last
    refine ⟨fun hstate hpurpose hstop hreverse hplan => ⟨exec_leaderIn ?_ hq, ?_⟩,
      fun g rest hstate hpurpose hreverse hplan hturn => exec_leaderIn ?_ hq, fun hstate hreverse => ⟨exec_leaderIn ?_ hq, fun hpurpose => ?_⟩⟩
    · rw [leaderChanged_in_move (by simp [hchange]) (by simp [hstate]),
        leaderChangedInMove_moving (s := leaderRead .leader s) hm hstate hphase hrest]
      simp only [hpurpose, hstop, if_true, reduceCtorEq, if_false]
      exact legEnded_turns (s := leaderRead .leader s) hm hplan (by simp [creep, hreverse])
    · have hmove : (filmStill (turned .nextLeg)).transport.move = some { m with finalApproach := false, atRest := some .nextLeg } := rfl
      have hnext : nextLegAfterRest (filmStill (turned .nextLeg)) = legBegun { m with finalApproach := false, atRest := some .nextLeg } creep []
          true (filmStill (turned .nextLeg)) := by
        simp only [nextLegAfterRest, hmove, hplan, takeLeg_plain hmove true false (g := creep) (rest := []) (by simp [creep]) fun _ => by simp [hpurpose]]
      refine (exec_filmAtRest (s := turned .nextLeg) (calls := []) (a := .nextLeg) hmove (.inl hstate) rfl (hnext.trans (facing_nil (by exact hq)).symm)
        (Leads.done (by exact hq)) (by omega)).trans ?_
      simp [legBegun, filmStill, turned, last, creep, hstate]
    · rw [leaderChanged_in_move (by simp [hchange]) (by simp [hstate]),
        leaderChangedInMove_moving (s := leaderRead .leader s) hm hstate hphase hrest]
      simp only [hpurpose, hreverse, and_self, if_true, if_false]
      exact legEnded_turns (s := leaderRead .leader s) hm hplan (by simp [hturn, hreverse])
    · rw [leaderChanged_in_move (by simp [hchange]) (by simp [hstate]),
        leaderChangedInMove_recovering (s := leaderRead .leader s) hm hstate hphase hrest, if_pos ⟨hreverse, rfl⟩]
      exact pauseFor_eq (s := leaderRead .leader s) hm .retry
    · refine (exec_rest_retries (m := { m with finalApproach := false, atRest := some .retry })
        (y := { m with finalApproach := false, atRest := some .retry }) (g := creep) (rest := [])
        (s := turned .retry) (by exact hq) hstate rfl rfl (fun z hz => ⟨?_, ?_⟩) (by simp [creep]) (fun _ => by simp [hpurpose])).trans ?_
      · simp only [planFor, hpurpose, homePlan_eq, hz]
        rfl
      · simp only [withTarget, hpurpose]
      · simp [turned, last, creep, hstate]
  · intro x s hq hstate hmove
    refine exec_leaderIn (leaderChanged_noted hstate ?_) hq
    cases hm : s.transport.move with
    | none => exact leaderChangedInMove_no_leg (by simp [State.runningLeg, leaderRead, hm])
    | some m =>
      have hm' : (leaderRead x s).transport.move = some m := hm
      rcases hmove m hm with hstopping | hrest | ⟨hmoving, hrecovering⟩ | ⟨hforward, hstop⟩
      · exact leaderChangedInMove_no_leg (runningLeg_waits hm' (.inl hstopping))
      · exact leaderChangedInMove_no_leg (runningLeg_waits hm' (.inr hrest))
      · refine leaderChangedInMove_no_leg ?_
        have hleg : (leaderRead x s).motionLeg = none := motionLeg_away hmoving hrecovering
        simp [State.runningLeg, hm', hleg]
      · exact leaderChangedInMove_forward hm' hforward hstop
  · intro s hq hchange hstate hpull threaded
    refine ⟨fun hload => ?_, fun hload hgrant hlamp hslots hsweep hpass => ?_⟩
    · refine exec_leaderIn ((leaderChanged_threads hchange hstate hpull).trans ?_) hq
      simp [threadCheck, filmThreaded, hload, threaded]
    · refine takes_next (n := 1) ((leaderChanged_threads hchange hstate hpull).trans
        (threadCheck_parks (s := filmThreaded s) hq hstate rfl hload hgrant hlamp)) ?_ (by omega)
      exact leads_at_ease (s := filmParked (filmThreaded s)) (by exact hq) (.inr ⟨by simp [filmParked, filmThreaded, onLinks], hslots, hsweep, hpass⟩)
  · intro m s hq hstate hm hforward hmotion stopped
    refine ⟨fun hclosed => ?_, fun hopen hgrant hresolving hpass => ?_⟩
    · exact takes_next (new := []) (n := 0) ((trailerFired_closed hstate hm hforward hmotion hclosed).trans (facing_nil (by exact hq)).symm)
        (Leads.done (by exact hq)) (by omega)
    · obtain ⟨n, hn, hleads⟩ := leads_growth (s := closedTrailer (trailerMet m s)) (by exact hq) ⟨.inl hgrant, hresolving, hpass⟩
        [.indexClosed] (by simp)
      exact takes_next (trailerFired_open hstate hm hforward hmotion hq hopen) hleads (by simp at hn; omega)
  · intro s hq hstill
    refine takes_next (new := []) (n := 0) ((?_ : trailerFired s = s).trans (facing_nil hq).symm) (Leads.done hq) (by omega)
    rcases hstill with hrest | hreverse
    · exact trailerFired_at_rest s hrest
    · cases hmotion : s.tracker.inMotion
      · exact trailerFired_at_rest s hmotion
      · simp only [trailerFired, carryingLeg_in_motion s hmotion]
        cases hleg : s.motionLeg with
        | none => rfl
        | some g => simp [hreverse g hleg]

end Sys2Proof.Machine
end

section
/-! PROOFS. PASS START: the program, its checks in their order, and what an accepted start does (R122, R123, R127, R140). -/

namespace Sys2Proof.Machine

open Sys2Proof

/-! ### The program (R140) -/

theorem programOf_iff (n : Nat) (b : List (Option Segment)) (gs : List Segment) :
    programOf n b = some gs ↔ gs.length = n ∧ ∀ i, i < n → b[i]? = some gs[i]? := by
  induction n generalizing b gs with
  | zero => cases b <;> simp [programOf, eq_comm]
  | succ n ih =>
    match b with
    | [] =>
      simp only [programOf, reduceCtorEq, false_iff, not_and]
      exact fun _ h => by simpa using h 0 (by omega)
    | none :: rest =>
      simp only [programOf, reduceCtorEq, false_iff, not_and]
      intro hlen h
      have hfirst := h 0 (by omega)
      rw [List.getElem?_eq_getElem (by omega : 0 < gs.length)] at hfirst
      simp at hfirst
    | some g :: rest =>
      have hstep : programOf (n + 1) (some g :: rest) = (programOf n rest).map (fun hs => g :: hs) := by
        cases h : programOf n rest <;> simp [programOf, h]
      rw [hstep, Option.map_eq_some_iff]
      constructor
      · rintro ⟨hs, hrest, rfl⟩
        obtain ⟨hlen, hall⟩ := (ih rest hs).mp hrest
        refine ⟨by simp [hlen], fun i hi => ?_⟩
        cases i with
        | zero => simp
        | succ i => simpa using hall i (by omega)
      · rintro ⟨hlen, hall⟩
        cases gs with
        | nil => simp at hlen
        | cons g' hs =>
          have hfirst : g = g' := by simpa using hall 0 (by omega)
          refine ⟨hs, (ih rest hs).mpr ⟨by simpa using hlen, fun i hi => ?_⟩, by rw [hfirst]⟩
          simpa using hall (i + 1) (by omega)

theorem programOrdered_iff (gs : List Segment) : programOrdered gs = true ↔
    (∀ g ∈ gs, ∀ n ∈ g.last, g.first ≤ n) ∧ (∀ x ∈ gs.zip gs.tail, ∃ n ∈ x.1.last, n < x.2.first) := by
  induction gs with
  | nil => simp [programOrdered]
  | cons g rest ih =>
    cases rest with
    | nil => cases hlast : g.last <;> simp [programOrdered, hlast]
    | cons h rest =>
      have hstep : programOrdered (g :: h :: rest) = true ↔
          (∃ n ∈ g.last, g.first ≤ n ∧ n < h.first) ∧ programOrdered (h :: rest) = true := by
        cases hlast : g.last <;> simp [programOrdered, hlast]
      rw [hstep, ih]
      simp only [List.tail_cons, List.zip_cons_cons, List.forall_mem_cons]
      constructor
      · rintro ⟨⟨n, hn, hle, hlt⟩, hall, hpairs⟩
        exact ⟨⟨fun k hk => by rw [Option.mem_unique hk hn]; exact hle, hall⟩, ⟨n, hn, hlt⟩, hpairs⟩
      · rintro ⟨⟨hle, hall⟩, ⟨n, hn, hlt⟩, hpairs⟩
        exact ⟨⟨n, hn, hle n hn, hlt⟩, hall, hpairs⟩

theorem decodeMode_beyond {mode : Byte} (h : 0x01#8 < mode) : decodeMode mode = none := by
  unfold decodeMode
  repeat rw [if_neg (by bv_omega)]

theorem decodeMode_within {mode : Byte} (h : mode ≤ 0x01#8) : ∃ m, decodeMode mode = some m := by
  unfold decodeMode
  split_ifs with hstep hfly
  · exact ⟨_, rfl⟩
  · exact ⟨_, rfl⟩
  · bv_omega

/-! ### An accepted start -/

/-- With nothing to serve but a pass that runs, WAKING holds its grant (R122, R123, R125). -/
theorem leads_pass_held {s : State} (hq : Quiet s) (hgrant : s.sched.grant = .none) (hwaking : s.transport.state = .waking)
    (hlevel : s.tracker.level ≠ .lost) (hrest : ∀ x ∈ s.slots, x.resting = true) (hsweep : s.sweep.active = none)
    (hpass : s.pass.state = .running) (hlamp : s.lamp.state ≠ .failed) : Leads 1 [.choose] s (heldGrant .pass s) := by
  have hurgent : ∀ x ∈ s.slots, ¬ UrgentWaits s x := fun x hx hwaits => by
    have := hrest x hx
    rcases hwaits.2 with hpending | ⟨hresolving, -⟩ <;> simp [Slot.resting, *] at this
  have hchoice := leads_pass_choice hq hgrant hwaking hlevel hurgent (by simp [hsweep]) (by simp [State.passActive, hpass])
    (by simp [State.owes, normalPending_resting hrest]) hlamp
  have hsame : { s.pass with state := .running } = s.pass := by rw [← hpass]
  rw [hsame] at hchoice
  simp only [choiceHeld, mapIdx_self] at hchoice
  exact hchoice

/-- A PASS START that is accepted (R140). -/
structure StartTaken (n mode : Byte) (m : PassMode) (buffer : List (Option Segment)) (gs : List Segment) (s : State) : Prop where
  idle : s.pass.state = .idle
  threaded : ¬ (s.transport.state = .empty ∨ s.transport.state = .threading ∨ s.transport.state = .rewinding)
  sound : s.transport.state ≠ .faulted
  mode : decodeMode mode = some m
  low : 1#8 ≤ n
  high : n ≤ 8#8
  program : programOf n.toNat buffer = some gs
  ordered : programOrdered gs = true

/-- FLY is in effect where it is asked for and the gate lies far enough beyond the Mark Reader (R140). -/
theorem modeInEffect_eq (s : State) (m : PassMode) : modeInEffect s m =
    if decide (m = .fly ∧ 2 * max 40 (s.index.pitchQ / 64) < s.roll.active.gateOffset) then .fly else .step := by
  unfold modeInEffect State.w window
  by_cases h : m = .fly ∧ 2 * max 40 (s.index.pitchQ / 64) < s.roll.active.gateOffset <;> simp [h]

theorem modeNumber_ite (b : Bool) : modeNumber (if b then .fly else .step) = if b then 1 else 0 := by cases b <;> rfl

/-- The part with the pass that a PASS START has set up. -/
def passBegun (l : Link) (m : PassMode) (y : Nat) (gs : List Segment) (s : State) : State :=
  { s with pass := startedPass l m (modeInEffect s m) y gs }

theorem passStart_accepted (l : Link) {n mode : Byte} (y : Nat) {m : PassMode} {gs : List Segment} {s : State}
    (h : StartTaken n mode m (s.link l).buffer gs s) :
    passStart l n.toNat mode y s = (emit .choose (stopDiscover (passBegun l m y gs s)),
      { code := .accepted, contents := .number 1 (modeNumber (modeInEffect s m)) }) := by
  obtain ⟨hidle, hthreaded, hsound, hmode, hlow, hhigh, hprogram, hordered⟩ := h
  have hcount : ¬ (n.toNat = 0 ∨ 8 < n.toNat) := by bv_omega
  simp only [passStart, hidle, ne_eq, not_true_eq_false, if_false, hthreaded, hsound, hmode, hcount, hprogram, hordered,
    Bool.true_eq_false, passBegun]

/-- An accepted PASS START stops a DISCOVER move, leaving the transport `T`, and the pass waits for the choice. -/
theorem exec_passStart_accepted (l : Link) {n mode y : Byte} {m : PassMode} {gs : List Segment} {s t : State} {T : Transport} {k : Nat}
    (hq : Quiet s) (h : StartTaken n mode m (s.link l).buffer gs s)
    (hstop : ∀ u : State, u.transport = s.transport → u.sched = s.sched → stopDiscover u = { u with transport := T })
    (ht : Leads k [.choose] { answered l .accepted 0x31#8 (.number 1 (modeNumber (modeInEffect s m))) (passBegun l m y.toNat gs s) with
      transport := T } t)
    (hk : k ≤ 100) : exec (.passStart l n mode y) s = .next t := by
  have hclosed : StartTaken n mode m ((closeStream l s).link l).buffer gs (closeStream l s) := by
    obtain ⟨hidle, hthreaded, hsound, hmode, hlow, hhigh, hprogram, hordered⟩ := h
    cases l <;> exact ⟨hidle, hthreaded, hsound, hmode, hlow, hhigh, hprogram, hordered⟩
  refine request_next (passStart_accepted l y.toNat hclosed) ?_ ht hk
  rw [hstop _ (by cases l <;> rfl) (by cases l <;> rfl), setAnswer_emit, ← emit_eq_facing _ (by cases l <;> exact hq)]
  cases l <;> rfl

section
variable (l : Link) {n mode y : Byte} {m : PassMode} {gs : List Segment} {s : State} (hq : Quiet s)
  (h : StartTaken n mode m (s.link l).buffer gs s)

include hq h

theorem exec_passStart_waking (hwaking : s.transport.state = .waking) (hgrant : s.sched.grant = .none) (hwork : NoWork s)
    (hlamp : s.lamp.state ≠ .failed) : exec (.passStart l n mode y) s = .next
      (heldGrant .pass (answered l .accepted 0x31#8 (.number 1 (modeNumber (modeInEffect s m))) (passBegun l m y.toNat gs s))) := by
  have hkept (u : State) (hu) (hs) := stopDiscover_other (s := s) (u := u) (by simp [hgrant]) hu hs
  obtain ⟨hlevel, hrest, hsweep, -⟩ := hwork
  cases l <;> exact exec_passStart_accepted _ hq h hkept (leads_pass_held hq hgrant hwaking hlevel hrest hsweep rfl hlamp) (by omega)

theorem exec_passStart_waits {T : Transport} (hgrant : s.sched.grant ≠ .none)
    (hstop : ∀ u : State, u.transport = s.transport → u.sched = s.sched → stopDiscover u = { u with transport := T }) :
    exec (.passStart l n mode y) s = .next
      { answered l .accepted 0x31#8 (.number 1 (modeNumber (modeInEffect s m))) (passBegun l m y.toNat gs s) with transport := T } := by
  cases l <;> exact exec_passStart_accepted _ hq h hstop (leads_at_ease hq (.inl hgrant)) (by omega)

end

/-- Settles O41. -/
theorem passStarts : Obligations.PassStarts := by
  unfold Obligations.PassStarts
  refine ⟨programOf_iff, programOrdered_iff, ?_, ?_, ?_⟩
  · intro l n mode y m gs s hq hidle hmode hlow hhigh hprogram hordered flies started go done
    have htaken (hstate : s.transport.state = .waking ∨ s.transport.state = .moving) : StartTaken n mode m (s.link l).buffer gs s :=
      ⟨hidle, by rcases hstate with h | h <;> simp [h], by rcases hstate with h | h <;> simp [h], hmode, hlow, hhigh, hprogram, hordered⟩
    refine ⟨fun hwaking hgrant hwork hlamp => ?_, fun v hmoving hgrant hm hrunning => ?_⟩
    · refine (exec_passStart_waking l hq (htaken (.inl hwaking)) hwaking hgrant hwork hlamp).trans ?_
      simp only [modeInEffect_eq, modeNumber_ite, passBegun]
      cases l <;> rfl
    · refine (exec_passStart_waits l hq (htaken (.inr hmoving)) (by simp [hgrant])
        (fun u hu hs => stopDiscover_running hgrant hmoving hm hrunning hu hs)).trans ?_
      simp only [modeInEffect_eq, modeNumber_ite, passBegun]
      cases l <;> rfl
  · intro l n mode y m gs s hq hidle hempty hthreading hrewinding hfaulted hgrant hdiscover hmode hlow hhigh hprogram hordered flies
    have htaken : StartTaken n mode m (s.link l).buffer gs s :=
      ⟨hidle, by simp [hempty, hthreading, hrewinding], hfaulted, hmode, hlow, hhigh, hprogram, hordered⟩
    refine (exec_passStart_waits l hq htaken hgrant (fun u hu hs => stopDiscover_other hdiscover hu hs)).trans ?_
    simp only [modeInEffect_eq, modeNumber_ite, passBegun]
    cases l <;> rfl
  · intro l n mode y s hq go refusal
    have hrefuse (code : AnswerCode) (h : passStart l n.toNat mode y.toNat (closeStream l s) = (closeStream l s, refuse code)) : refusal code :=
      request_answered l 0x31#8 _ s (refuse code) hq h
    have hpass : (closeStream l s).pass = s.pass := by cases l <;> rfl
    have htransport : (closeStream l s).transport = s.transport := by cases l <;> rfl
    have hbuffer : ((closeStream l s).link l).buffer = (s.link l).buffer := by cases l <;> rfl
    refine ⟨fun hbusy => hrefuse _ (by simp only [passStart, hpass, hbusy, ne_eq, not_false_eq_true, if_true]),
      fun hidle => ⟨fun hbare => hrefuse _ ?_, fun hfaulted => hrefuse _ ?_, fun hempty hthreading hrewinding hfaulted =>
        ⟨fun hbeyond => hrefuse _ ?_, fun hmode hwrong => hrefuse _ ?_⟩⟩⟩
    · simp only [passStart, hpass, htransport, hidle, ne_eq, not_true_eq_false, if_false, hbare, if_true]
    · simp [passStart, hidle, hfaulted]
    · simp [passStart, hidle, hempty, hthreading, hrewinding, hfaulted, decodeMode_beyond hbeyond]
    · obtain ⟨m, hm⟩ := decodeMode_within hmode
      simp only [passStart, hpass, htransport, hbuffer, hidle, hempty, hthreading, hrewinding, hfaulted, hm, ne_eq, not_true_eq_false,
        or_self, if_false]
      by_cases hcount : n.toNat = 0 ∨ 8 < n.toNat
      · simp [hcount]
      · rcases hwrong with rfl | hmany | hnone | ⟨gs, hgs, hordered⟩
        · exact absurd (.inl rfl) hcount
        · exact absurd (.inr (by bv_omega)) hcount
        · simp [hcount, hnone]
        · simp [hcount, hgs, hordered]

end Sys2Proof.Machine
end

section
/-! PROOFS. RETRIEVE: the slot it fills, what that sets off, and its refusals (R118 to R122, R125, R127, R128, R147, R153). -/

namespace Sys2Proof.Machine

open Sys2Proof

/-! ### One slot that waits, and nothing else to choose (R122 to R125) -/

/-- Slot `i`, which holds `x`, is the one candidate of the scheduler. -/
structure Sole (i : Nat) (x : Slot) (s : State) : Prop where
  place : s.slots[i]? = some x
  waits : x.state = .pending ∨ (x.state = .resolving ∧ s.passActive = false)
  fresh : x.skip = 0
  others : ∀ j y, j ≠ i → s.slots[j]? = some y → y.resting = true
  sweep : s.sweep.active = none
  level : s.tracker.level ≠ .lost
  pass : x.priority = .urgent ∨ s.passActive = false ∨ (s.sched.yieldOwed = true ∧ x.state = .pending)

/-- The slot as it is granted the transport (R125). -/
def Slot.granted (x : Slot) : Slot := { x with state := .travelling, reached := none }

/-- The sole slot has been chosen. -/
def soleChosen (i : Nat) (x : Slot) (s : State) : State :=
  { s with
    slots := if x.state = .pending then s.slots.modify i Slot.granted else s.slots
    sched := { s.sched with direction :=
      if x.priority = .urgent then s.sched.direction else directionTo s.tracker.register (slotCoord s x) s.sched.direction } }

/-- What the sole slot is granted. -/
def soleGrant (i : Nat) (x : Slot) : Grant := if x.state = .pending then .slot i else .discover

section
variable {i : Nat} {x : Slot} {s : State}

theorem Sole.only (h : Sole i x s) {j : Nat} {y : Slot} (hy : s.slots[j]? = some y) (hwaits : UrgentWaits s y ∨ NormalWaits s y) : j = i := by
  by_contra hne
  have hrest := h.others j y hne hy
  rcases hwaits with ⟨-, hstate | ⟨hstate, -⟩⟩ | ⟨-, hstate | ⟨hstate, -⟩⟩ <;> simp [Slot.resting, hstate] at hrest

theorem Sole.normalPending (h : Sole i x s) : s.normalPending = decide (x.priority = .normal ∧ x.state = .pending) := by
  rw [Bool.eq_iff_iff, decide_eq_true_iff]
  simp only [State.normalPending, List.any_eq_true, Bool.and_eq_true, beq_iff_eq]
  constructor
  · rintro ⟨y, hy, hstate, hpriority⟩
    obtain ⟨j, hj⟩ := List.mem_iff_getElem?.mp hy
    obtain rfl := h.only hj (.inr ⟨hpriority, .inl hstate⟩)
    obtain rfl := Option.some.inj (hj.symm.trans h.place)
    exact ⟨hpriority, hstate⟩
  · exact fun ⟨hpriority, hstate⟩ => ⟨x, List.mem_of_getElem? h.place, hstate, hpriority⟩

/-- A look at what is owed leaves the sole candidate. -/
theorem Sole.checked (h : Sole i x s) : Sole i x (owedChecked s) := by
  rw [owedChecked_eq]
  refine ⟨h.place, h.waits, h.fresh, h.others, h.sweep, h.level, ?_⟩
  rcases h.pass with hurgent | hpass | ⟨howed, hpending⟩
  · exact .inl hurgent
  · exact .inr (.inl hpass)
  · cases hpriority : x.priority
    · exact .inr (.inr ⟨by simp [howed, h.normalPending, hpriority, hpending], hpending⟩)
    · exact .inl rfl

/-- The NORMAL choice of the sole candidate changes no slot (R124). -/
theorem Sole.normalTaken_slots (h : Sole i x s) : skipFrom s (candidate s i x) 0 s.slots = s.slots := by
  rw [skipFrom_eq]
  refine List.ext_getElem? fun j => ?_
  rw [List.getElem?_mapIdx]
  cases hj : s.slots[j]? with
  | none => rfl
  | some y =>
    by_cases hij : j = i
    · subst hij
      obtain rfl := Option.some.inj (hj.symm.trans h.place)
      simp [Slot.skipped, candidate, ← h.fresh]
    · have hrest := h.others j y hij hj
      have hidle := candidateOf_idle (s := s) (0 + j) (fun hn => hij (h.only hj (.inr hn)))
      have hstate : y.state ≠ .resolving := fun e => by simp [Slot.resting, e] at hrest
      simp [Slot.skipped, candidate, hstate, hij, show candidateOf s j y = none by simpa using hidle]

theorem Sole.choice (h : Sole i x s) : NormalChoice s i x := by
  have hother (j : Nat) (y : Slot) (hne : j ≠ i) (hy : s.slots[j]? = some y) (hw : NormalWaits s y) : False := hne (h.only hy (.inr hw))
  have hself (y : Slot) (hy : y ∈ s.slots) (hw : NormalWaits s y) : y = x := by
    obtain ⟨j, hj⟩ := List.mem_iff_getElem?.mp hy
    obtain rfl := h.only hj (.inr hw)
    exact Option.some.inj (hj.symm.trans h.place)
  by_cases haged : s.params.agingLimit ≤ x.skip
  · exact .inl ⟨haged, fun j y hne hy hw => (hother j y hne hy hw).elim⟩
  · refine .inr ⟨fun y hy hw => ?_, ?_⟩
    · rw [hself y hy hw]
      omega
    · by_cases hlies : Lies s.tracker.register s.sched.direction (slotCoord s x)
      · exact .inl ⟨hlies, fun j y hne hy hw => (hother j y hne hy hw).elim⟩
      · refine .inr ⟨fun y hy hw => ?_, fun j y hne hy hw => (hother j y hne hy hw).elim⟩
        rw [hself y hy hw]
        exact hlies

/-- The row that the sole candidate falls in (R123). -/
theorem rowTaken_sole (h : Sole i x s) :
    rowTaken (owedChecked s) = makeGrant (soleGrant i x) { soleChosen i x s with sched := { (soleChosen i x s).sched with yieldOwed := false } } := by
  have hc := h.checked
  cases hpriority : x.priority
  · have hurgent : urgentPick (owedChecked s) = none := urgentPick_none fun y hy hw => by
      obtain ⟨j, hj⟩ := List.mem_iff_getElem?.mp hy
      obtain rfl := hc.only hj (.inl hw)
      obtain rfl := Option.some.inj (hj.symm.trans hc.place)
      have hboth := hw.1
      simp [hpriority] at hboth
    have hpass : (owedChecked s).passActive = false ∨ (owedChecked s).sched.yieldOwed = true := by
      rcases hc.pass with h | h | ⟨h, -⟩
      · simp [hpriority] at h
      · exact .inl h
      · exact .inr h
    have hpick := normalPick_eq hc.place ⟨hpriority, hc.waits⟩ hc.choice
    rw [rowTaken_normal hc.level hurgent (by simp [hc.sweep]) hpass, grantNormal, hpick]
    simp only [normalTaken, hc.normalTaken_slots]
    rw [owedChecked_eq, h.normalPending]
    rcases h.waits with hpending | ⟨hresolving, -⟩
    · simp [hpending, soleGrant, soleChosen, grantSlot, onSlot, hpriority, candidate]
      rfl
    · simp [hresolving, soleGrant, soleChosen, hpriority, candidate]
      rfl
  · have hpick : urgentPick (owedChecked s) = some { number := i, coord := 0, slot := x } :=
      urgentPick_eq hc.place ⟨hpriority, hc.waits⟩ fun j y hne hy hw => absurd (hc.only hy (.inl hw)) hne
    rw [rowTaken_urgent hc.level hpick, owedChecked_eq, h.normalPending]
    rcases h.waits with hpending | ⟨hresolving, -⟩
    · simp [hpending, soleGrant, soleChosen, grantSlot, onSlot, hpriority]
      rfl
    · simp [hresolving, soleGrant, soleChosen, hpriority]

theorem choose_sole (h : Sole i x s) (hmay : MayChoose s) :
    choose s = makeGrant (soleGrant i x) { soleChosen i x s with sched := { (soleChosen i x s).sched with yieldOwed := false } } := by
  refine (choose_taken hmay ?_).trans (rowTaken_sole h)
  cases hpriority : x.priority
  · have hmem : candidate s i x ∈ s.candidates := mem_candidates.mpr ⟨i, x, h.place, ⟨hpriority, h.waits⟩, rfl⟩
    cases hnone : s.candidates with
    | nil => simp [hnone] at hmem
    | cons c cs => simp [anyCandidate, hnone]
  · have hpick := urgentPick_eq h.place ⟨hpriority, h.waits⟩ fun j y hne hy hw => absurd (h.only hy (.inl hw)) hne
    simp [anyCandidate, hpick]

/-- The grant of the sole candidate, held in WAKING. -/
theorem leads_sole_held (h : Sole i x s) (hq : Quiet s) (hgrant : s.sched.grant = .none) (hwaking : s.transport.state = .waking) :
    Leads 1 [.choose] s (heldGrant (soleGrant i x) (soleChosen i x s)) := by
  refine Leads.cons (new := []) ?_ (Leads.done (by exact hq))
  show choose (facing [] s) = _
  rw [facing_nil hq, choose_sole h ⟨hgrant, .inr (.inr hwaking)⟩, makeGrant_waking _ (by exact hwaking), facing_nil (by exact hq)]
  rfl

/-- The grant of the sole candidate in PARKED, and what its beginning leads to. -/
theorem leads_sole_begun {n : Nat} {calls : List Signal} {u t : State} (h : Sole i x s) (hq : Quiet s) (hgrant : s.sched.grant = .none)
    (hparked : s.transport.state = .parked) (hbegun : beginGrant (heldGrant (soleGrant i x) (soleChosen i x s)) = facing calls u)
    (hleads : Leads n calls u t) : Leads (n + 2) [.choose] s t := by
  refine Leads.cons (new := [.beginGrant]) (u := heldGrant (soleGrant i x) (soleChosen i x s)) ?_
    (Leads.cons (new := calls) (u := u) ?_ (by simpa using hleads))
  · show choose (facing [] s) = _
    rw [facing_nil hq, choose_sole h ⟨hgrant, .inl hparked⟩, makeGrant_parked _ (by exact hq) (by exact hparked)]
    rfl
  · show beginGrant (facing [] _) = _
    rw [facing_nil (by exact hq)]
    exact hbegun

end

/-! ### An accepted RETRIEVE (R119, R120) -/

/-- A RETRIEVE that is accepted, for slot `i`. -/
structure RetrieveTaken (l : Link) (tag : Byte) (raw : RawTarget) (action priority : Byte) (a : SlotAction) (p : Priority) (t : Target)
    (i : Nat) (s : State) : Prop where
  threaded : ¬ (s.transport.state = .empty ∨ s.transport.state = .threading)
  stays : s.transport.state ≠ .rewinding
  codes : decodeAction action = some a ∧ decodePriority priority = some p ∧ decodeTarget raw = some t
  range : targetInRange s t = true
  new : s.slotOf l tag = none
  held : s.held l < 12
  free : s.freeSlot = some i

/-- Slot `i` holds a new arrival (R118). -/
def filled (i : Nat) (x : Slot) (s : State) : State :=
  { s with slots := s.slots.modify i (fun _ => x), sched := { s.sched with counter := s.sched.counter + 1#32 } }

/-- A new slot of the link `l`, in this state of its target. -/
def arrival (l : Link) (tag : Byte) (t : Target) (a : SlotAction) (p : Priority) (hold : Byte) (x : SlotState) (f : Option Nat) (s : State) :
    Slot :=
  { state := x, owner := l, tag := tag, target := slotTarget s t, frame := f, action := a, priority := p, hold := hold.toNat,
    sequence := s.sched.counter, skip := 0, holdTimer := none, reached := none, result := none }

section
variable {l : Link} {tag : Byte} {raw : RawTarget} {action priority hold : Byte} {a : SlotAction} {p : Priority} {t : Target} {i : Nat}
  {s : State}

theorem newSlot_found {k : Nat} (h : resolveTarget s (slotTarget s t) = .found k) :
    newSlot s l tag (slotTarget s t) a p hold.toNat = arrival l tag t a p hold .pending (some k) s := by
  simp only [newSlot, h]
  rfl

theorem newSlot_beyond (h : resolveTarget s (slotTarget s t) = .beyond) :
    newSlot s l tag (slotTarget s t) a p hold.toNat = arrival l tag t a p hold .resolving none s := by
  simp only [newSlot, h]
  rfl

theorem newSlot_absent (h : resolveTarget s (slotTarget s t) = .absent) :
    newSlot s l tag (slotTarget s t) a p hold.toNat = { arrival l tag t a p hold .done none s with
      result := some { code := .notFound, frame := none, position := none, focusStep := none } } := by
  simp only [newSlot, h]
  rfl

theorem RetrieveTaken.closed (h : RetrieveTaken l tag raw action priority a p t i s) :
    RetrieveTaken l tag raw action priority a p t i (closeStream l s) := by
  obtain ⟨hthreaded, hstays, hcodes, hrange, hnew, hheld, hfree⟩ := h
  refine ⟨by cases l <;> exact hthreaded, by cases l <;> exact hstays, hcodes, ?_, by cases l <;> exact hnew, by cases l <;> exact hheld,
    by cases l <;> exact hfree⟩
  cases l <;> cases t <;> exact hrange

theorem retrieve_accepted (h : RetrieveTaken l tag raw action priority a p t i s) :
    retrieve l tag raw action priority hold s = (slotTaken (newSlot s l tag (slotTarget s t) a p hold.toNat)
      (filled i (newSlot s l tag (slotTarget s t) a p hold.toNat) s), refuse .accepted) := by
  obtain ⟨hthreaded, hstays, ⟨haction, hpriority, htarget⟩, hrange, hnew, hheld, hfree⟩ := h
  have hroom : ¬ Config.linkSlots ≤ s.held l := by
    have : Config.linkSlots = 12 := rfl
    omega
  simp only [retrieve, hthreaded, hstays, haction, hpriority, htarget, hrange, hnew, hroom, hfree, if_false, Bool.true_eq_false,
    Option.isSome_none, Bool.false_eq_true]
  rfl

theorem newSlot_closeStream : newSlot (closeStream l s) l tag (slotTarget (closeStream l s) t) a p hold.toNat =
    newSlot s l tag (slotTarget s t) a p hold.toNat := by
  cases l <;> cases t <;> rfl

/-- What an accepted RETRIEVE sets off is carried out on the filled slot. -/
theorem exec_retrieve_accepted {n : Nat} {calls : List Signal} {x : Slot} {u z : State} (h : RetrieveTaken l tag raw action priority a p t i s)
    (hx : newSlot s l tag (slotTarget s t) a p hold.toNat = x)
    (hcalls : slotTaken x (filled i x (closeStream l s)) = facing calls (closeStream l u))
    (hleads : Leads n calls (answered l .accepted 0x20#8 .empty u) z) (hn : n ≤ 100) :
    exec (.retrieve l tag raw action priority hold) s = .next z := by
  subst hx
  refine request_taken (r := refuse .accepted) ((retrieve_accepted h.closed).trans ?_) hleads hn
  rw [newSlot_closeStream, hcalls]

/-- What a new arrival asks for (R122, R128, R153). -/
def arrivalCalls (x : Slot) : List Signal :=
  (if x.state = .pending then [if x.priority = .urgent then .askYield else .passBoundary] else []) ++ [.choose]

theorem slotTaken_eq {x : Slot} {u : State} (hq : Quiet u) (hwaits : x.state = .pending ∨ x.state = .resolving)
    (hstop : (if x.state = .pending ∧ x.priority = .urgent then stopDiscover s else s) = u) : slotTaken x s = facing (arrivalCalls x) u := by
  have htodo : u.todo = [] := hq
  rcases hwaits with hpending | hresolving
  · by_cases hurgent : x.priority = .urgent
    · obtain rfl : stopDiscover s = u := by simpa [hpending, hurgent] using hstop
      simp [slotTaken, arrivalCalls, hpending, hurgent, emit, facing, htodo]
    · obtain rfl : s = u := by simpa [hurgent] using hstop
      simp [slotTaken, arrivalCalls, hpending, hurgent, emit, facing, htodo]
  · obtain rfl : s = u := by simpa [hresolving] using hstop
    simp [slotTaken, arrivalCalls, hresolving, emit, facing, htodo]

/-- Without the grant the pass is not asked for the transport. -/
theorem leads_arrival {n : Nat} {x : Slot} {u z : State} (hq : Quiet u) (hgrant : u.sched.grant ≠ .pass) (h : Leads n [.choose] u z) :
    Leads (n + 1) (arrivalCalls x) u z := by
  unfold arrivalCalls
  by_cases hpending : x.state = .pending
  · rw [if_pos hpending]
    refine Leads.skip ?_ h
    rw [facing_nil hq]
    split_ifs
    · exact if_neg fun hask => hgrant hask.1
    · exact if_neg fun hask => hgrant hask.1
  · rw [if_neg hpending]
    exact h.more (by omega)

end

/-! ### The sole arrival -/

section
variable {l : Link} {tag : Byte} {raw : RawTarget} {action priority hold : Byte} {a : SlotAction} {p : Priority} {t : Target} {i : Nat}
  {x : Slot} {s : State}

theorem freeSlot_some (h : s.freeSlot = some i) : ∃ y, s.slots[i]? = some y ∧ y.state = .free := by
  obtain ⟨hi, hfree, -⟩ := List.findIdx?_eq_some_iff_getElem.mp h
  exact ⟨_, List.getElem?_eq_getElem hi, by simpa using hfree⟩

theorem sole_filled (hfree : s.freeSlot = some i) (hwork : NoWork s) (hwaits : x.state = .pending ∨ x.state = .resolving)
    (hfresh : x.skip = 0) : Sole i x (filled i x s) := by
  obtain ⟨hlevel, hrest, hsweep, hpass⟩ := hwork
  obtain ⟨y, hy, -⟩ := freeSlot_some hfree
  refine ⟨?_, hwaits.imp id fun h => ⟨h, hpass⟩, hfresh, fun j z hne hz => ?_, hsweep, hlevel, .inr (.inl hpass)⟩
  · simp [filled, hy]
  · have hz' : s.slots[j]? = some z := by simpa [filled, List.getElem?_modify, Ne.symm hne] using hz
    exact hrest z (List.mem_of_getElem? hz')

theorem Sole.answered (code : AnswerCode) (request : Byte) (contents : Contents) (h : Sole i x s) :
    Sole i x (answered l code request contents s) := by
  obtain ⟨hplace, hwaits, hfresh, hothers, hsweep, hlevel, hpass⟩ := h
  cases l <;> exact ⟨hplace, hwaits, hfresh, hothers, hsweep, hlevel, hpass⟩

theorem answered_soleChosen (code : AnswerCode) (request : Byte) (contents : Contents) (g : Grant) :
    heldGrant g (soleChosen i x (answered l code request contents s)) = answered l code request contents (heldGrant g (soleChosen i x s)) := by
  cases l <;> rfl

/-- The arrival's direction, where it is NORMAL and has been chosen (R124). -/
def arrivalTowards (p : Priority) (c : Nat) (s : State) : Direction :=
  if p = .urgent then s.sched.direction else if s.tracker.register < c then .forward
  else if c < s.tracker.register then .reverse else s.sched.direction

/-- A PENDING arrival is granted the transport. -/
theorem soleChosen_pending (k : Nat) : let x := arrival l tag t a p hold .pending (some k) s
    heldGrant (soleGrant i x) (soleChosen i x (filled i x s)) =
      heldGrant (.slot i) { filled i (arrival l tag t a p hold .travelling (some k) s) s with
        sched := { (filled i (arrival l tag t a p hold .travelling (some k) s) s).sched with
          direction := arrivalTowards p (min 16777215 (s.pos k + s.roll.active.gateOffset)) s } } := by
  intro x
  have hslots : (s.slots.modify i (fun _ => x)).modify i Slot.granted =
      s.slots.modify i (fun _ => arrival l tag t a p hold .travelling (some k) s) := by
    rw [List.modify_modify_eq]
    rfl
  show heldGrant (.slot i) { filled i x s with slots := (s.slots.modify i (fun _ => x)).modify i Slot.granted, sched := _ } = _
  rw [hslots]
  rfl

/-- A RESOLVING arrival is granted DISCOVER. -/
theorem soleChosen_resolving : let x := arrival l tag t a p hold .resolving none s
    heldGrant (soleGrant i x) (soleChosen i x (filled i x s)) =
      heldGrant .discover { filled i x s with
        sched := { (filled i x s).sched with
          direction := arrivalTowards p (if s.index.entries = [] then s.roll.active.leader
            else s.pos s.index.entries.length + s.roll.active.gateOffset) s } } :=
  rfl

/-- With nothing else to do, WAKING holds the new slot's grant (R122, R125). -/
theorem exec_retrieve_waking (hq : Quiet s) (h : RetrieveTaken l tag raw action priority a p t i s)
    (hx : newSlot s l tag (slotTarget s t) a p hold.toNat = x) (hwaits : x.state = .pending ∨ x.state = .resolving) (hfresh : x.skip = 0)
    (hwaking : s.transport.state = .waking) (hgrant : s.sched.grant = .none) (hwork : NoWork s) :
    exec (.retrieve l tag raw action priority hold) s =
      .next (answered l .accepted 0x20#8 .empty (heldGrant (soleGrant i x) (soleChosen i x (filled i x s)))) := by
  have hsole := (sole_filled h.free hwork hwaits hfresh).answered (l := l) .accepted 0x20#8 .empty
  rw [← answered_soleChosen]
  refine exec_retrieve_accepted h hx (slotTaken_eq (u := closeStream l (filled i x s)) (by cases l <;> exact hq) hwaits ?_)
    (leads_arrival (by cases l <;> exact hq) (by cases l <;> simp [filled, hgrant])
      (leads_sole_held hsole (by cases l <;> exact hq) (by cases l <;> exact hgrant) (by cases l <;> exact hwaking))) (by omega)
  cases l <;> simp [stopDiscover, filled, hgrant, closeStream, onLink]

/-- The same in PARKED, where the grant begins at once (R50). -/
theorem exec_retrieve_parked {n : Nat} {calls : List Signal} {u z : State} (hq : Quiet s)
    (h : RetrieveTaken l tag raw action priority a p t i s) (hx : newSlot s l tag (slotTarget s t) a p hold.toNat = x)
    (hwaits : x.state = .pending ∨ x.state = .resolving) (hfresh : x.skip = 0)
    (hparked : s.transport.state = .parked) (hgrant : s.sched.grant = .none) (hwork : NoWork s)
    (hbegun : beginGrant (answered l .accepted 0x20#8 .empty (heldGrant (soleGrant i x) (soleChosen i x (filled i x s)))) = facing calls u)
    (hleads : Leads n calls u z) (hn : n ≤ 90) : exec (.retrieve l tag raw action priority hold) s = .next z := by
  have hsole := (sole_filled h.free hwork hwaits hfresh).answered (l := l) .accepted 0x20#8 .empty
  rw [← answered_soleChosen] at hbegun
  refine exec_retrieve_accepted h hx (slotTaken_eq (u := closeStream l (filled i x s)) (by cases l <;> exact hq) hwaits ?_)
    (leads_arrival (by cases l <;> exact hq) (by cases l <;> simp [filled, hgrant])
      (leads_sole_begun hsole (by cases l <;> exact hq) (by cases l <;> exact hgrant) (by cases l <;> exact hparked) hbegun hleads))
    (by omega)
  cases l <;> simp [stopDiscover, filled, hgrant, closeStream, onLink]

/-- A FRAME move to a frame that lies out of reach ends before it begins (R52). -/
theorem frameTarget_beyond {k : Nat} {s : State} (h : 16777215 - s.params.arriveTol < s.pos k + s.roll.active.gateOffset) :
    frameTarget s k = none := by
  cases he : s.entry k with
  | none => simp [frameTarget, he]
  | some e =>
    have hpos : s.pos k = e.position := by simp [State.pos, he]
    have hbeyond : e.position + s.roll.active.gateOffset > Config.maxCoord - s.params.arriveTol := by
      have hmax : Config.maxCoord = 16777215 := rfl
      omega
    simp only [frameTarget, he, hbeyond, if_true]

theorem beginGrant_slot_beyond {s : State} {i k : Nat} {x : Slot} (hq : Quiet s) (hgrant : s.sched.grant = .slot i)
    (hparked : s.transport.state = .parked) (hmay : MayMove s) (hx : s.slots[i]? = some x) (hframe : x.frame = some k)
    (hbeyond : 16777215 - s.params.arriveTol < s.pos k + s.roll.active.gateOffset) :
    beginGrant s = facing [.moveDone .endOfFilm] s := by
  have hlevel := hmay.2.1
  simp only [beginGrant, hparked, hmay.1, hgrant, and_self, if_true, slot_eq s i x hx, hframe]
  simp [startMove, hparked, hlevel, planFor, newMove, frameTarget_beyond hbeyond, emit, facing, show s.todo = [] from hq]

/-- A move that ends before it begins leaves its slot NOT_FOUND and gives the transport back (R52, R126, R130). -/
theorem leads_not_found {s : State} {i : Nat} {x : Slot} (hq : Quiet s) (hgrant : s.sched.grant = .slot i)
    (hparked : s.transport.state = .parked) (hx : s.slots[i]? = some x) (htravelling : x.state = .travelling)
    (hothers : ∀ j y, j ≠ i → s.slots[j]? = some y → y.resting = true) (hlevel : s.tracker.level ≠ .lost)
    (hsweep : s.sweep.active = none) (hpass : s.passActive = false) :
    Leads 2 [.moveDone .endOfFilm] s (grantEnded { s with slots := s.slots.modify i (Slot.endedBare .notFound) }) := by
  have hended := moveDone_slot_endOfFilm hparked hgrant hx htravelling
  have hrest : ∀ y ∈ s.slots.modify i (Slot.endedBare .notFound), y.resting = true := fun y hy => by
    obtain ⟨j, hj⟩ := List.mem_iff_getElem?.mp hy
    rcases getElem?_modify_cases hj with ⟨rfl, z, -, rfl⟩ | ⟨hne, hz⟩
    · rfl
    · exact hothers j y hne hz
  obtain ⟨hgiven, hleads⟩ := leads_grantEnded (s := { s with slots := s.slots.modify i (Slot.endedBare .notFound) }) hq hparked
    ⟨hlevel, hrest, hsweep, hpass⟩
  refine Leads.cons (new := [.choose]) ?_ hleads
  show moveDone .endOfFilm (facing [] s) = _
  rw [facing_nil hq]
  exact hended.trans hgiven

/-- An accepted RETRIEVE beside a grant that stands: the slot waits, and a DISCOVER move may be stopped for it (R127). -/
theorem exec_retrieve_waits {u : State} (hq : Quiet u) (h : RetrieveTaken l tag raw action priority a p t i s)
    (hx : newSlot s l tag (slotTarget s t) a p hold.toNat = x) (hwaits : x.state = .pending ∨ x.state = .resolving)
    (hstop : (if x.state = .pending ∧ x.priority = .urgent then stopDiscover (filled i x (closeStream l s)) else filled i x (closeStream l s)) =
      closeStream l u)
    (hnone : u.sched.grant ≠ .none) (hpass : u.sched.grant ≠ .pass) :
    exec (.retrieve l tag raw action priority hold) s = .next (answered l .accepted 0x20#8 .empty u) :=
  exec_retrieve_accepted h hx (slotTaken_eq (u := closeStream l u) (by cases l <;> exact hq) hwaits hstop)
    (leads_arrival (by cases l <;> exact hq) (by cases l <;> exact hpass)
      (leads_at_ease (by cases l <;> exact hq) (.inl (by cases l <;> exact hnone)))) (by omega)

end

/-! ### A target's range and its resolution, written out (R15 to R17) -/

theorem resolveAddress_found {s : State} {b d p i : Nat} {e : Entry} (he : s.index.entries[i]? = some e)
    (hm : addressMatches b d p e = true)
    (hfirst : ∀ j y, j < i → s.index.entries[j]? = some y → addressMatches b d p y = false) :
    resolveAddress s b d p = .found (i + 1) := by
  obtain ⟨hi, rfl⟩ := List.getElem?_eq_some_iff.mp he
  have hfind : s.index.entries.findIdx? (addressMatches b d p) = some i := by
    rw [List.findIdx?_eq_some_iff_getElem]
    exact ⟨hi, hm, fun j hj => by simpa using hfirst j _ hj (List.getElem?_eq_getElem (by omega))⟩
  simp [resolveAddress, hfind]

theorem resolveAddress_none {s : State} {b d p : Nat} (h : ∀ e ∈ s.index.entries, addressMatches b d p e = false) :
    resolveAddress s b d p = (if s.index.closure = none ∧
      (∀ e ∈ s.index.entries.getLast?, addressBeyond b d p e.triple = true) then .beyond else .absent) := by
  have hfind : s.index.entries.findIdx? (addressMatches b d p) = none := by
    rw [List.findIdx?_eq_none_iff]
    exact h
  cases hlast : s.index.entries.getLast? with
  | none => simp [resolveAddress, hfind, hlast, notYet, State.indexOpen]
  | some e => by_cases hbeyond : addressBeyond b d p e.triple = true <;> simp [resolveAddress, hfind, hlast, notYet, State.indexOpen, hbeyond]

/-! ### A pass that holds the transport is asked for it (R128, R147, R153) -/

theorem lookBoundary_capture {s : State} (hgrant : s.sched.grant = .pass) (hwork : s.pass.work = .awaitingCapture) : lookBoundary s = s := by
  simp [lookBoundary, hwork, atBoundary, hgrant]

theorem lookBoundary_sweep {s : State} (hgrant : s.sched.grant = .pass) (hwork : s.pass.work = .sweeping) (hpending : s.pass.pending = .none) :
    lookBoundary s = s := by
  simp [lookBoundary, hwork, atBoundary, hgrant, hpending]

/-- The pass gives the transport back at a boundary, with or without a yield owed (R153). -/
def yielded (owed : Bool) (s : State) : State :=
  { s with
    pass := { s.pass with
      state := .yielding, yieldCount := min 255 (s.pass.yieldCount + 1), framesSinceYield := 0, yieldAsked := false, yieldLater := false
      work := .none, after := .nothing, armed := none }
    sched := { s.sched with grant := .none, yieldOwed := owed } }

section
variable {s : State} (hgrant : s.sched.grant = .pass) (hrunning : s.pass.state = .running)

include hgrant hrunning

theorem askYield_capture (hwork : s.pass.work = .awaitingCapture) : askYield s = { s with pass := { s.pass with yieldAsked := true } } := by
  simp [askYield, hgrant, hrunning, hwork, atBoundary]

theorem askYield_sweep (hwork : s.pass.work = .sweeping) : askYield s = { s with pass := { s.pass with yieldLater := true } } := by
  simp [askYield, hgrant, hrunning, hwork]

section
variable (hq : Quiet s) (hwaking : s.transport.state = .waking) (hmove : s.transport.move = none) (hwork : s.pass.work = .none)
  (hpending : s.pass.pending = .none) (hasked : s.pass.yieldAsked = false)

include hq hwaking hmove hwork hpending

theorem askYield_waking : askYield s = facing [.choose] (yielded false s) := by
  simp [askYield, hgrant, hrunning, hwork, hmove, atBoundary, takeBoundary, decideBoundary, hpending, leaveSweep, passMoving, giveBack, endGrant,
    hwaking, emit, facing, show s.todo = [] from hq, yielded, satInc]

include hasked

theorem lookBoundary_waking : lookBoundary s =
    if (s.pass.yieldInterval ≠ 0 ∧ s.pass.yieldInterval ≤ s.pass.framesSinceYield) ∧ s.normalPending = true
    then facing [.choose] (yielded true s) else s := by
  by_cases hdue : (s.pass.yieldInterval ≠ 0 ∧ s.pass.yieldInterval ≤ s.pass.framesSinceYield) ∧ s.normalPending = true
  · obtain ⟨⟨hinterval, hframes⟩, hnormal⟩ := hdue
    simp [lookBoundary, hgrant, hrunning, hwork, hmove, atBoundary, takeBoundary, decideBoundary, hpending, hasked, hinterval, hframes, hnormal,
      leaveSweep, passMoving, giveBack, endGrant, hwaking, emit, facing, show s.todo = [] from hq, yielded, satInc]
  · rw [if_neg hdue]
    have hdecides : decideBoundary s = .goOn := by
      simp only [decideBoundary, hpending, hasked, reduceCtorEq, Bool.false_eq_true, if_false]
      exact if_neg fun h => hdue ⟨⟨h.1, h.2.1⟩, h.2.2⟩
    simp [lookBoundary, takeBoundary, hdecides]

end

end

section
variable {l : Link} {tag : Byte} {raw : RawTarget} {action priority hold : Byte} {a : SlotAction} {p : Priority} {t : Target} {i k : Nat}
  {s : State}

/-- A PENDING arrival asks the pass for the transport, and then the scheduler to choose. -/
theorem exec_retrieve_asks {n : Nat} {calls : List Signal} {y v z : State} (hq : Quiet s) (h : RetrieveTaken l tag raw action priority a p t i s)
    (hfound : resolveTarget s (slotTarget s t) = .found k) (hdiscover : s.sched.grant ≠ .discover)
    (hy : y = answered l .accepted 0x20#8 .empty (filled i (arrival l tag t a p hold .pending (some k) s) s))
    (hasks : (if p = .urgent then askYield y else lookBoundary y) = facing calls v) (hleads : Leads n (calls ++ [.choose]) v z) (hn : n ≤ 90) :
    exec (.retrieve l tag raw action priority hold) s = .next z := by
  subst hy
  have hkept : stopDiscover (filled i (arrival l tag t a p hold .pending (some k) s) (closeStream l s)) =
      closeStream l (filled i (arrival l tag t a p hold .pending (some k) s) s) :=
    (if_neg (by cases l <;> exact hdiscover)).trans (by cases l <;> rfl)
  refine exec_retrieve_accepted (n := n + 1) h (newSlot_found hfound) (slotTaken_eq
    (u := closeStream l (filled i (arrival l tag t a p hold .pending (some k) s) s)) (closeStream_quiet l (by exact hq)) (.inl rfl) ?_) ?_ (by omega)
  · rw [hkept]
    split_ifs
    · rfl
    · generalize arrival l tag t a p hold .pending (some k) s = x
      cases l <;> rfl
  · refine Leads.cons (sig := if p = .urgent then .askYield else .passBoundary) (new := calls) (u := v) ?_ hleads
    rw [facing_nil (answered_quiet l _ _ _ (by exact hq))]
    by_cases hurgent : p = .urgent
    · rw [if_pos hurgent] at hasks ⊢
      exact hasks
    · rw [if_neg hurgent] at hasks ⊢
      exact hasks

theorem answered_onPass (code : AnswerCode) (request : Byte) (contents : Contents) (f : Pass → Pass) (u : State) :
    { answered l code request contents u with pass := f (answered l code request contents u).pass } =
      answered l code request contents { u with pass := f u.pass } := by
  cases l <;> rfl

/-- With the frame in the gate a capture is awaited first: an URGENT arrival is noted (R147). -/
theorem exec_retrieve_capture (hq : Quiet s) (h : RetrieveTaken l tag raw action priority a p t i s)
    (hfound : resolveTarget s (slotTarget s t) = .found k) (hgrant : s.sched.grant = .pass) (hrunning : s.pass.state = .running)
    (hwork : s.pass.work = .awaitingCapture) : exec (.retrieve l tag raw action priority hold) s =
      .next (answered l .accepted 0x20#8 .empty { filled i (arrival l tag t a p hold .pending (some k) s) s with
        pass := { s.pass with yieldAsked := if p = .urgent then true else s.pass.yieldAsked } }) := by
  refine exec_retrieve_asks (n := 1) (calls := []) hq h hfound (by simp [hgrant]) rfl ?_
    (leads_at_ease (answered_quiet l _ _ _ (by exact hq)) (.inl (by simp [filled, hgrant]))) (by omega)
  rw [facing_nil (answered_quiet l _ _ _ (by exact hq))]
  by_cases hurgent : p = .urgent
  · simp only [hurgent, if_true]
    rw [askYield_capture (by simp [filled, hgrant]) (by simp [filled, hrunning]) (by simp [filled, hwork])]
    exact answered_onPass _ _ _ (fun q => { q with yieldAsked := true }) _
  · simp only [hurgent, if_false]
    exact lookBoundary_capture (by simp [filled, hgrant]) (by simp [filled, hwork])

/-- In a sweep the yield waits for the boundary after the capture (R147, log 63). -/
theorem exec_retrieve_sweep (hq : Quiet s) (h : RetrieveTaken l tag raw action priority a p t i s)
    (hfound : resolveTarget s (slotTarget s t) = .found k) (hgrant : s.sched.grant = .pass) (hrunning : s.pass.state = .running)
    (hwork : s.pass.work = .sweeping) (hpending : s.pass.pending = .none) : exec (.retrieve l tag raw action priority hold) s =
      .next (answered l .accepted 0x20#8 .empty { filled i (arrival l tag t a p hold .pending (some k) s) s with
        pass := { s.pass with yieldLater := if p = .urgent then true else s.pass.yieldLater } }) := by
  refine exec_retrieve_asks (n := 1) (calls := []) hq h hfound (by simp [hgrant]) rfl ?_
    (leads_at_ease (answered_quiet l _ _ _ (by exact hq)) (.inl (by simp [filled, hgrant]))) (by omega)
  rw [facing_nil (answered_quiet l _ _ _ (by exact hq))]
  by_cases hurgent : p = .urgent
  · simp only [hurgent, if_true]
    rw [askYield_sweep (by simp [filled, hgrant]) (by simp [filled, hrunning]) (by simp [filled, hwork])]
    exact answered_onPass _ _ _ (fun q => { q with yieldLater := true }) _
  · simp only [hurgent, if_false]
    exact lookBoundary_sweep (by simp [filled, hgrant]) (by simp [filled, hwork]) (by simp [filled, hpending])

/-- The arrival is the one candidate where the pass has yielded to it. -/
theorem sole_yielded {x : Slot} {owed : Bool} (hfree : s.freeSlot = some i) (hrest : ∀ y ∈ s.slots, y.resting = true)
    (hlevel : s.tracker.level ≠ .lost) (hsweep : s.sweep.active = none) (hpending : x.state = .pending) (hfresh : x.skip = 0)
    (howed : x.priority = .urgent ∨ owed = true) : Sole i x (yielded owed (filled i x s)) := by
  obtain ⟨y, hy, -⟩ := freeSlot_some hfree
  refine ⟨by simp [yielded, filled, hy], .inl hpending, hfresh, fun j z hne hz => ?_, hsweep, hlevel,
    howed.imp id fun h => .inr ⟨h, hpending⟩⟩
  have hz' : s.slots[j]? = some z := by simpa [yielded, filled, List.getElem?_modify, Ne.symm hne] using hz
  exact hrest z (List.mem_of_getElem? hz')

theorem soleChosen_yielded (owed : Bool) : let x := arrival l tag t a p hold .pending (some k) s
    heldGrant (soleGrant i x) (soleChosen i x (yielded owed (filled i x s))) =
      heldGrant (.slot i) { filled i (arrival l tag t a p hold .travelling (some k) s) s with
        pass := (yielded owed s).pass
        sched := { (filled i (arrival l tag t a p hold .travelling (some k) s) s).sched with
          direction := arrivalTowards p (min 16777215 (s.pos k + s.roll.active.gateOffset)) s } } := by
  intro x
  have hslots : (s.slots.modify i (fun _ => x)).modify i Slot.granted =
      s.slots.modify i (fun _ => arrival l tag t a p hold .travelling (some k) s) := by
    rw [List.modify_modify_eq]
    rfl
  show heldGrant (.slot i) { yielded owed (filled i x s) with slots := (s.slots.modify i (fun _ => x)).modify i Slot.granted, sched := _ } = _
  rw [hslots]
  rfl

theorem arrival_normalPending (hfree : s.freeSlot = some i) (hrest : ∀ x ∈ s.slots, x.resting = true) :
    (filled i (arrival l tag t a p hold .pending (some k) s) s).normalPending = decide (p = .normal) := by
  have hrests : ∀ x ∈ (filled i (arrival l tag t a p hold .pending (some k) s) s).slots,
      x.resting = true ∨ x = arrival l tag t a p hold .pending (some k) s := fun x hx => by
    obtain ⟨j, hj⟩ := List.mem_iff_getElem?.mp hx
    rcases getElem?_modify_cases hj with ⟨rfl, z, -, rfl⟩ | ⟨hne, hz⟩
    · exact .inr rfl
    · exact .inl (hrest x (List.mem_of_getElem? hz))
  obtain ⟨y, hy, -⟩ := freeSlot_some hfree
  rw [Bool.eq_iff_iff, decide_eq_true_iff]
  simp only [State.normalPending, List.any_eq_true, Bool.and_eq_true, beq_iff_eq]
  constructor
  · rintro ⟨x, hx, hstate, hpriority⟩
    rcases hrests x hx with hresting | rfl
    · simp [Slot.resting, hstate] at hresting
    · exact hpriority
  · exact fun hnormal => ⟨arrival l tag t a p hold .pending (some k) s, List.mem_of_getElem? (i := i) (by simp [filled, hy]), rfl, hnormal⟩

/-- A pass whose grant WAKING holds stands at a boundary, and yields to the arrival (R128, R153, log 59). -/
theorem exec_retrieve_yields {owed : Bool} (hq : Quiet s) (h : RetrieveTaken l tag raw action priority a p t i s)
    (hfound : resolveTarget s (slotTarget s t) = .found k) (hgrant : s.sched.grant = .pass) (hwaking : s.transport.state = .waking)
    (hlevel : s.tracker.level ≠ .lost) (hsweep : s.sweep.active = none) (hrest : ∀ x ∈ s.slots, x.resting = true)
    (howed : p = .urgent ∨ owed = true)
    (hasks : ∀ y, y = answered l .accepted 0x20#8 .empty (filled i (arrival l tag t a p hold .pending (some k) s) s) →
      (if p = .urgent then askYield y else lookBoundary y) = facing [.choose] (yielded owed y)) :
    exec (.retrieve l tag raw action priority hold) s = .next (answered l .accepted 0x20#8 .empty
      (heldGrant (.slot i) { filled i (arrival l tag t a p hold .travelling (some k) s) s with
        pass := (yielded owed s).pass
        sched := { (filled i (arrival l tag t a p hold .travelling (some k) s) s).sched with
          direction := arrivalTowards p (min 16777215 (s.pos k + s.roll.active.gateOffset)) s } })) := by
  have hsole := (sole_yielded (x := arrival l tag t a p hold .pending (some k) s) (owed := owed) h.free hrest hlevel hsweep rfl rfl howed).answered
    (l := l) .accepted 0x20#8 .empty
  have hsame (u : State) : yielded owed (answered l .accepted 0x20#8 .empty u) = answered l .accepted 0x20#8 .empty (yielded owed u) := by
    cases l <;> rfl
  rw [← soleChosen_yielded owed, ← answered_soleChosen]
  refine exec_retrieve_asks (n := 2) hq h hfound (by simp [hgrant]) rfl (hasks _ rfl) ?_ (by omega)
  rw [hsame]
  refine (leads_sole_held hsole (answered_quiet l _ _ _ (by exact hq)) (by simp [yielded]) (by simp [yielded, filled, hwaking])).append
    (leads_at_ease (answered_quiet l _ _ _ (by exact hq)) (.inl (by simp [soleGrant, arrival, heldGrant])))

end

/-! ### The codes of a RETRIEVE (R117) -/

theorem decodeAction_beyond {b : Byte} (h : 0x01#8 < b) : decodeAction b = none := by
  unfold decodeAction
  repeat rw [if_neg (by bv_omega)]

theorem decodePriority_beyond {b : Byte} (h : 0x01#8 < b) : decodePriority b = none := by
  unfold decodePriority
  repeat rw [if_neg (by bv_omega)]

theorem decodeTarget_beyond {t : RawTarget} (h : 0x02#8 < t.kind) : decodeTarget t = none := by
  unfold decodeTarget
  repeat rw [if_neg (by bv_omega)]

theorem decodeAction_within {b : Byte} (h : b ≤ 0x01#8) : ∃ a, decodeAction b = some a := by
  unfold decodeAction
  split_ifs with hpresent hsnap
  · exact ⟨_, rfl⟩
  · exact ⟨_, rfl⟩
  · bv_omega

theorem decodePriority_within {b : Byte} (h : b ≤ 0x01#8) : ∃ p, decodePriority b = some p := by
  unfold decodePriority
  split_ifs with hnormal hurgent
  · exact ⟨_, rfl⟩
  · exact ⟨_, rfl⟩
  · bv_omega

/-- Settles O35. -/
theorem retrieveFillsASlot : Obligations.RetrieveFillsASlot := by
  unfold Obligations.RetrieveFillsASlot
  refine ⟨fun s k => ?_, fun s b d p => ⟨rfl, rfl⟩, fun s n => ⟨?_, rfl⟩, fun s k => ⟨rfl, ?_, rfl⟩, fun s b d p i e => resolveAddress_found,
    fun s b d p => resolveAddress_none, ?_, ?_, ?_⟩
  · simp only [targetInRange, Bool.and_eq_true, decide_eq_true_eq]
    rfl
  · simp only [targetInRange, Bool.and_eq_true, decide_eq_true_eq, and_assoc]
    rfl
  · simp [resolveTarget, resolveFrame, notYet, State.indexOpen, State.extent]
  · intro l tag action priority hold raw a p t i s hq hempty hthreading hrewinding haction hpriority htarget hrange hnew hheld hfree new put
      towards go done
    have htaken : RetrieveTaken l tag raw action priority a p t i s :=
      ⟨by simp [hempty, hthreading], hrewinding, ⟨haction, hpriority, htarget⟩, hrange, hnew, hheld, hfree⟩
    refine ⟨fun hwaking hgrant hwork => ⟨fun k hfound => ?_, fun hbeyond => ?_⟩,
      fun hparked hgrant hwork hmay => ⟨fun k hfound => ?_, fun hbeyond => ?_⟩, fun m k hmoving hgrant hm hphase hfound => ?_, ?_⟩
    · exact (exec_retrieve_waking hq htaken (newSlot_found hfound) (.inl rfl) rfl hwaking hgrant hwork).trans
        (congrArg (fun u => done u) (soleChosen_pending k))
    · exact exec_retrieve_waking hq htaken (newSlot_beyond hbeyond) (.inr rfl) rfl hwaking hgrant hwork
    · intro chosen
      obtain ⟨y, hy, -⟩ := freeSlot_some hfree
      have hplace : (chosen (new .travelling (some k))).slots[i]? = some (new .travelling (some k)) := by
        simp [chosen, heldGrant, towards, put, hy]
      refine ⟨fun hreach => ?_, fun hbeyond => ?_⟩
      · rw [show done (approachBegun k (chosen (new .travelling (some k)))) =
          .next (approachBegun k (answered l .accepted 0x20#8 .empty (chosen (new .travelling (some k))))) from
            congrArg Host.Outcome.next (answered_approachBegun ..)]
        refine exec_retrieve_parked (n := 0) (calls := []) hq htaken (newSlot_found hfound) (.inl rfl) rfl hparked hgrant hwork ?_
          (Leads.done ((approachBegun_todo _ _).trans (by cases l <;> exact hq))) (by omega)
        rw [facing_nil ((approachBegun_todo _ _).trans (by cases l <;> exact hq))]
        refine (congrArg (fun u => beginGrant (answered l .accepted 0x20#8 .empty u)) (soleChosen_pending k)).trans ?_
        cases l <;> exact beginGrant_slot rfl hparked hmay hplace rfl hreach
      · have hbegun : beginGrant (answered l .accepted 0x20#8 .empty (chosen (new .travelling (some k)))) =
            facing [.moveDone .endOfFilm] (answered l .accepted 0x20#8 .empty (chosen (new .travelling (some k)))) := by
          refine beginGrant_slot_beyond (i := i) (k := k) (x := new .travelling (some k)) ?_ ?_ ?_ ?_ ?_ rfl ?_ <;> cases l
          exacts [hq, hq, rfl, rfl, hparked, hparked, hmay, hmay, hplace, hplace, hbeyond, hbeyond]
        refine exec_retrieve_parked (n := 3) hq htaken (newSlot_found hfound) (.inl rfl) rfl hparked hgrant hwork
          ((congrArg (fun u => beginGrant (answered l .accepted 0x20#8 .empty u)) (soleChosen_pending k)).trans hbegun) ?_ (by omega)
        have hslots : (s.slots.modify i (fun _ => new .travelling (some k))).modify i (Slot.endedBare .notFound) =
            s.slots.modify i (fun _ => { new .done (some k) with
              result := some { code := .notFound, frame := some k, position := none, focusStep := none } }) := by
          rw [List.modify_modify_eq]
          rfl
        have hothers (j : Nat) (y : Slot) (hne : j ≠ i) (hj : (chosen (new .travelling (some k))).slots[j]? = some y) : y.resting = true := by
          have hj' : s.slots[j]? = some y := by simpa [chosen, heldGrant, towards, put, List.getElem?_modify, Ne.symm hne] using hj
          exact hwork.2.1 y (List.mem_of_getElem? hj')
        have hdone (u : State) (hu : u = answered l .accepted 0x20#8 .empty (chosen (new .travelling (some k)))) : Leads 2 [.moveDone .endOfFilm] u
            (grantEnded { u with slots := u.slots.modify i (Slot.endedBare .notFound) }) := by
          subst hu
          cases l <;> exact leads_not_found hq rfl hparked hplace rfl hothers hwork.1 hwork.2.2.1 hwork.2.2.2
        have hend : grantEnded { answered l .accepted 0x20#8 .empty (chosen (new .travelling (some k))) with
              slots := (answered l .accepted 0x20#8 .empty (chosen (new .travelling (some k)))).slots.modify i (Slot.endedBare .notFound) } =
            answered l .accepted 0x20#8 .empty (grantEnded { chosen (new .travelling (some k)) with
              slots := (s.slots.modify i (fun _ => new .travelling (some k))).modify i (Slot.endedBare .notFound) }) := by
          cases l <;> rfl
        rw [hslots] at hend
        have hleads := hdone _ rfl
        rw [hend] at hleads
        exact hleads.more (by omega)
    · refine (exec_retrieve_parked (n := 0) (calls := [])
        (u := discoverBegun (answered l .accepted 0x20#8 .empty (heldGrant .discover (towards _ (put (new .resolving none))))))
        hq htaken (newSlot_beyond hbeyond) (.inr rfl) rfl hparked hgrant hwork ?_ (Leads.done ((discoverBegun_todo _).trans (by cases l <;> exact hq)))
        (by omega)).trans (congrArg Host.Outcome.next (answered_discoverBegun ..).symm)
      rw [facing_nil ((discoverBegun_todo _).trans (by cases l <;> exact hq))]
      cases l <;> exact beginGrant_discover rfl hparked hmay
    · refine (exec_retrieve_waits (u := if p = .urgent then comingToRest m .stopped (put (new .pending (some k))) else put (new .pending (some k)))
        (by split_ifs <;> exact hq) htaken (newSlot_found hfound) (.inl rfl) ?_ (by split_ifs <;> simp [comingToRest, put, hgrant])
        (by split_ifs <;> simp [comingToRest, put, hgrant]))
      have hfilled : filled i (arrival l tag t a p hold .pending (some k) s) (closeStream l s) = closeStream l (put (new .pending (some k))) := by
        cases l <;> rfl
      rw [hfilled, stopDiscover_running (s := put (new .pending (some k))) hgrant hmoving hm hphase (by cases l <;> rfl) (by cases l <;> rfl)]
      by_cases hurgent : p = .urgent
      · rw [if_pos ⟨rfl, hurgent⟩, if_pos hurgent]
        cases l <;> rfl
      · rw [if_neg (fun h => hurgent h.2), if_neg hurgent]
    · intro k hpassgrant hrunning hfound waits due
      refine ⟨fun hsettled hwork => ?_, fun hsettled hwork hpending => ?_,
        fun hwaking hmove hwork hpending hasked hlater hlevel hsweep hothers => ?_⟩
      · exact exec_retrieve_capture hq htaken hfound hpassgrant hrunning hwork
      · exact exec_retrieve_sweep hq htaken hfound hpassgrant hrunning hwork hpending
      · have hpass (owed : Bool) : (yielded owed s).pass = { s.pass with
            state := .yielding, yieldCount := min 255 (s.pass.yieldCount + 1), framesSinceYield := 0, work := .none, after := .nothing
            armed := none } := by simp [yielded, hasked, hlater]
        have hyields {owed : Bool} (howed : p = .urgent ∨ owed = true) (hasks) :=
          exec_retrieve_yields (hold := hold) (owed := owed) hq htaken hfound hpassgrant hwaking hlevel hsweep hothers howed hasks
        by_cases hurgent : p = .urgent
        · refine ⟨fun hdue => ?_, fun hdue => absurd (.inl hurgent) hdue⟩
          refine (hyields (owed := false) (.inl hurgent) fun y hy => ?_).trans ?_
          · subst hy
            rw [if_pos hurgent]
            exact askYield_waking (by simp [filled, hpassgrant]) (by simp [filled, hrunning]) (answered_quiet l _ _ _ (by exact hq))
              (by simp [filled, hwaking]) (by simp [filled, hmove]) (by simp [filled, hwork]) (by simp [filled, hpending])
          · rw [hpass]
            rfl
        · have hlooks (y : State) (hy : y = answered l .accepted 0x20#8 .empty (filled i (arrival l tag t a p hold .pending (some k) s) s)) :
              lookBoundary y = if s.pass.yieldInterval ≠ 0 ∧ s.pass.yieldInterval ≤ s.pass.framesSinceYield
                then facing [.choose] (yielded true y) else y := by
            have hnormal : y.normalPending = true := by
              have hpending := arrival_normalPending (l := l) (tag := tag) (t := t) (a := a) (p := p) (hold := hold) (k := k) hfree hothers
              have hp : p = .normal := by cases p <;> simp_all
              rw [hy, State.normalPending, answered_slots]
              exact hpending.trans (by simp [hp])
            have hq' : Quiet y := hy ▸ answered_quiet l _ _ _ (by exact hq)
            have hlook := lookBoundary_waking (s := y) (by simp [hy, filled, hpassgrant]) (by simp [hy, filled, hrunning]) hq'
              (by simp [hy, filled, hwaking]) (by simp [hy, filled, hmove]) (by simp [hy, filled, hwork]) (by simp [hy, filled, hpending])
              (by simp [hy, filled, hasked])
            have hpassed : y.pass = s.pass := by simp [hy, filled]
            simpa only [hnormal, and_true, hpassed] using hlook
          refine ⟨fun hdue => ?_, fun hdue => ?_⟩
          · refine (hyields (owed := true) (.inr rfl) fun y hy => ?_).trans ?_
            · rw [if_neg hurgent, hlooks y hy, if_pos (hdue.resolve_left hurgent)]
            · rw [hpass]
              rfl
          · refine exec_retrieve_asks (n := 1) (calls := []) hq htaken hfound (by simp [hpassgrant]) rfl ?_
              (leads_at_ease (answered_quiet l _ _ _ (by exact hq)) (.inl (by simp [waits, put, hpassgrant]))) (by omega)
            rw [if_neg hurgent, hlooks _ rfl, if_neg (fun h => hdue (.inr h)), facing_nil (answered_quiet l _ _ _ (by exact hq))]
            rfl
  · intro l tag action priority hold raw a p t i s hq hempty hthreading hrewinding haction hpriority htarget hrange hnew hheld hfree hnone
      hdiscover hpass
    have htaken : RetrieveTaken l tag raw action priority a p t i s :=
      ⟨by simp [hempty, hthreading], hrewinding, ⟨haction, hpriority, htarget⟩, hrange, hnew, hheld, hfree⟩
    refine ⟨newSlot s l tag (slotTarget s t) a p hold.toNat, ?_, ?_⟩
    · have hkept : stopDiscover (filled i (newSlot s l tag (slotTarget s t) a p hold.toNat) (closeStream l s)) =
          filled i (newSlot s l tag (slotTarget s t) a p hold.toNat) (closeStream l s) :=
        if_neg (by cases l <;> exact hdiscover)
      have hfilled : filled i (newSlot s l tag (slotTarget s t) a p hold.toNat) (closeStream l s) =
          closeStream l (filled i (newSlot s l tag (slotTarget s t) a p hold.toNat) s) := by cases l <;> rfl
      have hwaiting (hwaits : (newSlot s l tag (slotTarget s t) a p hold.toNat).state = .pending ∨
          (newSlot s l tag (slotTarget s t) a p hold.toNat).state = .resolving) :=
        exec_retrieve_waits (u := filled i (newSlot s l tag (slotTarget s t) a p hold.toNat) s) hq htaken rfl hwaits
          (by rw [hkept, ite_self, hfilled]) hnone hpass
      cases hresolves : resolveTarget s (slotTarget s t) with
      | found k => exact hwaiting (.inl (by rw [newSlot_found hresolves]; rfl))
      | beyond => exact hwaiting (.inr (by rw [newSlot_beyond hresolves]; rfl))
      | absent =>
        refine exec_retrieve_accepted (n := 0) (calls := []) (u := filled i (newSlot s l tag (slotTarget s t) a p hold.toNat) s) htaken rfl ?_
          (Leads.done (by cases l <;> exact hq)) (by omega)
        rw [hfilled, facing_nil (by cases l <;> exact hq)]
        exact if_neg (by simp [newSlot_absent hresolves, arrival]) |>.trans (if_neg (by simp [newSlot_absent hresolves, arrival]))
    · cases hresolves : resolveTarget s (slotTarget s t) with
      | found k => rw [newSlot_found hresolves]; simp [arrival]
      | beyond => rw [newSlot_beyond hresolves]; simp [arrival]
      | absent => rw [newSlot_absent hresolves]; simp [arrival]
  · intro l tag action priority hold raw s hq go refusal
    have hrefuse (code : AnswerCode) (h : retrieve l tag raw action priority hold (closeStream l s) = (closeStream l s, refuse code)) :
        refusal code := request_answered l 0x20#8 _ s (refuse code) hq h
    have htransport : (closeStream l s).transport = s.transport := by cases l <;> rfl
    have hinRange (t : Target) : targetInRange (closeStream l s) t = targetInRange s t := by cases l <;> cases t <;> rfl
    have hslotOf : (closeStream l s).slotOf l tag = s.slotOf l tag := by cases l <;> rfl
    have hheld : (closeStream l s).held l = s.held l := by cases l <;> rfl
    have hfree : (closeStream l s).freeSlot = s.freeSlot := by cases l <;> rfl
    refine ⟨fun hbare => hrefuse _ (by simp only [retrieve, htransport, hbare, if_true]),
      fun hrewinding => hrefuse _ (by simp [retrieve, hrewinding]), fun hempty hthreading hrewinding => ⟨fun hwrong => hrefuse _ ?_,
        fun t haction hpriority htarget => ⟨fun hrange => hrefuse _ ?_, fun hrange => ⟨fun hheldtag => hrefuse _ ?_, fun hnew hroom => hrefuse _ ?_⟩⟩⟩⟩
    · simp only [retrieve, htransport, hempty, hthreading, hrewinding, or_self, if_false]
      rcases hwrong with h | h | h
      · simp only [decodeAction_beyond h]
      · cases decodeAction action <;> simp only [decodePriority_beyond h]
      · cases decodeAction action <;> cases decodePriority priority <;> simp only [decodeTarget_beyond h]
    all_goals
      obtain ⟨a, ha⟩ := decodeAction_within haction
      obtain ⟨p, hp⟩ := decodePriority_within hpriority
      simp only [retrieve, htransport, hempty, hthreading, hrewinding, or_self, if_false, ha, hp, htarget, hinRange, hslotOf, hheld, hfree, hrange,
        if_true, Bool.true_eq_false]
    · have hsome : (s.slotOf l tag).isSome = true := by
        obtain ⟨x, hx, hstate, howner, htag⟩ := hheldtag
        rw [State.slotOf, List.findIdx?_isSome, List.any_eq_true]
        exact ⟨x, hx, by simp [hstate, howner, htag]⟩
      simp only [hsome, if_true]
    · have hnone : s.slotOf l tag = none := by
        rw [State.slotOf, List.findIdx?_eq_none_iff]
        intro x hx
        by_cases hstate : x.state = .free
        · simp [hstate]
        · by_cases howner : x.owner = l
          · simp [hnew x hx hstate howner]
          · simp [howner]
      simp only [hnone, Option.isSome_none, Bool.false_eq_true, if_false]
      by_cases hmany : Config.linkSlots ≤ s.held l
      · rw [if_pos hmany]
      · have hfull : s.freeSlot = none := by
          rw [State.freeSlot, List.findIdx?_eq_none_iff]
          intro x hx
          simpa using hroom.resolve_left hmany x hx
        rw [if_neg hmany, hfull]

end Sys2Proof.Machine
end

section
/-! PROOFS. The end of a pass, and what it sets off (R116, R126, R142, R155, R156). -/

namespace Sys2Proof.Machine

open Sys2Proof

/-! ### The record of an ended pass (R156) -/

section
variable (l : Link) (c : Nat) (o : PassOutcome) (x : SegState) (s : State)

@[simp] theorem passEnded_transport : (passEnded l c o x s).transport = s.transport := by cases l <;> rfl
@[simp] theorem passEnded_sched : (passEnded l c o x s).sched = s.sched := by cases l <;> rfl
@[simp] theorem passEnded_sweep : (passEnded l c o x s).sweep = s.sweep := by cases l <;> rfl
@[simp] theorem passEnded_slots : (passEnded l c o x s).slots = s.slots := by cases l <;> rfl
@[simp] theorem passEnded_tracker : (passEnded l c o x s).tracker = s.tracker := by cases l <;> rfl
@[simp] theorem passEnded_lamp : (passEnded l c o x s).lamp = s.lamp := by cases l <;> rfl
@[simp] theorem passEnded_todo : (passEnded l c o x s).todo = s.todo := by cases l <;> rfl
@[simp] theorem passEnded_state : (passEnded l c o x s).pass.state = .idle := by cases l <;> rfl
@[simp] theorem passEnded_index : (passEnded l c o x s).index = s.index := by cases l <;> rfl
@[simp] theorem passEnded_params : (passEnded l c o x s).params = s.params := by cases l <;> rfl

theorem passEnded_quiet (hq : Quiet s) : Quiet (passEnded l c o x s) := (passEnded_todo l c o x s).trans hq

end

theorem finishPass_plain {l : Link} {o : PassOutcome} {s : State} (howner : s.pass.owner = some l)
    (ho : ∀ cls k, o ≠ .stopped cls k) : finishPass o s = passEnded l (s.pass.current.getD 1) o o.segState s := by
  have hkept (u : State) : stopHolding o u = u := by
    cases o
    case stopped cls k => exact absurd rfl (ho cls k)
    all_goals rfl
  simp only [finishPass, howner, hkept]
  cases l <;> rfl

/-- What the end of the pass of a link makes of its gate, its move and its grant (R126, R156). -/
def moveReleased (l : Link) (u : State) : State :=
  let s3 := if u.transport.holder = some (.pass l) then freeGate u else u
  if s3.sched.grant = .pass then
    let s4 := if s3.transport.move.isSome ∨ s3.transport.state = .settling then requestStop s3 else s3
    if s4.transport.move.isNone ∧ s4.sched.grant = .pass then endGrant s4 else s4
  else s3

/-- A sweep of the pass's own ends with it (R116). -/
def ownSweepLeft (u : State) : State :=
  match u.sweep.active with
  | some x => if x.origin = .pass then cancelSweep .cancelled u else u
  | none => u

theorem endPass_eq {l : Link} {o : PassOutcome} {s : State} (howner : s.pass.owner = some l) :
    endPass o s = moveReleased l (ownSweepLeft (finishPass o s)) := by
  simp only [endPass, howner]
  rfl

theorem ownSweepLeft_none {u : State} (h : ∀ x ∈ u.sweep.active, x.origin ≠ .pass) : ownSweepLeft u = u := by
  cases hx : u.sweep.active with
  | none => simp only [ownSweepLeft, hx]
  | some x => simp only [ownSweepLeft, hx, h x hx, if_false]

theorem ownSweepLeft_own {u : State} {x : SweepRecord} (hx : u.sweep.active = some x) (horigin : x.origin = .pass) :
    ownSweepLeft u = cancelSweep .cancelled u := by
  simp only [ownSweepLeft, hx, horigin, if_true]

section
variable {l : Link} {u : State} (hholder : u.transport.holder ≠ some (.pass l))

include hholder

/-- Without the grant nothing else ends. -/
theorem moveReleased_away (hgrant : u.sched.grant ≠ .pass) : moveReleased l u = u := by
  simp only [moveReleased, hholder, if_false, hgrant]

/-- The move of the pass is stopped, and the grant lasts until its outcome (R126). -/
theorem moveReleased_moving {m : Move} (hgrant : u.sched.grant = .pass) (hmoving : u.transport.state = .moving)
    (hm : u.transport.move = some m) : moveReleased l u = if m.phase = .running then comingToRest m .stopped u else u := by
  simp only [moveReleased, hholder, if_false, hgrant, hm, Option.isSome_some, true_or, if_true, requestStop, hmoving, stopFor_eq m .stopped hm]
  split_ifs <;> simp_all [comingToRest]

/-- With the film at rest the grant ends with the pass. -/
theorem moveReleased_parked (hgrant : u.sched.grant = .pass) (hparked : u.transport.state = .parked) (hm : u.transport.move = none) :
    moveReleased l u = endGrant u := by
  simp [moveReleased, hholder, hgrant, hm, hparked]

end

/-! ### A sweep of the pass ends with it (R116, log 14) -/

theorem finishSweep_bare {x : SweepRecord} (r : SweepResult) {s : State} (hx : s.sweep.active = some x) (hpoints : x.points = []) :
    finishSweep r none none (unstored x.store) s = sweepEnded x r s := by
  simp only [finishSweep, hx, hpoints, ne_eq, not_true_eq_false, false_and, if_false]
  rfl

theorem endSweepBare_pass {x : SweepRecord} (r : SweepResult) {s : State} (hx : s.sweep.active = some x) (hpoints : x.points = [])
    (horigin : x.origin = .pass) (hholder : s.transport.holder ≠ some (.sweep x.link x.id)) :
    endSweepBare r s = emit (.passSweepDone r) (sweepEnded x r s) := by
  have hkept : (sweepEnded x r s).transport.holder ≠ some (.sweep x.link x.id) := by cases hlink : x.link <;> simpa [sweepEnded, hlink] using hholder
  simp only [endSweepBare, hx, endSweep, finishSweep_bare r hx hpoints, horigin, hkept, if_false]

theorem cancelSweep_pass {x : SweepRecord} {m : Move} {s : State} (hx : s.sweep.active = some x) (hpoints : x.points = [])
    (horigin : x.origin = .pass) (htravelling : x.state = .travelling) (hholder : s.transport.holder = none) (hgrant : s.sched.grant = .pass)
    (hmoving : s.transport.state = .moving) (hm : s.transport.move = some m) (hphase : m.phase = .running) :
    cancelSweep .cancelled s = emit (.passSweepDone .cancelled) (sweepEnded x .cancelled (comingToRest m .stopped s)) := by
  simp only [cancelSweep, hx, htravelling, sweepHolds, horigin, hgrant, beq_self_eq_true, and_self, if_true, requestStop, hmoving, hm, hphase,
    stopFor_eq m .stopped hm]
  exact endSweepBare_pass .cancelled hx hpoints horigin (by simp [comingToRest, hholder])

theorem cancelSweep_waits {x : SweepRecord} {s : State} (hx : s.sweep.active = some x) (hpoints : x.points = [])
    (horigin : x.origin = .pass) (hholder : s.transport.holder = none) (hgrant : s.sched.grant ≠ .pass) :
    cancelSweep .cancelled s = emit (.passSweepDone .cancelled) (sweepEnded x .cancelled s) := by
  simp only [cancelSweep, hx, sweepHolds, horigin, beq_eq_false_iff_ne.mpr hgrant, Bool.false_eq_true, and_false, if_false]
  exact endSweepBare_pass .cancelled hx hpoints horigin (by simp [hholder])

@[simp] theorem sweepEnded_transport (x : SweepRecord) (r : SweepResult) (s : State) : (sweepEnded x r s).transport = s.transport := by
  simp [sweepEnded]

@[simp] theorem sweepEnded_sched (x : SweepRecord) (r : SweepResult) (s : State) : (sweepEnded x r s).sched = s.sched := by simp [sweepEnded]

@[simp] theorem sweepEnded_pass (x : SweepRecord) (r : SweepResult) (s : State) : (sweepEnded x r s).pass = s.pass := by simp [sweepEnded]

@[simp] theorem sweepEnded_todo (x : SweepRecord) (r : SweepResult) (s : State) : (sweepEnded x r s).todo = s.todo := by simp [sweepEnded]

@[simp] theorem sweepEnded_slots (x : SweepRecord) (r : SweepResult) (s : State) : (sweepEnded x r s).slots = s.slots := by simp [sweepEnded]

section
variable {l : Link} {x : SweepRecord} {u : State} (hx : u.sweep.active = some x) (hpoints : x.points = []) (horigin : x.origin = .pass)
  (hholder : u.transport.holder = none)

include hx hpoints horigin hholder

/-- The sweep that travels with the pass's move ends CANCELLED with it. -/
theorem released_sweep_moving {m : Move} (htravelling : x.state = .travelling) (hgrant : u.sched.grant = .pass)
    (hmoving : u.transport.state = .moving) (hm : u.transport.move = some m) (hphase : m.phase = .running) :
    moveReleased l (ownSweepLeft u) = emit (.passSweepDone .cancelled) (sweepEnded x .cancelled (comingToRest m .stopped u)) := by
  rw [ownSweepLeft_own hx horigin, cancelSweep_pass hx hpoints horigin htravelling hholder hgrant hmoving hm hphase]
  have hstopping := moveReleased_moving (l := l) (u := emit (.passSweepDone .cancelled) (sweepEnded x .cancelled (comingToRest m .stopped u)))
    (by simp [emit, comingToRest, hholder]) (by simpa [emit, comingToRest] using hgrant) (by simpa [emit, comingToRest] using hmoving) (by simp [emit, comingToRest]; rfl)
  exact hstopping.trans (if_neg (by simp))

theorem released_sweep_waits (hgrant : u.sched.grant ≠ .pass) :
    moveReleased l (ownSweepLeft u) = emit (.passSweepDone .cancelled) (sweepEnded x .cancelled u) := by
  rw [ownSweepLeft_own hx horigin, cancelSweep_waits hx hpoints horigin hholder hgrant]
  exact moveReleased_away (by simp [emit, hholder]) (by simpa [emit] using hgrant)

end

/-! ### PASS SUSPEND, PASS RESUME and PASS ABORT (R154, R155) -/

section
variable {l : Link} {s t : State}

/-- A pass request that sets work off. -/
theorem exec_pass_request {code : Byte} {owner : Link → State → State × Reply} {new : List Signal} {n : Nat} {u : State}
    (howner : owner l (closeStream l s) = (facing new (closeStream l u), okReply)) (hleads : Leads n new (answered l .ok code .empty u) t)
    (hn : n ≤ 100) : request l code (owner l) s = .next t :=
  request_taken howner hleads hn

/-- One that sets none off. -/
theorem exec_pass_taken {code : Byte} {owner : Link → State → State × Reply} {u : State} (hq : Quiet u)
    (howner : owner l (closeStream l s) = (closeStream l u, okReply)) : request l code (owner l) s = .next (answered l .ok code .empty u) :=
  exec_pass_request (new := []) (n := 0) (howner.trans (by rw [facing_nil (closeStream_quiet l hq)])) (Leads.done (answered_quiet l _ _ _ hq)) (by omega)

theorem exec_pass_refused {code : Byte} {a : AnswerCode} {owner : Link → State → State × Reply} (hq : Quiet s)
    (howner : owner l (closeStream l s) = (closeStream l s, refuse a)) : request l code (owner l) s = .next (answered l a code .empty s) :=
  request_answered l code (owner l) s (refuse a) hq howner


end

/-! ### The three requests, by the state of the pass -/

section
variable {l : Link} {s : State}

/-- Each of the three requests is STATE where the pass is IDLE (R154, R155). -/
theorem pass_requests_idle (h : s.pass.state = .idle) :
    passSuspend l s = (s, refuse .state) ∧ passResume l s = (s, refuse .state) ∧ passAbort l s = (s, refuse .state) := by
  simp only [passSuspend, passResume, passAbort, h, and_self]

theorem pass_requests_other (h : s.pass.state ≠ .idle) (howner : s.pass.owner ≠ some l) :
    passSuspend l s = (s, refuse .owner) ∧ passResume l s = (s, refuse .owner) ∧ passAbort l s = (s, refuse .owner) := by
  cases hstate : s.pass.state
  case idle => exact absurd hstate h
  all_goals simp only [passSuspend, passResume, passAbort, hstate, howner, ne_eq, not_false_eq_true, if_true, and_self]

variable (howner : s.pass.owner = some l)

include howner

theorem passSuspend_running (h : s.pass.state = .running) (hpending : s.pass.pending = .none) :
    passSuspend l s = (pendingMade .suspend s, okReply) := by
  simp only [passSuspend, h, howner, hpending, ne_eq, not_true_eq_false, if_false]

theorem passAbort_running (h : s.pass.state = .running) (hpending : s.pass.pending ≠ .abort) :
    passAbort l s = (pendingMade .abort s, okReply) := by
  simp only [passAbort, h, howner, hpending, ne_eq, not_true_eq_false, if_false]

theorem passAbort_waiting (h : s.pass.state = .yielding ∨ s.pass.state = .suspended) : passAbort l s = (endPass .aborted s, okReply) := by
  rcases h with h | h <;> simp only [passAbort, h, howner, ne_eq, not_true_eq_false, if_false]

end

/-- The request stands, to be taken at the next boundary. -/
def nowPending (p : PendingRequest) (s : State) : State := { s with pass := { s.pass with pending := p } }

theorem pendingMade_waits {p : PendingRequest} {s : State} (h : atBoundary (nowPending p s) = false) : pendingMade p s = nowPending p s :=
  if_neg (by simpa [nowPending] using h)

theorem pendingMade_taken {p : PendingRequest} {s : State} (h : atBoundary (nowPending p s) = true) :
    pendingMade p s = takeBoundary id (nowPending p s) := if_pos h

theorem takeBoundary_abort {f : State → State} {s : State} (h : s.pass.pending = .abort) : takeBoundary f s = endPass .aborted s := by
  simp only [takeBoundary, decideBoundary, h, if_true]

section
variable {l : Link} {p : PendingRequest} {s : State}

theorem nowPending_closeStream : nowPending p (closeStream l s) = closeStream l (nowPending p s) := by cases l <;> rfl

/-- A request that is not taken at once stays pending. -/
theorem passSuspend_waits (howner : s.pass.owner = some l) (hrunning : s.pass.state = .running) (hpending : s.pass.pending = .none)
    (hboundary : atBoundary (nowPending .suspend s) = false) :
    passSuspend l (closeStream l s) = (closeStream l (nowPending .suspend s), okReply) := by
  rw [passSuspend_running (by simpa using howner) (by simpa using hrunning) (by simpa using hpending),
    pendingMade_waits (by rw [nowPending_closeStream]; cases l <;> exact hboundary), nowPending_closeStream]

theorem passAbort_waits (howner : s.pass.owner = some l) (hrunning : s.pass.state = .running) (hpending : s.pass.pending ≠ .abort)
    (hboundary : atBoundary (nowPending .abort s) = false) :
    passAbort l (closeStream l s) = (closeStream l (nowPending .abort s), okReply) := by
  rw [passAbort_running (by simpa using howner) (by simpa using hrunning) (by simpa using hpending),
    pendingMade_waits (by rw [nowPending_closeStream]; cases l <;> exact hboundary), nowPending_closeStream]

/-- An ABORT that is taken ends the pass (R155). -/
theorem passAbort_ends (howner : s.pass.owner = some l) (h : s.pass.state = .yielding ∨ s.pass.state = .suspended ∨
      (s.pass.state = .running ∧ s.pass.pending ≠ .abort ∧ atBoundary (nowPending .abort s) = true)) :
    passAbort l (closeStream l s) =
      (moveReleased l (ownSweepLeft (closeStream l (passEnded l (s.pass.current.getD 1) .aborted .aborted s))), okReply) := by
  have hends (u : State) (hu : u = closeStream l s ∨ u = nowPending .abort (closeStream l s)) : endPass .aborted u =
      moveReleased l (ownSweepLeft (closeStream l (passEnded l (s.pass.current.getD 1) .aborted .aborted s))) := by
    have howner' : u.pass.owner = some l := by rcases hu with rfl | rfl <;> simpa [nowPending] using howner
    rw [endPass_eq howner', finishPass_plain howner' (by simp)]
    rcases hu with rfl | rfl <;> cases l <;> rfl
  rcases h with hyielding | hsuspended | ⟨hrunning, hpending, hboundary⟩
  · rw [passAbort_waiting (by simpa using howner) (.inl (by simpa using hyielding)), hends _ (.inl rfl)]
  · rw [passAbort_waiting (by simpa using howner) (.inr (by simpa using hsuspended)), hends _ (.inl rfl)]
  · rw [passAbort_running (by simpa using howner) (by simpa using hrunning) (by simpa using hpending),
      pendingMade_taken (by rw [nowPending_closeStream]; cases l <;> exact hboundary), takeBoundary_abort rfl, hends _ (.inr rfl)]

/-- A pass that ends without the grant and without a sweep, or whose move stops already, ends alone. -/
theorem exec_abort_alone (hq : Quiet s) (hsweep : s.sweep.active = none) (hholder : s.transport.holder ≠ some (.pass l))
    (h : passAbort l (closeStream l s) =
      (moveReleased l (ownSweepLeft (closeStream l (passEnded l (s.pass.current.getD 1) .aborted .aborted s))), okReply))
    (halone : s.sched.grant ≠ .pass ∨ (s.transport.state = .moving ∧ ∃ m, s.transport.move = some m ∧ m.phase = .stopping)) :
    exec (.passAbort l) s = .next (answered l .ok 0x34#8 .empty (passEnded l (s.pass.current.getD 1) .aborted .aborted s)) := by
  refine exec_pass_taken (passEnded_quiet _ _ _ _ _ hq) (h.trans (Prod.ext ?_ rfl))
  show moveReleased l (ownSweepLeft _) = _
  rw [ownSweepLeft_none (by simp [hsweep])]
  rcases halone with hgrant | ⟨hmoving, m, hm, hphase⟩
  · exact moveReleased_away (by simpa using hholder) (by simpa using hgrant)
  · by_cases hgrant : s.sched.grant = .pass
    · rw [moveReleased_moving (m := m) (by simpa using hholder) (by simpa using hgrant) (by simpa using hmoving) (by simpa using hm),
        if_neg (by simp [hphase])]
    · exact moveReleased_away (by simpa using hholder) (by simpa using hgrant)

/-- The pass's move is stopped as it ends. -/
theorem exec_abort_stops {m : Move} (hq : Quiet s) (hsweep : s.sweep.active = none) (hholder : s.transport.holder ≠ some (.pass l))
    (h : passAbort l (closeStream l s) =
      (moveReleased l (ownSweepLeft (closeStream l (passEnded l (s.pass.current.getD 1) .aborted .aborted s))), okReply))
    (hgrant : s.sched.grant = .pass) (hmoving : s.transport.state = .moving) (hm : s.transport.move = some m) (hphase : m.phase = .running) :
    exec (.passAbort l) s =
      .next (answered l .ok 0x34#8 .empty (comingToRest m .stopped (passEnded l (s.pass.current.getD 1) .aborted .aborted s))) := by
  refine exec_pass_taken (passEnded_quiet l _ _ _ s hq) (h.trans (Prod.ext ?_ rfl))
  show moveReleased l (ownSweepLeft _) = _
  rw [ownSweepLeft_none (by simp [hsweep]), moveReleased_moving (m := m) (by simpa using hholder) (by simpa using hgrant) (by simpa using hmoving)
    (by simpa using hm), if_pos hphase, comingToRest_closeStream]

/-- What the cancelled sweep of an ended pass sets off is nothing. -/
theorem leads_cancelled {u : State} (hq : Quiet u) : Leads 1 [.passSweepDone .cancelled] u u := by
  refine Leads.skip ?_ (Leads.done hq)
  rw [facing_nil hq]
  exact passSweepEnded_unheeded (.inr rfl) u

theorem sweepEnded_closeStream (x : SweepRecord) (r : SweepResult) (u : State) :
    sweepEnded x r (closeStream l u) = closeStream l (sweepEnded x r u) := by
  cases hlink : x.link <;> cases l <;> simp [sweepEnded, hlink, onLink, closeStream]

end

/-! ### A SUSPEND at a boundary (R142, R154) -/

theorem takeBoundary_suspend {f : State → State} {u : State} (h : u.pass.pending = .suspend) : takeBoundary f u =
    if passMoving (leaveSweep u) then stopThen (.giveUp .suspend) (afterVisits (leaveSweep u)) else giveBack .suspend (leaveSweep u) := by
  simp [takeBoundary, decideBoundary, h]

theorem leaveSweep_away {u : State} (h : u.pass.work ≠ .sweeping) : leaveSweep u = u := if_neg h

/-- The pass stops its move to give the transport up. -/
def stoppingFor (a : AfterStop) (u : State) : State := { u with pass := { u.pass with work := .stopping, after := a, armed := none } }

theorem stopThen_running {m : Move} {u : State} (a : AfterStop) (hmoving : u.transport.state = .moving) (hm : u.transport.move = some m)
    (hphase : m.phase = .running) : stopThen a u = comingToRest m .stopped (stoppingFor a u) := requestStop_running hmoving hm hphase

theorem stopThen_stopping {m : Move} {u : State} (a : AfterStop) (hmoving : u.transport.state = .moving) (hm : u.transport.move = some m)
    (hphase : m.phase = .stopping) : stopThen a u = stoppingFor a u := by
  simp [stopThen, requestStop, hmoving, hm, hphase, stoppingFor]

theorem afterVisits_kept {u : State} (h : u.pass.work ≠ .runningFly ∨ ∀ g ∈ u.segment, g.action ≠ .indexOnly) : afterVisits u = u := by
  cases hg : u.segment with
  | none => simp only [afterVisits, hg]
  | some g =>
    have hno : ¬ (g.action = .indexOnly ∧ u.pass.work = .runningFly) := fun hboth => h.elim (fun hw => hw hboth.2) fun ha => ha g hg hboth.1
    simp only [afterVisits, hg, hno, if_false]

theorem afterVisits_indexes {u : State} {g : Segment} (hwork : u.pass.work = .runningFly) (hg : u.segment = some g)
    (hindexOnly : g.action = .indexOnly) :
    afterVisits u = { u with pass := { u.pass with resume := some (max (u.pass.resume.getD 1) (u.pass.judgedUpTo + 1)) } } := by
  simp only [afterVisits, hg, hindexOnly, hwork, and_self, if_true]

theorem passMoving_true {m : Move} {u : State} (hgrant : u.sched.grant = .pass) (hm : u.transport.move = some m) (hwork : u.pass.work ≠ .none) :
    passMoving u = true := by
  simp [passMoving, hgrant, hm, hwork]

section
variable {l : Link} {s : State}

theorem passSuspend_taken (howner : s.pass.owner = some l) (hrunning : s.pass.state = .running) (hpending : s.pass.pending = .none)
    (hboundary : atBoundary (nowPending .suspend s) = true) :
    passSuspend l (closeStream l s) = (takeBoundary id (nowPending .suspend (closeStream l s)), okReply) := by
  rw [passSuspend_running (by simpa using howner) (by simpa using hrunning) (by simpa using hpending),
    pendingMade_taken (by rw [nowPending_closeStream]; cases l <;> exact hboundary)]

/-- A SUSPEND taken during a move without a sweep stops the move (R142). -/
theorem takeBoundary_suspend_moving {f : State → State} {m : Move} {u : State} (hpending : u.pass.pending = .suspend)
    (hwork : u.pass.work = .seeking ∨ u.pass.work = .runningFly) (hgrant : u.sched.grant = .pass) (hm : u.transport.move = some m)
    (hafter : (afterVisits u).transport = u.transport) (hmoving : u.transport.state = .moving) (hphase : m.phase = .running) :
    takeBoundary f u = comingToRest m .stopped (stoppingFor (.giveUp .suspend) (afterVisits u)) := by
  have hsweeping : u.pass.work ≠ .sweeping := by rcases hwork with h | h <;> simp [h]
  have hnone : u.pass.work ≠ .none := by rcases hwork with h | h <;> simp [h]
  rw [takeBoundary_suspend hpending, leaveSweep_away hsweeping, if_pos (passMoving_true hgrant hm hnone),
    stopThen_running _ (hafter ▸ hmoving) (hafter ▸ hm) hphase]

/-- A SUSPEND taken in the sweep of a FLY pass ends the sweep too (R116, log 61). -/
theorem takeBoundary_suspend_sweeping {f : State → State} {m : Move} {x : SweepRecord} {u : State} (hpending : u.pass.pending = .suspend)
    (hwork : u.pass.work = .sweeping) (hgrant : u.sched.grant = .pass) (hm : u.transport.move = some m) (hmoving : u.transport.state = .moving)
    (hphase : m.phase = .running) (hx : u.sweep.active = some x) (hpoints : x.points = []) (horigin : x.origin = .pass)
    (htravelling : x.state = .travelling) (hholder : u.transport.holder = none) :
    takeBoundary f u = emit (.passSweepDone .cancelled) (sweepEnded x .cancelled (comingToRest m .stopped
      (stoppingFor (.giveUp .suspend) { u with pass := { u.pass with frameInHand := none } }))) := by
  have hleft : leaveSweep u = emit (.passSweepDone .cancelled) (sweepEnded x .cancelled (comingToRest m .stopped
      { u with pass := { u.pass with frameInHand := none } })) :=
    (if_pos hwork).trans (cancelSweep_pass hx hpoints horigin htravelling hholder hgrant hmoving hm hphase)
  have hmoves : passMoving (leaveSweep u) = true := by rw [hleft]; simp [passMoving, emit, comingToRest, hgrant, hwork]
  rw [takeBoundary_suspend hpending, if_pos hmoves, hleft,
    afterVisits_kept (.inl (by simp [emit, comingToRest, hwork])),
    stopThen_stopping (m := { m with finalApproach := false, phase := .stopping, plan := [], aside := [], atRest := some (.finish .stopped) }) _
      (by simpa [emit, comingToRest] using hmoving) (by simp [emit, comingToRest]) rfl]
  cases hlink : x.link <;> simp [stoppingFor, emit, sweepEnded, comingToRest, hlink, onLink]

end

/-- Settles O44. -/
theorem passRequests : Obligations.PassRequests := by
  unfold Obligations.PassRequests
  intro l s hq suspend resume abort ok refused ended suspending
  refine ⟨fun hidle => ?_, fun hactive hother => ?_, fun howner hrunning hgrant hwork => ?_,
    fun howner hrunning hgrant hwork => ⟨fun hpending => ?_, fun m hpending hmoving hm hphase hholder hsweep => ?_⟩,
    fun m howner hrunning hgrant hmoving hm hphase hholder => ⟨fun hsweep hwork => ⟨fun hpending hplain => ?_, fun g hpending hfly hg hindexOnly => ?_,
      fun hpending => ?_⟩, fun x hwork hfly hx horigin hlink htravelling hpoints => ⟨fun hpending => ?_, fun hpending => ?_⟩⟩,
    fun howner hrunning => ⟨fun hpending => ⟨?_, ?_⟩, fun hpending => ⟨?_, ?_⟩, fun hpending => ?_⟩,
    fun howner hrunning hgrant hpending hwork => ?_, fun howner hyielding => ⟨?_, ?_⟩, fun howner hsuspended => ⟨?_, fun hgrant => ?_⟩,
    fun howner hstate hgrant => ⟨fun hsweep hholder => ?_, fun x hx horigin hlink htravelling hpoints hholder => ?_⟩⟩
  · obtain ⟨hs, hr, ha⟩ := pass_requests_idle (l := l) (s := closeStream l s) (by simpa using hidle)
    exact ⟨exec_pass_refused hq hs, exec_pass_refused hq hr, exec_pass_refused hq ha⟩
  · obtain ⟨hs, hr, ha⟩ := pass_requests_other (l := l) (s := closeStream l s) (by simpa using hactive) (by simpa using hother)
    exact ⟨exec_pass_refused hq hs, exec_pass_refused hq hr, exec_pass_refused hq ha⟩
  · have hwaits (p : PendingRequest) : atBoundary (nowPending p s) = false := by
      rcases hwork with h | h | ⟨h, hmode⟩ | ⟨h, harmed⟩
      · simp [atBoundary, nowPending, hgrant, h]
      · simp [atBoundary, nowPending, hgrant, h]
      · simp [atBoundary, nowPending, hgrant, h, hmode]
      · simpa [atBoundary, nowPending, hgrant, hrunning, h, Option.isSome_iff_ne_none] using harmed
    exact ⟨fun hpending => exec_pass_taken (by exact hq) (passSuspend_waits howner hrunning hpending (hwaits _)),
      fun hpending => exec_pass_taken (by exact hq) (passAbort_waits howner hrunning hpending (hwaits _))⟩
  · exact exec_pass_taken (by exact hq) (passSuspend_waits howner hrunning hpending (by simp [atBoundary, nowPending, hrunning, hgrant, hwork]))
  · exact exec_abort_alone hq hsweep (by simp [hholder])
      (passAbort_ends howner (.inr (.inr ⟨hrunning, hpending, by simp [atBoundary, nowPending, hrunning, hgrant, hwork]⟩))) (.inr ⟨hmoving, m, hm, hphase⟩)
  · refine exec_pass_taken (by exact hq) ((passSuspend_taken howner hrunning hpending ?_).trans (Prod.ext ?_ rfl))
    · rcases hwork with ⟨h, hhand⟩ | ⟨h, harmed⟩
      · simp [atBoundary, nowPending, hrunning, hgrant, h, hhand]
      · simp [atBoundary, nowPending, hrunning, hgrant, h, harmed]
    · have hkept : afterVisits (nowPending .suspend (closeStream l s)) = nowPending .suspend (closeStream l s) := by
        refine afterVisits_kept ?_
        rcases hplain with h | h
        · exact .inl (by simp [nowPending, h])
        · exact .inr (by cases l <;> exact h)
      have htaken := takeBoundary_suspend_moving (f := id) (m := m) (u := nowPending .suspend (closeStream l s)) rfl
        (by rcases hwork with ⟨h, -⟩ | ⟨h, -⟩ <;> simp [nowPending, h]) (by simpa [nowPending] using hgrant) (by simpa [nowPending] using hm)
        (by rw [hkept]) (by simpa [nowPending] using hmoving) hphase
      rw [hkept] at htaken
      exact htaken.trans (by cases l <;> rfl)
  · refine exec_pass_taken (by exact hq) ((passSuspend_taken howner hrunning hpending ?_).trans (Prod.ext ?_ rfl))
    · rcases hwork with ⟨h, -⟩ | ⟨h, harmed⟩
      · simp [h] at hfly
      · simp [atBoundary, nowPending, hrunning, hgrant, h, harmed]
    · have hvisits := afterVisits_indexes (u := nowPending .suspend (closeStream l s)) (by simpa [nowPending] using hfly)
        (by cases l <;> exact hg) hindexOnly
      have htaken := takeBoundary_suspend_moving (f := id) (m := m) (u := nowPending .suspend (closeStream l s)) rfl
        (.inr (by simpa [nowPending] using hfly)) (by simpa [nowPending] using hgrant) (by simpa [nowPending] using hm)
        (by rw [hvisits]) (by simpa [nowPending] using hmoving) hphase
      rw [hvisits] at htaken
      exact htaken.trans (by cases l <;> rfl)
  · refine exec_abort_stops hq hsweep (by simp [hholder]) (passAbort_ends howner (.inr (.inr ⟨hrunning, hpending, ?_⟩))) hgrant hmoving hm hphase
    rcases hwork with ⟨h, hhand⟩ | ⟨h, harmed⟩
    · simp [atBoundary, nowPending, hrunning, hgrant, h, hhand]
    · simp [atBoundary, nowPending, hrunning, hgrant, h, harmed]
  · refine exec_pass_request (n := 1) (new := [.passSweepDone .cancelled]) ((passSuspend_taken howner hrunning hpending ?_).trans (Prod.ext ?_ rfl))
      (leads_cancelled (answered_quiet l _ _ _ ?_)) (by omega)
    · simp [atBoundary, nowPending, hrunning, hgrant, hwork, hfly]
    · refine (takeBoundary_suspend_sweeping (f := id) (u := nowPending .suspend (closeStream l s)) rfl (by simpa [nowPending] using hwork)
        (by simpa [nowPending] using hgrant) (by simpa [nowPending] using hm) (by simpa [nowPending] using hmoving) hphase
        (by simpa [nowPending] using hx) hpoints horigin htravelling (by simpa [nowPending] using hholder)).trans ?_
      have hclosed : comingToRest m .stopped (stoppingFor (.giveUp .suspend) { nowPending .suspend (closeStream l s) with
            pass := { (nowPending .suspend (closeStream l s)).pass with frameInHand := none } }) =
          closeStream l (comingToRest m .stopped { s with pass := { suspending with frameInHand := none } }) := by cases l <;> rfl
      rw [hclosed, sweepEnded_closeStream]
      exact emit_eq_facing _ (closeStream_quiet l ((sweepEnded_todo _ _ _).trans hq))
    · exact (sweepEnded_todo _ _ _).trans hq
  · refine exec_pass_request (n := 1) (new := [.passSweepDone .cancelled]) ((passAbort_ends howner (.inr (.inr ⟨hrunning, hpending, ?_⟩))).trans
      (Prod.ext ?_ rfl)) (leads_cancelled (answered_quiet l _ _ _ ?_)) (by omega)
    · simp [atBoundary, nowPending, hrunning, hgrant, hwork, hfly]
    · refine (released_sweep_moving (u := closeStream l ended) (by simpa [ended] using hx) hpoints horigin (by simpa [ended] using hholder) htravelling
        (by simpa [ended] using hgrant) (by simpa [ended] using hmoving) (by simpa [ended] using hm) hphase).trans ?_
      rw [comingToRest_closeStream, sweepEnded_closeStream]
      exact emit_eq_facing _ (closeStream_quiet l ((sweepEnded_todo _ _ _).trans (passEnded_quiet _ _ _ _ _ hq)))
    · exact (sweepEnded_todo _ _ _).trans (passEnded_quiet _ _ _ _ _ hq)
  · exact exec_pass_taken hq (by simp [passSuspend, hrunning, howner, hpending])
  · exact exec_pass_taken (by exact hq) (by cases l <;> simp [passResume, hrunning, howner, hpending, closeStream, onLink])
  · exact exec_pass_refused hq (by simp [passSuspend, hrunning, howner, hpending])
  · exact exec_pass_taken hq (by simp [passAbort, hrunning, howner, hpending])
  · exact exec_pass_refused hq (by simp [passResume, hrunning, howner, hpending])
  · refine exec_pass_taken (by exact hq) ((passSuspend_taken howner hrunning hpending ?_).trans (Prod.ext ?_ rfl))
    · simp [atBoundary, nowPending, hrunning, hgrant]
    · have hgives : passMoving (nowPending .suspend (closeStream l s)) = false := by simp [passMoving, nowPending, hwork]
      dsimp only
      rw [takeBoundary_suspend rfl, leaveSweep_away (by simp [nowPending, hwork]), hgives]
      cases l <;> simp [giveBack, nowPending, closeStream, onLink, hgrant, hpending]
  · exact exec_pass_taken (by exact hq) (by cases l <;> simp [passSuspend, hyielding, howner, closeStream, onLink])
  · exact exec_pass_refused hq (by simp [passResume, hyielding, howner])
  · exact exec_pass_refused hq (by simp [passSuspend, hsuspended, howner])
  · refine exec_pass_request (n := 1) (new := [.choose]) (u := { s with pass := { s.pass with state := .running } }) ?_
      (leads_at_ease (answered_quiet l _ _ _ (by exact hq)) (.inl (by simpa using hgrant))) (by omega)
    have htodo : s.todo = [] := hq
    cases l <;> simp [passResume, hsuspended, howner, closeStream, onLink, emit, facing, htodo]
  · refine exec_abort_alone hq hsweep hholder (passAbort_ends howner ?_) (.inl hgrant)
    rcases hstate with h | h | ⟨h, hpending⟩
    · exact .inl h
    · exact .inr (.inl h)
    · exact .inr (.inr ⟨h, hpending, by simp [atBoundary, nowPending, h, hgrant]⟩)
  · refine exec_pass_request (n := 1) (new := [.passSweepDone .cancelled]) ((passAbort_ends howner ?_).trans
      (Prod.ext ?_ rfl)) (leads_cancelled (answered_quiet l _ _ _ ?_)) (by omega)
    · rcases hstate with h | h | ⟨h, hpending⟩
      · exact .inl h
      · exact .inr (.inl h)
      · exact .inr (.inr ⟨h, hpending, by simp [atBoundary, nowPending, h, hgrant]⟩)
    · refine (released_sweep_waits (u := closeStream l ended) (by simpa [ended] using hx) hpoints horigin (by simpa [ended] using hholder)
        (by simpa [ended] using hgrant)).trans ?_
      rw [sweepEnded_closeStream]
      exact emit_eq_facing _ (closeStream_quiet l ((sweepEnded_todo _ _ _).trans (passEnded_quiet _ _ _ _ _ hq)))
    · exact (sweepEnded_todo _ _ _).trans (passEnded_quiet _ _ _ _ _ hq)

end Sys2Proof.Machine
end

section
/-! PROOFS. How a pass that holds the transport in PARKED goes on (R141 to R143, R147, R148, R151, R152, R156). -/

namespace Sys2Proof.Machine

open Sys2Proof

/-! ### What a state comes to (log 4) -/

/-- A state comes, by what it has set off, to one in which the scheduler has nothing to choose. -/
def ComesTo (n : Nat) (s t : State) : Prop := Leads n s.todo s t ∧ AtEase t

theorem ComesTo.here {t : State} (ht : Quiet t) (hgrant : t.sched.grant ≠ .none) : ComesTo 0 t t :=
  ⟨by rw [show t.todo = [] from ht]; exact Leads.done ht, .inl hgrant⟩

theorem comesTo_facing {n : Nat} {calls : List Signal} {s t : State} (h : Leads n calls s t) (hease : AtEase t) :
    ComesTo n (facing calls s) t := ⟨h, hease⟩

theorem ComesTo.next {n : Nat} {sig : Signal} {s x t : State} (hq : Quiet s) (hx : handle sig s = x) (h : ComesTo n x t) :
    ComesTo (n + 1) (facing [sig] s) t := by
  refine comesTo_facing (Leads.cons (new := x.todo) (u := x) ?_ ?_) h.2
  · rw [facing_nil hq]
    exact hx
  · rw [List.append_nil]
    exact h.1

theorem moveBegun_sched (m : Move) (legs : List Leg) (s : State) : (moveBegun m legs s).sched = s.sched := by
  cases legs <;> rfl

theorem moveBegun_comes {n : Move} {legs : List Leg} {s : State} (hq : Quiet s) (hgrant : s.sched.grant ≠ .none) :
    ComesTo 0 (moveBegun n legs s) (moveBegun n legs s) :=
  ComesTo.here ((moveBegun_todo _ _ _).trans hq) (by rwa [moveBegun_sched])

/-! ### The segment and its frames (R141, R156) -/

/-- The segment's record is RUNNING once the pass has worked on it (R156). -/
def begunIn (c : Nat) (p : Pass) : Pass :=
  { p with outcomes := p.outcomes.modify (c - 1) (fun o => { o with state := if o.state = .notRun then .running else o.state }) }

/-- The pass in its segment c, its record RUNNING. -/
def segmentBegun (c : Nat) (s : State) : State := { s with pass := begunIn c s.pass }

theorem beginSegment_eq {c : Nat} {s : State} (hc : s.pass.current = some c) : beginSegment s = segmentBegun c s := by
  have hfun : (fun o : SegOutcome => if o.state = .notRun then { o with state := .running } else o) =
      fun o => { o with state := if o.state = .notRun then .running else o.state } := by
    funext o
    split_ifs <;> rfl
  have hplace : s.place = c - 1 := by simp [State.place, hc]
  unfold beginSegment
  rw [hplace, hfun]
  rfl

/-- A segment that has begun does not begin again. -/
theorem segmentBegun_twice (c : Nat) (s : State) : segmentBegun c (segmentBegun c s) = segmentBegun c s := by
  have hsame : ((s.pass.outcomes.modify (c - 1) (fun o => { o with state := if o.state = .notRun then .running else o.state })).modify (c - 1)
      (fun o => { o with state := if o.state = .notRun then .running else o.state })) =
      s.pass.outcomes.modify (c - 1) (fun o => { o with state := if o.state = .notRun then .running else o.state }) := by
    rw [List.modify_modify_eq]
    congr 1
    funext o
    by_cases h : o.state = .notRun <;> simp [h]
  simp only [segmentBegun, begunIn, hsame]

theorem selects_iff (a : SegAction) (e : Entry) : selects a e = true ↔
    a = .all ∨ (a = .docStarts ∧ e.cls ≠ .image) ∨ (a = .missing ∧ e.capture ≠ .captured) := by
  cases a <;> simp [selects]

theorem spanIndexed_eq (s : State) (g : Segment) : s.spanIndexed g = min (g.last.getD s.extent) s.extent := by
  cases hlast : g.last <;> simp [State.spanIndexed, hlast]

theorem spanIndexed_le (s : State) (g : Segment) (k : Nat) : k ≤ s.spanIndexed g ↔ k ≤ s.index.entries.length ∧ ∀ n ∈ g.last, k ≤ n := by
  cases hlast : g.last with
  | none => simp [State.spanIndexed, hlast, State.extent]
  | some n => simp [State.spanIndexed, hlast, State.extent, and_comm]

/-- The frame that the search falls on, frame by frame (R141). -/
theorem findSelected_some {s : State} {g : Segment} {m k : Nat} (hm : 1 ≤ m) : findSelected s g m = some k ↔
    m ≤ k ∧ k ≤ s.spanIndexed g ∧ (∃ e ∈ s.entry k, selects g.action e = true) ∧
      ∀ j, m ≤ j → j < k → ∀ e ∈ s.entry j, selects g.action e = false := by
  have hspan : s.spanIndexed g ≤ s.index.entries.length := ((spanIndexed_le s g _).mp le_rfl).1
  have hentry (j : Nat) (hj : 1 ≤ j) (hle : j ≤ s.index.entries.length) : s.entry j = some (s.index.entries[j - 1]'(by omega)) := by
    rw [entry_eq_getElem? (by omega), List.getElem?_eq_getElem]
  simp only [findSelected, Option.map_eq_some_iff, List.findIdx?_eq_some_iff_getElem, List.length_drop, List.length_take,
    List.getElem_drop, List.getElem_take]
  constructor
  · rintro ⟨i, ⟨hi, hselects, hbefore⟩, rfl⟩
    refine ⟨by omega, by omega, ⟨_, hentry _ (by omega) (by omega), by simpa using hselects⟩, fun j hj hlt e he => ?_⟩
    have hno := hbefore (j - m) (by omega)
    rw [hentry j (by omega) (by omega)] at he
    obtain rfl := Option.some.inj he
    simpa [show m - 1 + (j - m) = j - 1 by omega] using hno
  · rintro ⟨hle, hk, ⟨e, he, hselects⟩, hbefore⟩
    rw [hentry k (by omega) (by omega)] at he
    obtain rfl := Option.some.inj he
    refine ⟨k - m, ⟨by omega, ?_, fun j hj => ?_⟩, by omega⟩
    · simpa [show m - 1 + (k - m) = k - 1 by omega] using hselects
    · have hno := hbefore (m + j) (by omega) (by omega) _ (hentry (m + j) (by omega) (by omega))
      simpa [show m - 1 + j = m + j - 1 by omega] using hno

theorem findSelected_none {s : State} {g : Segment} {m : Nat} (hm : 1 ≤ m) (h : ∀ k, m ≤ k → k ≤ s.spanIndexed g →
    ∀ e ∈ s.entry k, selects g.action e = false) : findSelected s g m = none := by
  cases hfind : findSelected s g m with
  | none => rfl
  | some k =>
    obtain ⟨hle, hspan, ⟨e, he, hselects⟩, -⟩ := (findSelected_some hm).mp hfind
    rw [h k hle hspan e he] at hselects
    cases hselects

/-! ### What is judged (R141, log 62) -/

section
variable {g : Segment} {r k : Nat} {s : State}

theorem selectedFrom_iff : selectedFrom r g s k ↔
    max r (s.pass.judgedUpTo + 1) ≤ k ∧ k ≤ s.spanIndexed g ∧ ∃ e ∈ s.entry k, selects g.action e = true := by
  simp only [selectedFrom, spanIndexed_le, selects_iff, Nat.succ_le_iff, sup_le_iff]
  constructor
  · rintro ⟨hle, hlast, hr, hjudged, hentry⟩
    exact ⟨⟨hr, hjudged⟩, ⟨hle, hlast⟩, hentry⟩
  · rintro ⟨⟨hr, hjudged⟩, ⟨hle, hlast⟩, hentry⟩
    exact ⟨hle, hlast, hr, hjudged, hentry⟩

variable (hr : s.pass.resume = some r)

include hr

theorem next_eq : s.pass.next = rememberedFrom r s := by
  simp only [Pass.next, hr, Option.getD_some]
  rfl

theorem unjudged_eq : s.pass.unjudged = max r (s.pass.judgedUpTo + 1) := by simp only [Pass.unjudged, hr, Option.getD_some]

theorem judgeNext_remembered (h : rememberedFrom r s = some k) : judgeNext g s = s := by
  simp only [judgeNext, next_eq hr, h]

/-- The first frame that is selected is judged, and none after it. -/
theorem judgeNext_found (hnone : rememberedFrom r s = none) (hk : selectedFrom r g s k) (hlowest : ∀ j, j < k → ¬ selectedFrom r g s j) :
    judgeNext g s = { s with pass := { s.pass with judgedUpTo := k, chosen := [k] } } := by
  obtain ⟨hlow, hspan, hentry⟩ := selectedFrom_iff.mp hk
  have hfind : findSelected s g s.pass.unjudged = some k := by
    rw [unjudged_eq hr]
    refine (findSelected_some (by omega)).mpr ⟨hlow, hspan, hentry, fun j hj hlt e he => ?_⟩
    rw [Bool.eq_false_iff]
    exact fun hselects => hlowest j hlt (selectedFrom_iff.mpr ⟨hj, by omega, e, he, hselects⟩)
  simp only [judgeNext, next_eq hr, hnone, hfind]

theorem judgeNext_exhausted (h : exhaustedFrom r g s) :
    judgeNext g s = { s with pass := { s.pass with
      judgedUpTo := max s.pass.judgedUpTo (min (g.last.getD s.index.entries.length) s.index.entries.length) } } := by
  obtain ⟨hnone, hall⟩ := h
  have hfind : findSelected s g s.pass.unjudged = none := by
    rw [unjudged_eq hr]
    refine findSelected_none (by omega) fun k hlow hspan e he => ?_
    rw [Bool.eq_false_iff]
    exact fun hselects => hall k ((spanIndexed_le s g k).mp hspan).1 (selectedFrom_iff.mpr ⟨hlow, hspan, e, he, hselects⟩)
  simp only [judgeNext, next_eq hr, hnone, hfind, spanIndexed_eq]
  rfl

end

/-! ### The pass goes on (R142, R143, R148) -/

/-- The pass goes on in its segment, its record RUNNING. -/
def goOn (g : Segment) (s : State) : State := if s.pass.mode = some .fly ∨ g.action = .indexOnly then flyStart g s else stepNext g s

/-- A pass that holds the transport in PARKED, in its segment c with the resume frame r, with no sweep of its own and nothing in hand. -/
structure PassAtRest (l : Link) (c r : Nat) (g : Segment) (s : State) : Prop where
  quiet : Quiet s
  owner : s.pass.owner = some l
  running : s.pass.state = .running
  grant : s.sched.grant = .pass
  parked : s.transport.state = .parked
  holder : s.transport.holder = none
  current : s.pass.current = some c
  segment : s.pass.program[c - 1]? = some g
  resume : s.pass.resume = some r
  low : 1 ≤ r
  inHand : s.pass.frameInHand = none
  sweep : s.sweep.active = none
  mode : s.pass.mode ≠ none
  may : MayMove s

section
variable {l : Link} {c r : Nat} {g : Segment} {s : State} (h : PassAtRest l c r g s)

include h

theorem PassAtRest.goPass : goPass s = goOn g (segmentBegun c s) := by
  have hsegment : s.segment = some g := by simp only [State.segment, h.current, h.segment]
  have hbegun := beginSegment_eq h.current
  have hsweep : (segmentBegun c s).sweep.active = none := h.sweep
  simp only [Machine.goPass, h.running, h.grant, h.parked, h.may.1, and_self, if_true, hsegment, hbegun, hsweep]
  rfl

theorem PassAtRest.begun : PassAtRest l c r g (segmentBegun c s) := by
  obtain ⟨hq, howner, hrunning, hgrant, hparked, hholder, hcurrent, hsegment, hresume, hlow, hhand, hsweep, hmode, hmay⟩ := h
  exact ⟨hq, howner, hrunning, hgrant, hparked, hholder, hcurrent, hsegment, hresume, hlow, hhand, hsweep, hmode, hmay⟩

omit h in
theorem goOn_steps (hsteps : inSteps g s) : goOn g s = stepNext g s := if_neg (by simp [hsteps.1, hsteps.2])

theorem PassAtRest.goOn_flies (hflies : ¬ inSteps g s) : goOn g s = flyStart g s := by
  refine if_pos ?_
  by_contra hno
  rw [not_or] at hno
  refine hflies ⟨?_, hno.2⟩
  cases hm : s.pass.mode with
  | none => exact absurd hm h.mode
  | some m =>
    cases m
    · rfl
    · exact absurd hm hno.1

end

/-! ### The next frame is taken in hand (R143, R147) -/

/-- A frame judged selected is the next one: remembered, or the lowest from the resume frame on that is not judged yet. -/
def FoundNext (r : Nat) (g : Segment) (s : State) (k : Nat) : Prop :=
  (rememberedFrom r s = some k ∧ k ≤ s.index.entries.length) ∨
    (rememberedFrom r s = none ∧ selectedFrom r g s k ∧ ∀ j, j < k → ¬ selectedFrom r g s j)

/-- What judging the next frame makes of the pass. -/
def judgedIn (r k : Nat) (s : State) : Pass :=
  if rememberedFrom r s = none then { s.pass with judgedUpTo := k, chosen := [k] } else s.pass

theorem FoundNext.le {r k : Nat} {g : Segment} {s : State} (h : FoundNext r g s k) : r ≤ k ∧ k ≤ s.index.entries.length := by
  rcases h with ⟨hremembered, hle⟩ | ⟨-, hselected, -⟩
  · have := List.find?_some hremembered
    exact ⟨by simpa using this, hle⟩
  · exact ⟨hselected.2.2.1, hselected.1⟩

theorem judgeNext_judged {r k : Nat} {g : Segment} {s : State} (hr : s.pass.resume = some r) (h : FoundNext r g s k) :
    judgeNext g s = { s with pass := judgedIn r k s } ∧ (judgeNext g s).pass.next = some k := by
  rcases h with ⟨hremembered, -⟩ | ⟨hnone, hselected, hlowest⟩
  · rw [judgeNext_remembered hr hremembered]
    exact ⟨by simp [judgedIn, hremembered], (next_eq hr).trans hremembered⟩
  · rw [judgeNext_found hr hnone hselected hlowest]
    exact ⟨by simp [judgedIn, hnone], by simp [Pass.next, hr, hselected.2.2.1]⟩

theorem stepNext_takes {r k : Nat} {g : Segment} {s : State} (hr : s.pass.resume = some r) (hhand : s.pass.frameInHand = none)
    (h : FoundNext r g s k) :
    stepNext g s = workOnFrame g k (countOrdinal g k { s with pass := { judgedIn r k s with frameInHand := some k } }) := by
  obtain ⟨hjudged, hnext⟩ := judgeNext_judged hr h
  simp only [stepNext, hhand, hnext]
  rw [hjudged]

section
variable (c r k : Nat) (s : State)

theorem judgedIn_begun : judgedIn r k (segmentBegun c s) = begunIn c (judgedIn r k s) := by
  unfold judgedIn
  by_cases h : rememberedFrom r s = none
  · rw [if_pos h, if_pos (by exact h)]
    rfl
  · rw [if_neg h, if_neg (by exact h)]
    rfl

@[simp] theorem judgedIn_current : (judgedIn r k s).current = s.pass.current := by unfold judgedIn; split <;> rfl
@[simp] theorem judgedIn_ordinals : (judgedIn r k s).ordinals = s.pass.ordinals := by unfold judgedIn; split <;> rfl
@[simp] theorem judgedIn_counted : (judgedIn r k s).counted = s.pass.counted := by unfold judgedIn; split <;> rfl
@[simp] theorem judgedIn_sweepOwed : (judgedIn r k s).sweepOwed = s.pass.sweepOwed := by unfold judgedIn; split <;> rfl
@[simp] theorem judgedIn_owner : (judgedIn r k s).owner = s.pass.owner := by unfold judgedIn; split <;> rfl
@[simp] theorem judgedIn_state : (judgedIn r k s).state = s.pass.state := by unfold judgedIn; split <;> rfl
@[simp] theorem judgedIn_mode : (judgedIn r k s).mode = s.pass.mode := by unfold judgedIn; split <;> rfl
@[simp] theorem judgedIn_program : (judgedIn r k s).program = s.pass.program := by unfold judgedIn; split <;> rfl
@[simp] theorem judgedIn_resume : (judgedIn r k s).resume = s.pass.resume := by unfold judgedIn; split <;> rfl

end

/-- A frame is taken in hand: its ordinal is counted and whether a sweep is due at it judged, the first time (R147, log 68). -/
def takenInHand (c r k : Nat) (g : Segment) (s : State) : Pass :=
  let ordinals := if k ∉ s.pass.counted then s.pass.ordinals.modify (c - 1) (fun n => n + 1) else s.pass.ordinals
  { begunIn c (judgedIn r k s) with
    frameInHand := some k
    ordinals := ordinals
    sweepOwed := if k ∉ s.pass.counted ∧ g.sweepsAt (ordinals.getD (c - 1) 0) = true then k :: s.pass.sweepOwed else s.pass.sweepOwed
    counted := if k ∉ s.pass.counted then k :: s.pass.counted else s.pass.counted }

/-- The pass with frame k in hand. -/
def withInHand (c r k : Nat) (g : Segment) (s : State) : State := { s with pass := takenInHand c r k g s }

theorem countOrdinal_again {g : Segment} {k : Nat} {s : State} (h : k ∈ s.pass.counted) : countOrdinal g k s = s :=
  if_pos (List.contains_iff_mem.mpr h)

theorem countOrdinal_first {g : Segment} {c k : Nat} {s : State} (hc : s.pass.current = some c) (h : k ∉ s.pass.counted) :
    countOrdinal g k s = { s with pass := { s.pass with
      counted := k :: s.pass.counted
      ordinals := s.pass.ordinals.modify (c - 1) (fun n => n + 1)
      sweepOwed := if g.sweepsAt ((s.pass.ordinals.modify (c - 1) (fun n => n + 1)).getD (c - 1) 0) = true then k :: s.pass.sweepOwed
        else s.pass.sweepOwed } } := by
  have hplace : s.place = c - 1 := by simp [State.place, hc]
  unfold countOrdinal
  rw [if_neg (by simpa using h), hplace]

theorem stepNext_begun {c r k : Nat} {g : Segment} {s : State} (hc : s.pass.current = some c) (hr : s.pass.resume = some r)
    (hhand : s.pass.frameInHand = none) (h : FoundNext r g s k) :
    stepNext g (segmentBegun c s) = workOnFrame g k (withInHand c r k g s) := by
  rw [stepNext_takes (s := segmentBegun c s) hr hhand h, judgedIn_begun]
  refine congrArg (workOnFrame g k) ?_
  by_cases hcounted : k ∈ s.pass.counted
  · rw [countOrdinal_again (by simpa [begunIn] using hcounted)]
    simp only [withInHand, takenInHand, hcounted, not_true, false_and, if_false]
    simp [segmentBegun, begunIn]
  · rw [countOrdinal_first (c := c) (by simpa [begunIn] using hc) (by simpa [begunIn] using hcounted)]
    simp only [withInHand, takenInHand, hcounted, not_false_eq_true, true_and, if_true]
    simp [segmentBegun, begunIn]

/-! ### The end of a sweep of the pass (R107, R147) -/

/-- The pass goes on from the frame whose sweep is made. -/
def onwardFrom (k : Nat) (s : State) : State :=
  if s.pass.mode = some .fly then emit .passGo { sweepMade k s with pass := { (sweepMade k s).pass with frameInHand := none, work := .seeking } }
  else approachFrame k (sweepMade k s)

theorem countFault_focus {c k : Nat} {s : State} (hc : s.pass.current = some c) : countFault s.place .focusFail k s = focusFailed c k s := by
  have hplace : s.place = c - 1 := by simp [State.place, hc]
  unfold countFault
  rw [hplace]
  refine congrArg (fun f => onOutcome (c - 1) f s) (funext fun o => ?_)
  cases hfirst : o.firstFault <;> simp [FaultCounts.inc, satInc]

section
variable {c k : Nat} {g : Segment} {s : State} (hrunning : s.pass.state = .running) (hwork : s.pass.work = .sweeping)
  (hsweep : s.sweep.active = none) (hhand : s.pass.frameInHand = some k) (hc : s.pass.current = some c)
  (hg : s.pass.program[c - 1]? = some g)

include hrunning hwork hsweep hhand hc hg

theorem passSweepEnded_fits {r : SweepResult} (hr : r = .fitted ∨ r = .atLimit) : passSweepEnded r s = onwardFrom k s := by
  have hsegment : s.segment = some g := by simp only [State.segment, hc, hg]
  rcases hr with rfl | rfl <;> simp only [passSweepEnded, hhand, hsegment, hrunning, hwork, hsweep, and_self, if_true] <;> rfl

theorem passSweepEnded_fails {r : SweepResult} (hr : r = .focusFail ∨ r = .timeout ∨ r = .lowContrast) : passSweepEnded r s =
    if g.stopMask.getLsbD 4 then endPass (.stopped .focusFail k) (focusFailed c k s) else onwardFrom k (focusFailed c k s) := by
  have hsegment : s.segment = some g := by simp only [State.segment, hc, hg]
  rcases hr with rfl | rfl | rfl <;>
    simp only [passSweepEnded, hhand, hsegment, hrunning, hwork, hsweep, and_self, if_true, countFault_focus hc] <;> rfl

theorem passSweepEnded_endOfFilm : passSweepEnded .endOfFilm s =
    endSegment { s with pass := { s.pass with frameInHand := none, work := .seeking } } := by
  have hsegment : s.segment = some g := by simp only [State.segment, hc, hg]
  simp only [passSweepEnded, hhand, hsegment, hrunning, hwork, hsweep, and_self, if_true]

end

/-! ### A masked fault ends the pass at rest (R152, R156) -/

theorem finishPass_masked {l : Link} {c k : Nat} {cls : FaultClass} {s : State} (howner : s.pass.owner = some l)
    (hc : s.pass.current = some c) (halone : HeldAlone c k s) :
    finishPass (.stopped cls k) s = passEnded l c (.stopped cls k) .stopped s := by
  have hheld : ∀ i, s.segmentHolding k = some i → i = c - 1 := fun i hi => by
    obtain ⟨hlt, hholds, -⟩ := List.findIdx?_eq_some_iff_getElem.mp hi
    by_contra hne
    refine halone i hlt hne ?_
    cases hlast : s.pass.program[i].last <;> simpa [Segment.holds, hlast] using hholds
  have hstop : stopHolding (.stopped cls k) (onOutcome (c - 1) (fun r => { r with state := .stopped }) s) =
      onOutcome (c - 1) (fun r => { r with state := .stopped }) s := by
    have hsame : (onOutcome (c - 1) (fun r => { r with state := .stopped }) s).segmentHolding k = s.segmentHolding k := rfl
    simp only [stopHolding, hsame]
    cases hi : s.segmentHolding k with
    | none => rfl
    | some i =>
      obtain rfl := hheld i hi
      simp only [onOutcome, List.modify_modify_eq]
      rfl
  simp only [finishPass, howner, hc, Option.getD_some, PassOutcome.segState, hstop]
  cases l <;> rfl

/-- A pass that ends in PARKED gives the transport back, with nothing else to do (R126). -/
theorem endPass_rests {l : Link} {c : Nat} {o : PassOutcome} {x : SegState} {s : State} (hq : Quiet s) (howner : s.pass.owner = some l)
    (hfinish : finishPass o s = passEnded l c o x s) (hgrant : s.sched.grant = .pass) (hparked : s.transport.state = .parked)
    (hmove : s.transport.move = none) (hholder : s.transport.holder = none) (hsweep : s.sweep.active = none)
    (hlevel : s.tracker.level ≠ .lost) (hrest : ∀ y ∈ s.slots, y.resting = true) :
    ComesTo 1 (endPass o s) (passEnded l c o x (grantEnded s)) := by
  have hsame : grantEnded (passEnded l c o x s) = passEnded l c o x (grantEnded s) := by cases l <;> rfl
  have hwork : NoWork (passEnded l c o x s) := ⟨by simpa using hlevel, by simpa using hrest, by simpa using hsweep, by simp [State.passActive]⟩
  obtain ⟨hend, hleads⟩ := leads_grantEnded (s := passEnded l c o x s) (passEnded_quiet l c o x s hq) (by simpa using hparked) hwork
  rw [endPass_eq howner, hfinish, ownSweepLeft_none (by simp [hsweep]),
    moveReleased_parked (by simp [hholder]) (by simpa using hgrant) (by simpa using hparked) (by simpa using hmove), hend, hsame]
  rw [hsame] at hleads
  exact comesTo_facing hleads (.inr (hsame ▸ hwork))

/-! ### The sweep of a frame begins (R107, R108) -/

/-- The record of a sweep of the pass (R107). -/
def passSweepAt (l : Link) (k h z : Nat) (s : State) : SweepRecord :=
  { state := .travelling, origin := .pass, id := nextSweepId s.sweep.counter, link := l, frame := k, centre := none, halfWidth := h,
    stepSize := z, store := true, points := [], scores := [], current := 0 }

theorem startPassSweep_ready {l : Link} {g : Segment} {k n h z : Nat} {s : State} (howner : s.pass.owner = some l)
    (hpolicy : g.policy = .sweep n h z) (hready : s.focus.status = .ready) (hparked : s.transport.state = .parked) (hmay : MayMove s)
    (hreach : InReach k s) : startPassSweep g k s = approachBegun k { s with
      pass := { s.pass with frameInHand := some k, work := .sweeping, after := .nothing }
      sweep := { s.sweep with counter := nextSweepId s.sweep.counter, active := some (passSweepAt l k h z s) } } := by
  have hnot : ¬ s.extent < k := by
    have := hreach.2.1
    unfold State.extent
    omega
  have htravel (u : State) (hu : u.sweep.active = some (passSweepAt l k h z s)) (hextent : u.extent = s.extent) :
      travelSweep u = startMove (newMove .frame (some k) 0 none) u := by
    have hsame : onSweep (fun y => { y with state := .travelling }) u = u := by
      have hmap : (u.sweep.active.map fun y => { y with state := .travelling }) = u.sweep.active := by rw [hu]; rfl
      simp only [onSweep, hmap]
    simp only [travelSweep, hu, passSweepAt, hextent, hnot, if_false, hsame]
  simp only [startPassSweep, howner, Option.getD_some, hpolicy, hready, if_true]
  rw [htravel _ (by rfl) (by rfl)]
  exact startMove_frame hparked hmay hreach

theorem startPassSweep_unready {l : Link} {g : Segment} {k : Nat} {s : State} (hq : Quiet s) (howner : s.pass.owner = some l)
    (hready : s.focus.status ≠ .ready) : startPassSweep g k s = facing [.passSweepDone .focusFail] { s with
      pass := { s.pass with frameInHand := some k, work := .sweeping, after := .nothing }
      sweep := { s.sweep with
        counter := nextSweepId s.sweep.counter
        last := some
          { id := nextSweepId s.sweep.counter, frame := k, link := l, result := .focusFail, step := none, quality := none,
            store := .notStored, scores := [], timedOutPoint := none } } } := by
  have htodo : s.todo = [] := hq
  simp [startPassSweep, howner, hready, emit, facing, htodo]

/-! ### Runs and discovery (R143, R148, R151) -/

/-- The gate coordinate of a frame, predicted from entry E beyond the index (R148). -/
def runCoord (k : Nat) (s : State) : Nat :=
  let E := s.index.entries.length
  if k ≤ E then s.pos k + s.roll.active.gateOffset
  else if E = 0 then s.roll.active.leader + s.roll.active.gateOffset
  else s.pos E + ((k - E) * s.index.pitchQ + 8) / 16 + s.roll.active.gateOffset

/-- A run towards frame k begins, two pitches before it. -/
def runBegun (k : Nat) (p : Pass) (s : State) : State :=
  moveBegun (newMove .flyRun none (runCoord k s - 2 * ((s.index.pitchQ + 8) / 16)) none)
    (flyLegs (runCoord k s - 2 * ((s.index.pitchQ + 8) / 16)) none s)
    { s with pass := { p with work := .runningFly, armed := none, frameInHand := none, after := .nothing } }

theorem flyStart_runs {g : Segment} {r k : Nat} {p : Pass} {s : State} (hr : s.pass.resume = some r) (hparked : s.transport.state = .parked)
    (hmay : MayMove s) (hends : ¬ ((∃ n ∈ g.last, n < r) ∨ (s.index.entries.length < g.first ∧ s.index.closure ≠ none)))
    (h : if g.action = .indexOnly then k = r ∧ p = { s.pass with judgedUpTo := r - 1 }
      else judgeNext g s = { s with pass := p } ∧ k = p.next.getD (max r (s.index.entries.length + 1))) : flyStart g s = runBegun k p s := by
  have hpast : ¬ (g.past r = true ∨ (s.extent < g.first ∧ s.indexOpen = false)) := by
    refine fun hor => hends (hor.imp (fun hp => ?_) fun ⟨hfirst, hclosed⟩ => ⟨hfirst, by simpa [State.indexOpen, Option.isSome_iff_ne_none] using hclosed⟩)
    cases hlast : g.last <;> simp_all [Segment.past]
  by_cases hindexOnly : g.action = .indexOnly
  · rw [if_pos hindexOnly] at h
    obtain ⟨rfl, rfl⟩ := h
    simp only [flyStart, hr, Option.getD_some, hpast, if_false, hindexOnly, if_true]
    exact startMove_fly hparked hmay
  · rw [if_neg hindexOnly] at h
    obtain ⟨hjudged, rfl⟩ := h
    simp only [flyStart, hr, Option.getD_some, hpast, if_false, hindexOnly, hjudged]
    cases hnext : p.next <;> exact startMove_fly hparked hmay

/-- The segment ends where its last frame is behind the resume frame, or its span beyond a CLOSED index (R148, log 44). -/
theorem flyStart_ends {g : Segment} {r : Nat} {s : State} (hq : Quiet s) (hr : s.pass.resume = some r)
    (hends : (∃ n ∈ g.last, n < r) ∨ (s.index.entries.length < g.first ∧ s.index.closure ≠ none)) :
    flyStart g s = facing [.segmentEnd] s := by
  have hpast : g.past r = true ∨ (s.extent < g.first ∧ s.indexOpen = false) := by
    rcases hends with ⟨n, hn, hlt⟩ | ⟨hfirst, hclosed⟩
    · exact .inl (by simp [Segment.past, Option.mem_def.mp hn, hlt])
    · exact .inr ⟨hfirst, by simpa [State.indexOpen, Option.isSome_iff_ne_none] using hclosed⟩
  have htodo : s.todo = [] := hq
  simp only [flyStart, hr, Option.getD_some, hpast, if_true]
  exact emit_eq_facing _ htodo

/-- The pass has looked over the whole index and found no frame. -/
def lookedOver (g : Segment) (s : State) : Pass :=
  { s.pass with judgedUpTo := max s.pass.judgedUpTo (min (g.last.getD s.index.entries.length) s.index.entries.length) }

section
variable {g : Segment} {r : Nat} {s : State} (hq : Quiet s) (hr : s.pass.resume = some r) (hhand : s.pass.frameInHand = none)
  (hexhausted : exhaustedFrom r g s)

include hq hr hhand hexhausted

theorem stepNext_exhausted : stepNext g s =
    if (∀ n ∈ g.last, s.index.entries.length < n ∧ r ≤ n) ∧ s.index.closure = none then
      startMove (newMove .discover none 0 none) { s with pass := { lookedOver g s with work := .seeking } }
    else facing [.segmentEnd] s := by
  have hjudged : judgeNext g s = { s with pass := lookedOver g s } := judgeNext_exhausted hr hexhausted
  have hnext : (lookedOver g s).next = none := (next_eq hr).trans hexhausted.1
  have hgoes : (State.spanBeyond { s with pass := lookedOver g s } g = true ∧ g.past ((lookedOver g s).resume.getD 1) = false ∧
      State.indexOpen { s with pass := lookedOver g s } = true) ↔
      (∀ n ∈ g.last, s.index.entries.length < n ∧ r ≤ n) ∧ s.index.closure = none := by
    have hresume : (lookedOver g s).resume = some r := hr
    cases hlast : g.last with
    | none => simp [State.spanBeyond, Segment.past, State.indexOpen, hlast]
    | some n =>
      simp only [State.spanBeyond, Segment.past, State.indexOpen, State.extent, hlast, hresume, Option.getD_some,
        decide_eq_false_iff_not, Nat.not_lt, Option.mem_some, Option.isNone_iff_eq_none, and_assoc, forall_eq']
      exact and_congr_left' decide_eq_true_iff
  simp only [stepNext, hhand, hjudged, hnext, hgoes]
  split_ifs
  · rfl
  · exact emit_eq_facing _ hq

end

/-! ### The end of a segment at rest (R156) -/

/-- The last segment ends the pass COMPLETED. -/
theorem endSegment_completes {l : Link} {c : Nat} {s : State} (hq : Quiet s) (howner : s.pass.owner = some l)
    (hrunning : s.pass.state = .running) (hc : s.pass.current = some c) (hcount : s.pass.segmentCount = some c) (hgrant : s.sched.grant = .pass)
    (hparked : s.transport.state = .parked) (hmove : s.transport.move = none) (hholder : s.transport.holder = none)
    (hsweep : s.sweep.active = none) (hlevel : s.tracker.level ≠ .lost) (hrest : ∀ y ∈ s.slots, y.resting = true) :
    ComesTo 1 (endSegment s) (passEnded l c .completed .done (grantEnded s)) := by
  have hfinish : finishPass .completed s = passEnded l c .completed .done s := by
    rw [finishPass_plain howner (by simp), hc]
    rfl
  have hends : endSegment s = endPass .completed s := by simp only [endSegment, hc, hcount, hrunning, le_refl, if_true]
  rw [hends]
  exact endPass_rests hq howner hfinish hgrant hparked hmove hholder hsweep hlevel hrest

/-- An ended segment's record does not depend on its having begun. -/
theorem passEnded_begun {l : Link} {c : Nat} {o : PassOutcome} {x : SegState} {s : State} :
    passEnded l c o x (grantEnded (segmentBegun c s)) = passEnded l c o x (grantEnded s) := by
  have hsame : (s.pass.outcomes.modify (c - 1) (fun y => { y with state := if y.state = .notRun then .running else y.state })).modify (c - 1)
      (fun y => { y with state := x }) = s.pass.outcomes.modify (c - 1) (fun y => { y with state := x }) := by
    rw [List.modify_modify_eq]
    rfl
  cases l <;> simp only [passEnded, segmentBegun, begunIn, grantEnded, hsame] <;> rfl

/-- The sweep of the frame in hand has ended FOCUS_FAIL at once (R107, log 12). -/
def sweepFailed (l : Link) (c r k : Nat) (g : Segment) (s : State) : State :=
  focusFailed c k { s with
    pass := { takenInHand c r k g s with work := .sweeping, after := .nothing }
    sweep := { s.sweep with
      counter := nextSweepId s.sweep.counter
      last := some
        { id := nextSweepId s.sweep.counter, frame := k, link := l, result := .focusFail, step := none, quality := none,
          store := .notStored, scores := [], timedOutPoint := none } } }

/-! ### How a pass goes on -/

section
variable {l : Link} {c r : Nat} {g : Segment} {s : State} {go : State → Prop} (h : PassAtRest l c r g s)
  (hgo : ∀ n t, ComesTo n (goOn g (segmentBegun c s)) t → n ≤ 20 → go t)

include hgo

omit h in
theorem goes_at_once {t : State} (ht : ComesTo 0 t t) (hon : goOn g (segmentBegun c s) = t) : go t :=
  hgo 0 t (hon ▸ ht) (by omega)

include h

theorem goes_completed (hcount : s.pass.segmentCount = some c) (hrest : ∀ x ∈ s.slots, x.resting = true)
    (hon : goOn g (segmentBegun c s) = facing [.segmentEnd] (segmentBegun c s)) : go (passEnded l c .completed .done (grantEnded s)) := by
  have hb := h.begun
  have hends := endSegment_completes hb.quiet hb.owner hb.running hb.current hcount hb.grant hb.parked hb.may.1 hb.holder hb.sweep
    hb.may.2.1 hrest
  rw [passEnded_begun] at hends
  refine hgo 2 _ ?_ (by omega)
  rw [hon]
  exact ComesTo.next hb.quiet (if_pos hb.parked) hends

omit hgo in
theorem goOn_takes {k : Nat} (hsteps : inSteps g s) (hk : FoundNext r g s k) :
    goOn g (segmentBegun c s) = workOnFrame g k (withInHand c r k g s) :=
  (goOn_steps (s := segmentBegun c s) hsteps).trans (stepNext_begun h.current h.resume h.inHand hk)

/-! In STEP the next frame is in hand. -/

section
variable {k : Nat} (hsteps : inSteps g s) (hk : FoundNext r g s k)
  (hreach : s.pos k + s.roll.active.gateOffset ≤ 16777215 - s.params.arriveTol)

include hk hreach in
omit hgo in
theorem inReach_found : InReach k (withInHand c r k g s) := ⟨h.low.trans hk.le.1, hk.le.2, hreach⟩

include hsteps hk hreach

theorem goes_approaching (hdue : k ∉ (takenInHand c r k g s).sweepOwed) :
    go (approachBegun k { s with pass := { takenInHand c r k g s with work := .approaching, visitedInHand := false } }) := by
  refine goes_at_once hgo (moveBegun_comes h.quiet (by simp [h.grant])) ((goOn_takes h hsteps hk).trans ?_)
  have hnot : sweepDue (withInHand c r k g s) k = false := by simpa [sweepDue, withInHand] using hdue
  unfold workOnFrame
  rw [hnot]
  exact startMove_frame h.parked h.may (inReach_found h hk hreach)

variable {n w z : Nat} (hpolicy : g.policy = .sweep n w z) (hdue : k ∈ (takenInHand c r k g s).sweepOwed)

include hpolicy hdue

omit hgo hreach hpolicy in
theorem goOn_sweeps : goOn g (segmentBegun c s) = startPassSweep g k (withInHand c r k g s) := by
  rw [goOn_takes h hsteps hk]
  exact if_pos (by simpa [sweepDue, withInHand] using hdue)

omit hgo hsteps hk hreach hpolicy hdue in
theorem withInHand_owner : (withInHand c r k g s).pass.owner = some l := by simpa [withInHand, takenInHand, begunIn] using h.owner

theorem goes_sweeping (hready : s.focus.status = .ready) : go (approachBegun k { s with
    pass := { takenInHand c r k g s with work := .sweeping, after := .nothing }
    sweep := { s.sweep with counter := nextSweepId s.sweep.counter, active := some (passSweepAt l k w z s) } }) :=
  goes_at_once hgo (moveBegun_comes h.quiet (by simp [h.grant])) ((goOn_sweeps h hsteps hk hdue).trans
    (startPassSweep_ready (withInHand_owner h) hpolicy hready h.parked h.may (inReach_found h hk hreach)))

omit hgo hreach hpolicy in
theorem goOn_sweep_fails (hready : s.focus.status ≠ .ready) :
    ∃ u, Quiet u ∧ goOn g (segmentBegun c s) = facing [.passSweepDone .focusFail] u ∧
      handle (.passSweepDone .focusFail) u =
        if g.stopMask.getLsbD 4 then endPass (.stopped .focusFail k) (sweepFailed l c r k g s) else onwardFrom k (sweepFailed l c r k g s) := by
  have howner := withInHand_owner (k := k) h
  refine ⟨_, ?_, (goOn_sweeps h hsteps hk hdue).trans (startPassSweep_unready h.quiet howner hready), ?_⟩
  · exact h.quiet
  refine passSweepEnded_fails (k := k) (s := { withInHand c r k g s with
    pass := { (withInHand c r k g s).pass with frameInHand := some k, work := .sweeping, after := .nothing }
    sweep := { s.sweep with
      counter := nextSweepId s.sweep.counter
      last := some
        { id := nextSweepId s.sweep.counter, frame := k, link := l, result := .focusFail, step := none, quality := none,
          store := .notStored, scores := [], timedOutPoint := none } } }) ?_ rfl h.sweep rfl ?_ ?_ (.inl rfl)
  · simpa [withInHand, takenInHand, begunIn] using h.running
  · simpa [withInHand, takenInHand, begunIn] using h.current
  · simpa [withInHand, takenInHand, begunIn] using h.segment

omit hpolicy in
theorem goes_unready (hready : s.focus.status ≠ .ready) :
    let noted := sweepFailed l c r k g s
    (g.stopMask.getLsbD 4 = false → go (approachBegun k { noted with pass := { noted.pass with
      work := .approaching, visitedInHand := false, sweepOwed := (takenInHand c r k g s).sweepOwed.erase k } })) ∧
    (g.stopMask.getLsbD 4 = true → HeldAlone c k s → (∀ x ∈ s.slots, x.resting = true) →
      go (passEnded l c (.stopped .focusFail k) .stopped (grantEnded noted))) := by
  obtain ⟨u, hu, hon, hends⟩ := goOn_sweep_fails h hsteps hk hdue hready
  have hquiet : Quiet (sweepFailed l c r k g s) := h.quiet
  rw [hon] at hgo
  refine ⟨fun hmask => ?_, fun hmask halone hrest => ?_⟩
  · have happroach : onwardFrom k (sweepFailed l c r k g s) = approachBegun k { sweepFailed l c r k g s with
        pass := { (sweepFailed l c r k g s).pass with
          work := .approaching, visitedInHand := false, sweepOwed := (takenInHand c r k g s).sweepOwed.erase k } } := by
      have hmode : (sweepFailed l c r k g s).pass.mode = some .step := by
        simpa [sweepFailed, focusFailed, takenInHand, begunIn] using hsteps.1
      unfold onwardFrom
      rw [hmode]
      exact startMove_frame h.parked h.may (inReach_found h hk hreach)
    rw [hmask, if_neg (by simp), happroach] at hends
    exact hgo 1 _ (ComesTo.next hu hends (moveBegun_comes hquiet (by simp [sweepFailed, focusFailed, h.grant]))) (by omega)
  · have howner : (sweepFailed l c r k g s).pass.owner = some l := by
      simpa [sweepFailed, focusFailed, takenInHand, begunIn] using h.owner
    have hcurrent : (sweepFailed l c r k g s).pass.current = some c := by
      simpa [sweepFailed, focusFailed, takenInHand, begunIn] using h.current
    have hheld : HeldAlone c k (sweepFailed l c r k g s) := by
      simpa only [HeldAlone, sweepFailed, focusFailed, takenInHand, begunIn, judgedIn_program] using halone
    have hended := endPass_rests (o := .stopped .focusFail k) hquiet howner (finishPass_masked howner hcurrent hheld) h.grant h.parked h.may.1 h.holder h.sweep
      h.may.2.1 hrest
    rw [hmask, if_pos rfl] at hends
    exact hgo 2 _ (ComesTo.next hu hends hended) (by omega)

end

/-! In STEP with no frame left, and in FLY. -/

theorem goes_discovering (hsteps : inSteps g s) (hexhausted : exhaustedFrom r g s)
    (hbeyond : ∀ n ∈ g.last, s.index.entries.length < n ∧ r ≤ n) (hopen : s.index.closure = none) :
    go (discoverBegun { s with pass := { begunIn c (lookedOver g s) with work := .seeking } }) := by
  refine goes_at_once hgo (moveBegun_comes h.quiet (by simp [h.grant])) ((goOn_steps (s := segmentBegun c s) hsteps).trans ?_)
  rw [stepNext_exhausted (s := segmentBegun c s) h.quiet h.resume h.inHand hexhausted, if_pos (by exact ⟨hbeyond, hopen⟩)]
  exact startMove_discover h.parked h.may

theorem goes_running {k : Nat} {p : Pass} (hflies : ¬ inSteps g s) (hends : ¬ segmentEnds r g s)
    (hrun : if g.action = .indexOnly then k = r ∧ p = { s.pass with judgedUpTo := r - 1 }
      else judgeNext g (segmentBegun c s) = { s with pass := begunIn c p } ∧ k = p.next.getD (max r (s.index.entries.length + 1))) :
    go (runBegun k (begunIn c p) s) := by
  refine goes_at_once hgo (moveBegun_comes h.quiet (by simp [h.grant])) ((h.begun.goOn_flies hflies).trans ?_)
  refine flyStart_runs (s := segmentBegun c s) h.resume h.parked h.may (fun hor => hends (.inr ⟨hflies, hor⟩)) ?_
  split_ifs at hrun ⊢
  · obtain ⟨hk, rfl⟩ := hrun
    exact ⟨hk, rfl⟩
  · exact hrun

omit hgo in
theorem goOn_ends (hends : segmentEnds r g s) : goOn g (segmentBegun c s) = facing [.segmentEnd] (segmentBegun c s) := by
  have hb := h.begun
  rcases hends with ⟨hsteps, hexhausted, hover⟩ | ⟨hflies, hend⟩
  · rw [goOn_steps (s := segmentBegun c s) hsteps, stepNext_exhausted (s := segmentBegun c s) h.quiet h.resume h.inHand hexhausted,
      if_neg (by exact hover)]
  · exact (hb.goOn_flies hflies).trans (flyStart_ends hb.quiet hb.resume hend)

theorem goes_running_found {k : Nat} (hflies : ¬ inSteps g s) (hends : ¬ segmentEnds r g s) (hselects : g.action ≠ .indexOnly)
    (hk : FoundNext r g s k) : go (runBegun k (begunIn c (judgedIn r k s)) s) := by
  obtain ⟨hjudged, hnext⟩ := judgeNext_judged (s := segmentBegun c s) h.resume hk
  rw [judgedIn_begun] at hjudged
  rw [hjudged] at hnext
  refine goes_running h hgo hflies hends ?_
  rw [if_neg hselects]
  exact ⟨hjudged, by rw [show (judgedIn r k s).next = some k from hnext]; rfl⟩

theorem goes_running_on (hflies : ¬ inSteps g s) (hends : ¬ segmentEnds r g s) (hselects : g.action ≠ .indexOnly)
    (hexhausted : exhaustedFrom r g s) : go (runBegun (max r (s.index.entries.length + 1)) (begunIn c (lookedOver g s)) s) := by
  refine goes_running h hgo hflies hends ?_
  rw [if_neg hselects]
  refine ⟨judgeNext_exhausted (s := segmentBegun c s) h.resume hexhausted, ?_⟩
  rw [show (lookedOver g s).next = none from (next_eq h.resume).trans hexhausted.1]
  rfl

theorem passGoesOn_of : PassGoesOn l c r g s go := by
  refine ⟨fun k hsteps hk hreach => ?_, fun hsteps hexhausted => goes_discovering h hgo hsteps hexhausted, fun hflies hends => ⟨fun hindexOnly => ?_,
    fun k hselects => goes_running_found h hgo hflies hends hselects, goes_running_on h hgo hflies hends⟩,
    fun hends hcount hrest => goes_completed h hgo hcount hrest (goOn_ends h hends)⟩
  · exact ⟨goes_approaching h hgo hsteps hk hreach, fun n w z hpolicy hdue =>
      ⟨goes_sweeping h hgo hsteps hk hreach hpolicy hdue, goes_unready h hgo hsteps hk hreach hdue⟩⟩
  · exact goes_running h hgo hflies hends (by rw [if_pos hindexOnly]; exact ⟨rfl, rfl⟩)

end

end Sys2Proof.Machine
end

section
/-! PROOFS. How a pass goes on past the end of a segment (R156), and where a move of its own has ended (R51, R142). -/

namespace Sys2Proof.Machine

open Sys2Proof

/-! ### The next segment is taken (R156) -/

/-- A pass that holds the transport in PARKED at the end of its segment c. -/
structure SegmentOver (l : Link) (c : Nat) (s : State) : Prop where
  quiet : Quiet s
  owner : s.pass.owner = some l
  running : s.pass.state = .running
  grant : s.sched.grant = .pass
  parked : s.transport.state = .parked
  move : s.transport.move = none
  holder : s.transport.holder = none
  current : s.pass.current = some c
  sweep : s.sweep.active = none
  mode : s.pass.mode ≠ none
  level : s.tracker.level ≠ .lost

/-- How a pass goes on does not depend on the work it did. -/
theorem passGoesOn_work {l : Link} {c r : Nat} {g : Segment} {s : State} {go : State → Prop} (w : Work)
    (h : PassGoesOn l c r g { s with pass := { s.pass with work := w } } go) : PassGoesOn l c r g s go := by
  have hsame : rememberedFrom r { s with pass := { s.pass with work := w } } = rememberedFrom r s := rfl
  unfold PassGoesOn at h ⊢
  by_cases hnone : rememberedFrom r s = none <;> simp only [hsame, hnone, if_true, if_false] at h ⊢ <;> exact h

theorem decideBoundary_unasked {s : State} (h : Unasked s) : decideBoundary s = .goOn := by
  obtain ⟨hpending, hasked, -, hyield⟩ := h
  have hperiodic : ¬ (s.pass.yieldInterval ≠ 0 ∧ s.pass.yieldInterval ≤ s.pass.framesSinceYield ∧ s.normalPending = true) := by
    rintro ⟨hinterval, -, hnormal⟩
    obtain hzero | hnone := hyield
    · exact hinterval hzero
    · obtain ⟨x, hx, hwaits⟩ := List.any_eq_true.mp hnormal
      simp [hnone x hx] at hwaits
  simp [decideBoundary, hpending, hasked, hperiodic]

theorem yieldDue_unasked {s : State} (h : Unasked s) : yieldDue s = s := by
  obtain ⟨-, hasked, hlater, -⟩ := h
  calc yieldDue s = { s with pass := { s.pass with yieldAsked := s.pass.yieldAsked, yieldLater := s.pass.yieldLater } } := by
        simp only [yieldDue, hasked, hlater, Bool.or_false]
    _ = s := rfl

/-- The pass stands at the beginning of its next segment. -/
def nextTaken (c : Nat) (g : Segment) (s : State) : State :=
  { nextSegment c g s with pass := { (nextSegment c g s).pass with work := .seeking } }

section
variable {l : Link} {c n : Nat} {g : Segment} {s : State} (h : SegmentOver l c s) (hcount : s.pass.segmentCount = some n)
  (hmore : c < n) (hg : s.pass.program[c]? = some g)

include h hg in
theorem SegmentOver.next (hlow : 1 ≤ g.first) (hmay : MayMove s) : PassAtRest l (c + 1) g.first g (nextTaken c g s) :=
  { quiet := h.quiet, owner := h.owner, running := h.running, grant := h.grant, parked := h.parked, holder := h.holder, current := rfl,
    segment := hg, resume := rfl, low := hlow, inHand := rfl, sweep := h.sweep, mode := h.mode, may := hmay }

include h hcount hmore hg

theorem endSegment_next (hunasked : Unasked s) : endSegment s = facing [.passGo] (segmentBegun (c + 1) (nextTaken c g s)) := by
  have hplace : s.place = c - 1 := by simp [State.place, h.current]
  have hnot : ¬ n ≤ c := by omega
  have hdone : endSegment s = (if passMoving (segmentBegun (c + 1) (nextTaken c g s)) then stopThen .goOn (segmentBegun (c + 1) (nextTaken c g s))
      else takeBoundary (emit .passGo) (segmentBegun (c + 1) (nextTaken c g s))) := by
    have hdue : yieldDue (nextTaken c g s) = nextTaken c g s := yieldDue_unasked (s := nextTaken c g s) hunasked
    rw [← beginSegment_eq (s := nextTaken c g s) rfl, ← hdue]
    simp only [endSegment, h.current, hcount, h.running, hnot, if_true, if_false, hplace]
    simp only [onOutcome, hg, Option.map_some]
    rfl
  have hstill : passMoving (segmentBegun (c + 1) (nextTaken c g s)) = false := by
    simp [passMoving, segmentBegun, nextTaken, nextSegment, h.move]
  have hgoes : decideBoundary (segmentBegun (c + 1) (nextTaken c g s)) = .goOn := decideBoundary_unasked (by exact hunasked)
  rw [hdone, hstill]
  simp only [takeBoundary, hgoes]
  exact emit_eq_facing _ h.quiet

end

theorem comesTo_passGo {l : Link} {c r n : Nat} {g : Segment} {s t : State} (h : PassAtRest l c r g s)
    (hon : ComesTo n (goOn g (segmentBegun c s)) t) : ComesTo (n + 1) (facing [.passGo] s) t :=
  ComesTo.next h.quiet h.goPass hon

theorem segmentPassed_of {l : Link} {c : Nat} {s : State} {go : State → Prop} (h : SegmentOver l c s)
    (hgo : ∀ n t, ComesTo n (endSegment s) t → n ≤ 21 → go t) : SegmentPassed l c s go := by
  refine ⟨fun hcount hrest => ?_, fun n g hcount hmore hg hlow hunasked hmay => ?_⟩
  · exact hgo 1 _ (endSegment_completes h.quiet h.owner h.running h.current hcount h.grant h.parked h.move h.holder h.sweep h.level hrest) (by omega)
  · have hnext := h.next hg hlow hmay
    refine passGoesOn_work .seeking (passGoesOn_of hnext fun m t hon hm => hgo (m + 1) t ?_ (by omega))
    rw [endSegment_next h hcount hmore hg hunasked]
    exact comesTo_passGo hnext.begun (by rw [segmentBegun_twice]; exact hon)

theorem nextSegment_begun (c : Nat) (g : Segment) (s : State) : nextSegment c g (segmentBegun c s) = nextSegment c g s := by
  have hsame : (s.pass.outcomes.modify (c - 1) (fun y => { y with state := if y.state = .notRun then .running else y.state })).modify (c - 1)
      (fun y => { y with state := .done }) = s.pass.outcomes.modify (c - 1) (fun y => { y with state := .done }) := by
    rw [List.modify_modify_eq]
    rfl
  simp only [nextSegment, segmentBegun, begunIn, hsame]

/-- What follows from the end of a segment does not depend on its record having begun. -/
theorem segmentPassed_begun {l : Link} {c : Nat} {s : State} {go : State → Prop} (h : SegmentPassed l c (segmentBegun c s) go) :
    SegmentPassed l c s go := by
  obtain ⟨hlast, hnext⟩ := h
  refine ⟨fun hcount hrest => ?_, fun n g hcount hmore hg hlow hunasked hmay => ?_⟩
  · rw [← passEnded_begun]
    exact hlast hcount hrest
  · rw [← nextSegment_begun]
    exact hnext n g hcount hmore hg hlow hunasked hmay

theorem PassAtRest.over {l : Link} {c r : Nat} {g : Segment} {s : State} (h : PassAtRest l c r g s) : SegmentOver l c s :=
  ⟨h.quiet, h.owner, h.running, h.grant, h.parked, h.may.1, h.holder, h.current, h.sweep, h.mode, h.may.2.1⟩

/-- A segment with nothing left ends where the pass goes on. -/
theorem segmentPassed_at_rest {l : Link} {c r : Nat} {g : Segment} {s : State} {go : State → Prop} (h : PassAtRest l c r g s)
    (hgo : ∀ n t, ComesTo n (goOn g (segmentBegun c s)) t → n ≤ 22 → go t) (hends : segmentEnds r g s) : SegmentPassed l c s go := by
  refine segmentPassed_begun (segmentPassed_of h.begun.over fun n t ht hn => hgo (n + 1) t ?_ (by omega))
  rw [goOn_ends h hends]
  exact ComesTo.next h.quiet (if_pos h.parked) ht

/-! ### The grant begins, and the move of the pass ends at rest (R50, R51) -/

theorem exec_tension_granted {n : Nat} {s t : State} (hq : Quiet s) (hwaking : s.transport.state = .waking) (htimer : s.roll.tensionTimer ≠ none)
    (hgrant : s.sched.grant ≠ .none) (hlamp : s.lamp.state ≠ .off) (hbegun : ComesTo n (beginGrant (awake s)) t) (hn : n ≤ 90) :
    exec .tensionTimerExpiry s = .next t := by
  have hbegins : ComesTo (n + 1) (facing [.beginGrant] (awake s)) t := ComesTo.next (by exact hq) rfl hbegun
  refine takes_next (new := [.choose, .beginGrant]) (z := awake s) ?_ (Leads.skip (n := n + 1) ?_ hbegins.1) (by omega)
  · rw [if_pos (Option.isSome_iff_ne_none.mpr htimer), tensionExpired_held hq hwaking hgrant hlamp]
  · rw [facing_nil (by exact hq)]
    exact choose_at_ease _ (.inl hgrant)

theorem exec_rest_hands {m : Move} {o : MoveOutcome} {n : Nat} {s t : State} (hq : Quiet s) (hm : s.transport.move = some m)
    (hstate : s.transport.state = .moving) (hrest : m.atRest = some (.finish o)) (hlamp : s.lamp.state ≠ .off)
    (hgrant : s.sched.grant ≠ .none)
    (hfirst : (m.purpose = .discover ∨ m.purpose = .flyRun) ∧ (o = .arrived ∨ o = .stopped) → m.attempts = 0) (hdone : ComesTo n (moveDone o (moveEnded s)) t) (hn : n ≤ 90) :
    exec .filmAtRest s = .next t := by
  refine exec_filmAtRest (n := n + 1 + 1) hm (.inl hstate) hrest
    (finishMove_granted (s := filmStill s) hq hm hlamp hgrant hfirst) ?_ (by omega)
  refine Leads.cons (new := (moveDone o (moveEnded s)).todo) (u := moveDone o (moveEnded s)) ?_
    (hdone.1.append (leads_idle hdone.1.2 (idle_choose hdone.2)))
  show moveDone o (facing [] _) = _
  rw [facing_nil (by exact hq)]
  rfl

theorem comesTo_grantEnded {s : State} (hq : Quiet s) (hparked : s.transport.state = .parked) (hwork : NoWork s) :
    ComesTo 1 (endGrant s) (grantEnded s) := by
  obtain ⟨hend, hleads⟩ := leads_grantEnded hq hparked hwork
  rw [hend]
  exact comesTo_facing hleads (.inr hwork)

/-! ### A granted pass finds its work -/

theorem beginGrant_pass {s : State} (hq : Quiet s) (hgrant : s.sched.grant = .pass) (hparked : s.transport.state = .parked)
    (hmove : s.transport.move = none) : beginGrant s = facing [.passGo] s := by
  simp only [beginGrant, hparked, hmove, hgrant, and_self, if_true]
  exact emit_eq_facing _ hq

theorem passGoes_held {l : Link} {c r : Nat} {g : Segment} {s : State} (hwaking : s.transport.state = .waking)
    (htimer : s.roll.tensionTimer ≠ none) (hlamp : s.lamp.state ≠ .off) (h : PassAtRest l c r g (awake s)) :
    let go := fun t => exec .tensionTimerExpiry s = .next t
    PassGoesOn l c r g (awake s) go ∧ (segmentEnds r g (awake s) → SegmentPassed l c (awake s) go) := by
  have hgo (n : Nat) (t : State) (ht : ComesTo n (goOn g (segmentBegun c (awake s))) t) (hn : n ≤ 22) :
      exec .tensionTimerExpiry s = .next t := by
    refine exec_tension_granted h.quiet hwaking htimer ?_ hlamp (n := n + 1) ?_ (by omega)
    · simp [show s.sched.grant = .pass from h.grant]
    · rw [beginGrant_pass h.quiet h.grant rfl h.may.1]
      exact comesTo_passGo h ht
  exact ⟨passGoesOn_of h fun n t ht hn => hgo n t ht (by omega), segmentPassed_at_rest h hgo⟩

/-! At the outcomes of its moves. -/

/-- The pass has stopped and seeks again. -/
def seekingAgain (s : State) : State := { s with pass := { s.pass with after := .nothing, work := .seeking } }

section
variable {s : State} (hq : Quiet s) (hunasked : Unasked s)

include hunasked in
theorem takeBoundary_seeking (f : State → State) : takeBoundary f (seekingAgain s) = f (seekingAgain s) := by
  have hgoes : decideBoundary (seekingAgain s) = .goOn := decideBoundary_unasked (by exact hunasked)
  simp only [takeBoundary, hgoes]

include hq hunasked in
theorem passStopped_goes (hafter : s.pass.after = .lookAgain ∨ s.pass.after = .goOn ∨ (s.pass.after = .awaitLamp ∧ s.lamp.state = .on)) :
    passStopped s = facing [.passGo] (seekingAgain s) := by
  rcases hafter with h | h | ⟨h, hlamp⟩ <;> simp only [passStopped, h]
  · exact (takeBoundary_seeking hunasked _).trans (emit_eq_facing _ hq)
  · exact (takeBoundary_seeking hunasked _).trans (emit_eq_facing _ hq)
  · exact (takeBoundary_seeking hunasked _).trans ((if_pos hlamp).trans (emit_eq_facing _ hq))

include hunasked in
theorem passStopped_waits (hafter : s.pass.after = .awaitLamp) (hlamp : s.lamp.state ≠ .on) :
    passStopped s = { s with pass := { s.pass with work := .none, after := .awaitLamp } } := by
  simp only [passStopped, hafter]
  exact (takeBoundary_seeking hunasked _).trans (if_neg hlamp)

include hunasked in
theorem passStopped_sweeps {k : Nat} {g : Segment} (hafter : s.pass.after = .sweepAt k) (hsegment : s.segment = some g) :
    passStopped s = startPassSweep g k (seekingAgain s) := by
  simp only [passStopped, hafter, hsegment]
  exact takeBoundary_seeking hunasked _

omit hunasked in
theorem passStopped_gives {x : GiveUp} (hafter : s.pass.after = .giveUp x) (hpending : s.pass.pending = .suspend)
    (hgrant : s.sched.grant = .pass) (hmove : s.transport.move = none) :
    passStopped s = endGrant { s with pass := { s.pass with
      state := .suspended, pending := .none, framesSinceYield := 0, yieldAsked := false, yieldLater := false, work := .none,
      after := .nothing, armed := none } } := by
  have hdecides : decideBoundary { s with pass := { s.pass with after := .nothing } } = .giveUp .suspend := by
    simp [decideBoundary, hpending]
  simp only [passStopped, hafter, hdecides]
  exact if_pos ⟨hgrant, hmove⟩

/-- The pass has lost the transport, its frames to be judged anew (R142, log 62). -/
def passDropped (s : State) : State :=
  { s with pass := { s.pass with
      work := .none, armed := none, after := .nothing, yieldAsked := false, yieldLater := false
      judgedUpTo := s.pass.frameInHand.getD (s.pass.resume.getD 1 - 1), chosen := s.pass.frameInHand.toList } }

omit hunasked in
theorem passLost_drops (hpending : s.pass.pending = .none) : passLost s = endGrant (passDropped s) := by
  have hagain : judgeAgain { s with pass := { s.pass with work := .none, armed := none, after := .nothing, yieldAsked := false, yieldLater := false } } =
      passDropped s := by
    cases hhand : s.pass.frameInHand <;> simp only [judgeAgain, passDropped, hhand] <;> rfl
  simp only [passLost, hagain]
  refine if_pos ?_
  exact hpending

end

section
variable {l : Link} {c : Nat} {g : Segment} {m : Move} {s : State} (hq : Quiet s) (hstate : s.transport.state = .moving)
  (hm : s.transport.move = some m) (hfirst : m.attempts = 0) (hgrant : s.sched.grant = .pass) (hrunning : s.pass.state = .running)
  (howner : s.pass.owner = some l) (hcurrent : s.pass.current = some c) (hsegment : s.pass.program[c - 1]? = some g)
  (hmode : s.pass.mode ≠ none) (hsweep : s.sweep.active = none) (hlamp : s.lamp.state ≠ .off) (hholder : s.transport.holder = none)

include hq hstate hm hfirst hgrant hlamp in
theorem exec_rest_pass {o : MoveOutcome} {n : Nat} {t : State} (hrest : m.atRest = some (.finish o))
    (hdone : ComesTo n (passMoveDone o (moveEnded s)) t) (hn : n ≤ 90) : exec .filmAtRest s = .next t := by
  refine exec_rest_hands hq hm hstate hrest hlamp (by simp [hgrant]) (fun _ => hfirst) ?_ hn
  have hhanded : moveDone o (moveEnded s) = passMoveDone o (moveEnded s) := by simp [moveDone, moveEnded, hgrant]
  rwa [hhanded]

include hrunning in
theorem passMoveDone_stopped (hwork : s.pass.work = .stopping) : passMoveDone .stopped (moveEnded s) = passStopped (moveEnded s) := by
  have hnot : ¬ ((moveEnded s).pass.state ≠ .running ∨ (moveEnded s).pass.work = .none) := by simp [moveEnded, hrunning, hwork]
  unfold passMoveDone
  rw [if_neg hnot]
  exact if_pos hwork

include hq howner hrunning hgrant hcurrent hsweep hmode hholder in
/-- The pass at rest, its move ended, with this work and this frame in hand. -/
theorem segmentOver_ended {p : Pass} (hlevel : s.tracker.level ≠ .lost) (hp : p.owner = s.pass.owner ∧ p.state = s.pass.state ∧
    p.current = s.pass.current ∧ p.mode = s.pass.mode) : SegmentOver l c { moveEnded s with pass := p } := by
  obtain ⟨hpo, hps, hpc, hpm⟩ := hp
  exact ⟨hq, hpo.trans howner, hps.trans hrunning, hgrant, rfl, rfl, hholder, hpc.trans hcurrent, hsweep, hpm ▸ hmode, hlevel⟩

end

/-- Settles O42, by the way a pass goes on at rest, reached from the tension timer and from the outcomes of its moves. -/
theorem passFindsWork : Obligations.PassFindsWork := by
  unfold Obligations.PassFindsWork
  refine ⟨?_, ?_⟩
  · intro l c r g s hq hwaking htimer hmove hgrant hrunning howner hhand hcurrent hsegment hresume hlow hsweep hlevel hdoor htension hlamp
      hmode hholder
    exact passGoes_held hwaking htimer hlamp
      ⟨hq, howner, hrunning, hgrant, rfl, hholder, hcurrent, hsegment, hresume, hlow, hhand, hsweep, hmode, hmove, hlevel, hdoor, htension⟩
  · intro l c g m s hq hstate hm hfirst hgrant hrunning howner hcurrent hsegment hmode hsweep hlamp hholder
    refine ⟨fun hrest hwork hlevel => ?_, fun hrest hwork hafter hlevel => ?_, fun hrest hwork hnot hpending hlost hdoor htension howed => ?_⟩
    · have hstopped {n : Nat} {t : State} (ht : ComesTo n (passStopped (moveEnded s)) t) (hn : n ≤ 90) : exec .filmAtRest s = .next t :=
        exec_rest_pass hq hstate hm hfirst hgrant hlamp hrest (by rwa [passMoveDone_stopped hrunning hwork]) hn
      refine ⟨fun hafter hunasked hmay hhand r hresume hlow => ?_, fun hafter hdark hunasked => ?_,
        fun k n h z hafter hpolicy hunasked hmay hreach hready => ?_, fun ⟨x, hafter⟩ hpending hrests => ?_⟩
      · have hpass : PassAtRest l c r g (seekingAgain (moveEnded s)) :=
          ⟨hq, howner, hrunning, hgrant, rfl, hholder, hcurrent, hsegment, hresume, hlow, hhand, hsweep, hmode, hmay⟩
        refine passGoesOn_work .seeking (passGoesOn_of hpass fun n t ht hn => hstopped (n := n + 1) ?_ (by omega))
        rw [passStopped_goes (s := moveEnded s) hq hunasked hafter]
        exact comesTo_passGo hpass ht
      · refine hstopped (n := 0) ?_ (by omega)
        rw [passStopped_waits (s := moveEnded s) hunasked hafter hdark]
        exact ComesTo.here hq (by simp [moveEnded, hgrant])
      · refine hstopped (n := 0) ?_ (by omega)
        rw [passStopped_sweeps (s := moveEnded s) (g := g) hunasked hafter (by simp [State.segment, moveEnded, hcurrent, hsegment]),
          startPassSweep_ready (s := seekingAgain (moveEnded s)) howner hpolicy hready rfl hmay hreach]
        exact moveBegun_comes hq (by simp [seekingAgain, moveEnded, hgrant])
      · refine hstopped (n := 1) ?_ (by omega)
        rw [passStopped_gives (s := moveEnded s) hafter hpending hgrant rfl]
        exact comesTo_grantEnded (by exact hq) rfl ⟨hlevel, hrests, hsweep, rfl⟩
    · have hnot : ¬ ((moveEnded s).pass.state ≠ .running ∨ (moveEnded s).pass.work = .none) := by
        rcases hwork with h | h | h | h <;> simp [moveEnded, hrunning, h]
      have hnotSweeping : ¬ (moveEnded s).pass.work = .sweeping := by rcases hwork with h | h | h | h <;> simp [moveEnded, h]
      have hover := segmentOver_ended (p := { s.pass with frameInHand := none, armed := none, after := .nothing }) hq hgrant hrunning howner
        hcurrent hmode hsweep hholder hlevel ⟨rfl, rfl, rfl, rfl⟩
      have hends : passMoveDone .endOfFilm (moveEnded s) =
          endSegment { moveEnded s with pass := { s.pass with frameInHand := none, armed := none, after := .nothing } } := by
        unfold passMoveDone
        rw [if_neg hnot]
        simp only [hnotSweeping, if_false]
        exact if_neg hafter
      have hpassed : SegmentPassed l c { moveEnded s with pass := { s.pass with frameInHand := none, armed := none, after := .nothing } }
          (fun t => exec .filmAtRest s = .next t) :=
        segmentPassed_of hover fun n t ht hn => exec_rest_pass hq hstate hm hfirst hgrant hlamp hrest (n := n) (by rwa [hends]) (by omega)
      exact hpassed
    · have hdropped : moveDone .lost (parkedAtRest (filmStill s)) = endGrant (passDropped (moveEnded s)) := by
        have hnot : ¬ ((moveEnded s).pass.state ≠ .running ∨ (moveEnded s).pass.work = .none) := by simp [moveEnded, hrunning, hwork]
        calc moveDone .lost (parkedAtRest (filmStill s)) = passMoveDone .lost (moveEnded s) := by
              simp only [moveDone, show (parkedAtRest (filmStill s)).sched.grant = .pass from hgrant]
              rfl
          _ = passLost (moveEnded s) := by
              unfold passMoveDone
              rw [if_neg hnot]
          _ = endGrant (passDropped (moveEnded s)) := passLost_drops hpending
      refine (exec_rest_homes hq hm hstate hrest hlamp (by simp [hgrant]) (fun _ => hfirst) hdropped hq rfl hlost rfl hdoor htension).trans ?_
      exact congrArg Host.Outcome.next (homeGranted_owing howed)

end Sys2Proof.Machine
end

section
/-! PROOFS. The score of a point, the end of a sweep that holds the gate, and what the pass does with it (R110 to R115, R147, R152). -/

namespace Sys2Proof.Machine

open Sys2Proof

/-! ### The sweep ends in the gate (R115) -/

/-- What the lens reports at once when it is sent back to a step it stands at. -/
def lensCalls (t : Nat) (s : State) : List Signal := if lensThere (min 4095 t) s = true then [.focusArrived .back] else []

/-- The lens is sent back to a step. -/
def lensBack (t : Nat) (s : State) : State := { s with focus := lensSent (min 4095 t) .back s }

theorem setFocusTarget_back (t : Nat) (s : State) :
    setFocusTarget t .back s = facing (s.todo ++ lensCalls t s) (lensBack t s) := by
  have hmax : Config.maxStep = 4095 := rfl
  have hmin : setFocusTarget t .back s = setFocusTarget (min 4095 t) .back s := by
    have htwice : min (min 4095 t) Config.maxStep = min t Config.maxStep := by omega
    simp only [setFocusTarget, htwice]
  rw [hmin, setFocusTarget_sent _ (Nat.min_le_left _ _)]
  rfl

theorem lensCalls_idle (t : Nat) (s u : State) : Idle (lensCalls t s) u := by
  intro sig hsig
  unfold lensCalls at hsig
  split at hsig
  · rw [List.mem_singleton.mp hsig]
    rfl
  · exact absurd hsig List.not_mem_nil

theorem lensCalls_length (t : Nat) (s : State) : (lensCalls t s).length ≤ 1 := by
  unfold lensCalls
  split <;> simp

/-- The sweep that held the gate has ended with this report, the gate freed under a grant. -/
def sweepFreed (x : SweepRecord) (r : SweepReport) (s : State) : State :=
  onLink x.link (fun k => { k with flags := { k.flags with focus := true } })
    { s with
      transport := { s.transport with state := .parked, holder := none }
      roll := { s.roll with idleTimer := none }
      sweep := { s.sweep with active := none, scoreTimer := none, last := some r } }

/-- The report of a sweep with this result (R115). -/
def sweepReport (x : SweepRecord) (result : SweepResult) (step : Option Nat) (quality : Option Quality) (store : StoreOutcome) : SweepReport :=
  { id := x.id, frame := x.frame, link := x.link, result := result, step := step, quality := quality, store := store, scores := x.scores,
    timedOutPoint := if result = .timeout then some x.current else none }

/-- The sweep's report is written, and FOCUS flagged on its link (R115). -/
def recorded (x : SweepRecord) (r : SweepReport) (s : State) : State :=
  flagFocus x.link { s with sweep := { s.sweep with active := none, last := some r, scoreTimer := none } }

section
variable {x : SweepRecord} {result : SweepResult} {step : Option Nat} {quality : Option Quality} {store : StoreOutcome} {s : State}
  (hx : s.sweep.active = some x) (hholder : s.transport.holder = some (.sweep x.link x.id)) (hlamp : s.lamp.state ≠ .off)
  (hgrant : s.sched.grant ≠ .none)

include hx

theorem finishSweep_fitted (hgave : result.fitGaveTarget = true) :
    finishSweep result step quality store s = recorded x (sweepReport x result step quality store) s := by
  simp only [finishSweep, hx, hgave, Bool.true_eq_false, and_false, if_false]
  rfl

theorem finishSweep_returns (hq : Quiet s) (hpoints : x.points ≠ []) (hgave : result.fitGaveTarget = false) :
    finishSweep result step quality store s = recorded x (sweepReport x result step quality store)
      (facing (lensCalls (s.zoneStep x.frame) s) (lensBack (s.zoneStep x.frame) s)) := by
  simp only [finishSweep, hx, hgave, hpoints, ne_eq, not_false_eq_true, and_self, if_true, setFocusTarget_back, show s.todo = [] from hq]
  rfl

end

section
variable {x : SweepRecord} {result : SweepResult} {step : Option Nat} {quality : Option Quality} {store : StoreOutcome} {s z : State}
  (hlamp : z.lamp.state ≠ .off) (hgrant : z.sched.grant ≠ .none)

include hlamp hgrant

theorem freeGate_recorded (r : SweepReport) : freeGate (recorded x r z) = emit .choose (sweepFreed x r z) := by
  cases hlink : x.link <;>
    simp [freeGate, recorded, flagFocus, flagOne, enterState, lampOnEntering, hlamp, idleStart, hgrant, sweepFreed, onLink, hlink]

omit hlamp hgrant in
theorem sweepFreed_facing (r : SweepReport) (calls : List Signal) : sweepFreed x r (facing calls z) = facing calls (sweepFreed x r z) := by
  cases hlink : x.link <;> simp only [sweepFreed, hlink] <;> rfl

variable {calls : List Signal} (hx : s.sweep.active = some x) (hholder : z.transport.holder = some (.sweep x.link x.id))
  (hfinish : finishSweep result step quality store s = recorded x (sweepReport x result step quality store) (facing calls z))

include hx hholder hfinish

theorem endSweep_pass (horigin : x.origin = .pass) : endSweep result step quality store s =
    facing (calls ++ [.choose, .passSweepDone result]) (sweepFreed x (sweepReport x result step quality store) z) := by
  have hheld : (recorded x (sweepReport x result step quality store) (facing calls z)).transport.holder = some (.sweep x.link x.id) := by
    cases hlink : x.link <;> simpa [recorded, flagFocus, flagOne, facing, hlink] using hholder
  simp only [endSweep, hx, hfinish, hheld, if_true, freeGate_recorded (z := facing calls z) hlamp hgrant, horigin, sweepFreed_facing]
  simp only [emit, facing, List.append_assoc, List.singleton_append]

theorem endSweep_alone (horigin : x.origin = .standAlone) (hsweep : z.sched.grant = .sweep) : endSweep result step quality store s =
    facing (calls ++ [.choose, .choose]) (grantEnded (sweepFreed x (sweepReport x result step quality store) z)) := by
  have hheld : (recorded x (sweepReport x result step quality store) (facing calls z)).transport.holder = some (.sweep x.link x.id) := by
    cases hlink : x.link <;> simpa [recorded, flagFocus, flagOne, facing, hlink] using hholder
  have hkeeps : (emit .choose (facing calls (sweepFreed x (sweepReport x result step quality store) z))).sched.grant = .sweep := by
    cases hlink : x.link <;> simpa [emit, facing, sweepFreed, hlink] using hsweep
  simp only [endSweep, hx, hfinish, hheld, if_true, freeGate_recorded (z := facing calls z) hlamp hgrant, horigin, sweepFreed_facing, hkeeps]
  rw [endGrant_parked (by cases hlink : x.link <;> simp [emit, facing, sweepFreed, hlink])]
  simp only [emit, facing, List.append_assoc, List.singleton_append]
  rfl

end

/-! ### The last score (R113, R114) -/

/-- The zones as the result of a fit is stored in them, or none where it is not stored (R114). -/
def fitStored (x : SweepRecord) (fit : Fit) (s : State) : Option (List Zone) :=
  match x.store, fit.step, fit.quality with
  | true, some t, some q => storeResult x.frame t q s.zones
  | _, _, _ => none

/-- The zones after a fit, the tag dirty where its result is stored. -/
def withStored (zs : Option (List Zone)) (s : State) : State :=
  { s with zones := zs.getD s.zones, tag := { s.tag with dirty := s.tag.dirty || zs.isSome } }

theorem withStored_none (s : State) : withStored none s = s := by simp [withStored]

theorem withStored_some (zs : List Zone) (s : State) : withStored (some zs) s = setDirty { s with zones := zs } := by
  simp [withStored, setDirty]

theorem fitStored_none {x : SweepRecord} {fit : Fit} {s : State} (h : fit.step = none) : fitStored x fit s = none := by
  cases hstore : x.store <;> simp [fitStored, h, hstore]

theorem fitScores_cases (contrast z : Nat) (points scores : List Nat) :
    let fit := fitScores contrast z points scores
    fit.result.fitGaveTarget = true ∧ (fit.result = .timeout → False) ∧
      ((fit.step = none ∧ fit.quality = none ∧ fit.result = .lowContrast) ∨
        ∃ t q, fit.step = some t ∧ fit.quality = some q ∧ (fit.result = .fitted ∨ fit.result = .atLimit)) := by
  unfold fitScores
  dsimp only
  split_ifs <;> simp [SweepResult.fitGaveTarget]

section
variable {x : SweepRecord} {s : State} (hq : Quiet s) (hx : s.sweep.active = some x)

/-- The scores of a sweep, with the one that has come. -/
def SweepRecord.scored (x : SweepRecord) (v : Nat) : SweepRecord := { x with scores := x.scores ++ [v] }

/-- The sweep with the score that has come, its timer stopped (R111). -/
def scoreTaken (x : SweepRecord) (v : Nat) (s : State) : State :=
  { s with sweep := { s.sweep with active := some (x.scored v), scoreTimer := none } }

include hq hx

/-- The last score is followed by the fit, which sends the lens to its step, or back to the step of the zones, and stores its result. -/
theorem takeScore_last {v : Nat} (hlast : x.current = 2 * x.halfWidth) :
    let fit := fitScores s.params.minContrast x.stepSize x.points (x.scores ++ [v])
    let stored := fitStored x fit s
    takeScore v s = endSweep fit.result fit.step fit.quality (if stored.isSome then .stored else unstored x.store)
      (facing (lensCalls (fit.step.getD (s.zoneStep x.frame)) s)
        (withStored stored (lensBack (fit.step.getD (s.zoneStep x.frame)) (scoreTaken x v s)))) := by
  intro fit stored
  have hnot : ¬ x.current < 2 * x.halfWidth := by omega
  have hfits : takeScore v s = fitSweep (scoreTaken x v s) := by
    simp only [takeScore, hx, hnot, if_false, onSweep, Option.map_some]
    rfl
  rw [hfits]
  obtain ⟨-, -, ⟨hstep, hquality, -⟩ | ⟨t, q, hstep, hquality, -⟩⟩ := fitScores_cases s.params.minContrast x.stepSize x.points (x.scores ++ [v])
  · have hstored : stored = none := fitStored_none hstep
    rw [hstored, withStored_none]
    simp only [fitSweep, scoreTaken, SweepRecord.scored, fit, hstep, hquality, setFocusTarget_back, show s.todo = [] from hq]
    rfl
  · cases hstore : x.store with
    | false =>
      have hstored : stored = none := by simp [stored, fitStored, hstore]
      rw [hstored, withStored_none]
      simp only [fitSweep, scoreTaken, SweepRecord.scored, fit, hstep, hquality, setFocusTarget_back, hstore, show s.todo = [] from hq]
      rfl
    | true =>
      have hresult : stored = storeResult x.frame t q s.zones := by simp only [stored, fitStored, hstore, fit, hstep, hquality]
      simp only [fitSweep, scoreTaken, SweepRecord.scored, fit, hstep, hquality, setFocusTarget_back, hstore, show s.todo = [] from hq, if_true, hresult, facing, lensBack]
      cases storeResult x.frame t q s.zones with
      | none => rw [withStored_none]; rfl
      | some zs => rw [withStored_some]; rfl

end

/-! ### A stand-alone sweep is over (R112, R115, R126) -/

theorem sweepFreed_scored (x : SweepRecord) (v t : Nat) (r : SweepReport) (zs : Option (List Zone)) (s : State) :
    sweepFreed (x.scored v) r (withStored zs (lensBack t (scoreTaken x v s))) = sweepFreed x r (withStored zs (lensBack t s)) := by
  cases hlink : x.link <;> simp only [sweepFreed, SweepRecord.scored, hlink] <;> rfl

/-- What the end of a stand-alone sweep leaves. -/
def sweepOver (x : SweepRecord) (r : SweepReport) (step : Nat) (zs : Option (List Zone)) (s : State) : State :=
  grantEnded (sweepFreed x r (withStored zs (lensBack step s)))

section
variable {x : SweepRecord} {s : State} (hq : Quiet s) (hx : s.sweep.active = some x) (hlamp : s.lamp.state ≠ .off)
  (hholder : s.transport.holder = some (.sweep x.link x.id))

/-- The report of a sweep whose last score has come. -/
def scoreReport (x : SweepRecord) (v : Nat) (s : State) : SweepReport :=
  let fit := fitScores s.params.minContrast x.stepSize x.points (x.scores ++ [v])
  { id := x.id, frame := x.frame, link := x.link, result := fit.result, step := fit.step, quality := fit.quality,
    store := if (fitStored x fit s).isSome then .stored else unstored x.store, scores := x.scores ++ [v], timedOutPoint := none }

theorem sweepReport_scored (x : SweepRecord) (v : Nat) (s : State) :
    let fit := fitScores s.params.minContrast x.stepSize x.points (x.scores ++ [v])
    sweepReport (x.scored v) fit.result fit.step fit.quality (if (fitStored x fit s).isSome then .stored else unstored x.store) =
      scoreReport x v s := by
  have hnot := (fitScores_cases s.params.minContrast x.stepSize x.points (x.scores ++ [v])).2.1
  simp only [sweepReport, scoreReport, SweepRecord.scored]
  rw [if_neg hnot]

/-- The report of a sweep whose score timer has run out. -/
def timeoutReport (x : SweepRecord) : SweepReport :=
  { id := x.id, frame := x.frame, link := x.link, result := .timeout, step := none, quality := none,
    store := unstored x.store, scores := x.scores, timedOutPoint := some x.current }

include hq hx hlamp hholder

section
variable (horigin : x.origin = .standAlone) (hgrant : s.sched.grant = .sweep)

include horigin hgrant

theorem takeScore_alone {v : Nat} (hlast : x.current = 2 * x.halfWidth) :
    let fit := fitScores s.params.minContrast x.stepSize x.points (x.scores ++ [v])
    let step := fit.step.getD (s.zoneStep x.frame)
    takeScore v s = facing (lensCalls step s ++ [.choose, .choose]) (sweepOver x (scoreReport x v s) step (fitStored x fit s) s) := by
  intro fit step
  have hgave := (fitScores_cases s.params.minContrast x.stepSize x.points (x.scores ++ [v])).1
  rw [takeScore_last hq hx hlast, endSweep_alone (x := x.scored v) (z := withStored (fitStored x fit s) (lensBack step (scoreTaken x v s)))
    hlamp (by simp [withStored, lensBack, scoreTaken, hgrant]) rfl hholder (finishSweep_fitted (by rfl) hgave) horigin hgrant,
    sweepFreed_scored, sweepReport_scored]
  rfl

theorem endSweep_timeout_alone (hpoints : x.points ≠ []) : endSweepBare .timeout s =
    facing (lensCalls (s.zoneStep x.frame) s ++ [.choose, .choose]) (sweepOver x (timeoutReport x) (s.zoneStep x.frame) none s) := by
  simp only [endSweepBare, hx]
  rw [endSweep_alone (x := x) (z := lensBack (s.zoneStep x.frame) s) hlamp (by simp [lensBack, hgrant]) hx hholder
    (finishSweep_returns hx hq hpoints rfl) horigin hgrant, sweepOver, withStored_none]
  rfl

end

section
variable (horigin : x.origin = .pass) (hgrant : s.sched.grant = .pass)

include horigin hgrant

theorem takeScore_pass {v : Nat} (hlast : x.current = 2 * x.halfWidth) :
    let fit := fitScores s.params.minContrast x.stepSize x.points (x.scores ++ [v])
    let step := fit.step.getD (s.zoneStep x.frame)
    takeScore v s = facing (lensCalls step s ++ [.choose, .passSweepDone fit.result])
      (sweepFreed x (scoreReport x v s) (withStored (fitStored x fit s) (lensBack step s))) := by
  intro fit step
  have hgave := (fitScores_cases s.params.minContrast x.stepSize x.points (x.scores ++ [v])).1
  rw [takeScore_last hq hx hlast, endSweep_pass (x := x.scored v) (z := withStored (fitStored x fit s) (lensBack step (scoreTaken x v s)))
    hlamp (by simp [withStored, lensBack, scoreTaken, hgrant]) rfl hholder (finishSweep_fitted (by rfl) hgave) horigin,
    sweepFreed_scored, sweepReport_scored]

theorem endSweep_timeout_pass (hpoints : x.points ≠ []) : endSweepBare .timeout s =
    facing (lensCalls (s.zoneStep x.frame) s ++ [.choose, .passSweepDone .timeout])
      (sweepFreed x (timeoutReport x) (lensBack (s.zoneStep x.frame) s)) := by
  simp only [endSweepBare, hx]
  rw [endSweep_pass (x := x) (z := lensBack (s.zoneStep x.frame) s) hlamp (by simp [lensBack, hgrant]) hx hholder
    (finishSweep_returns hx hq hpoints rfl) horigin]
  rfl

end

end

/-! ### The zone that takes the step (R114) -/

theorem coveringZone_between {f : Nat} {z : Zone} {before after : List Zone} (hz : z.start ≤ f) (hafter : ∀ y ∈ after, f < y.start) :
    coveringZone f (before ++ z :: after) = some z := by
  have hnone : after.filter (fun y => decide (y.start ≤ f)) = [] :=
    List.filter_eq_nil_iff.mpr fun y hy => by simpa using hafter y hy
  simp [coveringZone, List.filter_append, hz, hnone]

theorem putZone_in_place {z w : Zone} {before after : List Zone} (hsame : w.start = z.start) (hasc : zonesAscend (before ++ z :: after)) :
    putZone w (before ++ z :: after) = before ++ w :: after := by
  induction before with
  | nil => simp [putZone, hsame]
  | cons y ys ih =>
    obtain ⟨hlt, hrest⟩ := List.pairwise_cons.mp hasc
    have hy : y.start < w.start := hsame ▸ hlt z (by simp)
    have hnot : ¬ w.start < y.start := by omega
    have hne : w.start ≠ y.start := by omega
    simp [putZone, hnot, hne, ih hrest]

theorem storeResult_isSome (f t : Nat) (q : Quality) (zs : List Zone) : (storeResult f t q zs).isSome =
    (decide (zs.length < 32) || zs.any (fun z => decide (z.start ≤ f))) := by
  have hmax : Config.maxZones = 32 := rfl
  have hcovers : (coveringZone f zs).isSome = zs.any (fun z => decide (z.start ≤ f)) := by
    rw [Bool.eq_iff_iff]
    simp [coveringZone]
  rw [← hcovers]
  unfold storeResult
  dsimp only
  split_ifs with hroom
  · rw [hmax] at hroom
    rcases hroom with hhas | hshort
    · obtain ⟨z, hz, heq⟩ := List.any_eq_true.mp hhas
      have hsome : zs.any (fun z => decide (z.start ≤ f)) = true := List.any_eq_true.mpr ⟨z, hz, by simp [(beq_iff_eq.mp heq).le]⟩
      simp [hcovers, hsome]
    · simp [hshort]
  · have hfull : ¬ zs.length < 32 := fun h => hroom (.inr (by rw [hmax]; exact h))
    cases coveringZone f zs <;> simp [hfull]

theorem storeResult_room {f t : Nat} {q : Quality} {zs : List Zone} (hroom : (∃ z ∈ zs, z.start = f) ∨ zs.length < 32) :
    storeResult f t q zs = some (putZone { start := f, step := t, source := .sweep, quality := q } zs) := by
  refine if_pos (hroom.imp (fun ⟨z, hz, heq⟩ => List.any_eq_true.mpr ⟨z, hz, by simp [heq]⟩) id)

theorem storeResult_full {f t : Nat} {q : Quality} {z : Zone} {zs before after : List Zone} (hsplit : zs = before ++ z :: after)
    (hroom : ¬ ((∃ y ∈ zs, y.start = f) ∨ zs.length < 32)) (hasc : zonesAscend zs) (hz : z.start < f) (hafter : ∀ y ∈ after, f < y.start) :
    storeResult f t q zs = some (before ++ { start := z.start, step := t, source := .sweep, quality := q } :: after) := by
  subst hsplit
  have hnot : ¬ ((before ++ z :: after).any (fun y => y.start == f) = true ∨ (before ++ z :: after).length < Config.maxZones) := by
    refine fun h => hroom (h.imp (fun hany => ?_) id)
    obtain ⟨y, hy, heq⟩ := List.any_eq_true.mp hany
    exact ⟨y, hy, beq_iff_eq.mp heq⟩
  unfold storeResult
  rw [coveringZone_between hz.le hafter]
  dsimp only
  rw [if_neg hnot]
  exact congrArg some (putZone_in_place rfl hasc)

end Sys2Proof.Machine
end

section
/-! PROOFS. What follows from the score and the end of a sweep, for the scheduler and for the pass (R111, R112, R115, R147). -/

namespace Sys2Proof.Machine

open Sys2Proof

/-! ### The pass goes on behind an answer -/

section
variable {asker : Link} {code : AnswerCode} {request : Byte} {contents : Contents} {go : State → Prop}

theorem goes_answered_begun {m : Move} {legs : List Leg} {s : State} (h : go (moveBegun m legs (answered asker code request contents s))) :
    go (answered asker code request contents (moveBegun m legs s)) := by rwa [answered_moveBegun]

theorem goes_answered_ended {l : Link} {c : Nat} {o : PassOutcome} {x : SegState} {s : State}
    (h : go (passEnded l c o x (grantEnded (answered asker code request contents s)))) :
    go (answered asker code request contents (passEnded l c o x (grantEnded s))) := by
  have hsame : passEnded l c o x (grantEnded (answered asker code request contents s)) =
      answered asker code request contents (passEnded l c o x (grantEnded s)) := by
    cases asker <;> cases l <;> rfl
  rwa [← hsame]

theorem passGoesOn_answered {l : Link} {c r : Nat} {g : Segment} {s : State}
    (h : PassGoesOn l c r g (answered asker code request contents s) go) :
    PassGoesOn l c r g s (fun t => go (answered asker code request contents t)) := by
  obtain ⟨hsteps, hdiscovers, hflies, hends⟩ := h
  cases asker <;>
  · refine ⟨fun k hin hfound hreach => ?_, fun hin hexhausted hbeyond hopen => ?_, fun hnot hgoes => ?_, fun hend hcount hrest => ?_⟩
    · obtain ⟨hplain, hsweeps⟩ := hsteps k hin hfound hreach
      refine ⟨fun hnot => goes_answered_begun (hplain hnot), fun n w z hpolicy howed => ?_⟩
      obtain ⟨hready, hunready⟩ := hsweeps n w z hpolicy howed
      exact ⟨fun h => goes_answered_begun (hready h), fun h => ⟨fun hmask => goes_answered_begun ((hunready h).1 hmask),
        fun hmask halone hrest => goes_answered_ended ((hunready h).2 hmask halone hrest)⟩⟩
    · exact goes_answered_begun (hdiscovers hin hexhausted hbeyond hopen)
    · obtain ⟨hindex, hfound, hon⟩ := hflies hnot hgoes
      exact ⟨fun h => goes_answered_begun (hindex h), fun k h hk => goes_answered_begun (hfound k h hk), fun h hk => goes_answered_begun (hon h hk)⟩
    · exact goes_answered_ended (hends hend hcount hrest)

end

/-! ### The pass takes the result of its sweep (R147, R152) -/

/-- How the pass goes on where the sweep at its frame k is made, in the state `u` (R147). -/
def OnwardFrom (l : Link) (c k : Nat) (g : Segment) (u : State) (go : State → Prop) : Prop :=
  (u.pass.mode ≠ some .fly → InReach k u →
    go (approachBegun k { u with pass := { u.pass with sweepOwed := u.pass.sweepOwed.erase k, work := .approaching, visitedInHand := false } })) ∧
  (∀ r, u.pass.mode = some .fly → u.pass.resume = some r → 1 ≤ r →
    PassGoesOn l c r g { u with pass := { u.pass with sweepOwed := u.pass.sweepOwed.erase k, work := .seeking, frameInHand := none } } go)

section
variable {l : Link} {c k : Nat} {g : Segment} {u : State} {go : State → Prop} (h : SegmentOver l c u)
  (hg : u.pass.program[c - 1]? = some g) (hhand : u.pass.frameInHand = some k)

include h hg hhand

theorem onwardFrom_of (hgo : ∀ n t, ComesTo n (onwardFrom k u) t → n ≤ 22 → go t) (hmay : MayMove u) : OnwardFrom l c k g u go := by
  refine ⟨fun hmode hreach => hgo 0 _ ?_ (by omega), fun r hmode hresume hlow => ?_⟩
  · have hon : onwardFrom k u = approachBegun k { u with pass := { u.pass with
        frameInHand := some k, sweepOwed := u.pass.sweepOwed.erase k, work := .approaching, visitedInHand := false } } := by
      unfold onwardFrom
      rw [if_neg hmode]
      exact startMove_frame h.parked hmay hreach
    rw [hon, ← hhand]
    exact moveBegun_comes h.quiet (by simp [h.grant])
  · have hrest : PassAtRest l c r g { u with pass := { u.pass with sweepOwed := u.pass.sweepOwed.erase k, work := .seeking, frameInHand := none } } :=
      ⟨h.quiet, h.owner, h.running, h.grant, h.parked, h.holder, h.current, hg, hresume, hlow, rfl, h.sweep, h.mode, hmay⟩
    refine passGoesOn_of hrest fun n t ht hn => hgo (n + 1) t ?_ (by omega)
    have hon : onwardFrom k u = facing [.passGo]
        { u with pass := { u.pass with sweepOwed := u.pass.sweepOwed.erase k, work := .seeking, frameInHand := none } } := by
      unfold onwardFrom
      rw [if_pos hmode]
      exact emit_eq_facing _ h.quiet
    rw [hon]
    exact comesTo_passGo hrest ht

variable (hwork : u.pass.work = .sweeping)

include hwork

theorem sweep_fits {r : SweepResult} (hr : r = .fitted ∨ r = .atLimit) (hmay : MayMove u)
    (hgo : ∀ n t, ComesTo n (passSweepEnded r u) t → n ≤ 22 → go t) : OnwardFrom l c k g u go := by
  rw [passSweepEnded_fits h.running hwork h.sweep hhand h.current hg hr] at hgo
  exact onwardFrom_of h hg hhand hgo hmay

theorem sweep_fails {r : SweepResult} (hr : r = .focusFail ∨ r = .timeout ∨ r = .lowContrast)
    (hgo : ∀ n t, ComesTo n (passSweepEnded r u) t → n ≤ 22 → go t) :
    (g.stopMask.getLsbD 4 = false → MayMove u → OnwardFrom l c k g (focusFailed c k u) go) ∧
    (g.stopMask.getLsbD 4 = true → HeldAlone c k u → (∀ y ∈ u.slots, y.resting = true) →
      go (passEnded l c (.stopped .focusFail k) .stopped (grantEnded (focusFailed c k u)))) := by
  rw [passSweepEnded_fails h.running hwork h.sweep hhand h.current hg hr] at hgo
  have hnoted : SegmentOver l c (focusFailed c k u) :=
    ⟨h.quiet, h.owner, h.running, h.grant, h.parked, h.move, h.holder, h.current, h.sweep, h.mode, h.level⟩
  refine ⟨fun hmask hmay => ?_, fun hmask halone hrest => ?_⟩
  · rw [hmask, if_neg (by simp)] at hgo
    exact onwardFrom_of hnoted hg hhand hgo hmay
  · rw [hmask, if_pos rfl] at hgo
    exact hgo 1 _ (endPass_rests hnoted.quiet hnoted.owner (finishPass_masked hnoted.owner hnoted.current halone) hnoted.grant hnoted.parked
      hnoted.move hnoted.holder hnoted.sweep hnoted.level hrest) (by omega)

end

/-! ### SCORE and the score timer (R111, R112) -/

theorem sweepFreed_closeStream (l : Link) (x : SweepRecord) (r : SweepReport) (zs : Option (List Zone)) (t : Nat) (s : State) :
    sweepFreed x r (withStored zs (lensBack t (closeStream l s))) = closeStream l (sweepFreed x r (withStored zs (lensBack t s))) := by
  cases hlink : x.link <;> cases l <;> simp only [sweepFreed, hlink] <;> rfl

theorem scoreReport_closeStream (l : Link) (x : SweepRecord) (v : Nat) (s : State) : scoreReport x v (closeStream l s) = scoreReport x v s := by
  cases l <;> rfl

section
variable {x : SweepRecord} {r : SweepReport} {t : Nat} {zs : Option (List Zone)} {s : State}

theorem sweepOver_quiet (hq : Quiet s) : Quiet (sweepOver x r t zs s) := by
  unfold sweepOver sweepFreed
  cases x.link <;> exact hq

theorem sweepOver_noWork (hlevel : s.tracker.level ≠ .lost) (hrests : ∀ y ∈ s.slots, y.resting = true) (hpass : s.passActive = false) :
    NoWork (sweepOver x r t zs s) := by
  unfold sweepOver sweepFreed
  cases x.link <;> exact ⟨hlevel, hrests, rfl, hpass⟩

end

/-- The consequences of a sweep of the pass that ends in the gate come to what the pass makes of its result. -/
theorem leads_sweep_result {step n : Nat} {r : SweepResult} {z u t : State} (hu : Quiet u) (hpass : u.sched.grant = .pass)
    (h : ComesTo n (passSweepEnded r u) t) (hn : n ≤ 90) :
    ∃ m, m ≤ 100 ∧ Leads m (lensCalls step z ++ [.choose, .passSweepDone r]) u t := by
  have hidle : Idle (lensCalls step z ++ [Signal.choose]) u := (lensCalls_idle step z u).append (idle_choose (.inl (by simp [hpass])))
  have hresult : Leads (n + 1) [.passSweepDone r] u t := (ComesTo.next hu rfl h).1
  have hboth := (leads_idle hu hidle).append hresult
  rw [List.append_assoc] at hboth
  refine ⟨_, ?_, hboth⟩
  have := lensCalls_length step z
  simp only [List.length_append, List.length_cons, List.length_nil]
  omega

theorem scoreAwaited_of {x : SweepRecord} {s : State} (hx : s.sweep.active = some x) (hawaits : x.state = .awaitingScore)
    (htimer : s.sweep.scoreTimer ≠ none) : scoreAwaited s = true := by
  simp [scoreAwaited, hx, hawaits, Option.isSome_iff_ne_none.mpr htimer]

theorem idle_chooses {s : State} (h : AtEase s) : Idle [.choose, .choose] s := (idle_choose h).append (idle_choose h)

section
variable {l : Link} {id point : Byte} {v : Half} {x : SweepRecord} {s : State} (hq : Quiet s) (hx : s.sweep.active = some x)
  (hid : x.id = id.toNat) (hlink : x.link = l) (hawaits : x.state = .awaitingScore) (hpoint : x.current = point.toNat)

include hx hid hlink hawaits hpoint

theorem exec_score_takes {n : Nat} {calls : List Signal} {y t : State}
    (htakes : takeScore v.toNat (closeStream l s) = facing calls (closeStream l y)) (hleads : Leads n calls (answered l .ok 0x41#8 .empty y) t)
    (hn : n ≤ 100) : exec (.score l id point v) s = .next t := by
  have howner : score l id.toNat point.toNat v.toNat (closeStream l s) = (facing calls (closeStream l y), okReply) := by
    have hactive : (closeStream l s).sweep.active = some x := by simpa using hx
    simp only [score, hactive, hid, hlink, hawaits, hpoint, ne_eq, not_true_eq_false, or_self, if_true, if_false, htakes]
  exact request_next (r := okReply) howner (by cases l <;> rfl) hleads hn

variable (hlamp : s.lamp.state ≠ .off) (hholder : s.transport.holder = some (.sweep x.link x.id)) (hlast : x.current = 2 * x.halfWidth)

include hq hlamp hholder hlast

theorem exec_score_alone (horigin : x.origin = .standAlone) (hgrant : s.sched.grant = .sweep)
    (hwork : s.tracker.level ≠ .lost ∧ (∀ y ∈ s.slots, y.resting = true) ∧ s.passActive = false) :
    let fit := fitScores s.params.minContrast x.stepSize x.points (x.scores ++ [v.toNat])
    exec (.score l id point v) s = .next (answered l .ok 0x41#8 .empty
      (sweepOver x (scoreReport x v.toNat s) (fit.step.getD (s.zoneStep x.frame)) (fitStored x fit s) s)) := by
  intro fit
  obtain ⟨hlevel, hrests, hpass⟩ := hwork
  have htakes := takeScore_alone (s := closeStream l s) (v := v.toNat) (closeStream_quiet l hq) (by simpa using hx) (by simpa using hlamp)
    (by simpa using hholder) horigin (by simpa using hgrant) hlast
  refine exec_score_takes hx hid hlink hawaits hpoint (htakes.trans ?_)
    (leads_idle ?_ ((lensCalls_idle (fit.step.getD (s.zoneStep x.frame)) s _).append (idle_chooses (.inr ?_)))) ?_
  · rw [show fitScores (closeStream l s).params.minContrast x.stepSize x.points (x.scores ++ [v.toNat]) = fit by cases l <;> rfl,
      scoreReport_closeStream, sweepOver, sweepOver, sweepFreed_closeStream]
    cases l <;> rfl
  · exact answered_quiet _ _ _ _ (sweepOver_quiet hq)
  · cases l <;> exact sweepOver_noWork hlevel hrests hpass
  · have := lensCalls_length (fit.step.getD (s.zoneStep x.frame)) s
    simp only [List.length_append, List.length_cons, List.length_nil]
    omega

omit hid hpoint hlink hlast in
theorem exec_scoreTimer_alone (hpoints : x.points ≠ []) (htimer : s.sweep.scoreTimer ≠ none) (horigin : x.origin = .standAlone)
    (hgrant : s.sched.grant = .sweep) (hwork : s.tracker.level ≠ .lost ∧ (∀ y ∈ s.slots, y.resting = true) ∧ s.passActive = false) :
    exec .scoreTimerExpiry s = .next (sweepOver x (timeoutReport x) (s.zoneStep x.frame) none s) := by
  obtain ⟨hlevel, hrests, hpass⟩ := hwork
  refine takes_next ((if_pos (scoreAwaited_of hx hawaits htimer)).trans (endSweep_timeout_alone hq hx hlamp hholder horigin hgrant hpoints))
    (leads_idle (sweepOver_quiet hq) ((lensCalls_idle _ s _).append (idle_chooses (.inr (sweepOver_noWork hlevel hrests hpass))))) ?_
  have := lensCalls_length (s.zoneStep x.frame) s
  simp only [List.length_append, List.length_cons, List.length_nil]
  omega

omit hid hpoint hlink hlast in
theorem exec_scoreTimer_pass {n : Nat} {t : State} (hpoints : x.points ≠ []) (htimer : s.sweep.scoreTimer ≠ none) (horigin : x.origin = .pass)
    (hgrant : s.sched.grant = .pass)
    (h : ComesTo n (passSweepEnded .timeout (sweepFreed x (timeoutReport x) (lensBack (s.zoneStep x.frame) s))) t) (hn : n ≤ 90) :
    exec .scoreTimerExpiry s = .next t := by
  obtain ⟨m, hm, hleads⟩ := leads_sweep_result (step := s.zoneStep x.frame) (z := s)
    (by cases hl : x.link <;> simp only [sweepFreed, hl] <;> exact hq) (by cases hl : x.link <;> simp only [sweepFreed, hl] <;> exact hgrant) h hn
  exact takes_next ((if_pos (scoreAwaited_of hx hawaits htimer)).trans (endSweep_timeout_pass hq hx hlamp hholder horigin hgrant hpoints)) hleads hm

theorem exec_score_pass {n : Nat} {t : State} (horigin : x.origin = .pass) (hgrant : s.sched.grant = .pass) :
    let fit := fitScores s.params.minContrast x.stepSize x.points (x.scores ++ [v.toNat])
    ComesTo n (passSweepEnded fit.result (answered l .ok 0x41#8 .empty
      (sweepFreed x (scoreReport x v.toNat s) (withStored (fitStored x fit s) (lensBack (fit.step.getD (s.zoneStep x.frame)) s))))) t →
    n ≤ 90 → exec (.score l id point v) s = .next t := by
  intro fit h hn
  have htakes := takeScore_pass (s := closeStream l s) (v := v.toNat) (closeStream_quiet l hq) (by simpa using hx) (by simpa using hlamp)
    (by simpa using hholder) horigin (by simpa using hgrant) hlast
  obtain ⟨m, hm, hleads⟩ := leads_sweep_result (step := fit.step.getD (s.zoneStep x.frame)) (z := s)
    (answered_quiet _ _ _ _ (by cases hl : x.link <;> simp only [sweepFreed, hl] <;> exact hq))
    (by cases hl : x.link <;> simp only [sweepFreed, hl, answered_sched] <;> exact hgrant) h hn
  refine exec_score_takes hx hid hlink hawaits hpoint (htakes.trans ?_) hleads hm
  rw [show fitScores (closeStream l s).params.minContrast x.stepSize x.points (x.scores ++ [v.toNat]) = fit by cases l <;> rfl,
    scoreReport_closeStream, sweepFreed_closeStream]
  cases l <;> rfl

end

/-! ### The pass, the gate of its sweep freed -/

section
variable {l : Link} {c k : Nat} {g : Segment} {x : SweepRecord} {s : State} (hq : Quiet s)
  (horigin : x.origin = .pass) (hgrant : s.sched.grant = .pass) (hrunning : s.pass.state = .running)
  (howner : s.pass.owner = some l) (hcurrent : s.pass.current = some c) (hmode : s.pass.mode ≠ none) (hlevel : s.tracker.level ≠ .lost)
  (hmove : s.transport.move = none)

include hq hgrant hrunning howner hcurrent hmode hlevel hmove

theorem segmentOver_freed (r : SweepReport) (zs : Option (List Zone)) (t : Nat) :
    SegmentOver l c (sweepFreed x r (withStored zs (lensBack t s))) := by
  unfold sweepFreed
  cases x.link <;> exact ⟨hq, howner, hrunning, hgrant, rfl, hmove, rfl, hcurrent, rfl, hmode, hlevel⟩

end

theorem SegmentOver.answered {l : Link} {c : Nat} {s : State} (h : SegmentOver l c s) (asker : Link) (code : AnswerCode) (request : Byte)
    (contents : Contents) : SegmentOver l c (answered asker code request contents s) := by
  cases asker <;> exact ⟨h.quiet, h.owner, h.running, h.grant, h.parked, h.move, h.holder, h.current, h.sweep, h.mode, h.level⟩

section
variable (x : SweepRecord) (r : SweepReport) (z : State)

@[simp] theorem sweepFreed_pass : (sweepFreed x r z).pass = z.pass := by cases hl : x.link <;> simp only [sweepFreed, hl] <;> rfl
@[simp] theorem sweepFreed_slots : (sweepFreed x r z).slots = z.slots := by cases hl : x.link <;> simp only [sweepFreed, hl] <;> rfl

end

theorem onwardFrom_answered {asker l : Link} {code : AnswerCode} {request : Byte} {contents : Contents} {c k : Nat} {g : Segment} {u : State}
    {go : State → Prop} (h : OnwardFrom l c k g (answered asker code request contents u) go) :
    OnwardFrom l c k g u (fun t => go (answered asker code request contents t)) := by
  obtain ⟨hsteps, hflies⟩ := h
  cases asker <;>
  · refine ⟨fun hmode hreach => goes_answered_begun (hsteps hmode hreach), fun r hmode hresume hlow => ?_⟩
    exact passGoesOn_answered (hflies r hmode hresume hlow)

section
variable {asker l : Link} {code : AnswerCode} {request : Byte} {contents : Contents} {c k : Nat} {g : Segment} {u : State} {r : SweepResult}
  {go : State → Prop} (h : SegmentOver l c u) (hg : u.pass.program[c - 1]? = some g) (hhand : u.pass.frameInHand = some k)
  (hwork : u.pass.work = .sweeping)
  (hgo : ∀ n t, ComesTo n (passSweepEnded r (answered asker code request contents u)) t → n ≤ 22 → go t)

include h hg hhand hwork hgo

theorem sweep_fits_answered (hr : r = .fitted ∨ r = .atLimit) (hmay : MayMove u) :
    OnwardFrom l c k g u (fun t => go (answered asker code request contents t)) :=
  onwardFrom_answered (sweep_fits (h.answered asker code request contents) (by simpa using hg) (by simpa using hhand) (by simpa using hwork) hr
    (by cases asker <;> exact hmay) hgo)

theorem sweep_fails_answered (hr : r = .focusFail ∨ r = .timeout ∨ r = .lowContrast) :
    (g.stopMask.getLsbD 4 = false → MayMove u → OnwardFrom l c k g (focusFailed c k u) (fun t => go (answered asker code request contents t))) ∧
    (g.stopMask.getLsbD 4 = true → HeldAlone c k u → (∀ y ∈ u.slots, y.resting = true) →
      go (answered asker code request contents (passEnded l c (.stopped .focusFail k) .stopped (grantEnded (focusFailed c k u))))) := by
  obtain ⟨hgoes, hstops⟩ := sweep_fails (h.answered asker code request contents) (by simpa using hg) (by simpa using hhand)
    (by simpa using hwork) hr hgo
  have hnoted : focusFailed c k (answered asker code request contents u) = answered asker code request contents (focusFailed c k u) := by
    cases asker <;> rfl
  rw [hnoted] at hgoes hstops
  refine ⟨fun hmask hmay => onwardFrom_answered (hgoes hmask (by cases asker <;> exact hmay)), fun hmask halone hrest => ?_⟩
  exact goes_answered_ended (hstops hmask (by cases asker <;> exact halone) (by simpa using hrest))

end

/-- The end of the film ends the sweep of the pass, and its segment. -/
theorem segmentPassed_endOfFilm {l : Link} {c k : Nat} {g : Segment} {x : SweepRecord} {m : Move} {s : State} (hq : Quiet s)
    (hx : s.sweep.active = some x) (horigin : x.origin = .pass) (hgrant : s.sched.grant = .pass)
    (hrunning : s.pass.state = .running) (hwork : s.pass.work = .sweeping) (howner : s.pass.owner = some l)
    (hhand : s.pass.frameInHand = some k) (hcurrent : s.pass.current = some c) (hg : s.pass.program[c - 1]? = some g)
    (hmode : s.pass.mode ≠ none) (hlevel : s.tracker.level ≠ .lost) (hlamp : s.lamp.state ≠ .off) (hpoints : x.points = [])
    (hstate : s.transport.state = .moving) (hm : s.transport.move = some m) (hrest : m.atRest = some (.finish .endOfFilm))
    (hholder : s.transport.holder = none) :
    SegmentPassed l c (sweepEnded x .endOfFilm (moveEnded s)) (fun t => exec .filmAtRest s = .next t) := by
  have hpass : (sweepEnded x .endOfFilm (moveEnded s)).pass = s.pass := sweepEnded_pass ..
  have hquiet : Quiet (sweepEnded x .endOfFilm (moveEnded s)) := (sweepEnded_todo ..).trans hq
  have hover : SegmentOver l c { sweepEnded x .endOfFilm (moveEnded s) with pass := { s.pass with frameInHand := none, work := .seeking } } := by
    cases hl : x.link <;> simp only [sweepEnded, hl] <;>
      exact ⟨hq, howner, hrunning, hgrant, rfl, rfl, hholder, hcurrent, rfl, hmode, hlevel⟩
  have hhanded : moveDone .endOfFilm (moveEnded s) = facing [.passSweepDone .endOfFilm] (sweepEnded x .endOfFilm (moveEnded s)) := by
    have hends : moveDone .endOfFilm (moveEnded s) = endSweepBare .endOfFilm (moveEnded s) := by
      simp [moveDone, passMoveDone, moveEnded, hgrant, hrunning, hwork]
    rw [hends, endSweepBare_pass .endOfFilm (s := moveEnded s) hx hpoints horigin (by simp [moveEnded, hholder])]
    exact emit_eq_facing _ hquiet
  have hended : passSweepEnded .endOfFilm (sweepEnded x .endOfFilm (moveEnded s)) =
      endSegment { sweepEnded x .endOfFilm (moveEnded s) with pass := { s.pass with frameInHand := none, work := .seeking } } := by
    rw [passSweepEnded_endOfFilm (c := c) (k := k) (g := g) (by rw [hpass, hrunning]) (by rw [hpass, hwork]) (by cases hl : x.link <;> simp only [sweepEnded, hl] <;> rfl)
      (by rw [hpass, hhand]) (by rw [hpass, hcurrent]) (by rw [hpass, hg]), hpass]
  have hpassed : SegmentPassed l c { sweepEnded x .endOfFilm (moveEnded s) with pass := { s.pass with frameInHand := none, work := .seeking } }
      (fun t => exec .filmAtRest s = .next t) := by
    refine segmentPassed_of hover fun n t ht hn => exec_rest_hands (o := .endOfFilm) (n := n + 1) hq hm hstate hrest hlamp (by simp [hgrant])
      (by simp) ?_ (by omega)
    rw [hhanded]
    exact ComesTo.next hquiet hended ht
  cases hl : x.link <;> simp only [sweepEnded, hl] at hpassed ⊢ <;> exact hpassed

/-- The report of a sweep with this fit and this store outcome. -/
def fitReport (x : SweepRecord) (v : Nat) (fit : Fit) (store : StoreOutcome) : SweepReport :=
  { id := x.id, frame := x.frame, link := x.link, result := fit.result, step := fit.step, quality := fit.quality, store := store,
    scores := x.scores ++ [v], timedOutPoint := none }

theorem scoreReport_eq {x : SweepRecord} {v : Nat} {fit : Fit} {s : State} {zs : Option (List Zone)}
    (hfit : fit = fitScores s.params.minContrast x.stepSize x.points (x.scores ++ [v])) (h : fitStored x fit s = zs) :
    scoreReport x v s = fitReport x v fit (if zs.isSome then .stored else unstored x.store) := by
  subst hfit h
  rfl

section
variable (x : SweepRecord) (r : SweepReport) (t : Nat) (zs : Option (List Zone)) (s : State)

@[simp] theorem sweepOver_tracker : (sweepOver x r t zs s).tracker = s.tracker := by unfold sweepOver sweepFreed; cases x.link <;> rfl
@[simp] theorem sweepOver_marks : (sweepOver x r t zs s).marks = s.marks := by unfold sweepOver sweepFreed; cases x.link <;> rfl
@[simp] theorem sweepOver_index : (sweepOver x r t zs s).index = s.index := by unfold sweepOver sweepFreed; cases x.link <;> rfl
@[simp] theorem sweepOver_lamp : (sweepOver x r t zs s).lamp = s.lamp := by unfold sweepOver sweepFreed; cases x.link <;> rfl
@[simp] theorem sweepOver_slots : (sweepOver x r t zs s).slots = s.slots := by unfold sweepOver sweepFreed; cases x.link <;> rfl
@[simp] theorem sweepOver_pass : (sweepOver x r t zs s).pass = s.pass := by unfold sweepOver sweepFreed; cases x.link <;> rfl
@[simp] theorem sweepOver_poller : (sweepOver x r t zs s).poller = s.poller := by unfold sweepOver sweepFreed; cases x.link <;> rfl
@[simp] theorem sweepOver_bus : (sweepOver x r t zs s).bus = s.bus := by unfold sweepOver sweepFreed; cases x.link <;> rfl
@[simp] theorem sweepOver_params : (sweepOver x r t zs s).params = s.params := by unfold sweepOver sweepFreed; cases x.link <;> rfl
@[simp] theorem sweepOver_pending : (sweepOver x r t zs s).pending = s.pending := by unfold sweepOver sweepFreed; cases x.link <;> rfl
@[simp] theorem sweepOver_zones : (sweepOver x r t zs s).zones = zs.getD s.zones := by unfold sweepOver sweepFreed; cases x.link <;> rfl
@[simp] theorem sweepOver_tag : (sweepOver x r t zs s).tag = { s.tag with dirty := s.tag.dirty || zs.isSome } := by unfold sweepOver sweepFreed; cases x.link <;> rfl
@[simp] theorem sweepOver_focus : (sweepOver x r t zs s).focus = lensSent (min 4095 t) .back s := by unfold sweepOver sweepFreed; cases x.link <;> rfl
@[simp] theorem sweepOver_transport : (sweepOver x r t zs s).transport = { s.transport with state := .parked, holder := none } := by unfold sweepOver sweepFreed; cases x.link <;> rfl
@[simp] theorem sweepOver_sweep : (sweepOver x r t zs s).sweep = { s.sweep with active := none, scoreTimer := none, last := some r } := by unfold sweepOver sweepFreed; cases x.link <;> rfl
@[simp] theorem sweepOver_grant : (sweepOver x r t zs s).sched.grant = .none := by unfold sweepOver sweepFreed; cases x.link <;> rfl

@[simp] theorem sweepOver_link : (sweepOver x r t zs s).link x.link =
    { s.link x.link with flags := { (s.link x.link).flags with focus := true } } := by
  unfold sweepOver sweepFreed
  cases x.link <;> rfl

theorem sweepOver_link_other {m : Link} (h : m ≠ x.link) : (sweepOver x r t zs s).link m = s.link m := by
  unfold sweepOver sweepFreed
  cases hl : x.link <;> cases m
  · exact absurd hl.symm h
  · rfl
  · rfl
  · exact absurd hl.symm h

end

section
variable (l : Link) (code : AnswerCode) (request : Byte) (contents : Contents) (s : State)

theorem answered_link_self : (answered l code request contents s).link l =
    { s.link l with stream := none, answer := { code := code, request := request, contents := contents } } := by
  cases l <;> rfl

theorem answered_link_other {m : Link} (h : m ≠ l) : (answered l code request contents s).link m = s.link m := by
  cases l <;> cases m
  · exact absurd rfl h
  · rfl
  · rfl
  · exact absurd rfl h

end

theorem lensSent_target (t : Nat) (r : Requester) (s : State) : (lensSent t r s).target = some t ∧ (lensSent t r s).position = s.focus.position := by
  unfold lensSent
  split_ifs <;> exact ⟨rfl, rfl⟩

theorem fitStored_isSome (contrast z : Nat) (points scores : List Nat) {x : SweepRecord} {s : State} :
    let fit := fitScores contrast z points scores
    (fitStored x fit s).isSome =
      (x.store && fit.step.isSome && (decide (s.zones.length < 32) || s.zones.any (fun z => decide (z.start ≤ x.frame)))) := by
  intro fit
  obtain ⟨-, -, ⟨hstep, -⟩ | ⟨t, q, hstep, hquality, -⟩⟩ := fitScores_cases contrast z points scores
  · simp [fitStored_none hstep, fit, hstep]
  · have hstored : fitStored x fit s = if x.store then storeResult x.frame t q s.zones else none := by
      cases hstore : x.store <;> simp only [fitStored, hstore, fit, hstep, hquality] <;> rfl
    rw [hstored]
    cases hstore : x.store <;> simp [storeResult_isSome, fit, hstep]

theorem fitStored_some {x : SweepRecord} {fit : Fit} {s : State} (h : (fitStored x fit s).isSome = true) :
    ∃ t q zs, fit.step = some t ∧ fit.quality = some q ∧ storeResult x.frame t q s.zones = some zs ∧ fitStored x fit s = some zs := by
  cases hstore : x.store <;> cases hstep : fit.step <;> cases hquality : fit.quality <;>
    simp only [fitStored, hstore, hstep, hquality, Option.isSome_none, Bool.false_eq_true] at h ⊢
  obtain ⟨zs, hzs⟩ := Option.isSome_iff_exists.mp h
  exact ⟨_, _, zs, rfl, rfl, hzs, hzs⟩

/-- A score for no active sweep of its id is judged by the last record. -/
theorem score_late {l : Link} {id point v : Nat} {s : State} (h : ∀ x, s.sweep.active = some x → x.id ≠ id) :
    score l id point v (closeStream l s) = (closeStream l s, refuse (lateScore l id point (closeStream l s))) := by
  have hactive : (closeStream l s).sweep.active = s.sweep.active := by simp
  unfold score
  rw [hactive]
  cases hx : s.sweep.active with
  | none => rfl
  | some x => simp only [h x hx, if_false]

theorem takeScore_more {x : SweepRecord} {v p : Nat} {s : State} (hq : Quiet s) (hx : s.sweep.active = some x)
    (hmore : x.current < 2 * x.halfWidth) (hready : s.focus.status = .ready) (hp : x.points[x.current + 1]? = some p) (hle : p ≤ 4095)
    (hlow : s.focus.position < p) : takeScore v s = facing [] { s with
      sweep := { s.sweep with
        scoreTimer := none
        active := some { x with scores := x.scores ++ [v], current := x.current + 1, state := .movingLens } }
      focus := { s.focus with target := some p, phase := .up, requester := some (.sweep x.id (x.current + 1)) } } := by
  have hpoint : x.points.getD (x.current + 1) 0 = p := by simp [List.getD_eq_getElem?_getD, hp]
  have hthere : p ≠ s.focus.position := by omega
  have hnot : ¬ p < s.focus.position := by omega
  simp only [takeScore, hx, hmore, if_true, sendToPoint, onSweep, Option.map_some, hpoint]
  rw [setFocusTarget_sent _ hle]
  simp [lensSent, lensThere, hready, hthere, hnot, facing, show s.todo = [] from hq]

/-- Settles O47, by what ends a sweep in the gate and by how a pass goes on from its result. -/
theorem scoresAreTaken : Obligations.ScoresAreTaken := by
  unfold Obligations.ScoresAreTaken
  refine ⟨?_, ?_, ?_, ?_⟩
  · intro l id point v x p s hq hx hid hlink hawaits hpoint hmore hready hp hle hlow
    exact exec_score_takes hx hid hlink hawaits hpoint (takeScore_more (closeStream_quiet l hq) (by simpa using hx) hmore (by simpa using hready) hp hle
      (by simpa using hlow) |>.trans (by cases l <;> rfl)) (Leads.done (answered_quiet _ _ _ _ hq)) (by omega)
  · intro x s hq hx horigin hawaits hpoints hsettled hholder hgrant hlevel hrests hpass hlamp ended
    have hleft (r : SweepReport) (step : Nat) (zs : Option (List Zone)) : ended (sweepOver x r step zs s) r step := by
      obtain ⟨htarget, hposition⟩ := lensSent_target (min 4095 step) .back s
      simp only [ended, sweepOver_sweep, sweepOver_transport, sweepOver_grant, sweepOver_link, sweepOver_focus, htarget, hposition,
        sweepOver_slots, sweepOver_index, sweepOver_pass, sweepOver_tracker, sweepOver_params, sweepOver_marks, sweepOver_lamp,
        sweepOver_poller, sweepOver_bus, sweepOver_pending, and_self, and_true, true_and]
      exact fun m hm => sweepOver_link_other _ _ _ _ _ hm
    refine ⟨fun htimer => ⟨_, exec_scoreTimer_alone hq hx hawaits hlamp hholder hpoints htimer horigin hgrant ⟨hlevel, hrests, hpass⟩, ?_, ?_,
      hleft _ _ _⟩, fun id point v hid hpoint hlast => ?_⟩
    · simp
    · simp
    intro scores fit room stores
    have hstored : (fitStored x fit s).isSome = stores := fitStored_isSome s.params.minContrast x.stepSize x.points scores
    refine ⟨_, exec_score_alone hq hx hid rfl hawaits hpoint hlamp hholder hlast horigin hgrant ⟨hlevel, hrests, hpass⟩, ?_, ?_,
      fun hnot => ?_, fun hyes => ?_⟩
    · rw [answered_link_self]
    · have hreport := scoreReport_eq (v := v.toNat) (fit := fit) (rfl : fit = _) (rfl : fitStored x fit s = _)
      obtain ⟨htarget, hposition⟩ := lensSent_target (min 4095 (fit.step.getD (s.zoneStep x.frame))) .back s
      simp only [hreport, hstored]
      simp only [ended, answered_sweep, answered_transport, answered_sched, answered_focus, answered_link_self, answered_slots, answered_index,
        answered_pass, answered_tracker, answered_params, answered_marks, answered_lamp, answered_poller, answered_bus, answered_pending,
        sweepOver_sweep, sweepOver_transport, sweepOver_grant, sweepOver_link, sweepOver_focus,
        sweepOver_slots, sweepOver_index, sweepOver_pass, sweepOver_tracker, sweepOver_params, sweepOver_marks, sweepOver_lamp,
        sweepOver_poller, sweepOver_bus, sweepOver_pending, and_self, and_true, true_and]
      exact ⟨rfl, fun m hm => (answered_link_other _ _ _ _ _ hm).trans (sweepOver_link_other _ _ _ _ _ hm), htarget, hposition⟩
    · have hnone : fitStored x fit s = none := by rw [← Option.not_isSome_iff_eq_none, hstored, hnot]; simp
      rw [answered_zones, answered_tag, sweepOver_zones, sweepOver_tag, show fitStored x _ s = none from hnone]
      simp
    · obtain ⟨t, q, zs, hstep, hquality, hzs, hfits⟩ := fitStored_some (hstored.trans hyes)
      rw [answered_zones, answered_tag, sweepOver_zones, sweepOver_tag, show fitStored x _ s = some zs from hfits]
      refine ⟨by simp, q, hquality, fun hroom => ?_, fun hfull hasc before after z hsplit hz hafter => ?_⟩
      · rw [hstep]
        exact Option.some.inj (hzs.symm.trans (storeResult_room hroom))
      · rw [hstep]
        exact Option.some.inj (hzs.symm.trans (storeResult_full hsplit hfull hasc hz hafter))
  · intro l c k g x s hq hx horigin hlink hgrant hrunning hwork howner hhand hcurrent hg hmode hlevel hlamp rests ended onward fails report
    refine ⟨fun hawaits hpoints hsettled hholder hmove => ?_, fun m htravelling hpoints hmoving hm hrest hholder =>
      segmentPassed_endOfFilm hq hx horigin hgrant hrunning hwork howner hhand hcurrent hg hmode hlevel hlamp hpoints hmoving hm hrest hholder⟩
    have hholds : s.transport.holder = some (.sweep x.link x.id) := by rw [hlink]; exact hholder
    have hover := segmentOver_freed (x := x) hq hgrant hrunning howner hcurrent hmode hlevel hmove
    have hfreed (r : SweepReport) (zs : Option (List Zone)) (t : Nat) : (sweepFreed x r (withStored zs (lensBack t s))).pass = s.pass :=
      sweepFreed_pass ..
    refine ⟨fun htimer => ?_, ?_⟩
    · have hfails := sweep_fails (r := .timeout) (go := fun t => exec .scoreTimerExpiry s = .next t) (hover (timeoutReport x) none (s.zoneStep x.frame))
        (g := g) (k := k) (by rw [hfreed]; exact hg) (by rw [hfreed]; exact hhand) (by rw [hfreed]; exact hwork) (.inr (.inl rfl)) fun n t ht hn =>
          exec_scoreTimer_pass hq hx hawaits hlamp hholds hpoints htimer horigin hgrant (by rwa [withStored_none] at ht) (by omega)
      rw [withStored_none, timeoutReport] at hfails
      simp only [sweepFreed, hlink] at hfails
      cases l <;> exact hfails
    intro id point v hid hpoint hlast go scores fit scored
    have hstate := hover (scoreReport x v.toNat s) (fitStored x fit s) (fit.step.getD (s.zoneStep x.frame))
    obtain ⟨-, -, hcases⟩ := fitScores_cases s.params.minContrast x.stepSize x.points scores
    refine ⟨fun hnone => ?_, fun step q hstep hquality hmay => ?_⟩
    · have hresult : fit.result = .lowContrast := by
        rcases hcases with ⟨-, -, h⟩ | ⟨t, q, hsome, -⟩
        · exact h
        · exact absurd (hnone.symm.trans hsome) (by simp)
      have hfails := sweep_fails_answered (go := fun t => exec (.score l id point v) s = .next t) hstate (g := g) (k := k)
        (by rw [hfreed]; exact hg) (by rw [hfreed]; exact hhand) (by rw [hfreed]; exact hwork) (fun n t ht hn =>
          exec_score_pass hq hx hid hlink hawaits hpoint hlamp hholds hlast horigin hgrant ht (by omega))
        (.inr (.inr hresult))
      rw [scoreReport_eq (fit := fit) rfl (fitStored_none hnone), fitStored_none hnone, withStored_none, hnone] at hfails
      simp only [sweepFreed, fitReport, hlink] at hfails
      cases l <;> exact hfails
    · have hresult : fit.result = .fitted ∨ fit.result = .atLimit := by
        rcases hcases with ⟨hnone, -⟩ | ⟨t, q, -, -, h⟩
        · exact absurd (hstep.symm.trans hnone) (by simp)
        · exact h
      have hmayFreed (r : SweepReport) (zs : Option (List Zone)) (t : Nat) : MayMove (sweepFreed x r (withStored zs (lensBack t s))) := by
        unfold sweepFreed
        cases x.link <;> exact hmay
      have hfits := sweep_fits_answered (go := fun t => exec (.score l id point v) s = .next t) hstate (g := g) (k := k)
        (by rw [hfreed]; exact hg) (by rw [hfreed]; exact hhand) (by rw [hfreed]; exact hwork) (fun n t ht hn =>
          exec_score_pass hq hx hid hlink hawaits hpoint hlamp hholds hlast horigin hgrant ht (by omega))
        hresult (hmayFreed _ _ _)
      rw [hstep] at hfits
      refine ⟨fun zs hstore hzs => ?_, fun hnot => ?_⟩
      · have hstored : fitStored x fit s = some zs := by simp only [fitStored, hstore, hstep, hquality, hzs]
        rw [scoreReport_eq (fit := fit) rfl hstored, hstored, withStored_some] at hfits
        simp only [sweepFreed, fitReport, hlink] at hfits
        cases l <;> exact hfits
      · have hstored : fitStored x fit s = none := by
          rcases hnot with h | h
          · simp only [fitStored, h]
          · cases hstore : x.store <;> simp only [fitStored, hstore, hstep, hquality, h]
        rw [scoreReport_eq (fit := fit) rfl hstored, hstored, withStored_none] at hfits
        simp only [sweepFreed, fitReport, hlink] at hfits
        cases l <;> exact hfits
  · intro l id point v s hq refusal
    have hrefused {code : AnswerCode} (h : score l id.toNat point.toNat v.toNat (closeStream l s) = (closeStream l s, refuse code)) :
        refusal code := request_answered l 0x41#8 _ s (refuse code) hq h
    refine ⟨fun x hx hid => ⟨fun hother => hrefused ?_, fun hown hnot => hrefused ?_⟩, fun hnone => ⟨fun r hr hid => ⟨fun hother => hrefused ?_,
      fun hown hpoint => hrefused ?_, fun hown hpoint => hrefused ?_⟩, fun hno => hrefused ?_⟩⟩
    · simp [score, hx, hid, hother]
    · simp [score, hx, hid, hown, hnot]
    · rw [score_late hnone]
      simp [lateScore, hr, hid, hother]
    · rw [score_late hnone]
      simp [lateScore, hr, hid, hown, hpoint]
    · rw [score_late hnone]
      simp [lateScore, hr, hid, hown, hpoint]
    · rw [score_late hnone]
      cases hlast : s.sweep.last with
      | none => simp [lateScore, hlast]
      | some r => simp [lateScore, hlast, hno r hlast]

end Sys2Proof.Machine
end

section
/-! PROOFS. LINK RESET: the link cleared, its slots freed, and its work ended (R136, R155, R116, R192). -/

namespace Sys2Proof.Machine

open Sys2Proof

/-! ### The link is cleared, whatever was flagged on it (R192) -/

/-- The link as LINK RESET leaves it, with its answer. -/
def erased (l : Link) (s : State) : State :=
  onLink l (fun _ => LinkState.cleared { code := .ok, request := 0x0B#8, contents := .empty }) s

theorem exec_linkReset_eq (l : Link) (s : State) : exec (.linkReset l) s = .next (erased l (finish (endLinkWork l (closeStream l s)))) := by
  have hcleared (x : State) : setAnswer l { code := .ok, request := 0x0B#8, contents := .empty } (clearLink l x) = erased l x := by
    cases l <;> rfl
  exact congrArg Host.Outcome.next (hcleared _)

theorem exec_linkReset {l : Link} {n : Nat} {calls : List Signal} {s v t u : State} (hwork : endLinkWork l (closeStream l s) = facing calls v)
    (hleads : Leads n calls v t) (hn : n ≤ 100) (hsame : erased l t = erased l u) : exec (.linkReset l) s = .next (erased l u) := by
  rw [exec_linkReset_eq, hwork, finish_of_leads hleads hn, hsame]

/-! ### The slots of the link are freed (R136) -/

/-- The slots from i on, n of them, with those of the link freedIn. -/
def freedIn (l : Link) (i n : Nat) (xs : List Slot) : List Slot :=
  xs.mapIdx fun j x => if (i ≤ j ∧ j < i + n) ∧ x.state ≠ .free ∧ x.owner = l then Slot.empty else x

theorem freedIn_none (l : Link) (i : Nat) (xs : List Slot) : freedIn l i 0 xs = xs := by
  refine List.ext_getElem? fun j => ?_
  cases h : xs[j]? with
  | none => simp [freedIn, List.getElem?_mapIdx, h]
  | some x =>
    simp only [freedIn, List.getElem?_mapIdx, h, Option.map_some]
    rw [if_neg (by omega)]

theorem freedIn_freedIn (l : Link) (i n m : Nat) (xs : List Slot) : freedIn l (i + n) m (freedIn l i n xs) = freedIn l i (n + m) xs := by
  refine List.ext_getElem? fun j => ?_
  cases h : xs[j]? with
  | none => simp [freedIn, List.getElem?_mapIdx, h]
  | some x =>
    simp only [freedIn, List.getElem?_mapIdx, h, Option.map_some]
    by_cases hlow : i ≤ j ∧ j < i + n
    · have hhigh : ¬ (i + n ≤ j ∧ j < i + n + m) := by omega
      have hboth : i ≤ j ∧ j < i + (n + m) := by omega
      simp [hlow, hhigh, hboth]
    · have hboth : (i + n ≤ j ∧ j < i + n + m) ↔ (i ≤ j ∧ j < i + (n + m)) := by omega
      simp only [hlow, false_and, if_false, hboth]

theorem freedIn_all (l : Link) {n : Nat} {xs : List Slot} (h : xs.length = n) :
    freedIn l 0 n xs = xs.map (fun x => if x.state ≠ .free ∧ x.owner = l then Slot.empty else x) := by
  refine List.ext_getElem? fun j => ?_
  cases hx : xs[j]? with
  | none => simp [freedIn, List.getElem?_mapIdx, hx]
  | some x =>
    have hlt : j < n := h ▸ (List.getElem?_eq_some_iff.mp hx).1
    simp [freedIn, List.getElem?_mapIdx, hx, hlt]

/-- The part with the slots of the link from i on, n of them, freedIn. -/
def slotsEmptied (l : Link) (i n : Nat) (s : State) : State := { s with slots := freedIn l i n s.slots }

theorem slotsEmptied_append (l : Link) (i n m : Nat) (s : State) : slotsEmptied l (i + n) m (slotsEmptied l i n s) = slotsEmptied l i (n + m) s := by
  simp only [slotsEmptied, freedIn_freedIn]

theorem freeSlots_append (l : Link) (n m i : Nat) (s : State) : freeSlots l (n + m) i s = freeSlots l m (i + n) (freeSlots l n i s) := by
  induction n generalizing i s with
  | zero => simp [freeSlots]
  | succ n ih =>
    rw [show n + 1 + m = n + m + 1 by omega, freeSlots, freeSlots, ih, show i + 1 + n = i + (n + 1) by omega]

/-- The slot of this number is none of the link's that holds the gate or rides. -/
def Aside (l : Link) (x : Slot) : Prop := x.owner = l → x.state ≠ .travelling ∧ x.state ≠ .presenting

theorem onSlot_emptied {l : Link} {i : Nat} {s : State} (h : (s.slot i).state ≠ .free ∧ (s.slot i).owner = l) :
    onSlot i (fun _ => Slot.empty) s = slotsEmptied l i 1 s := by
  refine congrArg (fun xs => ({ s with slots := xs } : State)) (List.ext_getElem? fun j => ?_)
  rw [List.getElem?_modify, freedIn, List.getElem?_mapIdx]
  by_cases hj : i = j
  · subst hj
    cases hx : s.slots[i]? with
    | none => simp
    | some x => simp [← slot_eq s i x hx, h]
  · cases hx : s.slots[j]? with
    | none => simp
    | some x =>
      simp only [hj, if_false, Option.map_eq_map, Option.map_some]
      rw [if_neg (by omega)]

theorem slotsEmptied_kept {l : Link} {i : Nat} {s : State} (h : ¬ ((s.slot i).state ≠ .free ∧ (s.slot i).owner = l)) :
    slotsEmptied l i 1 s = s := by
  have hsame : freedIn l i 1 s.slots = s.slots := by
    refine List.ext_getElem? fun j => ?_
    rw [freedIn, List.getElem?_mapIdx]
    cases hx : s.slots[j]? with
    | none => simp
    | some x =>
      by_cases hj : i = j
      · subst hj
        rw [slot_eq s i x hx] at h
        simp [h]
      · simp only [Option.map_some]
        rw [if_neg (by omega)]
  simp only [slotsEmptied, hsame]

theorem slotsEmptied_slot (l : Link) (i n j : Nat) (s : State) : (slotsEmptied l i n s).slot j =
    if (i ≤ j ∧ j < i + n) ∧ (s.slot j).state ≠ .free ∧ (s.slot j).owner = l then Slot.empty else s.slot j := by
  simp only [State.slot, slotsEmptied, freedIn, List.getD_eq_getElem?_getD, List.getElem?_mapIdx]
  cases s.slots[j]? <;> simp [Slot.empty]

/-- What the freeing of one slot sets off besides. -/
def slotReleased (x : Slot) (s : State) : State :=
  if x.state = .travelling then requestStop s else if x.state = .presenting then endGrant (freeGate s) else s

theorem freeSlots_one (l : Link) (i : Nat) (s : State) : freeSlots l 1 i s =
    if (s.slot i).owner = l then slotReleased (s.slot i) (slotsEmptied l i 1 s) else slotsEmptied l i 1 s := by
  simp only [freeSlots]
  by_cases hheld : (s.slot i).state ≠ .free ∧ (s.slot i).owner = l
  · rw [if_pos hheld, if_pos hheld.2, onSlot_emptied hheld]
    rfl
  · rw [if_neg hheld, slotsEmptied_kept hheld]
    by_cases howner : (s.slot i).owner = l
    · have hfree : (s.slot i).state = .free := by
        by_contra hno
        exact hheld ⟨hno, howner⟩
      simp [slotReleased, howner, hfree]
    · rw [if_neg howner]

theorem freeSlots_aside {l : Link} {n i : Nat} {s : State} (h : ∀ j, i ≤ j → j < i + n → Aside l (s.slot j)) :
    freeSlots l n i s = slotsEmptied l i n s := by
  induction n generalizing i s with
  | zero => simp [freeSlots, slotsEmptied, freedIn_none]
  | succ n ih =>
    have hone : freeSlots l 1 i s = slotsEmptied l i 1 s := by
      rw [freeSlots_one]
      split_ifs with howner
      · obtain ⟨htravelling, hpresenting⟩ := h i (le_refl i) (by omega) howner
        simp [slotReleased, htravelling, hpresenting]
      · rfl
    have hlater (j : Nat) (hlow : i + 1 ≤ j) (hhigh : j < i + 1 + n) : Aside l ((slotsEmptied l i 1 s).slot j) := by
      rw [slotsEmptied_slot, if_neg (by omega)]
      exact h j (by omega) (by omega)
    rw [show n + 1 = 1 + n by omega, freeSlots_append, hone, ih hlater, slotsEmptied_append]

theorem parked_withSlots (xs : List Slot) {s : State} (hlamp : s.lamp.state ≠ .off) :
    enterState .parked { s with slots := xs } = { enterState .parked s with slots := xs } := by
  simp only [enterState, lampOnEntering, hlamp, if_false, if_true]
  rfl

/-- A stop asked for leaves the slots as they are, whatever they are. -/
theorem requestStop_withSlots (xs : List Slot) {s : State} (h : s.lamp.state ≠ .off ∨ InFlight s) :
    requestStop { s with slots := xs } = { requestStop s with slots := xs } := by
  unfold requestStop
  cases hstate : s.transport.state
  case moving => cases hm : s.transport.move with
    | none => rfl
    | some m =>
      dsimp only
      split_ifs <;> rfl
  case settling =>
    have hlamp : s.lamp.state ≠ .off := h.resolve_right fun hin => by rcases hin.1 with h | h <;> simp [hstate] at h
    exact parked_withSlots xs (s := emit (.moveDone .stopped)
      { s with transport := { s.transport with settleTimer := none, gateReady := false, move := none } }) hlamp
  case settled =>
    have hlamp : s.lamp.state ≠ .off := h.resolve_right fun hin => by rcases hin.1 with h | h <;> simp [hstate] at h
    exact parked_withSlots xs (s := { s with transport := { s.transport with holder := none } }) hlamp
  case parked | standby | waking =>
    by_cases hgrant : s.sched.grant = .none
    · simp only [hgrant, if_true]
    · simp only [hgrant, if_false]
      rfl
  all_goals rfl

theorem slotReleased_withSlots {x : Slot} {s : State} (h : s.lamp.state ≠ .off ∨ (x.state ≠ .presenting ∧ InFlight s)) (xs : List Slot) :
    slotReleased x { s with slots := xs } = { slotReleased x s with slots := xs } := by
  unfold slotReleased
  split_ifs with htravelling hpresenting
  · exact requestStop_withSlots xs (h.imp_right And.right)
  · have hlamp : s.lamp.state ≠ .off := h.resolve_right fun hno => hno.1 hpresenting
    have hfreed : freeGate { s with slots := xs } = { freeGate s with slots := xs } :=
      parked_withSlots xs (s := { s with transport := { s.transport with holder := none } }) hlamp
    rw [hfreed]
    rfl
  · rfl

theorem slotReleased_slots {x : Slot} {s : State} (h : s.lamp.state ≠ .off ∨ (x.state ≠ .presenting ∧ InFlight s)) :
    (slotReleased x s).slots = s.slots := by
  have hsame := slotReleased_withSlots h s.slots
  exact (congrArg State.slots hsame :)

theorem slotReleased_emptied {x : Slot} {s : State} (h : s.lamp.state ≠ .off ∨ (x.state ≠ .presenting ∧ InFlight s)) (l : Link) (i n : Nat) :
    slotReleased x (slotsEmptied l i n s) = slotsEmptied l i n (slotReleased x s) := by
  unfold slotsEmptied
  rw [slotReleased_withSlots h, slotReleased_slots h]

/-- One slot of the link holds the gate or rides: what it sets off is as if all were emptied before. -/
theorem freeSlots_releases {l : Link} {n i : Nat} {x : Slot} {s : State} (hlen : s.slots.length = n) (hx : s.slots[i]? = some x) (howner : x.owner = l)
    (hothers : ∀ j y, j ≠ i → s.slots[j]? = some y → Aside l y) (h : s.lamp.state ≠ .off ∨ (x.state ≠ .presenting ∧ InFlight s)) :
    freeSlots l n 0 s = slotReleased x (slotsEmptied l 0 n s) := by
  have hlt : i < n := hlen ▸ (List.getElem?_eq_some_iff.mp hx).1
  have haside (j : Nat) (hj : j ≠ i) : Aside l (s.slot j) := by
    cases hy : s.slots[j]? with
    | none => simp [Aside, State.slot, List.getD_eq_getElem?_getD, hy, Slot.empty]
    | some y => rw [slot_eq s j y hy]; exact hothers j y hj hy
  have hbefore : freeSlots l i 0 s = slotsEmptied l 0 i s := freeSlots_aside fun j _ hj => haside j (by omega)
  have hslot : (slotsEmptied l 0 i s).slot i = x := by rw [slotsEmptied_slot, if_neg (by omega), slot_eq s i x hx]
  have hone : freeSlots l 1 i (slotsEmptied l 0 i s) = slotsEmptied l 0 (i + 1) (slotReleased x s) := by
    have happend := slotsEmptied_append l 0 i 1 s
    rw [Nat.zero_add] at happend
    rw [freeSlots_one, hslot, if_pos howner, happend, slotReleased_emptied h]
  have hkept := slotReleased_slots h
  have hlater (j : Nat) (hlow : i + 1 ≤ j) (_ : j < i + 1 + (n - (i + 1))) : Aside l ((slotsEmptied l 0 (i + 1) (slotReleased x s)).slot j) := by
    rw [slotsEmptied_slot, if_neg (by omega), State.slot, hkept]
    exact haside j (by omega)
  have hrest := slotsEmptied_append l 0 (i + 1) (n - (i + 1)) (slotReleased x s)
  rw [Nat.zero_add, show i + 1 + (n - (i + 1)) = n by omega] at hrest
  calc freeSlots l n 0 s = freeSlots l (i + (1 + (n - (i + 1)))) 0 s := by rw [show i + (1 + (n - (i + 1))) = n by omega]
    _ = freeSlots l (n - (i + 1)) (i + 1) (freeSlots l 1 i (freeSlots l i 0 s)) := by
      rw [freeSlots_append, freeSlots_append, Nat.zero_add]
    _ = slotReleased x (slotsEmptied l 0 n s) := by
      rw [hbefore, hone, freeSlots_aside hlater, hrest, slotReleased_emptied h]

/-! ### The names of the slots that are left (R117, R136) -/

/-- The name belongs to the link. -/
def keyOn (l : Link) (k : Option (Link × Byte)) : Prop := ∃ x ∈ k, x.1 = l

theorem key_on_iff (l : Link) (x : Slot) : keyOn l x.key ↔ x.state ≠ .free ∧ x.owner = l := by
  by_cases hfree : x.state = .free <;> simp [keyOn, Slot.key, hfree]

/-- No slot from i on, of n slots, is the link's. -/
def LinkGone (l : Link) (i n : Nat) (ks : List (Option (Link × Byte))) : Prop :=
  ∀ (j : Nat) (k : Option (Link × Byte)), i ≤ j → j < i + n → ks[j]? = some k → ¬ keyOn l k

theorem slotsEmptied_key (l : Link) (i : Nat) (s : State) (j : Nat) (k : Option (Link × Byte)) (h : (slotsEmptied l i 1 s).slotKeys[j]? = some k) :
    (s.slotKeys[j]? = some k ∨ k = none) ∧ (j = i → ¬ keyOn l k) := by
  simp only [State.slotKeys, slotsEmptied, freedIn, List.getElem?_map, List.getElem?_mapIdx, Option.map_eq_some_iff] at h
  obtain ⟨y, ⟨x, hx, rfl⟩, rfl⟩ := h
  have hkey : s.slotKeys[j]? = some x.key := by simp [State.slotKeys, hx]
  split_ifs with hin
  · exact ⟨.inr rfl, fun _ hon => by simp [keyOn, Slot.key, Slot.empty] at hon⟩
  · refine ⟨.inl hkey, fun hj hon => hin ⟨by omega, (key_on_iff l x).mp hon⟩⟩

theorem freeSlots_gone (l : Link) (n i : Nat) (s : State) : LinkGone l i n (freeSlots l n i s).slotKeys ∧
    ∀ (j : Nat) (k : Option (Link × Byte)), (freeSlots l n i s).slotKeys[j]? = some k → s.slotKeys[j]? = some k ∨ k = none := by
  induction n generalizing i s with
  | zero => exact ⟨fun j k hlow hhigh => absurd hhigh (by omega), fun j k h => .inl h⟩
  | succ n ih =>
    have hone : (freeSlots l 1 i s).slotKeys = (slotsEmptied l i 1 s).slotKeys := by
      rw [freeSlots_one]
      unfold slotReleased
      split_ifs <;> simp
    obtain ⟨hgone, hkept⟩ := ih (i + 1) (freeSlots l 1 i s)
    rw [show n + 1 = 1 + n by omega, freeSlots_append]
    refine ⟨fun j k hlow hhigh hj hon => ?_, fun j k hj => ?_⟩
    · by_cases hfirst : j = i
      · rcases hkept j k hj with h | rfl
        · rw [hone] at h
          exact (slotsEmptied_key l i s j k h).2 hfirst hon
        · simp [keyOn] at hon
      · exact hgone j k (by omega) (by omega) hj hon
    · rcases hkept j k hj with h | h
      · rw [hone] at h
        exact (slotsEmptied_key l i s j k h).1
      · exact .inr h

/-! ### The link's work ends (R192) -/

/-- The DISCOVER move stops where no slot is RESOLVING any longer (R127). -/
def discoverLeft (s : State) : State := if s.sched.grant = .discover then stopDiscoverIfDone s else s

/-- The pass of the link ends (R155). -/
def passLeft (l : Link) (s : State) : State := if s.pass.owner = some l then endPass .aborted s else s

/-- The sweep of the link ends (R116). -/
def sweepLeft (l : Link) (s : State) : State :=
  match s.sweep.active with
  | some x => if x.link = l then cancelSweep .cancelled s else s
  | none => s

theorem endLinkWork_eq (l : Link) (s : State) : endLinkWork l s = sweepLeft l (passLeft l (discoverLeft (freeSlots l Config.slotCount 0 s))) := by
  unfold endLinkWork
  generalize freeSlots l Config.slotCount 0 s = z
  rfl

theorem endLinkWork_keys (l : Link) (s : State) : (endLinkWork l s).slotKeys = (freeSlots l Config.slotCount 0 s).slotKeys := by
  rw [endLinkWork_eq]
  unfold sweepLeft passLeft discoverLeft
  (repeat' split) <;> simp

theorem discoverLeft_away {s : State} (h : s.sched.grant ≠ .discover) : discoverLeft s = s := if_neg h

theorem passLeft_away {l : Link} {s : State} (h : s.pass.owner ≠ some l) : passLeft l s = s := if_neg h

theorem sweepLeft_away {l : Link} {s : State} (h : ∀ x ∈ s.sweep.active, x.link ≠ l) : sweepLeft l s = s := by
  cases hx : s.sweep.active with
  | none => simp only [sweepLeft, hx]
  | some x => simp only [sweepLeft, hx, h x hx, if_false]

theorem sweepLeft_own {l : Link} {x : SweepRecord} {s : State} (hx : s.sweep.active = some x) (hlink : x.link = l) :
    sweepLeft l s = cancelSweep .cancelled s := by
  simp only [sweepLeft, hx, hlink, if_true]

end Sys2Proof.Machine
end

section
/-! PROOFS. What the end of a link's work leaves, by the transport state (R59, R126, R127, R155, R116, R192). -/

namespace Sys2Proof.Machine

open Sys2Proof

/-! ### What the cleared link does not show -/

/-- The part with the slots of the link freed. -/
def linkFreed (l : Link) (s : State) : State :=
  { s with slots := s.slots.map (fun x => if x.state ≠ .free ∧ x.owner = l then Slot.empty else x) }

/-- A pass ended but for its flag. -/
def passGone (l : Link) (c : Nat) (o : PassOutcome) (x : SegState) (s : State) : State :=
  { s with pass := { s.pass with
      state := .idle, owner := none, work := .none, pending := .none, captureTimer := none, armed := none,
      frameInHand := none, yieldAsked := false, yieldLater := false, after := .nothing, visitedInHand := false
      outcomes := s.pass.outcomes.modify (c - 1) (fun r => { r with state := x })
      last := some
        { outcome := o, owner := l, mode := s.pass.mode.getD .step, yieldCount := s.pass.yieldCount,
          lastTriggered := s.pass.lastTriggered, timedOut := s.pass.timedOut } } }

/-- A sweep ended but for its flag. -/
def sweepGone (x : SweepRecord) (r : SweepResult) (s : State) : State :=
  { s with sweep := { s.sweep with
      active := none, scoreTimer := none
      last := some
        { id := x.id, frame := x.frame, link := x.link, result := r, step := none, quality := none,
          store := if x.store then .notStored else .notAsked, scores := x.scores
          timedOutPoint := if r = .timeout then some x.current else none } } }

section
variable (l : Link) (s : State)

theorem erased_closeStream : erased l (closeStream l s) = erased l s := by cases l <;> rfl

theorem erased_linkFreed : erased l (linkFreed l s) = linkFreed l (erased l s) := by cases l <;> rfl

theorem erased_passEnded (c : Nat) (o : PassOutcome) (x : SegState) : erased l (passEnded l c o x s) = passGone l c o x (erased l s) := by
  cases l <;> rfl

theorem erased_sweepEnded {x : SweepRecord} (r : SweepResult) (hlink : x.link = l) :
    erased l (sweepEnded x r s) = sweepGone x r (erased l s) := by
  subst hlink
  cases hlink : x.link <;> simp only [sweepEnded, hlink, sweepGone] <;> rfl

theorem erased_focus (f : Focus) : erased l { s with focus := f } = { erased l s with focus := f } := by cases l <;> rfl

theorem erased_ungranted : erased l { s with sched := { s.sched with grant := .none } } =
    { erased l s with sched := { (erased l s).sched with grant := .none } } := by cases l <;> rfl

theorem erased_stopAsked : erased l (stopAsked s) = stopAsked (erased l s) := by
  cases hm : s.transport.move with
  | none => cases l <;> simp only [stopAsked, erased, onLink, hm]
  | some m => cases l <;> simp only [stopAsked, erased, onLink, hm] <;> split_ifs <;> rfl

theorem erased_transportFreed : erased l (transportFreed s) = transportFreed (erased l s) := by
  cases hstate : s.transport.state <;> cases l <;> simp only [transportFreed, erased, onLink, hstate] <;> rfl

end

/-! ### The end of the link's work comes to a state -/

theorem exec_linkReset_leads {l : Link} {n : Nat} {s t u : State}
    (hleads : Leads n (endLinkWork l (closeStream l s)).todo (endLinkWork l (closeStream l s)) t) (hn : n ≤ 100)
    (hsame : erased l t = erased l u) : exec (.linkReset l) s = .next (erased l u) :=
  exec_linkReset (facing_todo rfl).symm hleads hn hsame

/-- Consequences that touch nothing where no grant stands and nothing waits. -/
def Calm (sig : Signal) : Prop :=
  sig = .choose ∨ sig = .moveDone .stopped ∨ sig = .passSweepDone .cancelled ∨ sig = .focusArrived .back

theorem idle_calm {calls : List Signal} {s : State} (hcalls : ∀ sig ∈ calls, Calm sig) (hgrant : s.sched.grant = .none) (hwork : NoWork s) :
    Idle calls s := by
  intro sig hsig
  rcases hcalls sig hsig with rfl | rfl | rfl | rfl
  · exact choose_at_ease s (.inr hwork)
  · show moveDone .stopped s = s
    simp [moveDone, hgrant]
  · exact passSweepEnded_unheeded (.inr rfl) s
  · rfl

/-- With the transport not at rest the scheduler does not choose either. -/
theorem idle_calm_moving {calls : List Signal} {s : State} (hcalls : ∀ sig ∈ calls, sig = .choose ∨ sig = .passSweepDone .cancelled)
    (hstate : s.transport.state = .moving ∨ s.sched.grant ≠ .none) : Idle calls s := by
  intro sig hsig
  rcases hcalls sig hsig with rfl | rfl
  · rcases hstate with h | h
    · exact choose_barred s (by simp [h]) (by simp [h]) (by simp [h])
    · exact choose_at_ease s (.inl h)
  · exact passSweepEnded_unheeded (.inr rfl) s

/-! ### A stop asked for, by the transport state (R59) -/

theorem requestStop_asked {s : State} (h : InFlight s) : requestStop s = stopAsked s := by
  obtain ⟨hstate, hmove⟩ := h
  obtain ⟨m, hm⟩ := Option.ne_none_iff_exists'.mp hmove
  rcases hstate with hmoving | hrecovering
  · have hnot : s.transport.state ≠ .recovering := by simp [hmoving]
    simp only [stopAsked, hm, hnot, if_false]
    split_ifs with hphase
    · exact (requestStop_running hmoving hm hphase).trans rfl
    · exact requestStop_stopping hmoving hm hphase
  · simp only [stopAsked, hm, hrecovering, if_true]
    exact requestStop_recovering hrecovering hm

section
variable (s : State)

@[simp] theorem stopAsked_sched : (stopAsked s).sched = s.sched := by unfold stopAsked; (repeat' split) <;> rfl
@[simp] theorem stopAsked_pass : (stopAsked s).pass = s.pass := by unfold stopAsked; (repeat' split) <;> rfl
@[simp] theorem stopAsked_sweep : (stopAsked s).sweep = s.sweep := by unfold stopAsked; (repeat' split) <;> rfl
@[simp] theorem stopAsked_todo : (stopAsked s).todo = s.todo := by unfold stopAsked; (repeat' split) <;> rfl
@[simp] theorem stopAsked_holder : (stopAsked s).transport.holder = s.transport.holder := by unfold stopAsked; (repeat' split) <;> rfl

theorem stopAsked_moving {s : State} (h : InFlight s) : (stopAsked s).transport.state = .moving := by
  obtain ⟨hstate, hmove⟩ := h
  obtain ⟨m, hm⟩ := Option.ne_none_iff_exists'.mp hmove
  rcases hstate with hmoving | hrecovering
  · have hnot : s.transport.state ≠ .recovering := by simp [hmoving]
    simp only [stopAsked, hm, hnot, if_false]
    split_ifs
    · exact hmoving
    · exact hmoving
  · simp only [stopAsked, hm, hrecovering, if_true]
    rfl

theorem stopAsked_stops {s : State} (h : InFlight s) : ∃ m, (stopAsked s).transport.move = some m ∧ m.phase ≠ .running := by
  obtain ⟨hstate, hmove⟩ := h
  obtain ⟨m, hm⟩ := Option.ne_none_iff_exists'.mp hmove
  simp only [stopAsked, hm]
  split_ifs with hrecovering hphase
  · exact ⟨_, rfl, by simp⟩
  · exact ⟨_, rfl, by simp⟩
  · exact ⟨m, hm, hphase⟩

end

/-! ### The slots of the link (R136, R127) -/

theorem linkFreed_eq {l : Link} {s : State} (hlen : s.slots.length = 16) : slotsEmptied l 0 Config.slotCount s = linkFreed l s := by
  simp only [slotsEmptied, linkFreed, freedIn_all l (n := Config.slotCount) hlen]

theorem freeSlots_all_aside {l : Link} {s : State} (hlen : s.slots.length = 16) (haside : ∀ x ∈ s.slots, Aside l x) :
    freeSlots l Config.slotCount 0 s = linkFreed l s := by
  rw [← linkFreed_eq hlen]
  refine freeSlots_aside fun j _ _ => ?_
  cases hy : s.slots[j]? with
  | none => simp [Aside, State.slot, List.getD_eq_getElem?_getD, hy, Slot.empty]
  | some y => rw [slot_eq s j y hy]; exact haside y (List.mem_of_getElem? hy)

theorem freeSlots_own {l : Link} {i : Nat} {x : Slot} {s : State} (hlen : s.slots.length = 16) (hx : s.slots[i]? = some x) (howner : x.owner = l)
    (hothers : ∀ j y, j ≠ i → s.slots[j]? = some y → Aside l y) (h : s.lamp.state ≠ .off ∨ (x.state ≠ .presenting ∧ InFlight s)) :
    freeSlots l Config.slotCount 0 s = slotReleased x (linkFreed l s) := by
  rw [freeSlots_releases (n := Config.slotCount) hlen hx howner hothers h, linkFreed_eq hlen]

theorem linkFreed_resting {l : Link} {s : State} (h : ∀ x ∈ s.slots, x.owner = l ∨ x.resting = true) :
    ∀ x ∈ (linkFreed l s).slots, x.resting = true := by
  intro x hx
  obtain ⟨y, hy, rfl⟩ := List.mem_map.mp hx
  split_ifs with hheld
  · rfl
  · rcases h y hy with howner | hresting
    · have hfree : y.state = .free := by
        by_contra hno
        exact hheld ⟨hno, howner⟩
      simp [Slot.resting, hfree]
    · exact hresting

theorem linkFreed_anyResolving {l : Link} {s : State} :
    (linkFreed l s).anyResolving = true ↔ ∃ x ∈ s.slots, x.owner ≠ l ∧ x.state = .resolving := by
  simp only [State.anyResolving, linkFreed, List.any_map, List.any_eq_true, Function.comp_apply, beq_iff_eq]
  refine exists_congr fun x => and_congr_right fun _ => ?_
  by_cases hheld : x.state ≠ .free ∧ x.owner = l
  · simp [hheld, Slot.empty]
  · rw [if_neg hheld]
    refine ⟨fun hresolving => ⟨fun howner => hheld ⟨by simp [hresolving], howner⟩, hresolving⟩, And.right⟩

/-- The work of the link ends in this state, all that follows carried out. -/
def LinkEnds (l : Link) (s v : State) : Prop := ∃ n, n ≤ 100 ∧ Leads n (endLinkWork l s).todo (endLinkWork l s) v

theorem linkEnds_leads {l : Link} {n : Nat} {calls : List Signal} {s w v : State} (h : endLinkWork l s = facing calls w) (hleads : Leads n calls w v)
    (hn : n ≤ 100) : LinkEnds l s v := ⟨n, hn, by rw [h]; exact hleads⟩

theorem linkEnds_idle {l : Link} {calls : List Signal} {s v : State} (h : endLinkWork l s = facing calls v) (hidle : Idle calls v) (hq : Quiet v)
    (hlen : calls.length ≤ 100) : LinkEnds l s v := linkEnds_leads h (leads_idle hq hidle) hlen

section
variable {l : Link} {s : State} (hq : Quiet s) (hlen : s.slots.length = 16) (hpass : s.pass.owner ≠ some l)
  (hsweep : ∀ x ∈ s.sweep.active, x.link ≠ l)

theorem endLinkWork_slots {z : State} (hslots : freeSlots l Config.slotCount 0 s = z) (hgrant : z.sched.grant ≠ .discover)
    (hpass : z.pass.owner ≠ some l) (hsweep : ∀ x ∈ z.sweep.active, x.link ≠ l) : endLinkWork l s = z := by
  rw [endLinkWork_eq, hslots, discoverLeft_away hgrant, passLeft_away hpass, sweepLeft_away hsweep]

include hq hlen hpass hsweep

theorem linkEnds_free (haside : ∀ x ∈ s.slots, Aside l x) (hgrant : s.sched.grant ≠ .discover) : LinkEnds l s (linkFreed l s) :=
  linkEnds_idle (calls := []) ((endLinkWork_slots (freeSlots_all_aside hlen haside) hgrant hpass hsweep).trans (facing_nil (by exact hq)).symm)
    (Idle.nil _) hq (by simp)

section
variable {i : Nat} {x : Slot} (hx : s.slots[i]? = some x) (howner : x.owner = l) (hgrant : s.sched.grant = .slot i)
  (hothers : ∀ j y, j ≠ i → s.slots[j]? = some y → Aside l y)

include hx howner hgrant hothers

theorem linkEnds_slot_asked (htravelling : x.state = .travelling) (hflight : InFlight s) : LinkEnds l s (stopAsked (linkFreed l s)) := by
  have hslots : freeSlots l Config.slotCount 0 s = stopAsked (linkFreed l s) := by
    rw [freeSlots_own hlen hx howner hothers (.inr ⟨by simp [htravelling], hflight⟩), slotReleased, if_pos htravelling]
    exact requestStop_asked (s := linkFreed l s) hflight
  have hquiet : Quiet (stopAsked (linkFreed l s)) := (stopAsked_todo _).trans hq
  refine linkEnds_idle (calls := []) ((endLinkWork_slots hslots ?_ ?_ ?_).trans (facing_nil hquiet).symm) (Idle.nil _) hquiet (by simp)
  · rw [stopAsked_sched]
    exact fun h => by cases hgrant.symm.trans h
  · rw [stopAsked_pass]
    exact hpass
  · rw [stopAsked_sweep]
    exact hsweep

variable (hlevel : s.tracker.level ≠ .lost) (hlamp : s.lamp.state ≠ .off) (hrest : ∀ x ∈ s.slots, x.owner = l ∨ x.resting = true)
  (hnone : s.sweep.active = none) (hidle : s.passActive = false)

include hlevel hlamp hrest hnone hidle

theorem linkEnds_slot_settling (htravelling : x.state = .travelling) (hstate : s.transport.state = .settling) :
    LinkEnds l s (transportFreed (linkFreed l s)) := by
  have hfreed : NoWork (linkFreed l s) := ⟨hlevel, linkFreed_resting hrest, hnone, hidle⟩
  have hslots : freeSlots l Config.slotCount 0 s = facing [.moveDone .stopped, .choose] { linkFreed l s with
      transport := { s.transport with state := .parked, settleTimer := none, gateReady := false, move := none }
      roll := { s.roll with idleTimer := none } } := by
    rw [freeSlots_own hlen hx howner hothers (.inl hlamp), slotReleased, if_pos htravelling]
    exact requestStop_settling (s := linkFreed l s) hq hstate (by simp [linkFreed, hgrant]) hlamp
  have hgone (y : Slot) (hy : (linkFreed l s).slots[i]? = some y) : y.state ≠ .travelling := by
    have hresting := linkFreed_resting hrest y (List.mem_of_getElem? hy)
    intro h
    simp [Slot.resting, h] at hresting
  have hleads := leads_slot_stopped (i := i) (o := .stopped) (s := { linkFreed l s with
      transport := { s.transport with state := .parked, settleTimer := none, gateReady := false, move := none }
      roll := { s.roll with idleTimer := none } }) hq rfl hgrant hgone hfreed
  have hsame : transportFreed (linkFreed l s) = grantEnded { linkFreed l s with
      transport := { s.transport with state := .parked, settleTimer := none, gateReady := false, move := none }
      roll := { s.roll with idleTimer := none } } := by
    simp only [transportFreed, show (linkFreed l s).transport.state = .settling from hstate]
    rfl
  rw [hsame]
  exact linkEnds_leads (endLinkWork_slots hslots (fun h => by cases hgrant.symm.trans h) hpass hsweep) hleads (by omega)

theorem linkEnds_slot_waking (htravelling : x.state = .travelling) (hstate : s.transport.state = .waking) :
    LinkEnds l s (transportFreed (linkFreed l s)) := by
  have hfreed : NoWork (linkFreed l s) := ⟨hlevel, linkFreed_resting hrest, hnone, hidle⟩
  have hslots : freeSlots l Config.slotCount 0 s = facing [.choose] { linkFreed l s with sched := { s.sched with grant := .none } } := by
    rw [freeSlots_own hlen hx howner hothers (.inl hlamp), slotReleased, if_pos htravelling]
    exact requestStop_waking (s := linkFreed l s) hq hstate (by simp [linkFreed, hgrant])
  have hsame : transportFreed (linkFreed l s) = { linkFreed l s with sched := { s.sched with grant := .none } } := by
    simp only [transportFreed, show (linkFreed l s).transport.state = .waking from hstate]
    rfl
  rw [hsame]
  exact linkEnds_idle (endLinkWork_slots hslots (fun h => by cases (h : Grant.none = .discover)) hpass hsweep) (idle_choose (.inr hfreed)) hq (by simp)

omit hgrant in
theorem linkEnds_slot_presenting (hpresenting : x.state = .presenting) (hstate : s.transport.state = .settled) :
    LinkEnds l s (transportFreed (linkFreed l s)) := by
  have hfreed : NoWork (linkFreed l s) := ⟨hlevel, linkFreed_resting hrest, hnone, hidle⟩
  have hslots : freeSlots l Config.slotCount 0 s = facing [.choose, .choose] (gateFreed (linkFreed l s)) := by
    rw [freeSlots_own hlen hx howner hothers (.inl hlamp), slotReleased, if_neg (by simp [hpresenting]), if_pos hpresenting]
    exact endGrant_freeGate (s := linkFreed l s) hq hlamp
  have hsame : transportFreed (linkFreed l s) = gateFreed (linkFreed l s) := by
    simp only [transportFreed, show (linkFreed l s).transport.state = .settled from hstate]
    rfl
  rw [hsame]
  exact linkEnds_idle (endLinkWork_slots hslots (fun h => by cases (h : Grant.none = .discover)) hpass hsweep) (idle_chooses (.inr hfreed)) hq (by simp)

end

end

/-! ### The DISCOVER move (R127) -/

theorem discoverLeft_other {s : State} (h : s.anyResolving = true) : discoverLeft s = s := by
  unfold discoverLeft stopDiscoverIfDone
  rw [if_pos h]
  split_ifs <;> rfl

theorem discoverLeft_stops {s : State} (hgrant : s.sched.grant = .discover) (h : ¬ s.anyResolving = true) : discoverLeft s = requestStop s := by
  unfold discoverLeft stopDiscoverIfDone stopDiscover
  rw [if_pos hgrant, if_neg h, if_pos hgrant]

/-! ### The transport is given back (R58, R59, R126) -/

theorem transportFreed_settling {s : State} (h : s.transport.state = .settling) : transportFreed s = grantEnded
    { s with transport := { s.transport with state := .parked, settleTimer := none, gateReady := false, move := none } } := by
  simp only [transportFreed, h]

theorem transportFreed_settled {s : State} (h : s.transport.state = .settled) :
    transportFreed s = grantEnded { s with transport := { s.transport with state := .parked, holder := none } } := by
  simp only [transportFreed, h]

theorem transportFreed_waking {s : State} (h : s.transport.state = .waking) : transportFreed s = { s with sched := { s.sched with grant := .none } } := by
  simp only [transportFreed, h]

theorem transportFreed_parked {s : State} (h : s.transport.state = .parked) : transportFreed s = grantEnded s := by
  simp only [transportFreed, h]

theorem endGrant_away {s : State} (hq : Quiet s) (h : s.transport.state ≠ .parked) :
    endGrant s = facing [.choose] { s with sched := { s.sched with grant := .none } } := by
  simp only [endGrant, h, if_false]
  exact emit_eq_facing _ hq

section
variable {l : Link} {u : State} (hgrant : u.sched.grant = .pass)

include hgrant

/-- The move of the pass is stopped, in the back-off too. -/
theorem moveReleased_asked (hholder : u.transport.holder = none) (hflight : InFlight u) : moveReleased l u = stopAsked u := by
  have hsome : u.transport.move.isSome = true := Option.isSome_iff_ne_none.mpr hflight.2
  obtain ⟨m, hm, -⟩ := stopAsked_stops hflight
  simp [moveReleased, hholder, hgrant, hsome, requestStop_asked hflight, hm]

/-- The gate is freed, the settle abandoned or the grant dropped with the pass. -/
theorem moveReleased_frees (hq : Quiet u) (hlamp : u.lamp.state ≠ .off)
    (hstate : (u.transport.state = .settled ∧ u.transport.holder = some (.pass l) ∧ u.transport.move = none) ∨
      (u.transport.state = .settling ∧ u.transport.holder = none) ∨
      ((u.transport.state = .waking ∨ u.transport.state = .parked) ∧ u.transport.holder = none ∧ u.transport.move = none)) :
    ∃ calls, (∀ sig ∈ calls, Calm sig) ∧ calls.length ≤ 5 ∧ moveReleased l u = facing calls (transportFreed u) := by
  rcases hstate with ⟨hsettled, hholder, hmove⟩ | ⟨hsettling, hholder⟩ | ⟨hstate | hstate, hholder, hmove⟩
  · refine ⟨[.choose, .choose], by simp [Calm], by simp, ?_⟩
    have hfreed := endGrant_freeGate hq hlamp
    have hstill : (freeGate u).sched.grant = .pass ∧ (freeGate u).transport.move = none ∧ (freeGate u).transport.state = .parked := by
      simp [freeGate, enterState, lampOnEntering, hlamp, emit, hgrant, hmove]
    obtain ⟨hg, hm, hs⟩ := hstill
    rw [transportFreed_settled hsettled]
    simp only [moveReleased, hholder, if_true, hg, hm, hs, Option.isSome_none, Bool.false_eq_true, reduceCtorEq, or_self, if_false,
      Option.isNone_none, and_self, hfreed]
    rfl
  · refine ⟨[.moveDone .stopped, .choose, .choose], by simp [Calm], by simp, ?_⟩
    have hstopped := requestStop_settling hq hsettling (by simp [hgrant]) hlamp
    rw [transportFreed_settling hsettling]
    simp only [moveReleased, hholder, reduceCtorEq, if_false, hgrant, if_true, hsettling, or_true, hstopped]
    rw [if_pos ⟨by rfl, by exact hgrant⟩, endGrant_parked (by rfl)]
    simp only [facing, grantEnded]
    rfl
  · refine ⟨[.choose], by simp [Calm], by simp, ?_⟩
    rw [transportFreed_waking hstate, ← endGrant_away hq (by simp [hstate])]
    simp [moveReleased, hholder, hgrant, hmove, hstate]
  · refine ⟨[.choose], by simp [Calm], by simp, ?_⟩
    have hends := endGrant_parked hstate
    rw [show u.todo = [] from hq] at hends
    rw [transportFreed_parked hstate, moveReleased_parked (by simp [hholder]) hgrant hstate hmove]
    exact hends

end

/-! ### A sweep of the link is cancelled (R116) -/

section
variable {x : SweepRecord} {u : State} (hq : Quiet u) (hx : u.sweep.active = some x)

/-- The report of a cancelled sweep. -/
def cancelReport (x : SweepRecord) : SweepReport := sweepReport x .cancelled none none (unstored x.store)

theorem grantEnded_swept (t : Nat) (z : State) : grantEnded (sweepFreed x (cancelReport x) (lensBack t z)) =
    { sweepEnded x .cancelled (grantEnded { z with transport := { z.transport with state := .parked, holder := none } }) with
      focus := lensSent (min 4095 t) .back z } := by
  cases hlink : x.link <;> simp only [sweepFreed, sweepEnded, cancelReport, sweepReport, hlink] <;> rfl

theorem grantEnded_sweepEnded (r : SweepResult) (z : State) : grantEnded (sweepEnded x r z) = sweepEnded x r (grantEnded z) := by
  cases hlink : x.link <;> simp only [sweepEnded, hlink] <;> rfl

theorem sweepEnded_facing (r : SweepResult) (calls : List Signal) (z : State) : sweepEnded x r (facing calls z) = facing calls (sweepEnded x r z) := by
  cases hlink : x.link <;> simp only [sweepEnded, hlink] <;> rfl

include hx

theorem cancelSweep_at_gate (hstill : x.state ≠ .travelling) : cancelSweep .cancelled u = endSweep .cancelled none none (unstored x.store) u := by
  simp only [cancelSweep, hx, hstill, false_and, if_false, endSweepBare]

theorem cancelSweep_travels (htravelling : x.state = .travelling) (hholds : sweepHolds x u = true) :
    cancelSweep .cancelled u = endSweepBare .cancelled (requestStop u) := by
  simp only [cancelSweep, hx, htravelling, hholds, and_self, if_true]

end

/-! ### The pass ends with its link (R155, R156) -/

section
variable {l : Link} {e : State} (hq : Quiet e)

theorem finishPass_aborted {s : State} (howner : s.pass.owner = some l) :
    finishPass .aborted s = passEnded l (s.pass.current.getD 1) .aborted .aborted s := finishPass_plain howner (by simp)

theorem passLeft_own {s : State} (howner : s.pass.owner = some l) :
    passLeft l s = moveReleased l (ownSweepLeft (passEnded l (s.pass.current.getD 1) .aborted .aborted s)) := by
  rw [passLeft, if_pos howner, endPass_eq howner, finishPass_aborted howner]

section
variable {x : SweepRecord} (hx : e.sweep.active = some x) (horigin : x.origin = .pass) (hgrant : e.sched.grant = .pass)

include hx horigin hgrant

omit hx in
theorem sweepHolds_pass : sweepHolds x e = true := by simp [sweepHolds, horigin, hgrant]

include hq

section
variable (htravelling : x.state = .travelling) (hpoints : x.points = []) (hholder : e.transport.holder = none)

include htravelling hpoints hholder

/-- The move towards the sweep is stopped, and the sweep is cancelled. -/
theorem sweepAndMove_asked (hflight : InFlight e) :
    moveReleased l (ownSweepLeft e) = facing [.passSweepDone .cancelled] (sweepEnded x .cancelled (stopAsked e)) := by
  have hcancelled : ownSweepLeft e = facing [.passSweepDone .cancelled] (sweepEnded x .cancelled (stopAsked e)) := by
    rw [ownSweepLeft_own hx horigin, cancelSweep_travels hx htravelling (sweepHolds_pass horigin hgrant), requestStop_asked hflight,
      endSweepBare_pass .cancelled (by rw [stopAsked_sweep]; exact hx) hpoints horigin (by simp [hholder])]
    exact emit_eq_facing _ (by simpa [Quiet] using hq)
  obtain ⟨m, hm, hstops⟩ := stopAsked_stops hflight
  rw [hcancelled]
  have hmove : (facing [.passSweepDone .cancelled] (sweepEnded x .cancelled (stopAsked e))).transport = (stopAsked e).transport := by
    simp [facing]
  have hkept : requestStop (facing [.passSweepDone .cancelled] (sweepEnded x .cancelled (stopAsked e))) =
      facing [.passSweepDone .cancelled] (sweepEnded x .cancelled (stopAsked e)) :=
    requestStop_stopping (by rw [hmove]; exact stopAsked_moving hflight) (by rw [hmove]; exact hm) hstops
  have hsame : (facing [.passSweepDone .cancelled] (sweepEnded x .cancelled (stopAsked e))).sched.grant = .pass := by simp [facing, hgrant]
  simp [moveReleased, hmove, hholder, hsame, hm, hkept]

/-- In SETTLING the settle is abandoned, and the sweep is cancelled. -/
theorem sweepAndMove_settling (hstate : e.transport.state = .settling) (hlamp : e.lamp.state ≠ .off) :
    moveReleased l (ownSweepLeft e) = facing [.moveDone .stopped, .choose, .passSweepDone .cancelled, .choose]
      (sweepEnded x .cancelled (transportFreed e)) := by
  have hcancelled : ownSweepLeft e = facing [.moveDone .stopped, .choose, .passSweepDone .cancelled] (sweepEnded x .cancelled { e with
      transport := { e.transport with state := .parked, settleTimer := none, gateReady := false, move := none }
      roll := { e.roll with idleTimer := none } }) := by
    rw [ownSweepLeft_own hx horigin, cancelSweep_travels hx htravelling (sweepHolds_pass horigin hgrant),
      requestStop_settling hq hstate (by simp [hgrant]) hlamp,
      endSweepBare_pass .cancelled (by exact hx) hpoints horigin (by simp [facing, hholder]), sweepEnded_facing]
    rfl
  rw [hcancelled, moveReleased_parked (by simp [facing, hholder]) (by simp [facing, hgrant]) (by simp [facing]) (by simp [facing]),
    endGrant_parked (by simp [facing]), transportFreed_settling hstate, ← grantEnded_sweepEnded]
  cases hlink : x.link <;> simp only [sweepEnded, hlink] <;> rfl

end

/-- In the gate the lens is sent back, the gate freed, and the sweep cancelled. -/
theorem sweepAndMove_gate (hscoring : x.state = .movingLens ∨ x.state = .awaitingScore) (hpoints : x.points ≠ [])
    (hstate : e.transport.state = .settled) (hholder : e.transport.holder = some (.sweep x.link x.id)) (hmove : e.transport.move = none)
    (hlamp : e.lamp.state ≠ .off) :
    moveReleased l (ownSweepLeft e) = facing (lensCalls (e.zoneStep x.frame) e ++ [.choose, .passSweepDone .cancelled, .choose])
      { sweepEnded x .cancelled (transportFreed e) with focus := lensSent (min 4095 (e.zoneStep x.frame)) .back e } := by
  have hstill : x.state ≠ .travelling := by rcases hscoring with h | h <;> simp [h]
  have hcancelled : ownSweepLeft e = facing (lensCalls (e.zoneStep x.frame) e ++ [.choose, .passSweepDone .cancelled])
      (sweepFreed x (cancelReport x) (lensBack (e.zoneStep x.frame) e)) := by
    rw [ownSweepLeft_own hx horigin, cancelSweep_at_gate hx hstill]
    exact endSweep_pass (z := lensBack (e.zoneStep x.frame) e) hlamp (by simp [lensBack, hgrant]) hx hholder (finishSweep_returns hx hq hpoints rfl) horigin
  have hfreed : (sweepFreed x (cancelReport x) (lensBack (e.zoneStep x.frame) e)).transport = { e.transport with state := .parked, holder := none } := by
    cases hlink : x.link <;> simp only [sweepFreed, hlink] <;> rfl
  have hkept : (sweepFreed x (cancelReport x) (lensBack (e.zoneStep x.frame) e)).sched = e.sched := by
    cases hlink : x.link <;> simp only [sweepFreed, hlink] <;> rfl
  rw [hcancelled, moveReleased_parked (by simp [facing, hfreed]) (by simp [facing, hkept, hgrant]) (by simp [facing, hfreed]) (by simp [facing, hfreed, hmove]),
    endGrant_parked (by simp [facing, hfreed]), transportFreed_settled hstate, ← grantEnded_swept]
  simp only [facing, List.append_assoc]
  rfl

end

end

section
variable {l : Link} {s : State} (hlen : s.slots.length = 16) (haside : ∀ x ∈ s.slots, Aside l x) (hgrant : s.sched.grant ≠ .discover)

include hlen haside hgrant

/-- The pass of the link ends after its slots, and with it the sweep. -/
theorem linkEnds_pass {calls : List Signal} {w : State} (howner : s.pass.owner = some l)
    (hreleased : moveReleased l (ownSweepLeft (passEnded l (s.pass.current.getD 1) .aborted .aborted (linkFreed l s))) = facing calls w)
    (hsweep : w.sweep.active = none) (hidle : Idle calls w) (hq : Quiet w) (hcalls : calls.length ≤ 100) : LinkEnds l s w := by
  refine linkEnds_idle ?_ hidle hq hcalls
  rw [endLinkWork_eq, freeSlots_all_aside hlen haside, discoverLeft_away (by exact hgrant), passLeft_own (by exact howner)]
  exact (congrArg (sweepLeft l) hreleased).trans (sweepLeft_away (by simp [facing, hsweep]))

/-- The sweep of the link ends after its slots. -/
theorem linkEnds_sweep {x : SweepRecord} {calls : List Signal} {w : State} (howner : s.pass.owner ≠ some l) (hx : s.sweep.active = some x)
    (hlink : x.link = l) (hcancelled : cancelSweep .cancelled (linkFreed l s) = facing calls w) (hidle : Idle calls w) (hq : Quiet w)
    (hcalls : calls.length ≤ 100) : LinkEnds l s w := by
  refine linkEnds_idle ?_ hidle hq hcalls
  rw [endLinkWork_eq, freeSlots_all_aside hlen haside, discoverLeft_away (by exact hgrant), passLeft_away (by exact howner),
    sweepLeft_own (s := linkFreed l s) hx hlink]
  exact hcancelled

end

/-! ### A stand-alone sweep ends with its link (R116, R126) -/

section
variable {x : SweepRecord} {u : State} (hq : Quiet u) (hx : u.sweep.active = some x) (horigin : x.origin = .standAlone)

include hx horigin in
omit hq in
/-- Without the grant only the record ends. -/
theorem endSweepBare_ungranted (r : SweepResult) (hpoints : x.points = []) (hgrant : u.sched.grant ≠ .sweep)
    (hholder : u.transport.holder ≠ some (.sweep x.link x.id)) : endSweepBare r u = sweepEnded x r u := by
  have hheld : (sweepEnded x r u).transport.holder ≠ some (.sweep x.link x.id) := by simpa using hholder
  have hkept : (sweepEnded x r u).sched.grant ≠ .sweep := by simpa using hgrant
  simp only [endSweepBare, endSweep, hx, finishSweep_bare r hx hpoints, hheld, if_false, horigin, hkept]

include hq hx horigin

theorem cancelSweep_queued (hqueued : x.state = .queued) (hpoints : x.points = []) (hgrant : u.sched.grant ≠ .sweep)
    (hholder : u.transport.holder ≠ some (.sweep x.link x.id)) : cancelSweep .cancelled u = facing [] (sweepEnded x .cancelled u) := by
  have hends := endSweepBare_ungranted hx horigin .cancelled hpoints hgrant hholder
  simp only [endSweepBare, hx] at hends
  rw [cancelSweep_at_gate hx (by simp [hqueued]), facing_nil ((sweepEnded_todo ..).trans hq), hends]

variable (hgrant : u.sched.grant = .sweep)

include hgrant

omit hq hx in
theorem sweepHolds_alone : sweepHolds x u = true := by simp [sweepHolds, horigin, hgrant]

section
variable (htravelling : x.state = .travelling) (hpoints : x.points = []) (hholder : u.transport.holder = none)

include htravelling hpoints hholder

theorem cancelSweep_asked (hflight : InFlight u) : cancelSweep .cancelled u =
    facing [.choose] (sweepEnded x .cancelled { stopAsked u with sched := { u.sched with grant := .none } }) := by
  rw [cancelSweep_travels hx htravelling (sweepHolds_alone horigin hgrant), requestStop_asked hflight,
    endSweepBare_granted .cancelled (by rw [stopAsked_sweep]; exact hx) hpoints horigin (by simp [hholder]) (by simp [hgrant]),
    endGrant_away (by simpa [Quiet] using hq) (by simp [stopAsked_moving hflight]), ← stopAsked_sched u]
  cases hlink : x.link <;> simp only [sweepEnded, hlink] <;> rfl

theorem cancelSweep_settling (hstate : u.transport.state = .settling) (hlamp : u.lamp.state ≠ .off) : cancelSweep .cancelled u =
    facing [.moveDone .stopped, .choose, .choose] (sweepEnded x .cancelled (transportFreed u)) := by
  rw [cancelSweep_travels hx htravelling (sweepHolds_alone horigin hgrant), requestStop_settling hq hstate (by simp [hgrant]) hlamp,
    endSweepBare_granted .cancelled (by exact hx) hpoints horigin (by simp [facing, hholder]) (by simp [facing, hgrant]),
    endGrant_parked (by simp [facing]), transportFreed_settling hstate, ← grantEnded_sweepEnded]
  cases hlink : x.link <;> simp only [sweepEnded, hlink] <;> rfl

theorem cancelSweep_waking (hstate : u.transport.state = .waking) : cancelSweep .cancelled u =
    facing [.choose] (sweepEnded x .cancelled (transportFreed u)) := by
  rw [cancelSweep_travels hx htravelling (sweepHolds_alone horigin hgrant), requestStop_waking hq hstate (by simp [hgrant]),
    transportFreed_waking hstate, ← sweepEnded_facing]
  exact endSweepBare_ungranted (u := facing [.choose] { u with sched := { u.sched with grant := .none } }) (by exact hx) horigin .cancelled hpoints
    (by simp [facing]) (by simp [facing, hholder])

end

theorem cancelSweep_scoring (hscoring : x.state = .movingLens ∨ x.state = .awaitingScore) (hpoints : x.points ≠ [])
    (hstate : u.transport.state = .settled) (hholder : u.transport.holder = some (.sweep x.link x.id))
    (hlamp : u.lamp.state ≠ .off) : cancelSweep .cancelled u = facing (lensCalls (u.zoneStep x.frame) u ++ [.choose, .choose])
      { sweepEnded x .cancelled (transportFreed u) with focus := lensSent (min 4095 (u.zoneStep x.frame)) .back u } := by
  have hstill : x.state ≠ .travelling := by rcases hscoring with h | h <;> simp [h]
  rw [cancelSweep_at_gate hx hstill, endSweep_alone (z := lensBack (u.zoneStep x.frame) u) hlamp (by simp [lensBack, hgrant]) hx hholder
    (finishSweep_returns hx hq hpoints rfl) horigin hgrant, transportFreed_settled hstate, ← grantEnded_swept]
  rfl

end

end Sys2Proof.Machine
end

section
/-! PROOFS. LINK RESET frees the link (R192, R136): each kind of work it ends, and the obligation. -/

namespace Sys2Proof.Machine

open Sys2Proof

/-! ### The transport given back leaves no work -/

section
variable {s : State}

@[simp] theorem transportFreed_grant : (transportFreed s).sched.grant = .none := by unfold transportFreed; split <;> rfl
@[simp] theorem transportFreed_todo : (transportFreed s).todo = s.todo := by unfold transportFreed; split <;> rfl
@[simp] theorem transportFreed_sweep : (transportFreed s).sweep = s.sweep := by unfold transportFreed; split <;> rfl

@[simp] theorem transportFreed_tracker : (transportFreed s).tracker = s.tracker := by unfold transportFreed; split <;> rfl
@[simp] theorem transportFreed_slots : (transportFreed s).slots = s.slots := by unfold transportFreed; split <;> rfl
theorem transportFreed_active : (transportFreed s).passActive = s.passActive := by unfold transportFreed; split <;> rfl

theorem transportFreed_noWork (h : NoWork s) : NoWork (transportFreed s) := by unfold transportFreed; split <;> exact h

theorem sweepEnded_noWork {x : SweepRecord} {r : SweepResult} (hlevel : s.tracker.level ≠ .lost) (hslots : ∀ x ∈ s.slots, x.resting = true)
    (hpass : s.passActive = false) : NoWork (sweepEnded x r s) := by
  cases hl : x.link <;> simp only [sweepEnded, hl] <;> exact ⟨hlevel, hslots, rfl, hpass⟩

end

@[simp] theorem sweepEnded_none (x : SweepRecord) (r : SweepResult) (s : State) : (sweepEnded x r s).sweep.active = none := by
  cases hl : x.link <;> simp only [sweepEnded, hl] <;> rfl

theorem idle_sweepDone (s : State) : Idle [.passSweepDone .cancelled] s := by
  intro sig hsig
  rw [List.mem_singleton.mp hsig]
  exact passSweepEnded_unheeded (.inr rfl) s

/-! ### The DISCOVER move (R127) -/

section
variable {l : Link} {s : State} (hq : Quiet s) (hlen : s.slots.length = 16) (haside : ∀ x ∈ s.slots, Aside l x)
  (hpass : s.pass.owner ≠ some l) (hsweep : ∀ x ∈ s.sweep.active, x.link ≠ l)

include hlen haside hpass hsweep

theorem endLinkWork_discover {w : State} (hleft : discoverLeft (linkFreed l s) = w) (hkept : w.pass = s.pass ∧ w.sweep = s.sweep) :
    endLinkWork l s = w := by
  obtain ⟨hkeptPass, hkeptSweep⟩ := hkept
  rw [endLinkWork_eq, freeSlots_all_aside hlen haside, hleft, passLeft_away (by rw [hkeptPass]; exact hpass),
    sweepLeft_away (by rw [hkeptSweep]; exact hsweep)]

include hq

theorem linkEnds_discover_other (hother : ∃ x ∈ s.slots, x.owner ≠ l ∧ x.state = .resolving) : LinkEnds l s (linkFreed l s) :=
  linkEnds_idle (calls := []) ((endLinkWork_discover hlen haside hpass hsweep (discoverLeft_other (linkFreed_anyResolving.mpr hother)) ⟨rfl, rfl⟩).trans
    (facing_nil (by exact hq)).symm) (Idle.nil _) hq (by simp)

variable (hgrant : s.sched.grant = .discover) (hown : ∀ x ∈ s.slots, x.state = .resolving → x.owner = l)

include hgrant hown

omit hq hlen haside hpass hsweep in
theorem discoverLeft_freed : discoverLeft (linkFreed l s) = requestStop (linkFreed l s) :=
  discoverLeft_stops hgrant fun h => by
    obtain ⟨x, hx, howner, hresolving⟩ := linkFreed_anyResolving.mp h
    exact howner (hown x hx hresolving)

theorem linkEnds_discover_asked (hflight : InFlight s) : LinkEnds l s (stopAsked (linkFreed l s)) := by
  have hquiet : Quiet (stopAsked (linkFreed l s)) := (stopAsked_todo _).trans hq
  have hleft : discoverLeft (linkFreed l s) = stopAsked (linkFreed l s) :=
    (discoverLeft_freed hgrant hown).trans (requestStop_asked (s := linkFreed l s) hflight)
  exact linkEnds_idle (calls := []) ((endLinkWork_discover hlen haside hpass hsweep hleft ⟨stopAsked_pass _, stopAsked_sweep _⟩).trans
    (facing_nil hquiet).symm) (Idle.nil _) hquiet (by simp)

theorem linkEnds_discover_waking (hstate : s.transport.state = .waking) (hwork : NoWork (linkFreed l s)) :
    LinkEnds l s (transportFreed (linkFreed l s)) := by
  have hleft : discoverLeft (linkFreed l s) = facing [.choose] (transportFreed (linkFreed l s)) := by
    rw [discoverLeft_freed hgrant hown, transportFreed_waking (by exact hstate)]
    exact requestStop_waking (s := linkFreed l s) hq hstate (by simp [linkFreed, hgrant])
  refine linkEnds_idle ((endLinkWork_discover hlen haside hpass hsweep hleft ?_)) (idle_choose (.inr (transportFreed_noWork hwork)))
    (transportFreed_todo.trans hq) (by simp)
  rw [transportFreed_waking (by exact hstate)]
  exact ⟨rfl, rfl⟩

end

/-! ### The pass (R155, R156) -/

section
variable {l : Link} {s : State} (hq : Quiet s) (hlen : s.slots.length = 16) (haside : ∀ x ∈ s.slots, Aside l x)
  (howner : s.pass.owner = some l) (hdiscover : s.sched.grant ≠ .discover)

/-- The part with the slots of the link freed and its pass ended. -/
def passFreed (l : Link) (s : State) : State := passEnded l (s.pass.current.getD 1) .aborted .aborted (linkFreed l s)

theorem passFreed_facts : (passFreed l s).transport = s.transport ∧ (passFreed l s).sched = s.sched ∧ (passFreed l s).sweep = s.sweep ∧
    (passFreed l s).lamp = s.lamp ∧ (passFreed l s).todo = s.todo := by simp [passFreed, linkFreed]

theorem passFreed_active : (passFreed l s).passActive = false := by cases l <;> rfl

theorem passFreed_noWork (hlevel : s.tracker.level ≠ .lost) (hrest : ∀ x ∈ s.slots, x.owner = l ∨ x.resting = true) (hnone : s.sweep.active = none) :
    NoWork (passFreed l s) :=
  ⟨by simpa [passFreed, linkFreed] using hlevel, by simpa [passFreed] using linkFreed_resting hrest, by simpa [passFreed, linkFreed] using hnone,
    passFreed_active⟩

theorem cancelled_noWork {x : SweepRecord} (hlevel : s.tracker.level ≠ .lost) (hrest : ∀ x ∈ s.slots, x.owner = l ∨ x.resting = true) :
    NoWork (sweepEnded x .cancelled (transportFreed (passFreed l s))) :=
  sweepEnded_noWork (by rw [transportFreed_tracker]; simpa [passFreed, linkFreed] using hlevel)
    (by rw [transportFreed_slots]; simpa [passFreed] using linkFreed_resting hrest) (by rw [transportFreed_active]; exact passFreed_active)

theorem freed_noWork {x : SweepRecord} (hlevel : s.tracker.level ≠ .lost) (hrest : ∀ x ∈ s.slots, x.owner = l ∨ x.resting = true)
    (hidle : s.passActive = false) : NoWork (sweepEnded x .cancelled (transportFreed (linkFreed l s))) :=
  sweepEnded_noWork (by rw [transportFreed_tracker]; exact hlevel) (by rw [transportFreed_slots]; exact linkFreed_resting hrest)
    (by rw [transportFreed_active]; exact hidle)

include hq hlen haside howner hdiscover

section
variable (hnone : s.sweep.active = none)

include hnone

omit hq hlen haside howner hdiscover in
theorem ownSweepLeft_freed : ownSweepLeft (passFreed l s) = passFreed l s := by
  obtain ⟨-, -, hsweep, -, -⟩ := passFreed_facts (l := l) (s := s)
  exact ownSweepLeft_none (by rw [hsweep, hnone]; simp)

theorem linkEnds_pass_away (hgrant : s.sched.grant ≠ .pass) (hholder : s.transport.holder ≠ some (.pass l)) : LinkEnds l s (passFreed l s) := by
  obtain ⟨htransport, hsched, hsweep, -, htodo⟩ := passFreed_facts (l := l) (s := s)
  have hquiet : Quiet (passFreed l s) := htodo.trans hq
  refine linkEnds_pass (calls := []) hlen haside hdiscover howner ?_ (by rw [hsweep, hnone]) (Idle.nil _) hquiet (by simp)
  show moveReleased l (ownSweepLeft (passFreed l s)) = _
  rw [ownSweepLeft_freed hnone, moveReleased_away (by rw [htransport]; exact hholder) (by rw [hsched]; exact hgrant), facing_nil hquiet]

variable (hgrant : s.sched.grant = .pass)

include hgrant

theorem linkEnds_pass_asked (hholder : s.transport.holder = none) (hflight : InFlight s) : LinkEnds l s (stopAsked (passFreed l s)) := by
  obtain ⟨htransport, hsched, hsweep, -, htodo⟩ := passFreed_facts (l := l) (s := s)
  have hquiet : Quiet (stopAsked (passFreed l s)) := (stopAsked_todo _).trans (htodo.trans hq)
  refine linkEnds_pass (calls := []) hlen haside hdiscover howner ?_ (by rw [stopAsked_sweep, hsweep, hnone]) (Idle.nil _) hquiet (by simp)
  show moveReleased l (ownSweepLeft (passFreed l s)) = _
  rw [ownSweepLeft_freed hnone, moveReleased_asked (by rw [hsched]; exact hgrant) (by rw [htransport]; exact hholder)
    (by unfold InFlight; rw [htransport]; exact hflight), facing_nil hquiet]

theorem linkEnds_pass_freed (hlevel : s.tracker.level ≠ .lost) (hlamp : s.lamp.state ≠ .off) (hrest : ∀ x ∈ s.slots, x.owner = l ∨ x.resting = true)
    (hstate : (s.transport.state = .settled ∧ s.transport.holder = some (.pass l) ∧ s.transport.move = none) ∨
      (s.transport.state = .settling ∧ s.transport.holder = none) ∨
      ((s.transport.state = .waking ∨ s.transport.state = .parked) ∧ s.transport.holder = none ∧ s.transport.move = none)) :
    LinkEnds l s (transportFreed (passFreed l s)) := by
  obtain ⟨htransport, hsched, hsweep, hlampKept, htodo⟩ := passFreed_facts (l := l) (s := s)
  obtain ⟨calls, hcalm, hshort, hreleased⟩ := moveReleased_frees (l := l) (u := passFreed l s) (by rw [hsched]; exact hgrant) (htodo.trans hq)
    (by rw [hlampKept]; exact hlamp) (by rw [htransport]; exact hstate)
  refine linkEnds_pass (calls := calls) hlen haside hdiscover howner ?_ (by rw [transportFreed_sweep, hsweep, hnone])
    (idle_calm hcalm transportFreed_grant (transportFreed_noWork (passFreed_noWork hlevel hrest hnone))) (transportFreed_todo.trans (htodo.trans hq))
    (by omega)
  show moveReleased l (ownSweepLeft (passFreed l s)) = _
  rw [ownSweepLeft_freed hnone, hreleased]

end

section
variable {x : SweepRecord} (hx : s.sweep.active = some x) (horigin : x.origin = .pass)

include hx horigin

section
variable (htravelling : x.state = .travelling) (hpoints : x.points = []) (hholder : s.transport.holder = none)

include hpoints hholder

theorem linkEnds_sweep_waits (hgrant : s.sched.grant ≠ .pass) : LinkEnds l s (sweepEnded x .cancelled (passFreed l s)) := by
  obtain ⟨htransport, hsched, hsweep, -, htodo⟩ := passFreed_facts (l := l) (s := s)
  have hquiet : Quiet (passFreed l s) := htodo.trans hq
  refine linkEnds_pass (calls := [.passSweepDone .cancelled]) hlen haside hdiscover howner ?_ (sweepEnded_none ..) (idle_sweepDone _)
    ((sweepEnded_todo ..).trans hquiet) (by simp)
  exact (released_sweep_waits (u := passFreed l s) (by rw [hsweep]; exact hx) hpoints horigin (by rw [htransport]; exact hholder)
    (by rw [hsched]; exact hgrant)).trans (emit_eq_facing _ ((sweepEnded_todo ..).trans hquiet))

variable (hgrant : s.sched.grant = .pass)

include hgrant htravelling

theorem linkEnds_sweep_asked (hflight : InFlight s) : LinkEnds l s (sweepEnded x .cancelled (stopAsked (passFreed l s))) := by
  obtain ⟨htransport, hsched, hsweep, -, htodo⟩ := passFreed_facts (l := l) (s := s)
  have hquiet : Quiet (passFreed l s) := htodo.trans hq
  refine linkEnds_pass (calls := [.passSweepDone .cancelled]) hlen haside hdiscover howner ?_ (sweepEnded_none ..) (idle_sweepDone _)
    ((sweepEnded_todo ..).trans ((stopAsked_todo _).trans hquiet)) (by simp)
  exact sweepAndMove_asked hquiet (by rw [hsweep]; exact hx) horigin (by rw [hsched]; exact hgrant) htravelling hpoints
    (by rw [htransport]; exact hholder) (by unfold InFlight; rw [htransport]; exact hflight)

theorem linkEnds_sweep_settling (hstate : s.transport.state = .settling) (hlevel : s.tracker.level ≠ .lost) (hlamp : s.lamp.state ≠ .off)
    (hrest : ∀ x ∈ s.slots, x.owner = l ∨ x.resting = true) : LinkEnds l s (sweepEnded x .cancelled (transportFreed (passFreed l s))) := by
  obtain ⟨htransport, hsched, hsweep, hlampKept, htodo⟩ := passFreed_facts (l := l) (s := s)
  have hquiet : Quiet (passFreed l s) := htodo.trans hq
  refine linkEnds_pass (calls := [.moveDone .stopped, .choose, .passSweepDone .cancelled, .choose]) hlen haside hdiscover howner ?_
    (sweepEnded_none ..) (idle_calm (by simp [Calm]) (by simp) (cancelled_noWork hlevel hrest))
    ((sweepEnded_todo ..).trans (transportFreed_todo.trans hquiet)) (by simp)
  exact sweepAndMove_settling hquiet (by rw [hsweep]; exact hx) horigin (by rw [hsched]; exact hgrant) htravelling hpoints
    (by rw [htransport]; exact hholder) (by rw [htransport]; exact hstate) (by rw [hlampKept]; exact hlamp)

end

theorem linkEnds_sweep_gate (hgrant : s.sched.grant = .pass) (hscoring : x.state = .movingLens ∨ x.state = .awaitingScore) (hpoints : x.points ≠ [])
    (hstate : s.transport.state = .settled) (hholder : s.transport.holder = some (.sweep x.link x.id)) (hmove : s.transport.move = none)
    (hlevel : s.tracker.level ≠ .lost) (hlamp : s.lamp.state ≠ .off) (hrest : ∀ x ∈ s.slots, x.owner = l ∨ x.resting = true) :
    LinkEnds l s { sweepEnded x .cancelled (transportFreed (passFreed l s)) with
      focus := lensSent (min 4095 ((passFreed l s).zoneStep x.frame)) .back (passFreed l s) } := by
  obtain ⟨htransport, hsched, hsweep, hlampKept, htodo⟩ := passFreed_facts (l := l) (s := s)
  have hquiet : Quiet (passFreed l s) := htodo.trans hq
  have hshort := lensCalls_length ((passFreed l s).zoneStep x.frame) (passFreed l s)
  have hwork := cancelled_noWork (x := x) hlevel hrest
  refine linkEnds_pass (calls := lensCalls ((passFreed l s).zoneStep x.frame) (passFreed l s) ++ [.choose, .passSweepDone .cancelled, .choose])
    hlen haside hdiscover howner ?_ (sweepEnded_none ..) ((lensCalls_idle _ _ _).append (idle_calm (by simp [Calm]) (by simp) hwork))
    ((sweepEnded_todo ..).trans (transportFreed_todo.trans hquiet)) (by simp; omega)
  exact sweepAndMove_gate hquiet (by rw [hsweep]; exact hx) horigin (by rw [hsched]; exact hgrant) hscoring hpoints
    (by rw [htransport]; exact hstate) (by rw [htransport]; exact hholder) (by rw [htransport]; exact hmove) (by rw [hlampKept]; exact hlamp)

end

end

/-! ### A stand-alone sweep (R116, R126) -/

section
variable {l : Link} {x : SweepRecord} {s : State} (hq : Quiet s) (hlen : s.slots.length = 16) (haside : ∀ y ∈ s.slots, Aside l y)
  (howner : s.pass.owner ≠ some l) (hx : s.sweep.active = some x) (horigin : x.origin = .standAlone) (hlink : x.link = l)

include hq hlen haside howner hx horigin hlink

theorem linkEnds_alone_queued (hqueued : x.state = .queued) (hpoints : x.points = []) (hgrant : s.sched.grant ≠ .sweep)
    (hdiscover : s.sched.grant ≠ .discover) (hholder : s.transport.holder ≠ some (.sweep x.link x.id)) :
    LinkEnds l s (sweepEnded x .cancelled (linkFreed l s)) :=
  linkEnds_sweep hlen haside hdiscover howner hx hlink (cancelSweep_queued (u := linkFreed l s) hq hx horigin hqueued hpoints hgrant hholder)
    (Idle.nil _) ((sweepEnded_todo ..).trans hq) (by simp)

variable (hgrant : s.sched.grant = .sweep)

include hgrant

section
variable (htravelling : x.state = .travelling) (hpoints : x.points = []) (hholder : s.transport.holder = none)

include htravelling hpoints hholder

theorem linkEnds_alone_asked (hflight : InFlight s) :
    LinkEnds l s (sweepEnded x .cancelled { stopAsked (linkFreed l s) with sched := { s.sched with grant := .none } }) :=
  linkEnds_sweep hlen haside (by simp [hgrant]) howner hx hlink
    (cancelSweep_asked (u := linkFreed l s) hq hx horigin hgrant htravelling hpoints hholder hflight)
    (idle_calm_moving (by simp) (.inl (by simpa using stopAsked_moving (s := linkFreed l s) hflight)))
    ((sweepEnded_todo ..).trans ((stopAsked_todo _).trans hq)) (by simp)

variable (hlevel : s.tracker.level ≠ .lost) (hlamp : s.lamp.state ≠ .off) (hrest : ∀ y ∈ s.slots, y.owner = l ∨ y.resting = true)
  (hidle : s.passActive = false)

include hlevel hlamp hrest hidle

theorem linkEnds_alone_freed (hstate : s.transport.state = .settling ∨ s.transport.state = .waking) :
    LinkEnds l s (sweepEnded x .cancelled (transportFreed (linkFreed l s))) := by
  have hwork := freed_noWork (x := x) hlevel hrest hidle
  have hquiet : Quiet (sweepEnded x .cancelled (transportFreed (linkFreed l s))) := (sweepEnded_todo ..).trans (transportFreed_todo.trans hq)
  rcases hstate with hsettling | hwaking
  · exact linkEnds_sweep hlen haside (by simp [hgrant]) howner hx hlink
      (cancelSweep_settling (u := linkFreed l s) hq hx horigin hgrant htravelling hpoints hholder hsettling hlamp)
      (idle_calm (by simp [Calm]) (by simp) hwork) hquiet (by simp)
  · exact linkEnds_sweep hlen haside (by simp [hgrant]) howner hx hlink
      (cancelSweep_waking (u := linkFreed l s) hq hx horigin hgrant htravelling hpoints hholder hwaking)
      (idle_calm (by simp [Calm]) (by simp) hwork) hquiet (by simp)

end

theorem linkEnds_alone_gate (hscoring : x.state = .movingLens ∨ x.state = .awaitingScore) (hpoints : x.points ≠ [])
    (hstate : s.transport.state = .settled) (hholder : s.transport.holder = some (.sweep x.link x.id)) (hlevel : s.tracker.level ≠ .lost)
    (hlamp : s.lamp.state ≠ .off) (hrest : ∀ y ∈ s.slots, y.owner = l ∨ y.resting = true) (hidle : s.passActive = false) :
    LinkEnds l s { sweepEnded x .cancelled (transportFreed (linkFreed l s)) with
      focus := lensSent (min 4095 (s.zoneStep x.frame)) .back s } := by
  have hshort := lensCalls_length ((linkFreed l s).zoneStep x.frame) (linkFreed l s)
  have hwork := freed_noWork (x := x) hlevel hrest hidle
  exact linkEnds_sweep hlen haside (by simp [hgrant]) howner hx hlink
    (cancelSweep_scoring (u := linkFreed l s) hq hx horigin hgrant hscoring hpoints hstate hholder hlamp)
    ((lensCalls_idle _ _ _).append (idle_calm (by simp [Calm]) (by simp) hwork))
    ((sweepEnded_todo ..).trans (transportFreed_todo.trans hq)) (by simp; omega)

end

end Sys2Proof.Machine
end

section
/-! PROOFS. LINK RESET leaves the link clear and its work ended (R192). -/

namespace Sys2Proof.Machine

open Sys2Proof

theorem exec_linkReset_ends {l : Link} {s v u : State} (h : LinkEnds l (closeStream l s) v) (hsame : erased l v = erased l u) :
    exec (.linkReset l) s = .next (erased l u) := by
  obtain ⟨n, hn, hleads⟩ := h
  exact exec_linkReset_leads hleads hn hsame

theorem erased_link (l : Link) (s : State) :
    (erased l s).link l = LinkState.cleared { code := .ok, request := 0x0B#8, contents := .empty } := by cases l <;> rfl

theorem erased_slots (l : Link) (s : State) : (erased l s).slots = s.slots := by cases l <;> rfl

theorem linkReset_slots_free {l : Link} {s : State} (hlen : s.slots.length = 16) {x : Slot} (hx : x ∈ (finish (endLinkWork l s)).slots)
    (howner : x.owner = l) : x.state = .free := by
  obtain ⟨i, hi⟩ := List.mem_iff_getElem?.mp hx
  obtain ⟨hgone, hkept⟩ := freeSlots_gone l Config.slotCount 0 s
  have hkey : (freeSlots l Config.slotCount 0 s).slotKeys[i]? = some x.key := by
    rw [← endLinkWork_keys, ← finish_keys]
    simp [State.slotKeys, hi]
  have hoff : ¬ keyOn l x.key := by
    rcases hkept i x.key hkey with h | h
    · have hlt : i < s.slotKeys.length := (List.getElem?_eq_some_iff.mp h).1
      rw [State.slotKeys, List.length_map, hlen] at hlt
      exact hgone i x.key (Nat.zero_le i) (by simpa [Config.slotCount] using hlt) hkey
    · simp [h, keyOn]
  by_contra hheld
  exact hoff ((key_on_iff l x).mpr ⟨hheld, howner⟩)

theorem linkReset_clears (l : Link) (s : State) : ∃ t, exec (.linkReset l) s = .next t ∧
    t.link l = LinkState.cleared { code := .ok, request := 0x0B#8, contents := .empty } ∧
    (s.slots.length = 16 → ∀ x ∈ t.slots, x.owner = l → x.state = .free) := by
  refine ⟨_, exec_linkReset_eq l s, erased_link l _, fun hlen x hx howner => ?_⟩
  rw [erased_slots] at hx
  exact linkReset_slots_free (s := closeStream l s) (by simpa using hlen) hx howner

section
variable {l : Link} {s : State}

theorem erased_passFreed : erased l (passFreed l (closeStream l s)) = erased l (passEnded l (s.pass.current.getD 1) .aborted .aborted (linkFreed l s)) := by
  rw [passFreed, closeStream_pass]
  simp only [erased_passEnded, erased_linkFreed, erased_closeStream]

theorem erased_lens {x : SweepRecord} {u v z : State} {t : Nat} (hlink : x.link = l) (hlens : lensSent t .back z = lensSent t .back s)
    (hsame : erased l u = erased l v) :
    erased l { sweepEnded x .cancelled u with focus := lensSent t .back z } = erased l { sweepEnded x .cancelled v with focus := lensSent t .back s } := by
  have hended : erased l (sweepEnded x .cancelled u) = erased l (sweepEnded x .cancelled v) := by
    rw [erased_sweepEnded l u .cancelled hlink, erased_sweepEnded l v .cancelled hlink, hsame]
  have hsent := congrArg (fun w : State => ({ w with focus := lensSent t .back s } : State)) hended
  rw [hlens]
  exact (erased_focus l _ _).trans (hsent.trans (erased_focus l _ _).symm)

theorem inFlight_closeStream (h : InFlight s) : InFlight (closeStream l s) := by simpa [InFlight] using h

theorem passActive_closeStream (h : s.passActive = false) : (closeStream l s).passActive = false := by cases l <;> exact h

theorem zoneStep_closeStream (k : Nat) : (closeStream l s).zoneStep k = s.zoneStep k := by cases l <;> rfl

theorem zoneStep_passFreed (k : Nat) : (passFreed l s).zoneStep k = s.zoneStep k := by cases l <;> rfl

theorem lensSent_passFreed (t : Nat) : lensSent t .back (passFreed l (closeStream l s)) = lensSent t .back s := by cases l <;> rfl

theorem lensSent_closeStream (t : Nat) : lensSent t .back (closeStream l s) = lensSent t .back s := by cases l <;> rfl

end

/-- Settles O15: each kind of work the link may have is ended by its own lemma, and the clearing of the link covers what was flagged on it. -/
theorem linkResetFreesTheLink : Obligations.LinkResetFreesTheLink := by
  unfold Obligations.LinkResetFreesTheLink
  refine ⟨linkReset_clears, fun l s hq hlen => ?_⟩
  have hquiet := closeStream_quiet l hq
  have hcount : (closeStream l s).slots.length = 16 := by simpa using hlen
  have hflies (h : InFlight s) : InFlight (closeStream l s) := inFlight_closeStream h
  intro done freed aside noPass noSweep alone lensBack scoring
  have haway (h : noPass) : (closeStream l s).pass.owner ≠ some l := by simpa using h
  have hapart (h : noSweep) : ∀ x ∈ (closeStream l s).sweep.active, x.link ≠ l := fun x hx => h x (by simpa using hx)
  have hbeside (h : ∀ x ∈ s.slots, aside x) : ∀ x ∈ (closeStream l s).slots, Aside l x := by
    rw [closeStream_slots]
    exact h
  have hfreed : erased l (linkFreed l (closeStream l s)) = erased l freed := by
    simp only [erased_linkFreed, erased_closeStream]
    exact (erased_linkFreed l s).symm
  have hasked : erased l (stopAsked (linkFreed l (closeStream l s))) = erased l (stopAsked freed) := by
    rw [erased_stopAsked, erased_stopAsked, hfreed]
  have hgivenBack : erased l (transportFreed (linkFreed l (closeStream l s))) = erased l (transportFreed freed) := by
    rw [erased_transportFreed, erased_transportFreed, hfreed]
  have hover {x : SweepRecord} {u v : State} (hlink : x.link = l) (h : erased l u = erased l v) :
      erased l (sweepEnded x .cancelled u) = erased l (sweepEnded x .cancelled v) := by
    rw [erased_sweepEnded l u .cancelled hlink, erased_sweepEnded l v .cancelled hlink, h]
  refine ⟨?_, ?_, ?_, ?_, ?_⟩
  · intro haside hpass hsweep hgrant
    exact exec_linkReset_ends (linkEnds_free hquiet hcount (haway hpass) (hapart hsweep) (hbeside haside) (by simpa using hgrant)) hfreed
  · intro i x hx howner hgrant hothers hpass hsweep
    have hslot : (closeStream l s).slots[i]? = some x := by simpa using hx
    have hgranted : (closeStream l s).sched.grant = .slot i := by simpa using hgrant
    have hrest (j : Nat) (y : Slot) (hj : j ≠ i) (hy : (closeStream l s).slots[j]? = some y) : Aside l y :=
      hothers j y hj (by simpa using hy)
    refine ⟨fun htravelling hflight => ?_, fun ⟨hlevel, hlamp, hmine⟩ hnone hidle => ⟨fun htravelling hstate => ?_, fun hpresenting hstate => ?_⟩⟩
    · exact exec_linkReset_ends (linkEnds_slot_asked hquiet hcount (haway hpass) (hapart hsweep) hslot howner hgranted hrest htravelling (hflies hflight))
        hasked
    · rcases hstate with hsettling | hwaking
      · exact exec_linkReset_ends (linkEnds_slot_settling hquiet hcount (haway hpass) (hapart hsweep) hslot howner hgranted hrest (by simpa using hlevel)
          (by simpa using hlamp) (by simpa using hmine) (by simpa using hnone) (passActive_closeStream hidle) htravelling (by simpa using hsettling)) hgivenBack
      · exact exec_linkReset_ends (linkEnds_slot_waking hquiet hcount (haway hpass) (hapart hsweep) hslot howner hgranted hrest (by simpa using hlevel)
          (by simpa using hlamp) (by simpa using hmine) (by simpa using hnone) (passActive_closeStream hidle) htravelling (by simpa using hwaking)) hgivenBack
    · exact exec_linkReset_ends (linkEnds_slot_presenting hquiet hcount (haway hpass) (hapart hsweep) hslot howner hrest (by simpa using hlevel)
          (by simpa using hlamp) (by simpa using hmine) (by simpa using hnone) (passActive_closeStream hidle) hpresenting (by simpa using hstate)) hgivenBack
  · intro haside hpass hsweep hgrant
    have hgranted : (closeStream l s).sched.grant = .discover := by simpa using hgrant
    refine ⟨fun hother => ?_, fun hown => ?_⟩
    · exact exec_linkReset_ends (linkEnds_discover_other hquiet hcount (hbeside haside) (haway hpass) (hapart hsweep) (by simpa using hother)) hfreed
    · have hmine : ∀ x ∈ (closeStream l s).slots, x.state = .resolving → x.owner = l := by simpa using hown
      refine ⟨fun hflight => ?_, fun hstate ⟨hlevel, _, hslots⟩ hnone hidle => ?_⟩
      · exact exec_linkReset_ends (linkEnds_discover_asked hquiet hcount (hbeside haside) (haway hpass) (hapart hsweep) hgranted hmine (hflies hflight))
          hasked
      · have hwork : NoWork (linkFreed l (closeStream l s)) :=
          ⟨by simpa [linkFreed] using hlevel, linkFreed_resting (by simpa using hslots), by simpa [linkFreed] using hnone, passActive_closeStream hidle⟩
        exact exec_linkReset_ends (linkEnds_discover_waking hquiet hcount (hbeside haside) (haway hpass) (hapart hsweep) hgranted hmine
          (by simpa using hstate) hwork) hgivenBack
  · intro haside howner hdiscover ended
    have hown : (closeStream l s).pass.owner = some l := by simpa using howner
    have hgo : (closeStream l s).sched.grant ≠ .discover := by simpa using hdiscover
    have hended : erased l (passFreed l (closeStream l s)) = erased l ended := erased_passFreed
    have haskedEnded : erased l (stopAsked (passFreed l (closeStream l s))) = erased l (stopAsked ended) := by
      rw [erased_stopAsked, erased_stopAsked, hended]
    have hgivenEnded : erased l (transportFreed (passFreed l (closeStream l s))) = erased l (transportFreed ended) := by
      rw [erased_transportFreed, erased_transportFreed, hended]
    refine ⟨fun hnone => ?_, fun x hx horigin hlink => ?_⟩
    · have hnone' : (closeStream l s).sweep.active = none := by simpa using hnone
      refine ⟨fun hgrant hholder => ?_, fun hgrant hholder hflight => ?_, fun hgrant ⟨hlevel, hlamp, hslots⟩ hstate => ?_⟩
      · exact exec_linkReset_ends (linkEnds_pass_away hquiet hcount (hbeside haside) hown hgo hnone' (by simpa using hgrant) (by simpa using hholder)) hended
      · exact exec_linkReset_ends (linkEnds_pass_asked hquiet hcount (hbeside haside) hown hgo hnone' (by simpa using hgrant) (by simpa using hholder)
          (hflies hflight)) haskedEnded
      · exact exec_linkReset_ends (linkEnds_pass_freed hquiet hcount (hbeside haside) hown hgo hnone' (by simpa using hgrant) (by simpa using hlevel)
          (by simpa using hlamp) (by simpa using hslots) (by simpa using hstate)) hgivenEnded
    · have hx' : (closeStream l s).sweep.active = some x := by simpa using hx
      refine ⟨fun htravelling hpoints hholder => ?_, fun hgrant ⟨hscoring, hpoints, hstate, hholder, hmove⟩ ⟨hlevel, hlamp, hslots⟩ => ?_⟩
      · have hholder' : (closeStream l s).transport.holder = none := by simpa using hholder
        refine ⟨fun hgrant => ?_, fun hgrant hflight => ?_, fun hgrant hstate ⟨hlevel, hlamp, hslots⟩ => ?_⟩
        · exact exec_linkReset_ends (linkEnds_sweep_waits hquiet hcount (hbeside haside) hown hgo hx' horigin hpoints hholder' (by simpa using hgrant))
            (hover hlink hended)
        · exact exec_linkReset_ends (linkEnds_sweep_asked hquiet hcount (hbeside haside) hown hgo hx' horigin htravelling hpoints hholder'
            (by simpa using hgrant) (hflies hflight)) (hover hlink haskedEnded)
        · exact exec_linkReset_ends (linkEnds_sweep_settling hquiet hcount (hbeside haside) hown hgo hx' horigin htravelling hpoints hholder'
            (by simpa using hgrant) (by simpa using hstate) (by simpa using hlevel) (by simpa using hlamp) (by simpa using hslots)) (hover hlink hgivenEnded)
      · have hends := linkEnds_sweep_gate hquiet hcount (hbeside haside) hown hgo hx' horigin (by simpa using hgrant) hscoring hpoints
          (by simpa using hstate) (by simpa [hlink] using hholder) (by simpa using hmove) (by simpa using hlevel) (by simpa using hlamp) (by simpa using hslots)
        rw [zoneStep_passFreed, zoneStep_closeStream] at hends
        exact exec_linkReset_ends hends (erased_lens hlink (lensSent_passFreed _) hgivenEnded)
  · intro x haside hpass hx horigin hlink
    have hx' : (closeStream l s).sweep.active = some x := by simpa using hx
    refine ⟨fun hqueued hpoints hgrant hdiscover hholder => ?_, fun hgrant => ?_⟩
    · exact exec_linkReset_ends (linkEnds_alone_queued hquiet hcount (hbeside haside) (haway hpass) hx' horigin hlink hqueued hpoints (by simpa using hgrant)
        (by simpa using hdiscover) (by simpa [hlink] using hholder)) (hover hlink hfreed)
    · have hgranted : (closeStream l s).sched.grant = .sweep := by simpa using hgrant
      refine ⟨fun htravelling hpoints hholder hflight => ?_, fun ⟨hlevel, hlamp, hslots⟩ hidle => ⟨fun htravelling hpoints hholder hstate => ?_,
        fun ⟨hscoring, hpoints, hstate, hholder, _⟩ => ?_⟩⟩
      · refine exec_linkReset_ends (linkEnds_alone_asked hquiet hcount (hbeside haside) (haway hpass) hx' horigin hlink hgranted htravelling hpoints
          (by simpa using hholder) (hflies hflight)) (hover hlink ?_)
        have hungranted := congrArg (fun z : State => ({ z with sched := { s.sched with grant := .none } } : State)) hasked
        rw [closeStream_sched]
        cases l <;> exact hungranted
      · exact exec_linkReset_ends (linkEnds_alone_freed hquiet hcount (hbeside haside) (haway hpass) hx' horigin hlink hgranted htravelling hpoints
          (by simpa using hholder) (by simpa using hlevel) (by simpa using hlamp) (by simpa using hslots) (passActive_closeStream hidle)
          (by simpa using hstate)) (hover hlink hgivenBack)
      · have hends := linkEnds_alone_gate hquiet hcount (hbeside haside) (haway hpass) hx' horigin hlink hgranted hscoring hpoints
          (by simpa using hstate) (by simpa [hlink] using hholder) (by simpa using hlevel) (by simpa using hlamp) (by simpa using hslots)
          (passActive_closeStream hidle)
        rw [zoneStep_closeStream] at hends
        exact exec_linkReset_ends hends (erased_lens hlink (lensSent_closeStream _) hgivenBack)

end Sys2Proof.Machine
end

section
/-! PROOFS. A pass visits its frames: faults judged, and the ready gate in STEP (R143, R144, R150, R152). -/

namespace Sys2Proof.Machine

open Sys2Proof

/-! ### A visit as the record of the segment shows it (R144, R152) -/

/-- The record of the segment after a visit of frame k, whose entry is e. -/
def judgedFor (k : Nat) (e : Entry) (o : SegOutcome) : SegOutcome :=
  { o with
    visited := o.visited + 1
    faults := { o.faults with
      missedMark := if e.source = .filled then min 255 (o.faults.missedMark + 1) else o.faults.missedMark
      gap := if e.flags.gap then min 255 (o.faults.gap + 1) else o.faults.gap
      splice := if e.flags.splice then min 255 (o.faults.splice + 1) else o.faults.splice }
    firstFault := if o.firstFault = none ∧ (e.source == .filled || e.flags.gap || e.flags.splice) = true then some k else o.firstFault }

/-- The pass after a visit of frame k in segment c. -/
def visitedIn (c k : Nat) (e : Entry) (selected : Bool) (p : Pass) : Pass :=
  { p with
    outcomes := p.outcomes.modify (c - 1) (judgedFor k e)
    framesSinceYield := if selected then min 255 (p.framesSinceYield + 1) else p.framesSinceYield }

/-- The first visit class of an entry in a segment's stop mask (R152). -/
def maskedAt (e : Entry) (g : Segment) : Option FaultClass :=
  if e.source = .filled ∧ g.stopMask.getLsbD 2 = true then some .missedMark
  else if e.flags.gap = true ∧ g.stopMask.getLsbD 3 = true then some .gap
  else if e.flags.splice = true ∧ g.stopMask.getLsbD 5 = true then some .splice
  else none

theorem countFault_counted (i k : Nat) (f : FaultClass) (s : State) : countFault i f k s =
    onOutcome i (fun o => { o with faults := o.faults.inc f, firstFault := some (o.firstFault.getD k) }) s := by
  refine congrArg (fun f => onOutcome i f s) (funext fun o => ?_)
  cases hfirst : o.firstFault <;> simp

theorem onOutcome_onOutcome (i : Nat) (f h : SegOutcome → SegOutcome) (s : State) :
    onOutcome i f (onOutcome i h s) = onOutcome i (f ∘ h) s := by simp only [onOutcome, List.modify_modify_eq]

section
variable {c k : Nat} {g : Segment} {e : Entry} {s : State} (hc : s.pass.current = some c) (he : s.entry k = some e)

include hc

theorem segment_eq : s.segment = s.pass.program[c - 1]? := by simp only [State.segment, hc]

theorem place_eq : s.place = c - 1 := by simp only [State.place, hc, Option.getD_some]

include he

theorem visitFrame_eq (selected : Bool) : visitFrame k selected s = { s with pass := visitedIn c k e selected s.pass } := by
  have hjudged : countFaults (c - 1) k (visitClasses e) (onOutcome (c - 1) (fun o => { o with visited := o.visited + 1 }) s) =
      onOutcome (c - 1) (judgedFor k e) s := by
    cases hsource : e.source <;> cases hgap : e.flags.gap <;> cases hsplice : e.flags.splice <;>
      simp only [visitClasses, hsource, hgap, hsplice, countFaults, countFault_counted, onOutcome_onOutcome, reduceCtorEq, if_true, if_false,
        Bool.false_eq_true, List.nil_append, List.cons_append] <;>
      exact congrArg (fun f => onOutcome (c - 1) f s) (funext fun o => by
        cases hfirst : o.firstFault <;> simp [judgedFor, hsource, hgap, hsplice, hfirst, FaultCounts.inc, satInc])
  simp only [visitFrame, place_eq hc, he, hjudged]
  rfl

variable (hg : s.pass.program[c - 1]? = some g)

include hg

theorem maskedVisit_eq : maskedVisit s k = maskedAt e g := by
  have hmasked (f : FaultClass) : s.masked s.place f = g.stopMask.getLsbD f.bit := by simp only [State.masked, place_eq hc, hg]
  cases hsource : e.source <;> cases hgap : e.flags.gap <;> cases hsplice : e.flags.splice <;>
    simp only [maskedVisit, he, maskedAt, visitClasses, hmasked, hsource, hgap, hsplice, reduceCtorEq, if_true, if_false, Bool.false_eq_true,
      List.nil_append, List.cons_append, FaultClass.bit, false_and, true_and, List.find?]
  all_goals
    cases g.stopMask.getLsbD 2 <;> cases g.stopMask.getLsbD 3 <;> cases g.stopMask.getLsbD 5 <;> simp

end

/-! ### A pass that ends in PARKED (R126, R156) -/

theorem endPass_parked {l : Link} {c : Nat} {o : PassOutcome} {x : SegState} {u : State} (howner : u.pass.owner = some l)
    (hfinish : finishPass o u = passEnded l c o x u) (hsweep : u.sweep.active = none) (hholder : u.transport.holder = none)
    (hgrant : u.sched.grant = .pass) (hparked : u.transport.state = .parked) (hmove : u.transport.move = none) :
    endPass o u = facing (u.todo ++ [.choose]) (passEnded l c o x (grantEnded u)) := by
  rw [endPass_eq howner, hfinish, ownSweepLeft_none (by simp [hsweep]),
    moveReleased_parked (by simp [hholder]) (by simpa using hgrant) (by simpa using hparked) (by simpa using hmove),
    endGrant_parked (by simpa using hparked), passEnded_todo]
  cases l <;> rfl

/-! ### The ready gate of a STEP pass (R143, R144, R150) -/

/-- The pass holds the gate and awaits the capture (R144). -/
def awaitsCapture (l : Link) (s : State) : State :=
  { s with
    transport := { s.transport with state := .settled, gateReady := false, holder := some (.pass l) }
    roll := { s.roll with idleTimer := none }
    pass := { s.pass with work := .awaitingCapture, captureTimer := some s.params.captureTimeout } }

theorem offerGate_pass {s : State} (hstate : s.transport.state = .settling) (hready : s.transport.gateReady = true)
    (hgrant : s.sched.grant = .pass) (hwork : s.pass.work ≠ .sweeping) : offerGate s = offerPass s := by
  simp only [offerGate, hstate, hready, and_self, if_true, hgrant, hwork, if_false]

section
variable {l : Link} {c k : Nat} {g : Segment} {e : Entry} {s : State} (hhand : s.pass.frameInHand = some k) (howner : s.pass.owner = some l)

include hhand howner

theorem offerPass_again (hvisited : s.pass.visitedInHand = true) (hlamp : s.lamp.state = .on) : offerPass s = awaitsCapture l s := by
  simp only [offerPass, hhand, howner, hvisited, Bool.not_true, Bool.false_eq_true, if_false, hlamp]
  rfl

variable (hc : s.pass.current = some c) (he : s.entry k = some e) (hg : s.pass.program[c - 1]? = some g)
  (hfresh : s.pass.visitedInHand = false)

include hc he hg hfresh

/-- The frame in hand is visited, once. -/
def frameVisited (c k : Nat) (e : Entry) (s : State) : State :=
  { s with pass := { visitedIn c k e true s.pass with visitedInHand := true } }

omit hhand howner hg hfresh in
theorem visitFrame_inHand : visitFrame k true { s with pass := { s.pass with visitedInHand := true } } = frameVisited c k e s :=
  visitFrame_eq (s := { s with pass := { s.pass with visitedInHand := true } }) hc he true

theorem offerPass_masked {x : FaultClass} (hmasked : maskedAt e g = some x) :
    offerPass s = endPass (.stopped x k) (leaveGate (frameVisited c k e s)) := by
  have hvisit := visitFrame_inHand hc he
  simp only [hhand, howner] at hvisit
  simp only [offerPass, hhand, howner, hfresh, Bool.not_false, if_true, maskedVisit_eq hc he hg, hmasked, hvisit]

theorem offerPass_lit (hmasked : maskedAt e g = none) (hlamp : s.lamp.state = .on) : offerPass s = awaitsCapture l (frameVisited c k e s) := by
  have hvisit := visitFrame_inHand hc he
  simp only [hhand, howner] at hvisit
  have hlamp' : (frameVisited c k e s).lamp.state = .on := hlamp
  simp only [offerPass, hhand, howner, hfresh, Bool.not_false, if_true, maskedVisit_eq hc he hg, hmasked,
    hvisit, hlamp']
  rfl

theorem offerPass_waits (hmasked : maskedAt e g = none) (hlamp : s.lamp.state = .warming) : offerPass s = frameVisited c k e s := by
  have hvisit := visitFrame_inHand hc he
  simp only [hhand, howner] at hvisit
  have hlamp' : (frameVisited c k e s).lamp.state = .warming := hlamp
  simp only [offerPass, hhand, howner, hfresh, Bool.not_false, if_true, maskedVisit_eq hc he hg, hmasked,
    hvisit, hlamp']

theorem offerPass_dark (hmasked : maskedAt e g = none) (hlamp : s.lamp.state = .failed) :
    offerPass s = endPass .lamp (leaveGate (frameVisited c k e s)) := by
  have hvisit := visitFrame_inHand hc he
  simp only [hhand, howner] at hvisit
  have hlamp' : (frameVisited c k e s).lamp.state = .failed := hlamp
  simp only [offerPass, hhand, howner, hfresh, Bool.not_false, if_true, maskedVisit_eq hc he hg, hmasked,
    hvisit, hlamp']

end

/-- The gate is left in PARKED, the pass over. -/
theorem endPass_leaves {l : Link} {c : Nat} {o : PassOutcome} {x : SegState} {u : State} (hq : Quiet u) (hlamp : u.lamp.state ≠ .off)
    (hgrant : u.sched.grant = .pass) (howner : u.pass.owner = some l) (hsweep : u.sweep.active = none) (hholder : u.transport.holder = none)
    (hmove : u.transport.move = none)
    (hfinish : ∀ v : State, v.pass = u.pass → finishPass o v = passEnded l c o x v) :
    endPass o (leaveGate u) = facing [.choose, .choose] (passEnded l c o x (grantEnded
      { u with transport := { u.transport with state := .parked, gateReady := false }, roll := { u.roll with idleTimer := none } })) := by
  rw [leaveGate_granted hq hlamp (by simp [hgrant])]
  refine (endPass_parked (u := facing [.choose]
    { u with transport := { u.transport with state := .parked, gateReady := false }, roll := { u.roll with idleTimer := none } }) (l := l) (c := c) (x := x) howner (hfinish _ rfl) hsweep hholder hgrant rfl hmove).trans ?_
  cases l <;> rfl

end Sys2Proof.Machine
end

section
/-! PROOFS. The ready gate offered to a STEP pass, and offered again when the lamp is lit (R143, R144, R150). -/

namespace Sys2Proof.Machine

open Sys2Proof

/-- The pass of link l works in segment c, which alone holds frame k, with no sweep and nothing else to do. -/
structure AtWork (l : Link) (c k : Nat) (g : Segment) (e : Entry) (s : State) : Prop where
  quiet : Quiet s
  grant : s.sched.grant = .pass
  running : s.pass.state = .running
  owner : s.pass.owner = some l
  current : s.pass.current = some c
  segment : s.pass.program[c - 1]? = some g
  alone : HeldAlone c k s
  sweep : s.sweep.active = none
  rest : ∀ x ∈ s.slots, x.resting = true
  holder : s.transport.holder = none
  entry : s.entry k = some e

namespace AtWork

variable {l : Link} {c k : Nat} {g : Segment} {e : Entry} {s : State}

theorem finish_masked (h : AtWork l c k g e s) {x : FaultClass} {v : State} (howner : v.pass.owner = s.pass.owner)
    (hcurrent : v.pass.current = s.pass.current) (hprogram : v.pass.program = s.pass.program) :
    finishPass (.stopped x k) v = passEnded l c (.stopped x k) .stopped v :=
  finishPass_masked (howner.trans h.owner) (hcurrent.trans h.current) (by unfold HeldAlone; rw [hprogram]; exact h.alone)

theorem finish_plain (h : AtWork l c k g e s) {o : PassOutcome} {v : State} (howner : v.pass.owner = s.pass.owner)
    (hcurrent : v.pass.current = s.pass.current) (ho : ∀ f n, o ≠ .stopped f n) : finishPass o v = passEnded l c o o.segState v := by
  rw [finishPass_plain (howner.trans h.owner) ho, hcurrent, h.current, Option.getD_some]

/-- A pass that has ended leaves nothing to choose from. -/
theorem ended_noWork (h : AtWork l c k g e s) {o : PassOutcome} {x : SegState} {v : State} (hlevel : v.tracker.level ≠ .lost)
    (hslots : v.slots = s.slots) (hsweep : v.sweep = s.sweep) : NoWork (passEnded l c o x v) :=
  ⟨by simpa using hlevel, by rw [passEnded_slots, hslots]; exact h.rest, by rw [passEnded_sweep, hsweep]; exact h.sweep, by simp [State.passActive]⟩

end AtWork

section
variable {l : Link} {c k : Nat} {g : Segment} {e : Entry} {m : Move} {s : State} (h : AtWork l c k g e s)
  (hstate : s.transport.state = .settling) (htimer : s.transport.settleTimer ≠ none) (hnot : s.transport.gateReady = false)
  (hm : s.transport.move = some m) (hframe : m.frame = some k) (hfocus : m.focusTaken = true) (hwork : s.pass.work = .approaching)
  (hhand : s.pass.frameInHand = some k) (hfresh : s.pass.visitedInHand = false)

/-- The frame is in the gate and visited. -/
def gateVisited (c k : Nat) (e : Entry) (s : State) : State :=
  { s with
    transport := { s.transport with gateFrame := some k, move := none, settleTimer := none }
    pass := { visitedIn c k e true s.pass with visitedInHand := true } }

/-- The gate is left, with nothing else to do. -/
def gateGiven (c k : Nat) (e : Entry) (s : State) : State :=
  { gateVisited c k e s with
    transport := { (gateVisited c k e s).transport with state := .parked }
    roll := { s.roll with idleTimer := if s.params.standbyIdle = 0 then none else some s.params.standbyIdle }
    sched := { s.sched with grant := .none } }

include h hstate htimer hnot hm hframe hfocus hwork

theorem exec_settle_offers {n : Nat} {new : List Signal} {u t : State} (hoffer : offerPass (gateShown k s) = facing new u)
    (ht : Leads n new u t) (hn : n ≤ 90) : exec .settleExpiry s = .next t :=
  exec_settleExpiry_offers h.quiet htimer hm hstate hnot hfocus hframe
    ((offerGate_pass (s := gateShown k s) hstate rfl h.grant (by rw [show (gateShown k s).pass.work = .approaching from hwork]; decide)).trans hoffer) ht hn

include hhand hfresh

omit hhand hfresh in
theorem exec_settle_leaves {o : PassOutcome} {x : SegState} (hlevel : s.tracker.level ≠ .lost) (hlamp : s.lamp.state ≠ .off)
    (hends : offerPass (gateShown k s) = endPass o (leaveGate (frameVisited c k e (gateShown k s))))
    (hfinish : ∀ v : State, v.pass = (frameVisited c k e s).pass → finishPass o v = passEnded l c o x v) :
    exec .settleExpiry s = .next (passEnded l c o x (gateGiven c k e s)) := by
  have hsame : grantEnded { frameVisited c k e (gateShown k s) with
      transport := { (frameVisited c k e (gateShown k s)).transport with state := .parked, gateReady := false }
      roll := { (frameVisited c k e (gateShown k s)).roll with idleTimer := none } } = gateGiven c k e s := by
    simp only [grantEnded, frameVisited, gateShown, gateReadyAt, gateGiven, gateVisited, hnot]
    rfl
  have hleft := endPass_leaves (l := l) (u := frameVisited c k e (gateShown k s)) h.quiet hlamp h.grant h.owner h.sweep h.holder rfl hfinish
  rw [hsame] at hleft
  exact exec_settle_offers h hstate htimer hnot hm hframe hfocus hwork (hends.trans hleft)
    (leads_at_ease_twice (passEnded_quiet l c o x (gateGiven c k e s) h.quiet) (.inr (h.ended_noWork (v := gateGiven c k e s) hlevel rfl rfl))) (by omega)

theorem exec_settle_masked {x : FaultClass} (hlevel : s.tracker.level ≠ .lost) (hlamp : s.lamp.state ≠ .off) (hmasked : maskedAt e g = some x) :
    exec .settleExpiry s = .next (passEnded l c (.stopped x k) .stopped (gateGiven c k e s)) :=
  exec_settle_leaves h hstate htimer hnot hm hframe hfocus hwork hlevel hlamp
    (offerPass_masked (s := gateShown k s) hhand h.owner h.current h.entry h.segment hfresh hmasked)
    fun v hv => h.finish_masked (by rw [hv]; rfl) (by rw [hv]; rfl) (by rw [hv]; rfl)

theorem exec_settle_dark (hlevel : s.tracker.level ≠ .lost) (hmasked : maskedAt e g = none) (hlamp : s.lamp.state = .failed) :
    exec .settleExpiry s = .next (passEnded l c .lamp .stopped (gateGiven c k e s)) :=
  exec_settle_leaves h hstate htimer hnot hm hframe hfocus hwork hlevel (by simp [hlamp])
    (offerPass_dark (s := gateShown k s) hhand h.owner h.current h.entry h.segment hfresh hmasked hlamp)
    fun v hv => h.finish_plain (by rw [hv]; rfl) (by rw [hv]; rfl) (by simp)

theorem exec_settle_lit (hmasked : maskedAt e g = none) (hlamp : s.lamp.state = .on) : exec .settleExpiry s = .next
    { gateVisited c k e s with
      transport := { (gateVisited c k e s).transport with state := .settled, holder := some (.pass l) }
      roll := { s.roll with idleTimer := none }
      pass := { (gateVisited c k e s).pass with work := .awaitingCapture, captureTimer := some s.params.captureTimeout } } := by
  have hlit := offerPass_lit (s := gateShown k s) hhand h.owner h.current h.entry h.segment hfresh hmasked hlamp
  refine (exec_settle_offers (new := []) h hstate htimer hnot hm hframe hfocus hwork (hlit.trans (facing_nil (by exact h.quiet)).symm)
    (Leads.done h.quiet) (by omega)).trans ?_
  simp [awaitsCapture, frameVisited, gateShown, gateReadyAt, gateVisited, hnot]

theorem exec_settle_waits (hmasked : maskedAt e g = none) (hlamp : s.lamp.state = .warming) : exec .settleExpiry s = .next
    { gateVisited c k e s with transport := { (gateVisited c k e s).transport with gateReady := true } } :=
  exec_settle_offers (new := []) h hstate htimer hnot hm hframe hfocus hwork
    ((offerPass_waits (s := gateShown k s) hhand h.owner h.current h.entry h.segment hfresh hmasked hlamp).trans
      (facing_nil (by exact h.quiet)).symm) (Leads.done h.quiet) (by omega)

end

section
variable {l : Link} {c k : Nat} {g : Segment} {e : Entry} {s : State} (h : AtWork l c k g e s)

include h

/-- The lamp has come ON while the pass waits at its frame: the gate is offered again. -/
theorem exec_warm_offers (hstate : s.transport.state = .settling) (hready : s.transport.gateReady = true) (hwork : s.pass.work = .approaching)
    (hhand : s.pass.frameInHand = some k) (hvisited : s.pass.visitedInHand = true) (hwarming : s.lamp.state = .warming)
    (htimer : s.lamp.warmTimer ≠ none) (hok : s.lampOk = true) (hafter : s.pass.after = .nothing) :
    exec .warmTimerExpiry s = .next (awaitsCapture l { s with lamp := { state := .on, warmTimer := none } }) := by
  refine takes_next (new := [.lampChanged]) (z := { s with lamp := { state := .on, warmTimer := none } }) ?_ (n := 1)
    (Leads.cons (new := []) (u := awaitsCapture l { s with lamp := { state := .on, warmTimer := none } }) ?_ (Leads.done h.quiet)) (by omega)
  · rw [if_pos ⟨hwarming, Option.isSome_iff_ne_none.mpr htimer⟩, warmExpired, if_pos hok, setLamp, emit_eq_facing _ (by exact h.quiet)]
    rfl
  · show lampChanged (facing [] _) = _
    have hoffer : offerGate { s with lamp := { state := .on, warmTimer := none } } = awaitsCapture l { s with lamp := { state := .on, warmTimer := none } } :=
      (offerGate_pass (s := { s with lamp := { state := .on, warmTimer := none } }) hstate hready h.grant (by rw [show s.pass.work = .approaching from hwork]; decide)).trans
        (offerPass_again (s := { s with lamp := { state := .on, warmTimer := none } }) hhand h.owner hvisited rfl)
    rw [facing_nil (by exact h.quiet), facing_nil (by exact h.quiet)]
    simp only [lampChanged, hstate, hready, and_self, if_true, hoffer]
    simp [awaitsCapture, passLampOn, hafter]

end

end Sys2Proof.Machine
end

section
/-! PROOFS. The count that reaches a trigger, and the pass as it runs (R74, R142, R148 to R151). -/

namespace Sys2Proof.Machine

open Sys2Proof

/-! ### The trigger (R74, R150) -/

/-- The pulse of frame k is given, or the one that runs goes on (log 27), and the entry is TRIGGERED (R74, R150). -/
def pulsedAt (k : Nat) (u : State) : State :=
  { u with
    transport := { u.transport with pulse := some (u.transport.pulse.getD u.params.gatePulse) }
    index := { u.index with entries := u.index.entries.modify (k - 1) (fun y =>
      { y with capture := .triggered, focusStep := some u.focus.position }) } }

/-- The pass after the trigger of frame k (R150). -/
def triggeredIn (c k : Nat) (e : Entry) (p : Pass) : Pass :=
  { visitedIn c k e true p with armed := none, resume := some (k + 1), lastTriggered := some (max k (p.lastTriggered.getD 0)) }

/-- The trigger of frame k is given. -/
def triggerGiven (c k : Nat) (e : Entry) (u : State) : State := pulsedAt k { u with pass := triggeredIn c k e u.pass }

theorem triggerGiven_todo (c k : Nat) (e : Entry) (u : State) : (triggerGiven c k e u).todo = u.todo := rfl

/-- The pass waits for the lamp, its trigger not given (R150). -/
def triggerMissed (k : Nat) (u : State) : State := { u with pass := { u.pass with armed := none, resume := some k } }

theorem flyMoving_true {m : Move} {u : State} (hrunning : u.pass.state = .running) (hwork : u.pass.work = .runningFly)
    (hgrant : u.sched.grant = .pass) (hm : u.transport.move = some m) (hpurpose : m.purpose = .flyRun) : flyMoving u = true := by
  simp [flyMoving, hrunning, hwork, hgrant, hm, hpurpose]

theorem entry_pos {k : Nat} {e : Entry} {u : State} (he : u.entry k = some e) : k ≠ 0 := by
  rintro rfl
  simp [State.entry] at he

section
variable {l : Link} {c k r : Nat} {g : Segment} {e : Entry} {m : Move} {u : State} (h : AtWork l c k g e u)
  (hwork : u.pass.work = .runningFly) (hm : u.transport.move = some m) (hpurpose : m.purpose = .flyRun)
  (harmed : u.pass.armed = some (k, r)) (hreached : r ≤ u.tracker.register)

include h

theorem visitFrame_triggered (hasked : u.pass.yieldAsked = false) (hlater : u.pass.yieldLater = false) {v : State}
    (hv : v = givePulse (onEntry k (fun y => { y with capture := .triggered, focusStep := some u.focus.position }) u)) :
    visitFrame k true (yieldDue { v with pass := { v.pass with
      armed := none, resume := some (k + 1), lastTriggered := some (max k (v.pass.lastTriggered.getD 0)) } }) = triggerGiven c k e u := by
  have hk := entry_pos h.entry
  have hpulsed : v = pulsedAt k u := by
    rw [hv, onEntry, if_neg hk]
    cases hpulse : u.transport.pulse <;> simp [givePulse, pulsedAt, hpulse]
  have hentry : (pulsedAt k u).entry k = some { e with capture := .triggered, focusStep := some u.focus.position } := by
    have he := h.entry
    rw [entry_eq_getElem? hk] at he ⊢
    simp [pulsedAt, he]
  rw [hpulsed]
  refine (visitFrame_eq (c := c) (e := { e with capture := .triggered, focusStep := some u.focus.position })
    (by exact h.current) (by exact hentry) true).trans ?_
  simp only [yieldDue, pulsedAt, hasked, hlater, Bool.or_false, triggerGiven, triggeredIn, visitedIn]
  rfl

include hwork hm hpurpose harmed hreached

theorem passTrigger_masked {x : FaultClass} (hlamp : u.lamp.state = .on) (hasked : u.pass.yieldAsked = false)
    (hlater : u.pass.yieldLater = false) (hmasked : maskedAt e g = some x) :
    passTrigger u = endPass (.stopped x k) (triggerGiven c k e u) := by
  have hvisit := visitFrame_triggered h hasked hlater rfl
  simp only [passTrigger, harmed, segment_eq h.current, h.segment, flyMoving_true h.running hwork h.grant hm hpurpose, hreached, and_self,
    if_true, hlamp, maskedVisit_eq h.current h.entry h.segment, hmasked]
  rw [hvisit]

theorem passTrigger_plain (hlamp : u.lamp.state = .on) (hasked : u.pass.yieldAsked = false) (hlater : u.pass.yieldLater = false)
    (hmasked : maskedAt e g = none) : passTrigger u =
      takeBoundary (fun x => if g.last = some k then endSegment x else emit .passArm x) (triggerGiven c k e u) := by
  have hvisit := visitFrame_triggered h hasked hlater rfl
  simp only [passTrigger, harmed, segment_eq h.current, h.segment, flyMoving_true h.running hwork h.grant hm hpurpose, hreached, and_self,
    if_true, hlamp, maskedVisit_eq h.current h.entry h.segment, hmasked]
  rw [hvisit]

theorem passTrigger_unlit (hlamp : u.lamp.state ≠ .on) : passTrigger u = takeBoundary (stopThen .awaitLamp) (triggerMissed k u) := by
  simp only [passTrigger, harmed, segment_eq h.current, h.segment, flyMoving_true h.running hwork h.grant hm hpurpose, hreached, and_self,
    if_true, hlamp, if_false]
  rfl

end

/-! ### A count of a FLY-RUN (R1, R51) -/

section
variable {m : Move} {s : State} (hm : s.transport.move = some m)
  (hpurpose : m.purpose = .flyRun) (hdir : m.leg.direction = .forward) (hroom : s.tracker.register + 1 < 16777215)

include hm hpurpose hdir hroom

theorem countTaken_fly : countTaken .forward s = travelled m false s := by
  have hmax : Config.maxCoord = 16777215 := rfl
  have hregister : min Config.maxCoord (s.tracker.register + 1) = s.tracker.register + 1 := by omega
  have htravel : countTravel .forward (countRegister .forward s) = travelled m false s := by
    simp [countTravel, hdir, onMove, hm, countRegister, hregister, travelled, carried]
  have hpreview : previewDue .forward (travelled m false s) = false := by
    simp only [previewDue, travelled, hpurpose]
    cases State.runningLeg _ <;> simp
  simp only [countTaken, reduceCtorEq, if_false, htravel, hpreview, Bool.false_eq_true]

theorem encoderCount_fly : encoderCount .forward s = emit .passTick (motionCheck (some .forward) (passTrigger (travelled m false s))) := by
  have hmax : Config.maxCoord = 16777215 := rfl
  have hover : overruns .forward s = false := by
    have hne : s.tracker.register + 1 ≠ Config.maxCoord := by omega
    simp [overruns, hne]
  rw [encoderCount, if_neg (by simp [hover]), countTaken_fly hm hpurpose hdir hroom]

/-- A count of a FLY-RUN, and what the pass makes of it. -/
theorem exec_count_fly {calls : List Signal} {n : Nat} {w t : State}
    (hcheck : motionCheck (some .forward) (passTrigger (travelled m false s)) = facing calls w)
    (hleads : Leads n (calls ++ [.passTick]) w t) (hn : n ≤ 100) : exec (.encoderCount .forward) s = .next t := by
  refine takes_next (new := calls ++ [.passTick]) (z := w) ?_ hleads hn
  rw [encoderCount_fly hm hpurpose hdir hroom, hcheck]
  rfl

end

theorem leads_tick_off {s : State} (hq : Quiet s) (hwork : s.pass.work ≠ .runningFly) : Leads 1 [.passTick] s s := by
  refine Leads.skip ?_ (Leads.done hq)
  rw [facing_nil hq]
  show tickPass s = s
  unfold tickPass
  split
  · rfl
  · rw [if_neg hwork]

theorem inRun_at_rest {s : State} (h : s.runningLeg = none) : inRun s = false := by simp [inRun, h]

theorem fillDue_at_rest {s : State} (g : Segment) (h : s.runningLeg = none) : fillDue s g = false := by simp [fillDue, h]

theorem leads_tick_resting {s : State} (hq : Quiet s) (h : s.runningLeg = none) : ∃ n, n ≤ 2 ∧ Leads n [.passTick] s s := by
  rcases tickPass_no_fill s fun g => fillDue_at_rest g h with htick | htick
  · refine ⟨1, by omega, Leads.skip ?_ (Leads.done hq)⟩
    rw [facing_nil hq]
    exact htick
  · refine ⟨2, by omega, Leads.cons (new := [.passCheck]) (u := s) ?_ (Leads.skip ?_ (Leads.done hq))⟩
    · show tickPass (facing [] s) = _
      rw [facing_nil hq, htick, emit_eq_facing _ hq]
    · show checkRun (facing [] s) = _
      rw [facing_nil hq, checkRun_no_run s (inRun_at_rest h)]

/-! ### A pass that ends with its FLY-RUN (R59, R156) -/

section
variable {l : Link} {c : Nat} {o : PassOutcome} {x : SegState} {m : Move} {u : State} (howner : u.pass.owner = some l)
  (hfinish : finishPass o u = passEnded l c o x u) (hsweep : u.sweep.active = none) (hholder : u.transport.holder = none)
  (hgrant : u.sched.grant = .pass) (hmoving : u.transport.state = .moving) (hm : u.transport.move = some m)

include howner hfinish hsweep hholder hgrant hmoving hm

theorem endPass_moving : endPass o u = passEnded l c o x (if m.phase = .running then comingToRest m .stopped u else u) := by
  rw [endPass_eq howner, hfinish, ownSweepLeft_none (by simp [hsweep]),
    moveReleased_moving (m := m) (by simp [hholder]) (by simpa using hgrant) (by simpa using hmoving) (by simpa using hm)]
  split_ifs
  · cases l <;> rfl
  · rfl

end

end Sys2Proof.Machine
end

section
/-! PROOFS. The trigger taken while the film comes to rest, and the triggers that stop the run (R142, R150, R152, R156). -/

namespace Sys2Proof.Machine

open Sys2Proof

theorem AtWork.travelled {l : Link} {c k : Nat} {g : Segment} {e : Entry} {s : State} (h : AtWork l c k g e s) (m : Move) :
    AtWork l c k g e (travelled m false s) :=
  ⟨h.quiet, h.grant, h.running, h.owner, h.current, h.segment, h.alone, h.sweep, h.rest, h.holder, h.entry⟩

theorem AtWork.no_pending {l : Link} {c k : Nat} {g : Segment} {e : Entry} {s : State} (h : AtWork l c k g e s) :
    ∀ x ∈ s.slots, x.state ≠ .pending := by
  intro x hx hpending
  have hresting := h.rest x hx
  simp [Slot.resting, hpending] at hresting

theorem AtWork.no_resolving {l : Link} {c k : Nat} {g : Segment} {e : Entry} {s : State} (h : AtWork l c k g e s) :
    ∀ x ∈ s.slots, x.state ≠ .resolving := by
  intro x hx hresolving
  have hresting := h.rest x hx
  simp [Slot.resting, hresolving] at hresting

theorem takeBoundary_unasked {f : State → State} {s : State} (h : Unasked s) : takeBoundary f s = f s := by
  simp only [takeBoundary, decideBoundary_unasked h]

theorem endSegment_last {c : Nat} {s : State} (hrunning : s.pass.state = .running) (hc : s.pass.current = some c)
    (hcount : s.pass.segmentCount = some c) : endSegment s = endPass .completed s := by
  simp only [endSegment, hc, hcount, hrunning, if_true, le_refl]

/-- The pass works a FLY-RUN and takes its trigger at this count. -/
structure Fires (l : Link) (c k : Nat) (g : Segment) (e : Entry) (m : Move) (s : State) : Prop where
  work : AtWork l c k g e s
  moving : s.transport.state = .moving
  move : s.transport.move = some m
  purpose : m.purpose = .flyRun
  forward : m.leg.direction = .forward
  room : s.tracker.register + 1 < 16777215
  running : s.pass.work = .runningFly
  asked : s.pass.yieldAsked = false
  later : s.pass.yieldLater = false
  armed : s.pass.armed = some (k, s.tracker.register + 1)

section
variable {l : Link} {c k : Nat} {g : Segment} {e : Entry} {m : Move} {s : State} (h : Fires l c k g e m s)

include h

namespace Fires

theorem masked {x : FaultClass} (hlamp : s.lamp.state = .on) (hmasked : maskedAt e g = some x) :
    passTrigger (travelled m false s) = endPass (.stopped x k) (triggerGiven c k e (travelled m false s)) :=
  passTrigger_masked (m := { m with travel := m.travel + 1 }) (h.work.travelled m) h.running rfl h.purpose h.armed le_rfl hlamp h.asked h.later hmasked

theorem plain (hlamp : s.lamp.state = .on) (hmasked : maskedAt e g = none) : passTrigger (travelled m false s) =
    takeBoundary (fun x => if g.last = some k then endSegment x else emit .passArm x) (triggerGiven c k e (travelled m false s)) :=
  passTrigger_plain (m := { m with travel := m.travel + 1 }) (h.work.travelled m) h.running rfl h.purpose h.armed le_rfl hlamp h.asked h.later hmasked

theorem unlit (hlamp : s.lamp.state ≠ .on) :
    passTrigger (travelled m false s) = takeBoundary (stopThen .awaitLamp) (triggerMissed k (travelled m false s)) :=
  passTrigger_unlit (m := { m with travel := m.travel + 1 }) (h.work.travelled m) h.running rfl h.purpose h.armed le_rfl hlamp

theorem unasked (hpending : s.pass.pending = .none) : Unasked s := ⟨hpending, h.asked, h.later, .inr h.work.no_pending⟩

theorem ends {o : PassOutcome} {x : SegState} (hfinish : finishPass o (triggerGiven c k e (travelled m false s)) =
      passEnded l c o x (triggerGiven c k e (travelled m false s))) : endPass o (triggerGiven c k e (travelled m false s)) =
    passEnded l c o x (if m.phase = .running then comingToRest { m with travel := m.travel + 1 } .stopped (triggerGiven c k e (travelled m false s))
      else triggerGiven c k e (travelled m false s)) :=
  endPass_moving (m := { m with travel := m.travel + 1 }) h.work.owner hfinish h.work.sweep h.work.holder h.work.grant h.moving rfl

/-- The trigger leaves the film coming to rest, and the pass out of its run. -/
theorem stops {w : State} (hw : passTrigger (travelled m false s) = w) (hq : Quiet w) (hleg : w.runningLeg = none)
    (hwork : w.pass.work ≠ .runningFly) : exec (.encoderCount .forward) s = .next w := by
  refine exec_count_fly (calls := []) h.move h.purpose h.forward h.room ?_ (leads_tick_off hq hwork) (by omega)
  rw [hw, motionCheck_idle _ hleg, facing_nil hq]

theorem ended {o : PassOutcome} {x : SegState} (hends : passTrigger (travelled m false s) = endPass o (triggerGiven c k e (travelled m false s)))
    (hfinish : finishPass o (triggerGiven c k e (travelled m false s)) = passEnded l c o x (triggerGiven c k e (travelled m false s))) :
    (m.phase = .running → exec (.encoderCount .forward) s =
      .next (passEnded l c o x (comingToRest { m with travel := m.travel + 1 } .stopped (triggerGiven c k e (travelled m false s))))) ∧
    (m.phase = .stopping → exec (.encoderCount .forward) s = .next (passEnded l c o x (triggerGiven c k e (travelled m false s)))) := by
  have hover := hends.trans (h.ends hfinish)
  refine ⟨fun hphase => ?_, fun hphase => ?_⟩
  · rw [if_pos hphase] at hover
    refine h.stops hover (passEnded_quiet l c o x _ (by exact h.work.quiet)) (runningLeg_waits (by rw [passEnded_transport]; rfl) (.inl rfl)) ?_
    cases l <;> exact fun hno => by cases hno
  · rw [if_neg (by simp [hphase])] at hover
    refine h.stops hover (passEnded_quiet l c o x _ (by exact h.work.quiet))
      (runningLeg_waits (m := { m with travel := m.travel + 1 }) (by rw [passEnded_transport]; rfl) (.inl hphase)) ?_
    cases l <;> exact fun hno => by cases hno

theorem finish_masked {x : FaultClass} : finishPass (.stopped x k) (triggerGiven c k e (travelled m false s)) =
    passEnded l c (.stopped x k) .stopped (triggerGiven c k e (travelled m false s)) := h.work.finish_masked rfl rfl rfl

theorem finish_plain {o : PassOutcome} (ho : ∀ f n, o ≠ .stopped f n) : finishPass o (triggerGiven c k e (travelled m false s)) =
    passEnded l c o o.segState (triggerGiven c k e (travelled m false s)) := h.work.finish_plain rfl rfl ho

/-- The last frame of the segment ends it, and the last segment the pass (R148, R156). -/
theorem completes (hlamp : s.lamp.state = .on) (hmasked : maskedAt e g = none) (hpending : s.pass.pending = .none) (hlast : g.last = some k)
    (hcount : s.pass.segmentCount = some c) :
    passTrigger (travelled m false s) = endPass .completed (triggerGiven c k e (travelled m false s)) := by
  rw [h.plain hlamp hmasked, takeBoundary_unasked (by exact h.unasked hpending), if_pos hlast]
  exact endSegment_last h.work.running h.work.current hcount

theorem aborts (hlamp : s.lamp.state = .on) (hmasked : maskedAt e g = none) (hpending : s.pass.pending = .abort) :
    passTrigger (travelled m false s) = endPass .aborted (triggerGiven c k e (travelled m false s)) := by
  rw [h.plain hlamp hmasked, takeBoundary_abort (by exact hpending)]

/-- A pending SUSPEND stops the run at the trigger (R142, log 47). -/
theorem suspends (hlamp : s.lamp.state = .on) (hmasked : maskedAt e g = none) (hpending : s.pass.pending = .suspend) (hphase : m.phase = .running)
    (haction : g.action ≠ .indexOnly) : exec (.encoderCount .forward) s = .next (comingToRest { m with travel := m.travel + 1 } .stopped
      (stoppingFor (.giveUp .suspend) (triggerGiven c k e (travelled m false s)))) := by
  have hkept : afterVisits (triggerGiven c k e (travelled m false s)) = triggerGiven c k e (travelled m false s) :=
    afterVisits_kept (.inr fun y hy => by
      obtain rfl := Option.some.inj (((segment_eq (s := triggerGiven c k e (travelled m false s)) h.work.current).trans h.work.segment).symm.trans hy)
      exact haction)
  refine h.stops ?_ h.work.quiet (runningLeg_waits rfl (.inl rfl)) (fun hno => by cases hno)
  have hsuspended := takeBoundary_suspend_moving (f := fun x => if g.last = some k then endSegment x else emit .passArm x)
    (m := { m with travel := m.travel + 1 }) (u := triggerGiven c k e (travelled m false s)) hpending (.inr h.running) h.work.grant rfl
    (by rw [hkept]) h.moving hphase
  rw [h.plain hlamp hmasked, hsuspended, hkept]

/-- The lamp is WARMING: the run stops to wait (R150). -/
theorem waits (hlamp : s.lamp.state ≠ .on) (hpending : s.pass.pending = .none) :
    (m.phase = .running → exec (.encoderCount .forward) s = .next (comingToRest { m with travel := m.travel + 1 } .stopped
      (stoppingFor .awaitLamp (triggerMissed k (travelled m false s))))) ∧
    (m.phase = .stopping → exec (.encoderCount .forward) s = .next (stoppingFor .awaitLamp (triggerMissed k (travelled m false s)))) := by
  have hgoes := (h.unlit hlamp).trans (takeBoundary_unasked (by exact h.unasked hpending))
  refine ⟨fun hphase => h.stops ?_ h.work.quiet (runningLeg_waits rfl (.inl rfl)) (fun hno => by cases hno),
    fun hphase => h.stops ?_ h.work.quiet (runningLeg_waits (m := { m with travel := m.travel + 1 }) rfl (.inl hphase)) (fun hno => by cases hno)⟩
  · rw [hgoes, stopThen_running (m := { m with travel := m.travel + 1 }) _ (by exact h.moving) rfl hphase]
  · rw [hgoes, stopThen_stopping (m := { m with travel := m.travel + 1 }) _ (by exact h.moving) rfl hphase]

/-- A trigger taken while the film comes to rest arms none after it (log 10). -/
theorem taken_at_rest (hlamp : s.lamp.state = .on) (hmasked : maskedAt e g = none) (hpending : s.pass.pending = .none) (hlast : g.last ≠ some k)
    (hphase : m.phase = .stopping) : exec (.encoderCount .forward) s = .next (triggerGiven c k e (travelled m false s)) := by
  have hleg : (triggerGiven c k e (travelled m false s)).runningLeg = none :=
    runningLeg_waits (m := { m with travel := m.travel + 1 }) rfl (.inl hphase)
  have hq : Quiet (triggerGiven c k e (travelled m false s)) := h.work.quiet
  obtain ⟨n, hn, hticks⟩ := leads_tick_resting hq hleg
  refine exec_count_fly (calls := [.passArm]) (w := triggerGiven c k e (travelled m false s)) h.move h.purpose h.forward h.room ?_
    (Leads.skip ?_ hticks) (by omega)
  · rw [h.plain hlamp hmasked, takeBoundary_unasked (by exact h.unasked hpending), if_neg hlast, motionCheck_idle _ (by exact hleg), emit_eq_facing _ hq]
  · show armNext (facing [] _) = _
    rw [facing_nil hq, armNext_no_run _ (inRun_at_rest hleg)]

end Fires

end

end Sys2Proof.Machine
end

section
/-! PROOFS. A FLY pass in its run: the next trigger armed, the fill, and what the count looks at (R147 to R149). -/

namespace Sys2Proof.Machine

open Sys2Proof

/-! ### Judging the next frame, whatever the resume frame (R141, R148) -/

section
variable {g : Segment} {j : Nat} {y : Entry} {u : State}

theorem judgeNext_finds (hnone : u.pass.next = none) (hlow : u.pass.unjudged ≤ j) (hspan : j ≤ u.spanIndexed g) (hy : u.entry j = some y)
    (hselects : selects g.action y = true)
    (hlowest : ∀ i x, u.pass.unjudged ≤ i → i < j → u.entry i = some x → selects g.action x = false) :
    judgeNext g u = { u with pass := { u.pass with judgedUpTo := j, chosen := [j] } } := by
  have hone : 1 ≤ u.pass.unjudged := by simp [Pass.unjudged]
  have hfind : findSelected u g u.pass.unjudged = some j :=
    (findSelected_some hone).mpr ⟨hlow, hspan, ⟨y, hy, hselects⟩, fun i hi hlt x hx => hlowest i x hi hlt hx⟩
  simp only [judgeNext, hnone, hfind]

theorem judgeNext_nothing (hnone : u.pass.next = none)
    (hall : ∀ i x, u.pass.unjudged ≤ i → i ≤ u.spanIndexed g → u.entry i = some x → selects g.action x = false) :
    judgeNext g u = { u with pass := { u.pass with judgedUpTo := max u.pass.judgedUpTo (u.spanIndexed g) } } := by
  have hone : 1 ≤ u.pass.unjudged := by simp [Pass.unjudged]
  have hfind : findSelected u g u.pass.unjudged = none := findSelected_none hone fun i hi hspan x hx => hall i x hi hspan hx
  simp only [judgeNext, hnone, hfind]

theorem next_none (h : ∀ i ∈ u.pass.chosen, i < u.pass.resume.getD 1) : u.pass.next = none := by
  rw [Pass.next, List.find?_eq_none]
  exact fun i hi => by simpa using h i hi

theorem next_judged (h : u.pass.resume.getD 1 ≤ j) : Pass.next { u.pass with judgedUpTo := j, chosen := [j] } = some j := by
  simp [Pass.next, h]

theorem selects_false (h : ¬ (g.action = .all ∨ (g.action = .docStarts ∧ y.cls ≠ .image) ∨ (g.action = .missing ∧ y.capture ≠ .captured))) :
    selects g.action y = false := by
  rw [Bool.eq_false_iff]
  exact fun hno => h ((selects_iff g.action y).mp hno)

end

/-! ### The run (R62, R148) -/

/-- The pass is in the INDEX run of its FLY-RUN `m`, in a part whose index is OPEN. -/
structure InFlyRun (g : Segment) (m : Move) (u : State) : Prop where
  moving : u.transport.state = .moving
  move : u.transport.move = some m
  purpose : m.purpose = .flyRun
  phase : m.phase = .running
  atRest : m.atRest = none
  final : m.finalApproach = false
  plan : m.plan = []
  leg : m.leg = { direction := .forward, cls := .index, stop := .unbounded }
  trailer : u.index.trailer = none
  closure : u.index.closure = none
  running : u.pass.state = .running
  work : u.pass.work = .runningFly
  grant : u.sched.grant = .pass
  segment : u.segment = some g

/-- A fill is due at this register (R149). -/
def FillDue (g : Segment) (u : State) : Prop :=
  u.pass.mode = some .fly ∧ g.action ≠ .indexOnly ∧ u.marks.inProgress = none ∧ u.index.entries.length < 16384 ∧
    (∀ n ∈ g.last, u.index.entries.length < n) ∧
    (u.index.entries.reverse.takeWhile (fun y => y.source == .filled)).length < u.params.maxFill ∧
    u.pos u.index.entries.length + (u.index.pitchQ + 8) / 16 +
      (if u.index.widening then 2 * max 40 (u.index.pitchQ / 64) else max 40 (u.index.pitchQ / 64)) ≤ u.tracker.register

theorem predFromE_next (u : State) : u.predFromE (u.extent + 1) = u.pos u.index.entries.length + (u.index.pitchQ + 8) / 16 := by
  simp [State.predFromE, predict, State.extent]

section
variable {g : Segment} {m : Move} {u : State} (h : InFlyRun g m u)

include h

namespace InFlyRun

theorem runningLeg : u.runningLeg = some m.leg := runningLeg_eq h.move (.inl h.moving) h.phase h.atRest

theorem inRun : inRun u = true := by
  simp [Machine.inRun, flyMoving_true h.running h.work h.grant h.move h.purpose, h.moving, h.runningLeg, h.move, h.plan]

theorem motionCheck : motionCheck (some .forward) u = u :=
  (motionCheck_stop h.move h.runningLeg (some .forward) h.final (.inr (.inr (by simp [h.trailer])))).1 (by rw [h.leg])

theorem not_ended (hahead : u.pass.armed ≠ none ∨ ∀ n ∈ g.last, n ≤ u.extent → u.tracker.register < u.gateCoord n) : runEnded u g = false := by
  rcases hahead with harmed | hahead
  · simp [runEnded, harmed]
  · cases hlast : g.last with
    | none => simp [runEnded, hlast, State.indexOpen, h.closure]
    | some n =>
      by_cases hn : n ≤ u.extent
      · have := hahead n hlast hn
        simp [runEnded, hlast, Nat.not_le.mpr this]
      · simp [runEnded, hlast, hn]

theorem checkRun_kept (haction : g.action ≠ .indexOnly)
    (hahead : u.pass.armed ≠ none ∨ ∀ n ∈ g.last, n ≤ u.extent → u.tracker.register < u.gateCoord n) : checkRun u = u := by
  simp only [checkRun, h.segment, h.inRun, if_true, haction, false_and, if_false, h.not_ended hahead, Bool.false_eq_true]

theorem fillDue_iff (hsome : 1 ≤ u.index.entries.length) : fillDue u g = true ↔ FillDue g u := by
  have hbeyond : u.spanBeyond g = true ↔ ∀ n ∈ g.last, u.index.entries.length < n := by
    cases hlast : g.last with
    | none => simp [State.spanBeyond, hlast]
    | some n =>
      simp only [State.spanBeyond, hlast, Option.mem_some_iff, forall_eq']
      exact decide_eq_true_iff
  have hroom : Config.maxFrames = 16384 := rfl
  have hextent : u.extent = u.index.entries.length := rfl
  have htrailing : trailingFills u.index.entries < u.params.maxFill ↔
      (u.index.entries.reverse.takeWhile (fun y => y.source == .filled)).length < u.params.maxFill := Iff.rfl
  have hpredicted := predFromE_next u
  rw [hextent] at hpredicted
  simp only [fillDue, h.running, h.work, h.grant, h.moving, h.runningLeg, h.move, h.purpose, h.leg, hpredicted, State.indexOpen, h.closure,
    hextent, hsome, hroom, State.w, window, FillDue, ← htrailing, Bool.and_eq_true, decide_eq_true_eq, beq_self_eq_true, beq_iff_eq, bne_iff_ne,
    Option.isNone_none, Option.isNone_iff_eq_none, true_and, and_true, and_assoc, hbeyond]
  tauto

/-- Without a fill the count changes nothing more. -/
theorem leads_tick (hq : Quiet u) (hno : fillDue u g = false) (hcheck : checkRun u = u) : Leads 2 [.passTick] u u := by
  refine Leads.cons (new := [.passCheck]) (u := u) ?_ (Leads.skip ?_ (Leads.done hq))
  · show tickPass (facing [] u) = _
    rw [facing_nil hq]
    simp only [tickPass, h.segment, h.work, if_true, hno, Bool.false_eq_true, if_false]
    exact emit_eq_facing _ hq
  · show checkRun (facing [] u) = _
    rw [facing_nil hq, hcheck]

end InFlyRun

end

/-! ### The fill (R149) -/

/-- The missing frame after entry E is entered as predicted. -/
def filledWith (u : State) : State :=
  { u with index := { u.index with
      counters := nextTriple u.index.counters .image
      entries := u.index.entries ++
        [{ position := u.pos u.index.entries.length + (u.index.pitchQ + 8) / 16, source := .filled, cls := .image, length := none,
           triple := nextTriple u.index.counters .image, flags := EntryFlags.clear, capture := .none, captureCount := 0, focusStep := none }] } }

theorem tickPass_fills {g : Segment} {m : Move} {u : State} (h : InFlyRun g m u) (hq : Quiet u) (hsome : u.index.entries ≠ [])
    (hroom : u.index.entries.length < 16384) (hdue : fillDue u g = true) (hchecks : u.index.checkpoints = [])
    (hresolving : ∀ x ∈ u.slots, x.state ≠ .resolving) :
    tickPass u = facing [.choose, .indexGrew, .passCheck] (filledWith u) := by
  have hstored := storeEntries_fit (es := [newEntry (u.predFromE (u.extent + 1)) .filled .image none]) hq (by simp)
    (by simp [State.extent]; omega) hchecks hresolving
  have hgrown : grownBy [newEntry (u.predFromE (u.extent + 1)) .filled .image none] u = filledWith u := by
    simp [grownBy, filledWith, renumberList, newEntry, predFromE_next, hsome]
  simp only [tickPass, h.segment, h.work, if_true, hdue, hstored, hgrown]
  rfl

/-! ### The next trigger (R147, R148) -/

/-- Frame j is the next, its ordinal counted and whether a sweep is due at it judged, the first time (R147, log 68). -/
def knownIn (c j : Nat) (g : Segment) (p : Pass) : Pass :=
  let ordinals := if j ∉ p.counted then p.ordinals.modify (c - 1) (fun n => n + 1) else p.ordinals
  { p with
    judgedUpTo := j, chosen := [j], ordinals := ordinals
    sweepOwed := if j ∉ p.counted ∧ g.sweepsAt (ordinals.getD (c - 1) 0) = true then j :: p.sweepOwed else p.sweepOwed
    counted := if j ∉ p.counted then j :: p.counted else p.counted }

/-- The next frame is armed with its focus given to the lens, or the run stops for its sweep (R147, R148). -/
def armedAt (c j : Nat) (g : Segment) (m : Move) (u : State) : State :=
  if j ∈ (knownIn c j g u.pass).sweepOwed then
    comingToRest m .stopped
      { u with pass := { knownIn c j g u.pass with armed := none, frameInHand := some j, work := .stopping, after := .sweepAt j } }
  else
    { u with pass := { knownIn c j g u.pass with armed := some (j, u.pos j + u.roll.active.gateOffset) }
             focus := lensSent (min 4095 (u.zoneStep j)) .fly u }

theorem countOrdinal_known {c j : Nat} {g : Segment} {u : State} (hc : u.pass.current = some c) :
    countOrdinal g j { u with pass := { u.pass with judgedUpTo := j, chosen := [j] } } = { u with pass := knownIn c j g u.pass } := by
  by_cases hcounted : j ∈ u.pass.counted
  · rw [countOrdinal_again (by exact hcounted)]
    simp [knownIn, hcounted]
  · rw [countOrdinal_first (c := c) (by exact hc) (by exact hcounted)]
    simp [knownIn, hcounted]

theorem setFocusTarget_fly (t : Nat) (s : State) : setFocusTarget t .fly s =
    facing (s.todo ++ if lensThere (min 4095 t) s = true then [.focusArrived .fly] else []) { s with focus := lensSent (min 4095 t) .fly s } := by
  have hmax : Config.maxStep = 4095 := rfl
  have hmin : setFocusTarget t .fly s = setFocusTarget (min 4095 t) .fly s := by
    have htwice : min (min 4095 t) Config.maxStep = min t Config.maxStep := by omega
    simp only [setFocusTarget, htwice]
  rw [hmin, setFocusTarget_sent .fly (by omega)]
  rfl

theorem passTrigger_ahead {j r : Nat} {u : State} (harmed : u.pass.armed = some (j, r)) (hahead : u.tracker.register < r) :
    passTrigger u = u := by
  have hnot : ¬ r ≤ u.tracker.register := Nat.not_le.mpr hahead
  simp only [passTrigger, harmed]
  cases u.segment <;> simp [hnot]

theorem passTrigger_none {u : State} (harmed : u.pass.armed = none) : passTrigger u = u := by simp only [passTrigger, harmed]

section
variable {c j : Nat} {g : Segment} {m : Move} {u : State} (h : InFlyRun g m u) (haction : g.action ≠ .indexOnly)

include h haction

theorem checkRun_armedAt : checkRun (armedAt c j g m u) = armedAt c j g m u := by
  unfold armedAt
  split_ifs with hdue
  · exact checkRun_no_run _ (inRun_at_rest (runningLeg_waits rfl (.inl rfl)))
  · exact InFlyRun.checkRun_kept (g := g) (m := m)
      ⟨h.moving, h.move, h.purpose, h.phase, h.atRest, h.final, h.plan, h.leg, h.trailer, h.closure, h.running, h.work, h.grant, h.segment⟩
      haction (.inl (by simp))

theorem armNext_next (harmed : u.pass.armed = none) {v w : State} (hjudged : judgeNext g u = v) (hnext : v.pass.next = some j)
    (hcounted : countOrdinal g j v = w) :
    (sweepDue w j = true → armNext u = stopThen (.sweepAt j) { w with pass := { w.pass with frameInHand := some j } }) ∧
    (¬ sweepDue w j = true → armNext u = emit .passCheck (passTrigger (setFocusTarget (w.zoneStep j) .fly
      { w with pass := { w.pass with armed := some (j, w.gateCoord j) } }))) := by
  refine ⟨fun hdue => ?_, fun hdue => ?_⟩
  · simp only [armNext, h.segment, h.inRun, harmed, and_self, if_true, haction, if_false, hjudged, hnext, hcounted, hdue]
  · simp only [armNext, h.segment, h.inRun, harmed, and_self, if_true, haction, if_false, hjudged, hnext, hcounted, hdue, Bool.false_eq_true]
    rfl

theorem armNext_arms (hq : Quiet u) (hc : u.pass.current = some c) (harmed : u.pass.armed = none)
    (hjudged : judgeNext g u = { u with pass := { u.pass with judgedUpTo := j, chosen := [j] } }) (hresume : u.pass.resume.getD 1 ≤ j)
    (hahead : u.tracker.register < u.gateCoord j) :
    ∃ calls, calls.length ≤ 2 ∧ armNext u = facing calls (armedAt c j g m u) ∧ Idle calls (armedAt c j g m u) := by
  have hcheck := checkRun_armedAt (c := c) (j := j) h haction
  obtain ⟨hsweeps, hflies⟩ := armNext_next h haction harmed hjudged (next_judged hresume) (countOrdinal_known hc)
  have hdue : sweepDue { u with pass := knownIn c j g u.pass } j = true ↔ j ∈ (knownIn c j g u.pass).sweepOwed := List.contains_iff_mem
  by_cases howed : j ∈ (knownIn c j g u.pass).sweepOwed
  · refine ⟨[], by simp, ?_, Idle.nil _⟩
    rw [hsweeps (hdue.mpr howed), stopThen_running (m := m) _ (by exact h.moving) (by exact h.move) h.phase, armedAt, if_pos howed]
    exact (facing_nil (by exact hq)).symm
  · refine ⟨(if lensThere (min 4095 (u.zoneStep j)) u = true then [.focusArrived .fly] else []) ++ [.passCheck], by split_ifs <;> simp, ?_, ?_⟩
    · rw [hflies fun hno => howed (hdue.mp hno), setFocusTarget_fly, passTrigger_ahead (j := j) (r := u.gateCoord j) (by rfl) (by exact hahead),
        armedAt, if_neg howed]
      simp only [emit, facing, show u.todo = [] from hq, List.nil_append]
      rfl
    · refine Idle.append ?_ ?_
      · intro sig hsig
        split_ifs at hsig
        · rw [List.mem_singleton.mp hsig]
          rfl
        · cases hsig
      · intro sig hsig
        rw [List.mem_singleton.mp hsig]
        exact hcheck

theorem armNext_nothing (harmed : u.pass.armed = none) {v : State} (hjudged : judgeNext g u = v) (hnone : v.pass.next = none) :
    armNext u = emit .passCheck v := by
  simp only [armNext, h.segment, h.inRun, harmed, and_self, if_true, haction, if_false, hjudged, hnone]

omit haction in
theorem passGrew_arms : passGrew u = armNext u := by
  have hno : passDiscovers u = false := by simp [passDiscovers, h.move, h.purpose]
  simp only [passGrew, h.segment, hno, Bool.false_eq_true, if_false]

end

end Sys2Proof.Machine
end

section
/-! PROOFS. What one count of the run comes to: the fill, the next trigger, and the visits of a run for indexing (R148, R149, R151). -/

namespace Sys2Proof.Machine

open Sys2Proof

theorem InFlyRun.travelled {g : Segment} {m : Move} {s : State} (h : InFlyRun g m s) :
    InFlyRun g { m with travel := m.travel + 1 } (travelled m false s) :=
  ⟨h.moving, rfl, h.purpose, h.phase, h.atRest, h.final, h.plan, h.leg, h.trailer, h.closure, h.running, h.work, h.grant, h.segment⟩

theorem InFlyRun.facing {g : Segment} {m : Move} {s : State} (h : InFlyRun g m s) (calls : List Signal) : InFlyRun g m (facing calls s) :=
  ⟨h.moving, h.move, h.purpose, h.phase, h.atRest, h.final, h.plan, h.leg, h.trailer, h.closure, h.running, h.work, h.grant, h.segment⟩

theorem InFlyRun.filled {g : Segment} {m : Move} {s : State} (h : InFlyRun g m s) : InFlyRun g m (filledWith s) :=
  ⟨h.moving, h.move, h.purpose, h.phase, h.atRest, h.final, h.plan, h.leg, h.trailer, h.closure, h.running, h.work, h.grant, h.segment⟩

/-! ### The fill, and what it is followed by (R149) -/

/-- The part after a fill that leaves the next frame to be found: the filled one is armed where the segment selects it (R141, R149). -/
def grownTo (c : Nat) (g : Segment) (m : Move) (v : State) : State :=
  if g.action = .docStarts then { filledWith v with pass := { v.pass with judgedUpTo := v.index.entries.length + 1 } }
  else armedAt c (v.index.entries.length + 1) g m (filledWith v)

theorem filledWith_length (v : State) : (filledWith v).index.entries.length = v.index.entries.length + 1 := by simp [filledWith]

theorem filledWith_entry_old {v : State} {i : Nat} (hi : i ≤ v.index.entries.length) : (filledWith v).entry i = v.entry i := by
  by_cases h0 : i = 0
  · simp [State.entry, h0]
  · rw [entry_eq_getElem? h0, entry_eq_getElem? h0]
    exact List.getElem?_append_left (by omega)

theorem filledWith_entry_new (v : State) : ∃ y, (filledWith v).entry (v.index.entries.length + 1) = some y ∧ y.cls = .image ∧ y.capture = .none ∧
    y.position = v.pos v.index.entries.length + (v.index.pitchQ + 8) / 16 := by
  rw [entry_eq_getElem? (by omega)]
  refine ⟨_, List.getElem?_concat_length .., rfl, rfl, rfl⟩

section
variable {c : Nat} {g : Segment} {m : Move} {v : State} (h : InFlyRun g m v) (hq : Quiet v) (hsome : v.index.entries ≠ [])
  (hchecks : v.index.checkpoints = []) (hresolving : ∀ x ∈ v.slots, x.state ≠ .resolving) (hdue : FillDue g v)

include h hq hsome hchecks hresolving hdue

theorem leads_fill {n : Nat} {calls : List Signal} {w : State} (hgrew : armNext (filledWith v) = facing calls w)
    (hleads : Leads n (calls ++ [.passCheck]) w w) : Leads (n + 3) [.passTick] v w := by
  have hsized : 1 ≤ v.index.entries.length := List.length_pos_iff.mpr hsome
  have hfill := tickPass_fills h hq hsome hdue.2.2.2.1 ((h.fillDue_iff hsized).mpr hdue) hchecks hresolving
  have hqf : Quiet (filledWith v) := hq
  refine Leads.cons (new := [.choose, .indexGrew, .passCheck]) (u := filledWith v) ?_ (Leads.skip ?_
    (Leads.cons (new := calls) (u := w) ?_ hleads))
  · show tickPass (Machine.facing [] v) = _
    rw [facing_nil hq, hfill]
  · rw [facing_nil hqf]
    exact choose_at_ease _ (.inl (by rw [show (filledWith v).sched.grant = .pass from h.grant]; decide))
  · show passGrew (Machine.facing [] (filledWith v)) = _
    rw [facing_nil hqf, passGrew_arms h.filled, hgrew]

/-- With a trigger armed the fill is all. -/
theorem leads_fill_armed (harmed : v.pass.armed ≠ none) : ∃ n, n ≤ 20 ∧ Leads n [.passTick] v (filledWith v) := by
  have hkept : armNext (filledWith v) = filledWith v := by
    simp only [armNext, h.filled.segment, show (filledWith v).pass.armed = v.pass.armed from rfl, harmed, and_false, if_false]
  have hqf : Quiet (filledWith v) := hq
  refine ⟨_, ?_, leads_fill (n := 1) (calls := []) h hq hsome hchecks hresolving hdue (hkept.trans (facing_nil hqf).symm) (Leads.skip ?_ (Leads.done hqf))⟩
  · omega
  · rw [facing_nil hqf]
    exact h.filled.checkRun_kept hdue.2.1 (.inl harmed)

/-- The filled frame is the first that is left to judge. -/
theorem leads_fill_next (hc : v.pass.current = some c) (harmed : v.pass.armed = none) (hnone : v.pass.next = none)
    (hresume : v.pass.resume.getD 1 ≤ v.index.entries.length + 1) (hjudged : v.pass.judgedUpTo ≤ v.index.entries.length)
    (hnothing : ∀ i x, v.pass.unjudged ≤ i → v.entry i = some x → selects g.action x = false)
    (hahead : v.tracker.register < v.pos v.index.entries.length + (v.index.pitchQ + 8) / 16 + v.roll.active.gateOffset) :
    ∃ n, n ≤ 20 ∧ Leads n [.passTick] v (grownTo c g m v) := by
  obtain ⟨y, hy, hcls, hcapture, hposition⟩ := filledWith_entry_new v
  have hgate : (filledWith v).gateCoord (v.index.entries.length + 1) =
      v.pos v.index.entries.length + (v.index.pitchQ + 8) / 16 + v.roll.active.gateOffset := by
    simp only [State.gateCoord, State.pos, hy, hposition]
    rfl
  have hspan : (filledWith v).spanIndexed g = v.index.entries.length + 1 := by
    have hbeyond := hdue.2.2.2.2.1
    rw [spanIndexed_eq, State.extent, filledWith_length]
    cases hlast : g.last with
    | none => simp
    | some n =>
      have := hbeyond n hlast
      simp only [Option.getD_some]
      omega
  have hunjudged : (filledWith v).pass.unjudged ≤ v.index.entries.length + 1 := by
    show max _ _ ≤ _
    exact max_le hresume (by show v.pass.judgedUpTo + 1 ≤ _; omega)
  have hqf : Quiet (filledWith v) := hq
  have hold (i : Nat) (x : Entry) (hi : i ≤ v.index.entries.length) (hlow : (filledWith v).pass.unjudged ≤ i) (hx : (filledWith v).entry i = some x) :
      selects g.action x = false := hnothing i x hlow (by rwa [filledWith_entry_old hi] at hx)
  unfold grownTo
  split_ifs with hdocs
  · have hlooked := judgeNext_nothing (g := g) (u := filledWith v) hnone fun i x hlow hhigh hx => by
      by_cases hi : i ≤ v.index.entries.length
      · exact hold i x hi hlow hx
      · obtain rfl : i = v.index.entries.length + 1 := by omega
        obtain rfl := Option.some.inj (hy.symm.trans hx)
        exact selects_false (by simp [hdocs, hcls])
    have hmax : max (filledWith v).pass.judgedUpTo ((filledWith v).spanIndexed g) = v.index.entries.length + 1 := by
      rw [hspan]
      exact max_eq_right (by show v.pass.judgedUpTo ≤ _; omega)
    rw [hmax] at hlooked
    have hgrew := armNext_nothing h.filled hdue.2.1 harmed hlooked (by exact hnone)
    have hkept : checkRun { filledWith v with pass := { v.pass with judgedUpTo := v.index.entries.length + 1 } } = _ :=
      InFlyRun.checkRun_kept (g := g) (m := m)
        ⟨h.moving, h.move, h.purpose, h.phase, h.atRest, h.final, h.plan, h.leg, h.trailer, h.closure, h.running, h.work, h.grant, h.segment⟩
        hdue.2.1 (.inr fun n hn hle => by
          have hbeyond := hdue.2.2.2.2.1 n hn
          have hextent : (filledWith v).extent = v.index.entries.length + 1 := filledWith_length v
          have hle' : n ≤ (filledWith v).extent := hle
          obtain rfl : n = v.index.entries.length + 1 := by omega
          exact hgate ▸ hahead)
    refine ⟨_, ?_, leads_fill (n := 2) (calls := [.passCheck]) h hq hsome hchecks hresolving hdue
      (hgrew.trans (emit_eq_facing _ (by exact hq))) (leads_idle (l := [.passCheck, .passCheck]) (by exact hq) ?_)⟩
    · omega
    · intro sig hsig
      obtain rfl : sig = .passCheck := by simpa using hsig
      exact hkept
  · have haction : selects g.action y = true := by
      refine (selects_iff g.action y).mpr ?_
      cases haction : g.action with
      | all => exact .inl rfl
      | docStarts => exact absurd haction hdocs
      | missing => exact .inr (.inr ⟨rfl, by simp [hcapture]⟩)
      | indexOnly => exact absurd haction hdue.2.1
    have hfound := judgeNext_finds (g := g) (u := filledWith v) hnone hunjudged (by omega) hy haction
      fun i x hlow hlt hx => hold i x (by omega) hlow hx
    obtain ⟨calls, hshort, hgrew, hidle⟩ := armNext_arms (c := c) h.filled hdue.2.1 hqf hc harmed hfound hresume (by rw [hgate]; exact hahead)
    have hquiet : Quiet (armedAt c (v.index.entries.length + 1) g m (filledWith v)) := by
      unfold armedAt
      split_ifs <;> exact hq
    refine ⟨_, ?_, leads_fill h hq hsome hchecks hresolving hdue hgrew (leads_idle hquiet (hidle.append ?_))⟩
    · simp only [List.length_append, List.length_singleton]
      omega
    · intro sig hsig
      rw [List.mem_singleton.mp hsig]
      exact checkRun_armedAt h.filled hdue.2.1

end

end Sys2Proof.Machine
end

section
/-! PROOFS. The trigger of a run that goes on, and a run for indexing (R148, R149, R151). -/

namespace Sys2Proof.Machine

open Sys2Proof

theorem pos_of_entry {k : Nat} {e : Entry} {u : State} (he : u.entry k = some e) : u.pos k = e.position := by simp only [State.pos, he]

/-! ### What a trigger leaves of the index -/

section
variable {c k : Nat} {e : Entry} {u : State}

theorem triggerGiven_length : (triggerGiven c k e u).index.entries.length = u.index.entries.length := by simp [triggerGiven, pulsedAt]

theorem triggerGiven_pos (i : Nat) : (triggerGiven c k e u).pos i = u.pos i := by
  by_cases h0 : i = 0
  · simp [State.pos, State.entry, h0]
  · simp only [State.pos, entry_eq_getElem? h0, triggerGiven, pulsedAt, List.getElem?_modify]
    cases u.index.entries[i - 1]? with
    | none => simp
    | some y => by_cases hi : k - 1 = i - 1 <;> simp [hi]

theorem triggerGiven_entry {i : Nat} (hk : k ≠ 0) (hi : i ≠ k) : (triggerGiven c k e u).entry i = u.entry i := by
  by_cases h0 : i = 0
  · simp [State.entry, h0]
  · rw [entry_eq_getElem? h0, entry_eq_getElem? h0]
    have hne : k - 1 ≠ i - 1 := by omega
    simp [triggerGiven, pulsedAt, hne]

theorem triggerGiven_fillDue (g : Segment) : FillDue g (triggerGiven c k e u) ↔ FillDue g u := by
  have hsources : (triggerGiven c k e u).index.entries.map Entry.source = u.index.entries.map Entry.source := by
    refine List.ext_getElem? fun i => ?_
    simp only [triggerGiven, pulsedAt, List.getElem?_map, List.getElem?_modify]
    cases u.index.entries[i]? with
    | none => simp
    | some y => by_cases hi : k - 1 = i <;> simp [hi]
  have htrailing (l : List Entry) : (l.reverse.takeWhile (fun y => y.source == .filled)).length =
      ((l.map Entry.source).reverse.takeWhile (· == .filled)).length := by
    rw [← List.map_reverse, List.takeWhile_map, List.length_map]
    rfl
  unfold FillDue
  rw [triggerGiven_length, triggerGiven_pos, htrailing, htrailing, hsources]
  rfl

end

theorem InFlyRun.triggered {c k : Nat} {g : Segment} {e : Entry} {m : Move} {u : State} (h : InFlyRun g m u) : InFlyRun g m (triggerGiven c k e u) :=
  ⟨h.moving, h.move, h.purpose, h.phase, h.atRest, h.final, h.plan, h.leg, h.trailer, h.closure, h.running, h.work, h.grant, h.segment⟩

/-- The frames of the index have been judged after the trigger of frame k, and none selected. -/
def lookedFrom (c k : Nat) (e : Entry) (z : State) : State :=
  { triggerGiven c k e z with pass := { triggeredIn c k e z.pass with judgedUpTo := max z.pass.judgedUpTo z.index.entries.length } }

/-! ### The run goes on after its trigger (R148) -/

section
variable {l : Link} {c k : Nat} {g : Segment} {e : Entry} {m : Move} {s : State} (h : Fires l c k g e m s) (hrun : InFlyRun g m s)
  (haction : g.action ≠ .indexOnly) (hlamp : s.lamp.state = .on) (hmasked : maskedAt e g = none) (hpending : s.pass.pending = .none)
  (hlast : g.last ≠ some k) (hchosen : ∀ i ∈ s.pass.chosen, i ≤ k)

include h hrun hlamp hmasked hpending hlast

/-- The trigger is given, and the next one looked for. -/
theorem exec_count_arms {n : Nat} {t : State} (hleads : Leads n [.passArm, .passTick] (triggerGiven c k e (travelled m false s)) t) (hn : n ≤ 100) :
    exec (.encoderCount .forward) s = .next t := by
  refine exec_count_fly (calls := [.passArm]) (w := triggerGiven c k e (travelled m false s)) h.move h.purpose h.forward h.room ?_ hleads hn
  rw [h.plain hlamp hmasked, takeBoundary_unasked (by exact h.unasked hpending), if_neg hlast, emit_eq_facing _ (by exact h.work.quiet)]
  exact (hrun.travelled.triggered.facing [.passArm]).motionCheck

include hchosen

omit h hrun hlamp hmasked hpending hlast in
theorem triggered_next : (triggerGiven c k e (travelled m false s)).pass.next = none :=
  next_none fun i hi => Nat.lt_succ_of_le (hchosen i hi)

omit h hrun hlamp hmasked hpending hlast hchosen in
theorem triggered_unjudged : (triggerGiven c k e (travelled m false s)).pass.unjudged = max k s.pass.judgedUpTo + 1 := by
  show max (k + 1) (s.pass.judgedUpTo + 1) = _
  omega

include haction

/-- The next frame that the segment selects is armed, or the run stops for its sweep (R147, R148). -/
theorem exec_count_arms_next {j : Nat} {y : Entry} (hlow : max k s.pass.judgedUpTo < j) (hspan : ∀ n ∈ g.last, j ≤ n) (hy : s.entry j = some y)
    (hselects : selects g.action y = true)
    (hlowest : ∀ i x, max k s.pass.judgedUpTo < i → i < j → s.entry i = some x → selects g.action x = false)
    (hahead : s.tracker.register + 1 < y.position + s.roll.active.gateOffset) (hno : ¬ FillDue g (travelled m false s)) :
    exec (.encoderCount .forward) s = .next (armedAt c j g { m with travel := m.travel + 1 } (triggerGiven c k e (travelled m false s))) := by
  have hk := entry_pos h.work.entry
  have hw := hrun.travelled.triggered (c := c) (k := k) (e := e)
  have hentry (i : Nat) (hi : k < i) : (triggerGiven c k e (travelled m false s)).entry i = s.entry i := triggerGiven_entry hk (by omega)
  have hle : j ≤ s.index.entries.length := by
    rw [entry_eq_getElem? (by omega)] at hy
    have := (List.getElem?_eq_some_iff.mp hy).1
    omega
  have hextent : (triggerGiven c k e (travelled m false s)).index.entries.length = s.index.entries.length := triggerGiven_length
  have hfound := judgeNext_finds (g := g) (u := triggerGiven c k e (travelled m false s)) (j := j) (y := y) (triggered_next hchosen)
    (by rw [triggered_unjudged]; omega) ((spanIndexed_le _ g j).mpr ⟨by rw [hextent]; exact hle, hspan⟩) (by rw [hentry j (by omega)]; exact hy) hselects
    fun i x hi hlt hx => hlowest i x (by rw [triggered_unjudged] at hi; omega) hlt (by
      rw [triggered_unjudged] at hi
      rwa [hentry i (by omega)] at hx)
  have hgate : (triggerGiven c k e (travelled m false s)).gateCoord j = y.position + s.roll.active.gateOffset := by
    have hpos : (triggerGiven c k e (travelled m false s)).pos j = y.position := by rw [triggerGiven_pos]; exact pos_of_entry hy
    simp only [State.gateCoord, hpos]
    rfl
  have hq : Quiet (triggerGiven c k e (travelled m false s)) := h.work.quiet
  obtain ⟨calls, hshort, harms, hidle⟩ := armNext_arms (c := c) hw haction hq h.work.current rfl hfound (by show k + 1 ≤ j; omega)
    (by rw [hgate]; exact hahead)
  have hquiet : Quiet (armedAt c j g { m with travel := m.travel + 1 } (triggerGiven c k e (travelled m false s))) := by
    unfold armedAt
    split_ifs <;> exact hq
  have htick : Leads 2 [.passTick] (armedAt c j g { m with travel := m.travel + 1 } (triggerGiven c k e (travelled m false s)))
      (armedAt c j g { m with travel := m.travel + 1 } (triggerGiven c k e (travelled m false s))) := by
    have hcheck := checkRun_armedAt (c := c) (j := j) hw haction
    unfold armedAt at hquiet hcheck ⊢
    split_ifs at hquiet hcheck ⊢ with hdue
    · exact (leads_tick_off hquiet (by simp [comingToRest])).more (by omega)
    · refine InFlyRun.leads_tick (g := g) (m := { m with travel := m.travel + 1 })
        ⟨hw.moving, hw.move, hw.purpose, hw.phase, hw.atRest, hw.final, hw.plan, hw.leg, hw.trailer, hw.closure, hw.running, hw.work, hw.grant, hw.segment⟩
        hquiet ?_ hcheck
      rw [Bool.eq_false_iff]
      intro hfill
      refine hno ((triggerGiven_fillDue (c := c) (k := k) (e := e) g).mp ((hw.fillDue_iff ?_).mp hfill))
      rw [hextent]
      omega
  refine exec_count_arms h hrun hlamp hmasked hpending hlast (n := calls.length + 2 + 1) (Leads.cons (new := calls) ?_
    ((leads_idle hquiet hidle).append htick)) (by omega)
  show armNext (Machine.facing [] _) = _
  rw [facing_nil hq, harms]

omit h hlamp hmasked hpending hlast hchosen haction in
theorem lookedFrom_run : InFlyRun g { m with travel := m.travel + 1 } (lookedFrom c k e (travelled m false s)) :=
  ⟨hrun.moving, rfl, hrun.purpose, hrun.phase, hrun.atRest, hrun.final, hrun.plan, hrun.leg, hrun.trailer, hrun.closure, hrun.running, hrun.work,
    hrun.grant, hrun.segment⟩

theorem exec_count_looks {n : Nat} {t : State} (hbeyond : ∀ i ∈ g.last, s.index.entries.length < i)
    (hnothing : ∀ i x, k < i → s.entry i = some x → selects g.action x = false)
    (htick : Leads n [.passTick] (lookedFrom c k e (travelled m false s)) t) (hn : n ≤ 90) : exec (.encoderCount .forward) s = .next t := by
  have hk := entry_pos h.work.entry
  have hw := hrun.travelled.triggered (c := c) (k := k) (e := e)
  have hextent : (triggerGiven c k e (travelled m false s)).index.entries.length = s.index.entries.length := triggerGiven_length
  have hspan : (triggerGiven c k e (travelled m false s)).spanIndexed g = s.index.entries.length := by
    rw [spanIndexed_eq, State.extent, hextent]
    cases hl : g.last with
    | none => simp
    | some i =>
      have := hbeyond i hl
      simp only [Option.getD_some]
      omega
  have hlooked := judgeNext_nothing (g := g) (u := triggerGiven c k e (travelled m false s)) (triggered_next hchosen)
    fun i x hi _ hx => by
      rw [triggered_unjudged] at hi
      rw [triggerGiven_entry hk (by omega)] at hx
      exact hnothing i x (by omega) hx
  rw [hspan] at hlooked
  have hq : Quiet (triggerGiven c k e (travelled m false s)) := h.work.quiet
  have harms := armNext_nothing hw haction rfl hlooked (triggered_next (c := c) (e := e) hchosen)
  refine exec_count_arms h hrun hlamp hmasked hpending hlast (n := n + 1 + 1) (Leads.cons (new := [.passCheck]) (u := lookedFrom c k e (travelled m false s)) ?_
    (Leads.skip ?_ htick)) (by omega)
  · show armNext (Machine.facing [] _) = _
    rw [facing_nil hq, harms]
    exact emit_eq_facing _ (by exact hq)
  · show checkRun (Machine.facing [] _) = _
    rw [facing_nil (by exact hq)]
    exact (lookedFrom_run hrun).checkRun_kept haction (.inr fun i hi hle => by
      have := hbeyond i hi
      have hsame : (lookedFrom c k e (travelled m false s)).extent = s.index.entries.length := hextent
      omega)

end

/-! ### A count that reaches no trigger -/

section
variable {g : Segment} {m : Move} {s : State} (hq : Quiet s) (hrun : InFlyRun g m s) (hroom : s.tracker.register + 1 < 16777215)

include hq hrun hroom

theorem exec_count_runs {n : Nat} {t : State} (hnone : passTrigger (travelled m false s) = travelled m false s)
    (hleads : Leads n [.passTick] (travelled m false s) t) (hn : n ≤ 100) : exec (.encoderCount .forward) s = .next t := by
  refine exec_count_fly (calls := []) (w := travelled m false s) hrun.move hrun.purpose (by rw [hrun.leg]) hroom ?_ hleads hn
  rw [hnone, hrun.travelled.motionCheck]
  exact (facing_nil (by exact hq)).symm

end

/-! ### A run for indexing (R151) -/

section
variable {l : Link} {c k : Nat} {g : Segment} {e : Entry} {m : Move} {s : State} (h : AtWork l c k g e s) (hrun : InFlyRun g m s)
  (hroom : s.tracker.register + 1 < 16777215) (haction : g.action = .indexOnly) (harmed : s.pass.armed = none)
  (hnext : s.pass.unjudged = k) (hbeyond : ∀ n ∈ g.last, s.index.entries.length < n)

/-- Frame k has been visited in the run. -/
def indexVisited (c k : Nat) (e : Entry) (m : Move) (s : State) : State :=
  { travelled m false s with pass := { visitedIn c k e false s.pass with judgedUpTo := k } }

include h hrun hroom haction harmed

theorem exec_count_indexes {n : Nat} {t : State} (hleads : Leads n [.passCheck] (travelled m false s) t) (hn : n ≤ 90) :
    exec (.encoderCount .forward) s = .next t := by
  have hq : Quiet (travelled m false s) := h.quiet
  refine exec_count_runs (n := n + 1) h.quiet hrun hroom (passTrigger_none (by exact harmed)) (Leads.cons (new := [.passCheck]) ?_ hleads) (by omega)
  show tickPass (Machine.facing [] _) = _
  have hno : fillDue (travelled m false s) g = false := by simp [fillDue, haction]
  rw [facing_nil hq]
  simp only [tickPass, hrun.travelled.segment, hrun.travelled.work, if_true, hno, Bool.false_eq_true, if_false]
  exact emit_eq_facing _ hq

include hbeyond

omit h hroom harmed hrun in
theorem checkRun_indexing_waits {u : State} (hu : InFlyRun g { m with travel := m.travel + 1 } u) (hextent : u.index.entries.length = s.index.entries.length)
    (hahead : u.pass.unjudged ≤ u.index.entries.length → u.tracker.register < u.gateCoord u.pass.unjudged) : checkRun u = u := by
  have hnot : ¬ (u.pass.unjudged ≤ u.spanIndexed g ∧ u.gateCoord u.pass.unjudged ≤ u.tracker.register) := by
    rintro ⟨hspan, hreached⟩
    have := hahead ((spanIndexed_le u g _).mp hspan).1
    omega
  have hended := hu.not_ended (.inr fun n hn hle => by
    have := hbeyond n hn
    have hsame : u.extent = s.index.entries.length := hextent
    omega)
  simp only [checkRun, hu.segment, hu.inRun, if_true, haction, true_and, hnot, if_false, hended, Bool.false_eq_true]

include hnext

theorem exec_count_indexes_waits (hahead : s.tracker.register + 1 < e.position + s.roll.active.gateOffset) :
    exec (.encoderCount .forward) s = .next (travelled m false s) := by
  have hq : Quiet (travelled m false s) := h.quiet
  have hunjudged : (travelled m false s).pass.unjudged = k := hnext
  refine exec_count_indexes (n := 1) h hrun hroom haction harmed (Leads.skip ?_ (Leads.done hq)) (by omega)
  rw [facing_nil hq]
  refine checkRun_indexing_waits haction hbeyond hrun.travelled rfl fun _ => ?_
  have hgate : (travelled m false s).gateCoord k = e.position + s.roll.active.gateOffset := by
    have hpos : (travelled m false s).pos k = e.position := pos_of_entry h.entry
    simp only [State.gateCoord, hpos]
    rfl
  rw [hunjudged, hgate]
  exact hahead

variable (hreached : e.position + s.roll.active.gateOffset ≤ s.tracker.register + 1)

include hreached

omit hroom harmed in
theorem checkRun_visits :
    (∀ x, maskedAt e g = some x → checkRun (travelled m false s) = endPass (.stopped x k) (indexVisited c k e m s)) ∧
    (maskedAt e g = none → checkRun (travelled m false s) = emit .passCheck (indexVisited c k e m s)) := by
  have hunjudged : (travelled m false s).pass.unjudged = k := hnext
  have hk := entry_pos h.entry
  have hle : k ≤ s.index.entries.length := by
    have hentry := h.entry
    rw [entry_eq_getElem? hk] at hentry
    have := (List.getElem?_eq_some_iff.mp hentry).1
    omega
  have hspan : k ≤ (travelled m false s).spanIndexed g := (spanIndexed_le _ g k).mpr ⟨hle, fun n hn => by have := hbeyond n hn; omega⟩
  have hgate : (travelled m false s).gateCoord k ≤ (travelled m false s).tracker.register := by
    have hpos : (travelled m false s).pos k = e.position := pos_of_entry h.entry
    simp only [State.gateCoord, hpos]
    exact hreached
  have hvisit : visitFrame k false { travelled m false s with pass := { (travelled m false s).pass with judgedUpTo := k } } = indexVisited c k e m s :=
    visitFrame_eq (c := c) (e := e) (by exact h.current) (by exact h.entry) false
  have hmasked : maskedVisit (travelled m false s) k = maskedAt e g := maskedVisit_eq h.current h.entry h.segment
  refine ⟨fun x hx => ?_, fun hx => ?_⟩ <;> rw [hx] at hmasked
  · simp only [checkRun, hrun.travelled.segment, hrun.travelled.inRun, if_true, haction, hunjudged, hspan, hgate, and_self, hmasked]
    exact congrArg (endPass _) hvisit
  · simp only [checkRun, hrun.travelled.segment, hrun.travelled.inRun, if_true, haction, hunjudged, hspan, hgate, and_self, hmasked]
    exact congrArg (emit .passCheck) hvisit

theorem exec_count_indexes_masked {x : FaultClass} (hmasked : maskedAt e g = some x) : exec (.encoderCount .forward) s =
    .next (passEnded l c (.stopped x k) .stopped (comingToRest { m with travel := m.travel + 1 } .stopped (indexVisited c k e m s))) := by
  have hq : Quiet (travelled m false s) := h.quiet
  have hvisits := (checkRun_visits h hrun haction hnext hbeyond hreached).1 x hmasked
  have hends := endPass_moving (l := l) (c := c) (o := .stopped x k) (x := .stopped) (m := { m with travel := m.travel + 1 }) (u := indexVisited c k e m s)
    h.owner (h.finish_masked rfl rfl rfl) h.sweep h.holder h.grant hrun.moving rfl
  rw [if_pos hrun.phase] at hends
  have hover : Quiet (passEnded l c (.stopped x k) .stopped (comingToRest { m with travel := m.travel + 1 } .stopped (indexVisited c k e m s))) :=
    passEnded_quiet l c _ _ _ (by exact h.quiet)
  refine exec_count_indexes (n := 1) h hrun hroom haction harmed (Leads.cons (new := []) ?_ (Leads.done hover)) (by omega)
  show checkRun (Machine.facing [] _) = _
  rw [facing_nil hq, hvisits]
  exact hends.trans (facing_nil hover).symm

theorem exec_count_indexes_plain (hmasked : maskedAt e g = none)
    (hafter : ∀ y ∈ s.entry (k + 1), s.tracker.register + 1 < y.position + s.roll.active.gateOffset) :
    exec (.encoderCount .forward) s = .next (indexVisited c k e m s) := by
  have hq : Quiet (travelled m false s) := h.quiet
  have hqv : Quiet (indexVisited c k e m s) := h.quiet
  have hvisits := (checkRun_visits h hrun haction hnext hbeyond hreached).2 hmasked
  have hrunning : InFlyRun g { m with travel := m.travel + 1 } (indexVisited c k e m s) :=
    ⟨hrun.moving, rfl, hrun.purpose, hrun.phase, hrun.atRest, hrun.final, hrun.plan, hrun.leg, hrun.trailer, hrun.closure, hrun.running, hrun.work,
      hrun.grant, hrun.segment⟩
  have hunjudged : (indexVisited c k e m s).pass.unjudged = k + 1 := by
    have hmax : max (s.pass.resume.getD 1) (s.pass.judgedUpTo + 1) = k := hnext
    show max (s.pass.resume.getD 1) (k + 1) = k + 1
    omega
  refine exec_count_indexes (n := 2) h hrun hroom haction harmed (Leads.cons (new := [.passCheck]) (u := indexVisited c k e m s) ?_
    (Leads.skip ?_ (Leads.done hqv))) (by omega)
  · show checkRun (Machine.facing [] _) = _
    rw [facing_nil hq, hvisits]
    exact emit_eq_facing _ hqv
  · rw [facing_nil hqv]
    refine checkRun_indexing_waits haction hbeyond hrunning rfl fun hle => ?_
    rw [hunjudged] at hle ⊢
    have hentry : (indexVisited c k e m s).entry (k + 1) = some (s.index.entries[k]'hle) := by
      rw [entry_eq_getElem? (by omega)]
      exact List.getElem?_eq_getElem hle
    have hpos : (indexVisited c k e m s).pos (k + 1) = (s.index.entries[k]'hle).position := pos_of_entry hentry
    simp only [State.gateCoord, hpos]
    exact hafter _ hentry

end

end Sys2Proof.Machine
end

section
/-! PROOFS. The counts of a FLY-RUN, each from the state that has counted (R142, R148 to R152). -/

namespace Sys2Proof.Machine

open Sys2Proof

theorem lensSent_congr {t : Nat} {r : Requester} {u s : State} (hfocus : u.focus = s.focus) (hparams : u.params = s.params) :
    lensSent t r u = lensSent t r s := by
  cases u
  cases s
  cases hfocus
  cases hparams
  rfl

theorem zoneStep_congr {j : Nat} {u s : State} (hzones : u.zones = s.zones) (hroll : u.roll = s.roll) : u.zoneStep j = s.zoneStep j := by
  cases u
  cases s
  cases hzones
  cases hroll
  rfl

/-- A frame filled at a position. -/
def filledAt (p : Nat) (u : State) : State :=
  { u with index := { u.index with
      counters := nextTriple u.index.counters .image
      entries := u.index.entries ++
        [{ position := p, source := .filled, cls := .image, length := none, triple := nextTriple u.index.counters .image,
           flags := EntryFlags.clear, capture := .none, captureCount := 0, focusStep := none }] } }

/-- The next frame is armed with the lens sent as `f` has it, or the run stops for its sweep (R147, R148). -/
def armedWith (c j : Nat) (g : Segment) (m : Move) (f : Focus) (u : State) : State :=
  if j ∈ (knownIn c j g u.pass).sweepOwed then
    comingToRest m .stopped
      { u with pass := { knownIn c j g u.pass with armed := none, frameInHand := some j, work := .stopping, after := .sweepAt j } }
  else { u with pass := { knownIn c j g u.pass with armed := some (j, u.pos j + u.roll.active.gateOffset) }, focus := f }

/-- The part after a fill at position p beyond E entries. -/
def grownAt (c E p : Nat) (g : Segment) (m : Move) (f : Focus) (v : State) : State :=
  if g.action = .docStarts then { filledAt p v with pass := { v.pass with judgedUpTo := E + 1 } }
  else armedWith c (E + 1) g m f (filledAt p v)

section
variable {u s : State} (hfocus : u.focus = s.focus) (hparams : u.params = s.params) (hzones : u.zones = s.zones) (hroll : u.roll = s.roll)

include hfocus hparams hzones hroll

theorem armedAt_eq (c j : Nat) (g : Segment) (m : Move) :
    armedAt c j g m u = armedWith c j g m (lensSent (min 4095 (s.zoneStep j)) .fly s) u := by
  unfold armedAt armedWith
  rw [zoneStep_congr hzones hroll, lensSent_congr hfocus hparams]

theorem grownTo_eq {E p : Nat} (c : Nat) (g : Segment) (m : Move) (hE : u.index.entries.length = E)
    (hp : u.pos E + (u.index.pitchQ + 8) / 16 = p) :
    grownTo c g m u = grownAt c E p g m (lensSent (min 4095 (s.zoneStep (E + 1))) .fly s) u := by
  have hfilled : filledWith u = filledAt p u := by
    unfold filledWith filledAt
    rw [hE, hp]
  unfold grownTo grownAt
  rw [hE, hfilled, armedAt_eq (u := filledAt p u) (s := s) hfocus hparams hzones hroll]

end

section
variable {l : Link} {c k : Nat} {g : Segment} {e : Entry} {m : Move} {s z : State} (hz : travelled m false s = z)

include hz

section
variable (h : Fires l c k g e m s) (hrun : InFlyRun g m s) (haction : g.action ≠ .indexOnly)

include h

section
variable (hphase : m.phase = .running)

include hphase

theorem run_masked {x : FaultClass} (hlamp : s.lamp.state = .on) (hmasked : maskedAt e g = some x) : exec (.encoderCount .forward) s =
    .next (passEnded l c (.stopped x k) .stopped (comingToRest { m with travel := m.travel + 1 } .stopped (triggerGiven c k e z))) :=
  hz ▸ (h.ended (h.masked hlamp hmasked) h.finish_masked).1 hphase

theorem run_completes (hlamp : s.lamp.state = .on) (hmasked : maskedAt e g = none) (hpending : s.pass.pending = .none) (hlast : g.last = some k)
    (hcount : s.pass.segmentCount = some c) : exec (.encoderCount .forward) s =
      .next (passEnded l c .completed .done (comingToRest { m with travel := m.travel + 1 } .stopped (triggerGiven c k e z))) :=
  hz ▸ (h.ended (h.completes hlamp hmasked hpending hlast hcount) (h.finish_plain (by simp))).1 hphase

theorem run_aborts (hlamp : s.lamp.state = .on) (hmasked : maskedAt e g = none) (hpending : s.pass.pending = .abort) :
    exec (.encoderCount .forward) s =
      .next (passEnded l c .aborted .aborted (comingToRest { m with travel := m.travel + 1 } .stopped (triggerGiven c k e z))) :=
  hz ▸ (h.ended (h.aborts hlamp hmasked hpending) (h.finish_plain (by simp))).1 hphase

theorem run_suspends (haction : g.action ≠ .indexOnly) (hlamp : s.lamp.state = .on) (hmasked : maskedAt e g = none)
    (hpending : s.pass.pending = .suspend) : exec (.encoderCount .forward) s =
      .next (comingToRest { m with travel := m.travel + 1 } .stopped (stoppingFor (.giveUp .suspend) (triggerGiven c k e z))) :=
  hz ▸ h.suspends hlamp hmasked hpending hphase haction

theorem run_waits (hlamp : s.lamp.state ≠ .on) (hpending : s.pass.pending = .none) : exec (.encoderCount .forward) s =
    .next (comingToRest { m with travel := m.travel + 1 } .stopped (stoppingFor .awaitLamp (triggerMissed k z))) :=
  hz ▸ (h.waits hlamp hpending).1 hphase

end

section
variable (hphase : m.phase = .stopping)

include hphase

theorem rest_masked {x : FaultClass} (hlamp : s.lamp.state = .on) (hmasked : maskedAt e g = some x) :
    exec (.encoderCount .forward) s = .next (passEnded l c (.stopped x k) .stopped (triggerGiven c k e z)) :=
  hz ▸ (h.ended (h.masked hlamp hmasked) h.finish_masked).2 hphase

theorem rest_triggers (hlamp : s.lamp.state = .on) (hmasked : maskedAt e g = none) (hpending : s.pass.pending = .none) (hlast : g.last ≠ some k) :
    exec (.encoderCount .forward) s = .next (triggerGiven c k e z) :=
  hz ▸ h.taken_at_rest hlamp hmasked hpending hlast hphase

theorem rest_waits (hlamp : s.lamp.state ≠ .on) (hpending : s.pass.pending = .none) :
    exec (.encoderCount .forward) s = .next (stoppingFor .awaitLamp (triggerMissed k z)) :=
  hz ▸ (h.waits hlamp hpending).2 hphase

end

section
variable (hlamp : s.lamp.state = .on) (hmasked : maskedAt e g = none) (hpending : s.pass.pending = .none)
  (hchosen : ∀ i ∈ s.pass.chosen, i ≤ k)

include hrun haction hlamp hmasked hpending hchosen

section
variable (hbeyond : ∀ i ∈ g.last, s.index.entries.length < i) (hnothing : ∀ i x, k < i → s.entry i = some x → selects g.action x = false)

include hbeyond hnothing

theorem run_looks {n : Nat} {t : State} (htick : Leads n [.passTick] (lookedFrom c k e z) t) (hn : n ≤ 90) :
    exec (.encoderCount .forward) s = .next t := by
  subst hz
  have hk := entry_pos h.work.entry
  have hle : k ≤ s.index.entries.length := by
    have hentry := h.work.entry
    rw [entry_eq_getElem? hk] at hentry
    have := (List.getElem?_eq_some_iff.mp hentry).1
    omega
  exact exec_count_looks h hrun haction hlamp hmasked hpending (fun hno => by have := hbeyond k hno; omega) hchosen hbeyond hnothing htick hn

omit haction hlamp hmasked hpending hchosen hbeyond hnothing h in
theorem run_lookedFrom : InFlyRun g { m with travel := m.travel + 1 } (lookedFrom c k e z) := by
  subst hz
  exact Machine.lookedFrom_run hrun

omit hrun haction hlamp hmasked hpending hchosen hbeyond hnothing h in
theorem lookedFrom_length : (lookedFrom c k e z).index.entries.length = s.index.entries.length := by
  subst hz
  exact triggerGiven_length (c := c) (k := k) (e := e) (u := Machine.travelled m false s)

theorem run_goes_on (hno : ¬ FillDue g z) : exec (.encoderCount .forward) s = .next (lookedFrom c k e z) := by
  have hruns := run_lookedFrom (c := c) (k := k) (e := e) hz hrun
  have hextent := lookedFrom_length (c := c) (k := k) (e := e) hz
  have hk := entry_pos h.work.entry
  have hentry := h.work.entry
  rw [entry_eq_getElem? hk] at hentry
  have hsized := (List.getElem?_eq_some_iff.mp hentry).1
  have hquiet : Quiet (lookedFrom c k e z) := by subst hz; exact h.work.quiet
  refine run_looks hz h hrun haction hlamp hmasked hpending hchosen hbeyond hnothing (hruns.leads_tick hquiet ?_ ?_) (by omega)
  · rw [Bool.eq_false_iff]
    exact fun hfill => hno ((triggerGiven_fillDue (c := c) (k := k) (e := e) g).mp ((hruns.fillDue_iff (by omega)).mp hfill))
  · refine hruns.checkRun_kept haction (.inr fun i hi hle => ?_)
    have := hbeyond i hi
    have hsame : (lookedFrom c k e z).extent = s.index.entries.length := hextent
    omega

theorem run_grows (hfill : FillDue g z) (hchecks : s.index.checkpoints = []) (hjudged : s.pass.judgedUpTo ≤ s.index.entries.length)
    (hahead : s.tracker.register + 1 < s.pos s.index.entries.length + (s.index.pitchQ + 8) / 16 + s.roll.active.gateOffset) :
    exec (.encoderCount .forward) s = .next (grownAt c s.index.entries.length (s.pos s.index.entries.length + (s.index.pitchQ + 8) / 16) g
      { m with travel := m.travel + 1 } (lensSent (min 4095 (s.zoneStep (s.index.entries.length + 1))) .fly s) (lookedFrom c k e z)) := by
  have hruns := run_lookedFrom (c := c) (k := k) (e := e) hz hrun
  have hextent := lookedFrom_length (c := c) (k := k) (e := e) hz
  have hk := entry_pos h.work.entry
  have hentry := h.work.entry
  rw [entry_eq_getElem? hk] at hentry
  have hsized := (List.getElem?_eq_some_iff.mp hentry).1
  have hpos : (lookedFrom c k e z).pos s.index.entries.length = s.pos s.index.entries.length := by
    subst hz
    exact triggerGiven_pos (c := c) (k := k) (e := e) _
  have hdue : FillDue g (lookedFrom c k e z) := (triggerGiven_fillDue (c := c) (k := k) (e := e) g).mpr hfill
  have hgrown := grownTo_eq (u := lookedFrom c k e z) (s := s) (by subst hz; rfl) (by subst hz; rfl) (by subst hz; rfl) (by subst hz; rfl) c g
    { m with travel := m.travel + 1 } hextent (p := s.pos s.index.entries.length + (s.index.pitchQ + 8) / 16) (by rw [hpos]; subst hz; rfl)
  have hleft (i : Nat) (x : Entry) (hlow : (lookedFrom c k e z).pass.unjudged ≤ i) (hx : (lookedFrom c k e z).entry i = some x) :
      selects g.action x = false := by
    have hunjudged : (lookedFrom c k e z).pass.unjudged = max (k + 1) (max s.pass.judgedUpTo s.index.entries.length + 1) := by subst hz; rfl
    have hsame : (lookedFrom c k e z).entry i = s.entry i := by
      subst hz
      exact triggerGiven_entry (c := c) (e := e) (u := Machine.travelled m false s) hk (by omega)
    exact hnothing i x (by omega) (hsame ▸ hx)
  have hjudgedTo : (lookedFrom c k e z).pass.judgedUpTo ≤ (lookedFrom c k e z).index.entries.length := by
    rw [hextent]
    subst hz
    exact max_le hjudged le_rfl
  obtain ⟨n, hn, hleads⟩ := leads_fill_next (c := c) hruns (by subst hz; exact h.work.quiet) (List.ne_nil_of_length_pos (by omega))
    (by subst hz; exact hchecks) (by subst hz; exact h.work.no_resolving) hdue (by subst hz; exact h.work.current) rfl
    (by subst hz; exact triggered_next (c := c) (e := e) hchosen) (by show k + 1 ≤ _; omega) hjudgedTo hleft
    (by rw [hextent, hpos]; subst hz; exact hahead)
  rw [hgrown] at hleads
  exact run_looks hz h hrun haction hlamp hmasked hpending hchosen hbeyond hnothing hleads (by omega)

end

theorem run_arms {j : Nat} {y : Entry} (hspan : ∀ n ∈ g.last, s.index.entries.length ≤ n) (hlow : max k s.pass.judgedUpTo < j)
    (hy : s.entry j = some y) (hselects : selects g.action y = true)
    (hlowest : ∀ i x, max k s.pass.judgedUpTo < i → i < j → s.entry i = some x → selects g.action x = false)
    (hahead : s.tracker.register + 1 < y.position + s.roll.active.gateOffset) (hno : ¬ FillDue g z) : exec (.encoderCount .forward) s =
      .next (armedWith c j g { m with travel := m.travel + 1 } (lensSent (min 4095 (s.zoneStep j)) .fly s) (triggerGiven c k e z)) := by
  subst hz
  have hle : j ≤ s.index.entries.length := by
    have hentry := hy
    rw [entry_eq_getElem? (by omega)] at hentry
    have := (List.getElem?_eq_some_iff.mp hentry).1
    omega
  rw [← armedAt_eq (u := triggerGiven c k e (travelled m false s)) (s := s) rfl rfl rfl rfl]
  exact exec_count_arms_next h hrun haction hlamp hmasked hpending (fun hlast => by have := hspan k hlast; omega) hchosen hlow
    (fun n hn => hle.trans (hspan n hn)) hy hselects hlowest hahead hno

end

end

/-! ### No trigger at this count -/

section
variable (h : AtWork l c k g e s) (hrun : InFlyRun g m s) (hroom : s.tracker.register + 1 < 16777215)

include h hrun hroom

section
variable {j x : Nat} (harmed : s.pass.armed = some (j, x)) (hahead : s.tracker.register + 1 < x)

include harmed hahead

theorem run_counts (haction : g.action ≠ .indexOnly) (hsized : 1 ≤ s.index.entries.length) (hno : ¬ FillDue g z) :
    exec (.encoderCount .forward) s = .next z := by
  subst hz
  have hruns := hrun.travelled
  refine exec_count_runs h.quiet hrun hroom (passTrigger_ahead (by exact harmed) (by exact hahead))
    (hruns.leads_tick (by exact h.quiet) ?_ (hruns.checkRun_kept haction (.inl ?_))) (by omega)
  · rw [Bool.eq_false_iff]
    exact fun hfill => hno ((hruns.fillDue_iff hsized).mp hfill)
  · rw [show (Machine.travelled m false s).pass.armed = some (j, x) from harmed]
    simp

theorem run_fills (hsized : 1 ≤ s.index.entries.length) (hfill : FillDue g z) (hchecks : s.index.checkpoints = []) :
    exec (.encoderCount .forward) s = .next (filledAt (s.pos s.index.entries.length + (s.index.pitchQ + 8) / 16) z) := by
  subst hz
  obtain ⟨n, hn, hleads⟩ := leads_fill_armed hrun.travelled (by exact h.quiet) (List.ne_nil_of_length_pos (by exact hsized)) (by exact hchecks)
    (by exact h.no_resolving) hfill (by rw [show (Machine.travelled m false s).pass.armed = some (j, x) from harmed]; simp)
  exact exec_count_runs h.quiet hrun hroom (passTrigger_ahead (by exact harmed) (by exact hahead)) hleads (by omega)

end

theorem run_grows_unarmed (hsized : 1 ≤ s.index.entries.length) (hfill : FillDue g z) (harmed : s.pass.armed = none)
    (hchecks : s.index.checkpoints = []) (hchosen : ∀ j ∈ s.pass.chosen, j < s.pass.resume.getD 1)
    (hnothing : ∀ j y, s.pass.unjudged ≤ j → s.entry j = some y → selects g.action y = false)
    (hresume : s.pass.resume.getD 1 ≤ s.index.entries.length + 1) (hjudged : s.pass.judgedUpTo ≤ s.index.entries.length)
    (hahead : s.tracker.register + 1 < s.pos s.index.entries.length + (s.index.pitchQ + 8) / 16 + s.roll.active.gateOffset) :
    exec (.encoderCount .forward) s = .next (grownAt c s.index.entries.length (s.pos s.index.entries.length + (s.index.pitchQ + 8) / 16) g
      { m with travel := m.travel + 1 } (lensSent (min 4095 (s.zoneStep (s.index.entries.length + 1))) .fly s) z) := by
  subst hz
  obtain ⟨n, hn, hleads⟩ := leads_fill_next (c := c) hrun.travelled (by exact h.quiet) (List.ne_nil_of_length_pos (by exact hsized)) (by exact hchecks)
    (by exact h.no_resolving) hfill (by exact h.current) (by exact harmed) (next_none (by exact hchosen)) hresume hjudged hnothing hahead
  rw [grownTo_eq (u := Machine.travelled m false s) (s := s) rfl rfl rfl rfl c g _ (E := s.index.entries.length) rfl rfl] at hleads
  exact exec_count_runs h.quiet hrun hroom (passTrigger_none (by exact harmed)) hleads (by omega)

section
variable (haction : g.action = .indexOnly) (harmed : s.pass.armed = none) (hnext : s.pass.unjudged = k)
  (hbeyond : ∀ n ∈ g.last, s.index.entries.length < n) (hreached : e.position + s.roll.active.gateOffset ≤ s.tracker.register + 1)

include haction harmed hnext hbeyond hreached

theorem run_indexes_masked {x : FaultClass} (hmasked : maskedAt e g = some x) : exec (.encoderCount .forward) s =
    .next (passEnded l c (.stopped x k) .stopped (comingToRest { m with travel := m.travel + 1 } .stopped
      { z with pass := { visitedIn c k e false s.pass with judgedUpTo := k } })) :=
  hz ▸ exec_count_indexes_masked h hrun hroom haction harmed hnext hbeyond hreached hmasked

theorem run_indexes_plain (hmasked : maskedAt e g = none)
    (hafter : ∀ y ∈ s.entry (k + 1), s.tracker.register + 1 < y.position + s.roll.active.gateOffset) : exec (.encoderCount .forward) s =
      .next { z with pass := { visitedIn c k e false s.pass with judgedUpTo := k } } :=
  hz ▸ exec_count_indexes_plain h hrun hroom haction harmed hnext hbeyond hreached hmasked hafter

end

end

end

end Sys2Proof.Machine
end

section
/-! PROOFS. A pass serves its frames (R142 to R144, R148 to R152, R156, R74). -/

namespace Sys2Proof.Machine

open Sys2Proof

/-- Settles O43: the ready gate, the trigger at rest, and the counts of the run are each taken by their own lemmas. -/
theorem passServesFrames : Obligations.PassServesFrames := by
  unfold Obligations.PassServesFrames
  intro l c k g e m s hq hgrant hrunning howner hcurrent hg halone hsweep hrest hholder he E faulty judged masked visited ended idle pulsed triggered
  have h : AtWork l c k g e s := ⟨hq, hgrant, hrunning, howner, hcurrent, hg, fun j hj hne => halone j _ hne (List.getElem?_eq_getElem hj),
    hsweep, hrest, hholder, he⟩
  have hsized : 1 ≤ s.index.entries.length := by
    rw [entry_eq_getElem? (entry_pos he)] at he
    have := (List.getElem?_eq_some_iff.mp he).1
    omega
  refine ⟨?_, ?_, ?_, ?_⟩
  · intro hstate htimer hnot hlevel hm hframe hfocus hwork hhand hfresh ready left go
    refine ⟨fun x hmasked hlamp => ?_, fun hmasked => ⟨fun hlamp => ?_, fun hlamp => ?_, fun hlamp => ?_⟩⟩
    · exact exec_settle_masked h hstate htimer hnot hm hframe hfocus hwork hhand hfresh hlevel hlamp hmasked
    · exact exec_settle_lit h hstate htimer hnot hm hframe hfocus hwork hhand hfresh hmasked hlamp
    · exact exec_settle_waits h hstate htimer hnot hm hframe hfocus hwork hhand hfresh hmasked hlamp
    · exact exec_settle_dark h hstate htimer hnot hm hframe hfocus hwork hhand hfresh hlevel hmasked hlamp
  · intro hstate hready hwork hhand hvisited hwarming htimer hok hafter
    exact exec_warm_offers h hstate hready hwork hhand hvisited hwarming htimer hok hafter
  · intro o hmoving hm hpurpose hphase hatRest hfinal hplan haside hforward hstall hcapstan hroom hwork hasked hlater hyield harmed hpending go counted
    have hfires : Fires l c k g e m s := ⟨h, hmoving, hm, hpurpose, hforward, hroom, hwork, hasked, hlater, harmed⟩
    have hz : travelled m false s = counted := by simp [travelled, carried, hstall, counted]
    refine ⟨fun hlamp => ⟨fun x hmasked => ?_, fun hmasked hlast => ?_⟩, fun hlamp => ?_⟩
    · exact rest_masked hz hfires hphase hlamp hmasked
    · exact rest_triggers hz hfires hphase hlamp hmasked hpending (fun hno => absurd (hlast k hno) (lt_irrefl k))
    · exact rest_waits hz hfires hphase (by simp [hlamp]) hpending
  · intro v hmoving hlevel hm hpurpose hphase hatRest hfinal hplan hleg hstall hroom htrailer hclosure hspan hwork hasked hlater hyield go reached run
      counted predicted w fillDue filled selects arms grows fires
    have hz : travelled m false s = counted := by simp [travelled, carried, hstall, counted, reached, run]
    have hrun : InFlyRun g m s := ⟨hmoving, hm, hpurpose, hphase, hatRest, hfinal, hplan, hleg, htrailer, hclosure, hrunning, hwork, hgrant,
      (segment_eq hcurrent).trans hg⟩
    have hfires (harmed : s.pass.armed = some (k, reached)) : Fires l c k g e m s :=
      ⟨h, hmoving, hm, hpurpose, by rw [hleg], hroom, hwork, hasked, hlater, harmed⟩
    have hunselected {y : Entry} (hy : ¬ selects y) : Machine.selects g.action y = false := selects_false hy
    refine ⟨fun ⟨harmed, haction⟩ hlamp => ⟨fun x hmasked => ?_, fun hmasked hpending => ⟨fun hlast hcount => ?_, ?_,
      fun j y hchosen hlow hy hselected hlowest hahead hno => ?_⟩, fun hmasked hpending => ?_, fun hmasked hpending => ?_⟩,
      fun ⟨harmed, haction⟩ hlamp hpending => ?_, fun hk hmode haction ⟨j, x, harmed, hahead⟩ => ⟨fun hfill hchecks => ?_, fun hno => ?_⟩,
      fun hk hfill harmed hchecks hchosen hnothing hresume hjudged hahead => ?_, fun haction harmed hnext hbeyond => ⟨fun hahead => ?_, ?_⟩⟩
    · exact run_masked hz (hfires harmed) hphase hlamp hmasked
    · exact run_completes hz (hfires harmed) hphase hlamp hmasked hpending hlast hcount
    · intro hbeyond hchosen hnothing onward
      have hleft (i : Nat) (x : Entry) (hi : k < i) (hx : s.entry i = some x) : Machine.selects g.action x = false := hunselected (hnothing i x hi hx)
      refine ⟨fun hno => ?_, fun hfill hchecks hjudged hahead => ?_⟩
      · exact run_goes_on hz (hfires harmed) hrun haction hlamp hmasked hpending hchosen hbeyond hleft hno
      · exact run_grows hz (hfires harmed) hrun haction hlamp hmasked hpending hchosen hbeyond hleft hfill hchecks hjudged hahead
    · exact run_arms hz (hfires harmed) hrun haction hlamp hmasked hpending hchosen hspan hlow hy ((selects_iff g.action y).mpr hselected)
        (fun i x hi hlt hx => hunselected (hlowest i x hi hlt hx)) hahead hno
    · exact run_suspends hz (hfires harmed) hphase haction hlamp hmasked hpending
    · exact run_aborts hz (hfires harmed) hphase hlamp hmasked hpending
    · exact run_waits hz (hfires harmed) hphase (by simp [hlamp]) hpending
    · exact run_fills hz h hrun hroom harmed hahead hsized hfill hchecks
    · exact run_counts hz h hrun hroom harmed hahead haction hsized hno
    · exact run_grows_unarmed hz h hrun hroom hsized hfill harmed hchecks hchosen (fun j y hlow hy => hunselected (hnothing j y hlow hy)) hresume hjudged hahead
    · exact hz ▸ exec_count_indexes_waits h hrun hroom haction harmed hnext hbeyond hahead
    · intro hreached hafter p
      refine ⟨fun x hmasked => ?_, fun hmasked => ?_⟩
      · exact run_indexes_masked hz h hrun hroom haction harmed hnext hbeyond hreached hmasked
      · exact run_indexes_plain hz h hrun hroom haction harmed hnext hbeyond hreached hmasked hafter

end Sys2Proof.Machine
end

section
/-! PROOFS. The law of the gate is not kept from every state that meets it (R58, R125): the frame that goes with it lets the pass have
the grant while it is SUSPENDED, and a ready gate is then offered to it. -/

namespace Sys2Proof.Machine

open Sys2Proof

/-- A SUSPENDED pass that has the grant and no work, with a frame in hand and the gate ready for it; the lamp's warm timer is about to
expire. -/
def suspendedAtGate : State :=
  { State.reset with
    pending := [.warmTimerExpiry]
    transport := { State.reset.transport with state := .settling, gateReady := true }
    lamp := { state := .warming, warmTimer := some 1 }
    sched := { State.reset.sched with grant := .pass }
    pass := { State.reset.pass with state := .suspended, owner := some .a, frameInHand := some 1 }
    poller := { State.reset.poller with values := 0x102#64, firstRoundDone := true } }

theorem suspendedAtGate_slot_state {i : Nat} {x : Slot} (h : suspendedAtGate.slots[i]? = some x) : x.state = .free := by
  have hx : x = Slot.empty := List.eq_of_mem_replicate (List.mem_of_getElem? h)
  simp [hx, Slot.empty]

/-- Nothing in the law of the gate asks that the pass with the grant is RUNNING while it has no work. -/
theorem suspendedAtGate_gateLaw : GateLaw suspendedAtGate := by
  have hfault : FaultLaw suspendedAtGate := by decide
  have hshown : holderShown suspendedAtGate := show suspendedAtGate.transport.state ≠ .settled by decide
  have hholds : workHolds suspendedAtGate := by
    refine ⟨fun i x hx => ?_, fun hwork => absurd hwork (by decide), by decide, by decide⟩
    simp [suspendedAtGate_slot_state hx]
  have hframe : GateFrame suspendedAtGate := by decide
  exact ⟨hfault, hshown, hholds, hframe⟩

/-- The lamp comes ON, the gate is offered to the pass, and the pass awaits a capture while it is SUSPENDED. -/
theorem step_suspendedAtGate :
    ∃ t, step suspendedAtGate = .next t ∧ t.pass.work = .awaitingCapture ∧ t.pass.state = .suspended :=
  ⟨_, rfl, rfl, rfl⟩

/-- Refutes O6: a SUSPENDED pass with the grant holds the gate when the lamp comes ON, and then works without being RUNNING. -/
theorem not_stepKeepsGate : ¬ Obligations.StepKeepsGate := by
  intro ⟨hkeeps, _⟩
  obtain ⟨t, hstep, hwork, hstate⟩ := step_suspendedAtGate
  obtain ⟨_, _, _, _, _, _, _, _, _, _, hruns, _⟩ := hkeeps suspendedAtGate t rfl suspendedAtGate_gateLaw hstep
  have hrunning : t.pass.state = .running := (hruns (.inl (by simp [hwork]))).1
  simp [hstate] at hrunning

end Sys2Proof.Machine
end
